-- ==== Sys2Proof/Word.lean ====
section
/-! DEFINITION. The word types of the machine (spec/00_scope.md R6, spec/10_state.md R20, R24, R26). -/

namespace Sys2Proof

/-- One byte of memory (R70). -/
abbrev Byte := BitVec 8

/-- A 64-bit quantity: a general register, an address, a control register (R20, R22). -/
abbrev Word := BitVec 64

/-- The contents of one opmask register, MAX_KL = 64 bits (R26). -/
abbrev KWord := BitVec 64

/-- The contents of one vector register, MAX_VL = 512 bits (R24). -/
abbrev ZWord := BitVec 512

end Sys2Proof
end

