-- ==== Sys2Proof/Config.lean ====
section
/-! DEFINITION. What an implementation fixes: the feature flags the rows are gated on, the shape of the CPUID data
(spec/40_cpuid.md R202), and the parameter functions the spec leaves open (spec/92_eei_decisions.md section 6). -/

namespace Sys2Proof

/-- The CPUID feature flags named by the opcode table (R2, R208, R209, R218), and CLFLUSHOPT's (R243). -/
inductive Feature where
  | sse | sse2 | sse3 | ssse3 | sse41 | sse42 | avx | avx2 | fma | f16c
  | avx512f | avx512cd | avx512dq | avx512bw | avx512vl | avx512ifma | avx512vbmi | avx512er | avx512pf
  | sha | prefetchwt1 | clwb | pcommit | clflushopt
deriving DecidableEq, Repr

/-- One line of the CPUID table: what a leaf and sub-leaf return (R202). -/
structure CpuidEntry where
  leaf : BitVec 32
  sub : BitVec 32
  eax : BitVec 32
  ebx : BitVec 32
  ecx : BitVec 32
  edx : BitVec 32
deriving DecidableEq, Repr

/-- The identity of the modelled part: the parameter `CpuidData` of R7 and R202 with the microcode revision of R239.
Plain data that no instruction changes. -/
structure CpuInfo where
  /-- MAX_BASIC_LEAF (R203) -/
  maxBasic : BitVec 32
  /-- MAX_EXT_LEAF (R234) -/
  maxExt : BitVec 32
  /-- the leaves with contents; a leaf that is not listed returns zeros (R204, D50) -/
  entries : List CpuidEntry
  /-- AVX2 is present although its bit of the table, leaf 07H EBX bit 5, is clear: so it is in CFG-ALL alone, whose list of
  bits leaves it out while "every feature of this spec is then present" (R250, notes/assumptions/12.md) -/
  avx2Unlisted : Bool
  /-- PCOMMIT_SUPPORTED (R202) -/
  pcommitSupported : Bool
  /-- MICROCODE_REVISION (R34, R201) -/
  microcode : BitVec 32
  /-- the APIC identifier of this logical processor (R202, R207, R222) -/
  apicId : BitVec 32
deriving DecidableEq, Repr

/-- RCP14 on an ordinary input (R905, U17): nothing is known of it but the bound its caller enforces. -/
opaque Config.rcp14d : BitVec 64 → BitVec 64
/-- RCP14 in single precision (R905, U17). -/
opaque Config.rcp14s : BitVec 32 → BitVec 32
/-- RSQRT14 on an ordinary input (R920, U17). -/
opaque Config.rsqrt14d : BitVec 64 → BitVec 64
/-- RSQRT14 in single precision (R920, U17). -/
opaque Config.rsqrt14s : BitVec 32 → BitVec 32
/-- EXP2_23 on an ordinary input (R1402, U18). -/
opaque Config.exp2d : BitVec 64 → BitVec 64
/-- EXP2_23 in single precision (R1402, U18). -/
opaque Config.exp2s : BitVec 32 → BitVec 32
/-- RCP28 on an ordinary input (R1403, U18). -/
opaque Config.rcp28d : BitVec 64 → BitVec 64
/-- RCP28 in single precision (R1403, U18). -/
opaque Config.rcp28s : BitVec 32 → BitVec 32
/-- RSQRT28 on an ordinary input (R1404, U18). -/
opaque Config.rsqrt28d : BitVec 64 → BitVec 64
/-- RSQRT28 in single precision (R1404, U18). -/
opaque Config.rsqrt28s : BitVec 32 → BitVec 32

/-- What a masked-off byte of a memory operand reads as when reading it would fault and the instruction uses it all the
same (VPCONFLICT: R85 against R657): nothing is known of it. -/
opaque Config.suppressedByte : Word → Byte

/-- Whether XSAVE stores YMM_Hi128 when the mask and XCR0 have bit 2 and XCR0 has bit 1 clear: the rows (1,0,1,0) and
(1,1,1,0) of R40, which "are not specified" (notes/assumptions/36.md). The argument is bit 1 of the mask, which tells the
two rows apart. -/
opaque Config.xsaveYmmAlone : Bool → Bool
/-- Whether XSAVE stores MXCSR in those rows. -/
opaque Config.xsaveMxcsrAlone : Bool → Bool
/-- Whether XSAVE stores XMM in the row (1,1,1,0). -/
opaque Config.xsaveXmmAlone : Bool
/-- What XRSTOR's initialisation leaves of an opmask register outside 64-bit mode, from its number and its old value (R41,
U15): nothing is known of it. -/
opaque Config.xrstorOpmask : Nat → KWord → KWord
/-- The same of ZMM16 to ZMM31. -/
opaque Config.xrstorHi16 : Nat → ZWord → ZWord

end Sys2Proof
end

