-- ==== Sys2Proof/Syntax.lean ====
section
/-! DEFINITION. The instructions as syntax: the fields an instruction's bytes carry, decoded (spec/30_encoding.md), and
the one inductive `Instr` with a constructor for every mnemonic of spec/opcode_table.json. A table row is a constructor
together with the form (`Space`, length, W, operand kinds) its `Operands` state; Machine/Rows*.lean list every row. -/

namespace Sys2Proof

/-- The three encoding systems (R111). -/
inductive Space where
  | legacy | vex | evex
deriving DecidableEq, Repr

/-- The opcode map: 0F, 0F 38, 0F 3A (R113). -/
inductive OpMap where
  | m0F | m0F38 | m0F3A
deriving DecidableEq, Repr

/-- The mandatory or implied SIMD prefix (R113, R145). -/
inductive Pfx where
  | np | p66 | pF3 | pF2
deriving DecidableEq, Repr

/-- A segment register (R71, R133). -/
inductive SegReg where
  | es | cs | ss | ds | fs | gs
deriving DecidableEq, Repr

/-- The address size of a memory operand (R130). -/
inductive ASize where
  | a16 | a32 | a64
deriving DecidableEq, Repr

/-- What a memory operand's address starts from (R130, R131). -/
inductive Base where
  | none
  | gpr (n : Fin 16)
  /-- the address of the next instruction (R130) -/
  | rip
deriving DecidableEq, Repr

/-- A memory operand with its displacement already scaled (R130 to R134). `index` names a general register, or the vector
register of indices when the row is a VSIB row. -/
structure MemOp where
  seg : SegReg
  asize : ASize
  base : Base
  index : Option (Fin 32)
  scale : Fin 4
  disp : BitVec 64
deriving DecidableEq, Repr

/-- The r/m operand: a register number (its kind is the row's) or memory (R130). -/
inductive RM where
  | reg (n : Fin 32)
  | mem (m : MemOp)
deriving DecidableEq, Repr

/-- The fields of one encoded instruction (R113, R118, R140, R145). A register number stands with its inversions undone;
which file it selects is the row's. Fields the form does not have are zero. -/
structure Operands where
  space : Space
  /-- the mandatory or implied SIMD prefix -/
  pp : Pfx
  /-- the opcode byte: which of a mnemonic's forms this is -/
  opcode : BitVec 8
  /-- REX.W, VEX.W or EVEX.W -/
  w : Bool
  /-- VEX.L, or EVEX.L'L: the vector length or the rounding control (R124, R125) -/
  ll : BitVec 2
  /-- EVEX.b (R125) -/
  b : Bool
  /-- EVEX.z (R122) -/
  z : Bool
  /-- EVEX.aaa: the opmask register, 0 for no masking (R122) -/
  aaa : Fin 8
  /-- ModRM.reg with its extension bits -/
  reg : Fin 32
  /-- vvvv with V' -/
  vvvv : Fin 32
  rm : RM
  imm : BitVec 8
deriving DecidableEq, Repr

/-- The r/m operand is a register (ModRM.mod = 11b). -/
def Operands.isReg (o : Operands) : Bool :=
  match o.rm with
  | .reg _ => true
  | .mem _ => false

/-- Every instruction of spec/opcode_table.json, one constructor for each mnemonic. -/
inductive Instr where
  /-- CPUID (R201) -/
  | cpuid
  /-- ADDPD (R320) -/
  | addpd (o : Operands)
  /-- VADDPD (R320) -/
  | vaddpd (o : Operands)
  /-- ADDPS (R321) -/
  | addps (o : Operands)
  /-- VADDPS (R321) -/
  | vaddps (o : Operands)
  /-- ADDSD (R322) -/
  | addsd (o : Operands)
  /-- VADDSD (R322) -/
  | vaddsd (o : Operands)
  /-- ADDSS (R323) -/
  | addss (o : Operands)
  /-- VADDSS (R323) -/
  | vaddss (o : Operands)
  /-- VALIGND (R324) -/
  | valignd (o : Operands)
  /-- VALIGNQ (R324) -/
  | valignq (o : Operands)
  /-- VBLENDMPD (R325) -/
  | vblendmpd (o : Operands)
  /-- VBLENDMPS (R325) -/
  | vblendmps (o : Operands)
  /-- VPBLENDMB (R326) -/
  | vpblendmb (o : Operands)
  /-- VPBLENDMW (R326) -/
  | vpblendmw (o : Operands)
  /-- VPBLENDMD (R327) -/
  | vpblendmd (o : Operands)
  /-- VPBLENDMQ (R327) -/
  | vpblendmq (o : Operands)
  /-- ANDPD (R328) -/
  | andpd (o : Operands)
  /-- VANDPD (R328) -/
  | vandpd (o : Operands)
  /-- ANDPS (R329) -/
  | andps (o : Operands)
  /-- VANDPS (R329) -/
  | vandps (o : Operands)
  /-- ANDNPD (R330) -/
  | andnpd (o : Operands)
  /-- VANDNPD (R330) -/
  | vandnpd (o : Operands)
  /-- ANDNPS (R331) -/
  | andnps (o : Operands)
  /-- VANDNPS (R331) -/
  | vandnps (o : Operands)
  /-- VBROADCASTSS (R332) -/
  | vbroadcastss (o : Operands)
  /-- VBROADCASTSD (R332) -/
  | vbroadcastsd (o : Operands)
  /-- VBROADCASTF128 (R332) -/
  | vbroadcastf128 (o : Operands)
  /-- VBROADCASTF32X2 (R332) -/
  | vbroadcastf32x2 (o : Operands)
  /-- VBROADCASTF32X4 (R332) -/
  | vbroadcastf32x4 (o : Operands)
  /-- VBROADCASTF64X2 (R332) -/
  | vbroadcastf64x2 (o : Operands)
  /-- VBROADCASTF32X8 (R332) -/
  | vbroadcastf32x8 (o : Operands)
  /-- VBROADCASTF64X4 (R332) -/
  | vbroadcastf64x4 (o : Operands)
  /-- VPBROADCASTB (R333, R334) -/
  | vpbroadcastb (o : Operands)
  /-- VPBROADCASTW (R333, R334) -/
  | vpbroadcastw (o : Operands)
  /-- VPBROADCASTD (R333, R334) -/
  | vpbroadcastd (o : Operands)
  /-- VPBROADCASTQ (R333, R334) -/
  | vpbroadcastq (o : Operands)
  /-- VBROADCASTI32x2 (R334) -/
  | vbroadcasti32x2 (o : Operands)
  /-- VBROADCASTI128 (R334) -/
  | vbroadcasti128 (o : Operands)
  /-- VBROADCASTI32X4 (R334) -/
  | vbroadcasti32x4 (o : Operands)
  /-- VBROADCASTI64X2 (R334) -/
  | vbroadcasti64x2 (o : Operands)
  /-- VBROADCASTI32X8 (R334) -/
  | vbroadcasti32x8 (o : Operands)
  /-- VBROADCASTI64X4 (R334) -/
  | vbroadcasti64x4 (o : Operands)
  /-- CMPPD (R342) -/
  | cmppd (o : Operands)
  /-- VCMPPD (R342) -/
  | vcmppd (o : Operands)
  /-- CMPPS (R343) -/
  | cmpps (o : Operands)
  /-- VCMPPS (R343) -/
  | vcmpps (o : Operands)
  /-- CMPSD (R344) -/
  | cmpsd (o : Operands)
  /-- VCMPSD (R344) -/
  | vcmpsd (o : Operands)
  /-- CMPSS (R345) -/
  | cmpss (o : Operands)
  /-- VCMPSS (R345) -/
  | vcmpss (o : Operands)
  /-- COMISD (R346) -/
  | comisd (o : Operands)
  /-- VCOMISD (R346) -/
  | vcomisd (o : Operands)
  /-- COMISS (R347) -/
  | comiss (o : Operands)
  /-- VCOMISS (R347) -/
  | vcomiss (o : Operands)
  /-- DIVPD (R348) -/
  | divpd (o : Operands)
  /-- VDIVPD (R348) -/
  | vdivpd (o : Operands)
  /-- DIVPS (R349) -/
  | divps (o : Operands)
  /-- VDIVPS (R349) -/
  | vdivps (o : Operands)
  /-- DIVSD (R350) -/
  | divsd (o : Operands)
  /-- VDIVSD (R350) -/
  | vdivsd (o : Operands)
  /-- DIVSS (R351) -/
  | divss (o : Operands)
  /-- VDIVSS (R351) -/
  | vdivss (o : Operands)
  /-- VCOMPRESSPD (R352) -/
  | vcompresspd (o : Operands)
  /-- VCOMPRESSPS (R353) -/
  | vcompressps (o : Operands)
  /-- CVTDQ2PD (R362) -/
  | cvtdq2pd (o : Operands)
  /-- VCVTDQ2PD (R362) -/
  | vcvtdq2pd (o : Operands)
  /-- CVTDQ2PS (R363) -/
  | cvtdq2ps (o : Operands)
  /-- VCVTDQ2PS (R363) -/
  | vcvtdq2ps (o : Operands)
  /-- CVTPD2DQ (R364) -/
  | cvtpd2dq (o : Operands)
  /-- VCVTPD2DQ (R364) -/
  | vcvtpd2dq (o : Operands)
  /-- CVTPD2PS (R365) -/
  | cvtpd2ps (o : Operands)
  /-- VCVTPD2PS (R365) -/
  | vcvtpd2ps (o : Operands)
  /-- VCVTPD2QQ (R366) -/
  | vcvtpd2qq (o : Operands)
  /-- VCVTPD2UDQ (R367) -/
  | vcvtpd2udq (o : Operands)
  /-- VCVTPD2UQQ (R368) -/
  | vcvtpd2uqq (o : Operands)
  /-- VCVTPH2PS (R369) -/
  | vcvtph2ps (o : Operands)
  /-- VCVTPS2PH (R370) -/
  | vcvtps2ph (o : Operands)
  /-- CVTPS2DQ (R371) -/
  | cvtps2dq (o : Operands)
  /-- VCVTPS2DQ (R371) -/
  | vcvtps2dq (o : Operands)
  /-- VCVTPS2UDQ (R372) -/
  | vcvtps2udq (o : Operands)
  /-- VCVTPS2QQ (R373) -/
  | vcvtps2qq (o : Operands)
  /-- VCVTPS2UQQ (R374) -/
  | vcvtps2uqq (o : Operands)
  /-- CVTPS2PD (R375) -/
  | cvtps2pd (o : Operands)
  /-- VCVTPS2PD (R375) -/
  | vcvtps2pd (o : Operands)
  /-- VCVTQQ2PD (R376) -/
  | vcvtqq2pd (o : Operands)
  /-- VCVTQQ2PS (R377) -/
  | vcvtqq2ps (o : Operands)
  /-- CVTSD2SI (R378) -/
  | cvtsd2si (o : Operands)
  /-- VCVTSD2SI (R378) -/
  | vcvtsd2si (o : Operands)
  /-- VCVTSD2USI (R379) -/
  | vcvtsd2usi (o : Operands)
  /-- CVTSD2SS (R380) -/
  | cvtsd2ss (o : Operands)
  /-- VCVTSD2SS (R380) -/
  | vcvtsd2ss (o : Operands)
  /-- CVTSI2SD (R381) -/
  | cvtsi2sd (o : Operands)
  /-- VCVTSI2SD (R381) -/
  | vcvtsi2sd (o : Operands)
  /-- CVTSI2SS (R382) -/
  | cvtsi2ss (o : Operands)
  /-- VCVTSI2SS (R382) -/
  | vcvtsi2ss (o : Operands)
  /-- CVTSS2SD (R383) -/
  | cvtss2sd (o : Operands)
  /-- VCVTSS2SD (R383) -/
  | vcvtss2sd (o : Operands)
  /-- CVTSS2SI (R384) -/
  | cvtss2si (o : Operands)
  /-- VCVTSS2SI (R384) -/
  | vcvtss2si (o : Operands)
  /-- VCVTSS2USI (R385) -/
  | vcvtss2usi (o : Operands)
  /-- CVTTPD2DQ (R400) -/
  | cvttpd2dq (o : Operands)
  /-- VCVTTPD2DQ (R400) -/
  | vcvttpd2dq (o : Operands)
  /-- VCVTTPD2QQ (R401) -/
  | vcvttpd2qq (o : Operands)
  /-- VCVTTPD2UDQ (R402) -/
  | vcvttpd2udq (o : Operands)
  /-- VCVTTPD2UQQ (R403) -/
  | vcvttpd2uqq (o : Operands)
  /-- CVTTPS2DQ (R404) -/
  | cvttps2dq (o : Operands)
  /-- VCVTTPS2DQ (R404) -/
  | vcvttps2dq (o : Operands)
  /-- VCVTTPS2UDQ (R405) -/
  | vcvttps2udq (o : Operands)
  /-- VCVTTPS2QQ (R406) -/
  | vcvttps2qq (o : Operands)
  /-- VCVTTPS2UQQ (R407) -/
  | vcvttps2uqq (o : Operands)
  /-- CVTTSD2SI (R408) -/
  | cvttsd2si (o : Operands)
  /-- VCVTTSD2SI (R408) -/
  | vcvttsd2si (o : Operands)
  /-- VCVTTSD2USI (R409) -/
  | vcvttsd2usi (o : Operands)
  /-- CVTTSS2SI (R410) -/
  | cvttss2si (o : Operands)
  /-- VCVTTSS2SI (R410) -/
  | vcvttss2si (o : Operands)
  /-- VCVTTSS2USI (R411) -/
  | vcvttss2usi (o : Operands)
  /-- VCVTUDQ2PD (R412) -/
  | vcvtudq2pd (o : Operands)
  /-- VCVTUDQ2PS (R413) -/
  | vcvtudq2ps (o : Operands)
  /-- VCVTUQQ2PD (R414) -/
  | vcvtuqq2pd (o : Operands)
  /-- VCVTUQQ2PS (R415) -/
  | vcvtuqq2ps (o : Operands)
  /-- VCVTUSI2SD (R416) -/
  | vcvtusi2sd (o : Operands)
  /-- VCVTUSI2SS (R417) -/
  | vcvtusi2ss (o : Operands)
  /-- VDBPSADBW (R418) -/
  | vdbpsadbw (o : Operands)
  /-- VEXPANDPD (R419) -/
  | vexpandpd (o : Operands)
  /-- VEXPANDPS (R420) -/
  | vexpandps (o : Operands)
  /-- VEXTRACTF128 (R421) -/
  | vextractf128 (o : Operands)
  /-- VEXTRACTF32X4 (R421) -/
  | vextractf32x4 (o : Operands)
  /-- VEXTRACTF32x4 (R421) -/
  | vextractf32x4z (o : Operands)
  /-- VEXTRACTF64X2 (R421) -/
  | vextractf64x2 (o : Operands)
  /-- VEXTRACTF32X8 (R421) -/
  | vextractf32x8 (o : Operands)
  /-- VEXTRACTF64x4 (R421) -/
  | vextractf64x4z (o : Operands)
  /-- VEXTRACTI128 (R422) -/
  | vextracti128 (o : Operands)
  /-- VEXTRACTI32X4 (R422) -/
  | vextracti32x4 (o : Operands)
  /-- VEXTRACTI32x4 (R422) -/
  | vextracti32x4z (o : Operands)
  /-- VEXTRACTI64X2 (R422) -/
  | vextracti64x2 (o : Operands)
  /-- VEXTRACTI32X8 (R422) -/
  | vextracti32x8 (o : Operands)
  /-- VEXTRACTI64x4 (R422) -/
  | vextracti64x4z (o : Operands)
  /-- EXTRACTPS (R423) -/
  | extractps (o : Operands)
  /-- VEXTRACTPS (R423) -/
  | vextractps (o : Operands)
  /-- VFIXUPIMMPD (R425) -/
  | vfixupimmpd (o : Operands)
  /-- VFIXUPIMMPS (R426) -/
  | vfixupimmps (o : Operands)
  /-- VFIXUPIMMSD (R427) -/
  | vfixupimmsd (o : Operands)
  /-- VFIXUPIMMSS (R428) -/
  | vfixupimmss (o : Operands)
  /-- VFMADD132PD (R434) -/
  | vfmadd132pd (o : Operands)
  /-- VFMADD213PD (R435) -/
  | vfmadd213pd (o : Operands)
  /-- VFMADD231PD (R436) -/
  | vfmadd231pd (o : Operands)
  /-- VFMADD132PS (R437) -/
  | vfmadd132ps (o : Operands)
  /-- VFMADD213PS (R438) -/
  | vfmadd213ps (o : Operands)
  /-- VFMADD231PS (R439) -/
  | vfmadd231ps (o : Operands)
  /-- VFMADD132SD (R440) -/
  | vfmadd132sd (o : Operands)
  /-- VFMADD213SD (R441) -/
  | vfmadd213sd (o : Operands)
  /-- VFMADD231SD (R442) -/
  | vfmadd231sd (o : Operands)
  /-- VFMADD132SS (R443) -/
  | vfmadd132ss (o : Operands)
  /-- VFMADD213SS (R444) -/
  | vfmadd213ss (o : Operands)
  /-- VFMADD231SS (R445) -/
  | vfmadd231ss (o : Operands)
  /-- VFMADDSUB132PD (R446) -/
  | vfmaddsub132pd (o : Operands)
  /-- VFMADDSUB213PD (R447) -/
  | vfmaddsub213pd (o : Operands)
  /-- VFMADDSUB231PD (R448) -/
  | vfmaddsub231pd (o : Operands)
  /-- VFMADDSUB132PS (R449) -/
  | vfmaddsub132ps (o : Operands)
  /-- VFMADDSUB213PS (R450) -/
  | vfmaddsub213ps (o : Operands)
  /-- VFMADDSUB231PS (R451) -/
  | vfmaddsub231ps (o : Operands)
  /-- VFMSUBADD132PD (R452) -/
  | vfmsubadd132pd (o : Operands)
  /-- VFMSUBADD213PD (R453) -/
  | vfmsubadd213pd (o : Operands)
  /-- VFMSUBADD231PD (R454) -/
  | vfmsubadd231pd (o : Operands)
  /-- VFMSUBADD132PS (R455) -/
  | vfmsubadd132ps (o : Operands)
  /-- VFMSUBADD213PS (R456) -/
  | vfmsubadd213ps (o : Operands)
  /-- VFMSUBADD231PS (R457) -/
  | vfmsubadd231ps (o : Operands)
  /-- VFMSUB132PD (R458) -/
  | vfmsub132pd (o : Operands)
  /-- VFMSUB213PD (R459) -/
  | vfmsub213pd (o : Operands)
  /-- VFMSUB231PD (R460) -/
  | vfmsub231pd (o : Operands)
  /-- VFMSUB132PS (R461) -/
  | vfmsub132ps (o : Operands)
  /-- VFMSUB213PS (R462) -/
  | vfmsub213ps (o : Operands)
  /-- VFMSUB231PS (R463) -/
  | vfmsub231ps (o : Operands)
  /-- VFMSUB132SD (R464) -/
  | vfmsub132sd (o : Operands)
  /-- VFMSUB213SD (R465) -/
  | vfmsub213sd (o : Operands)
  /-- VFMSUB231SD (R466) -/
  | vfmsub231sd (o : Operands)
  /-- VFMSUB132SS (R467) -/
  | vfmsub132ss (o : Operands)
  /-- VFMSUB213SS (R468) -/
  | vfmsub213ss (o : Operands)
  /-- VFMSUB231SS (R469) -/
  | vfmsub231ss (o : Operands)
  /-- VFNMADD132PD (R470) -/
  | vfnmadd132pd (o : Operands)
  /-- VFNMADD213PD (R471) -/
  | vfnmadd213pd (o : Operands)
  /-- VFNMADD231PD (R472) -/
  | vfnmadd231pd (o : Operands)
  /-- VFNMADD132PS (R473) -/
  | vfnmadd132ps (o : Operands)
  /-- VFNMADD213PS (R474) -/
  | vfnmadd213ps (o : Operands)
  /-- VFNMADD231PS (R475) -/
  | vfnmadd231ps (o : Operands)
  /-- VFNMADD132SD (R476) -/
  | vfnmadd132sd (o : Operands)
  /-- VFNMADD213SD (R477) -/
  | vfnmadd213sd (o : Operands)
  /-- VFNMADD231SD (R478) -/
  | vfnmadd231sd (o : Operands)
  /-- VFNMADD132SS (R479) -/
  | vfnmadd132ss (o : Operands)
  /-- VFNMADD213SS (R480) -/
  | vfnmadd213ss (o : Operands)
  /-- VFNMADD231SS (R481) -/
  | vfnmadd231ss (o : Operands)
  /-- VFNMSUB132PD (R482) -/
  | vfnmsub132pd (o : Operands)
  /-- VFNMSUB213PD (R483) -/
  | vfnmsub213pd (o : Operands)
  /-- VFNMSUB231PD (R484) -/
  | vfnmsub231pd (o : Operands)
  /-- VFNMSUB132PS (R485) -/
  | vfnmsub132ps (o : Operands)
  /-- VFNMSUB213PS (R486) -/
  | vfnmsub213ps (o : Operands)
  /-- VFNMSUB231PS (R487) -/
  | vfnmsub231ps (o : Operands)
  /-- VFNMSUB132SD (R488) -/
  | vfnmsub132sd (o : Operands)
  /-- VFNMSUB213SD (R489) -/
  | vfnmsub213sd (o : Operands)
  /-- VFNMSUB231SD (R490) -/
  | vfnmsub231sd (o : Operands)
  /-- VFNMSUB132SS (R491) -/
  | vfnmsub132ss (o : Operands)
  /-- VFNMSUB213SS (R492) -/
  | vfnmsub213ss (o : Operands)
  /-- VFNMSUB231SS (R493) -/
  | vfnmsub231ss (o : Operands)
  /-- VFPCLASSPD (R501) -/
  | vfpclasspd (o : Operands)
  /-- VFPCLASSPS (R502) -/
  | vfpclassps (o : Operands)
  /-- VFPCLASSSD (R503) -/
  | vfpclasssd (o : Operands)
  /-- VFPCLASSSS (R504) -/
  | vfpclassss (o : Operands)
  /-- VPGATHERDD (R506) -/
  | vpgatherdd (o : Operands)
  /-- VPGATHERDQ (R507) -/
  | vpgatherdq (o : Operands)
  /-- VPGATHERQD (R508) -/
  | vpgatherqd (o : Operands)
  /-- VPGATHERQQ (R509) -/
  | vpgatherqq (o : Operands)
  /-- VGATHERDPS (R510) -/
  | vgatherdps (o : Operands)
  /-- VGATHERDPD (R511) -/
  | vgatherdpd (o : Operands)
  /-- VGATHERQPS (R512) -/
  | vgatherqps (o : Operands)
  /-- VGATHERQPD (R513) -/
  | vgatherqpd (o : Operands)
  /-- VGETEXPPD (R515) -/
  | vgetexppd (o : Operands)
  /-- VGETEXPPS (R516) -/
  | vgetexpps (o : Operands)
  /-- VGETEXPSD (R517) -/
  | vgetexpsd (o : Operands)
  /-- VGETEXPSS (R518) -/
  | vgetexpss (o : Operands)
  /-- VGETMANTPD (R520) -/
  | vgetmantpd (o : Operands)
  /-- VGETMANTPS (R521) -/
  | vgetmantps (o : Operands)
  /-- VGETMANTSD (R522) -/
  | vgetmantsd (o : Operands)
  /-- VGETMANTSS (R523) -/
  | vgetmantss (o : Operands)
  /-- VINSERTF128 (R524) -/
  | vinsertf128 (o : Operands)
  /-- VINSERTF32X4 (R524) -/
  | vinsertf32x4 (o : Operands)
  /-- VINSERTF64X2 (R524) -/
  | vinsertf64x2 (o : Operands)
  /-- VINSERTF32X8 (R524) -/
  | vinsertf32x8 (o : Operands)
  /-- VINSERTF64X4 (R524) -/
  | vinsertf64x4 (o : Operands)
  /-- VINSERTI128 (R525) -/
  | vinserti128 (o : Operands)
  /-- VINSERTI32X4 (R525) -/
  | vinserti32x4 (o : Operands)
  /-- VINSERTI64X2 (R525) -/
  | vinserti64x2 (o : Operands)
  /-- VINSERTI32X8 (R525) -/
  | vinserti32x8 (o : Operands)
  /-- VINSERTI64X4 (R525) -/
  | vinserti64x4 (o : Operands)
  /-- INSERTPS (R526) -/
  | insertps (o : Operands)
  /-- VINSERTPS (R526) -/
  | vinsertps (o : Operands)
  /-- MAXPD (R541) -/
  | maxpd (o : Operands)
  /-- VMAXPD (R541) -/
  | vmaxpd (o : Operands)
  /-- MAXPS (R542) -/
  | maxps (o : Operands)
  /-- VMAXPS (R542) -/
  | vmaxps (o : Operands)
  /-- MAXSD (R543) -/
  | maxsd (o : Operands)
  /-- VMAXSD (R543) -/
  | vmaxsd (o : Operands)
  /-- MAXSS (R544) -/
  | maxss (o : Operands)
  /-- VMAXSS (R544) -/
  | vmaxss (o : Operands)
  /-- MINPD (R545) -/
  | minpd (o : Operands)
  /-- VMINPD (R545) -/
  | vminpd (o : Operands)
  /-- MINPS (R546) -/
  | minps (o : Operands)
  /-- VMINPS (R546) -/
  | vminps (o : Operands)
  /-- MINSD (R547) -/
  | minsd (o : Operands)
  /-- VMINSD (R547) -/
  | vminsd (o : Operands)
  /-- MINSS (R548) -/
  | minss (o : Operands)
  /-- VMINSS (R548) -/
  | vminss (o : Operands)
  /-- MOVAPD (R550) -/
  | movapd (o : Operands)
  /-- VMOVAPD (R550) -/
  | vmovapd (o : Operands)
  /-- MOVAPS (R551) -/
  | movaps (o : Operands)
  /-- VMOVAPS (R551) -/
  | vmovaps (o : Operands)
  /-- MOVD (R552) -/
  | movd (o : Operands)
  /-- VMOVD (R552) -/
  | vmovd (o : Operands)
  /-- MOVQ (R553, R554) -/
  | movq (o : Operands)
  /-- VMOVQ (R553, R554) -/
  | vmovq (o : Operands)
  /-- MOVDDUP (R555) -/
  | movddup (o : Operands)
  /-- VMOVDDUP (R555) -/
  | vmovddup (o : Operands)
  /-- MOVDQA (R556) -/
  | movdqa (o : Operands)
  /-- VMOVDQA (R556) -/
  | vmovdqa (o : Operands)
  /-- VMOVDQA32 (R557) -/
  | vmovdqa32 (o : Operands)
  /-- VMOVDQA64 (R558) -/
  | vmovdqa64 (o : Operands)
  /-- MOVDQU (R559) -/
  | movdqu (o : Operands)
  /-- VMOVDQU (R559) -/
  | vmovdqu (o : Operands)
  /-- VMOVDQU8 (R560) -/
  | vmovdqu8 (o : Operands)
  /-- VMOVDQU16 (R561) -/
  | vmovdqu16 (o : Operands)
  /-- VMOVDQU32 (R562) -/
  | vmovdqu32 (o : Operands)
  /-- VMOVDQU64 (R563) -/
  | vmovdqu64 (o : Operands)
  /-- MOVHLPS (R564) -/
  | movhlps (o : Operands)
  /-- VMOVHLPS (R564) -/
  | vmovhlps (o : Operands)
  /-- MOVHPD (R565) -/
  | movhpd (o : Operands)
  /-- VMOVHPD (R565) -/
  | vmovhpd (o : Operands)
  /-- MOVHPS (R566) -/
  | movhps (o : Operands)
  /-- VMOVHPS (R566) -/
  | vmovhps (o : Operands)
  /-- MOVLHPS (R567) -/
  | movlhps (o : Operands)
  /-- VMOVLHPS (R567) -/
  | vmovlhps (o : Operands)
  /-- MOVLPD (R568) -/
  | movlpd (o : Operands)
  /-- VMOVLPD (R568) -/
  | vmovlpd (o : Operands)
  /-- MOVLPS (R569) -/
  | movlps (o : Operands)
  /-- VMOVLPS (R569) -/
  | vmovlps (o : Operands)
  /-- MOVNTDQA (R570) -/
  | movntdqa (o : Operands)
  /-- VMOVNTDQA (R570) -/
  | vmovntdqa (o : Operands)
  /-- MOVNTDQ (R571) -/
  | movntdq (o : Operands)
  /-- VMOVNTDQ (R571) -/
  | vmovntdq (o : Operands)
  /-- MOVNTPD (R572) -/
  | movntpd (o : Operands)
  /-- VMOVNTPD (R572) -/
  | vmovntpd (o : Operands)
  /-- MOVNTPS (R573) -/
  | movntps (o : Operands)
  /-- VMOVNTPS (R573) -/
  | vmovntps (o : Operands)
  /-- MOVSD (R574) -/
  | movsd (o : Operands)
  /-- VMOVSD (R574) -/
  | vmovsd (o : Operands)
  /-- MOVSHDUP (R575) -/
  | movshdup (o : Operands)
  /-- VMOVSHDUP (R575) -/
  | vmovshdup (o : Operands)
  /-- MOVSLDUP (R576) -/
  | movsldup (o : Operands)
  /-- VMOVSLDUP (R576) -/
  | vmovsldup (o : Operands)
  /-- MOVSS (R577) -/
  | movss (o : Operands)
  /-- VMOVSS (R577) -/
  | vmovss (o : Operands)
  /-- MOVUPD (R578) -/
  | movupd (o : Operands)
  /-- VMOVUPD (R578) -/
  | vmovupd (o : Operands)
  /-- MOVUPS (R579) -/
  | movups (o : Operands)
  /-- VMOVUPS (R579) -/
  | vmovups (o : Operands)
  /-- PSADBW (R602) -/
  | psadbw (o : Operands)
  /-- VPSADBW (R602) -/
  | vpsadbw (o : Operands)
  /-- MULPD (R603) -/
  | mulpd (o : Operands)
  /-- VMULPD (R603) -/
  | vmulpd (o : Operands)
  /-- MULPS (R604) -/
  | mulps (o : Operands)
  /-- VMULPS (R604) -/
  | vmulps (o : Operands)
  /-- MULSD (R605) -/
  | mulsd (o : Operands)
  /-- VMULSD (R605) -/
  | vmulsd (o : Operands)
  /-- MULSS (R606) -/
  | mulss (o : Operands)
  /-- VMULSS (R606) -/
  | vmulss (o : Operands)
  /-- ORPD (R607) -/
  | orpd (o : Operands)
  /-- VORPD (R607) -/
  | vorpd (o : Operands)
  /-- ORPS (R608) -/
  | orps (o : Operands)
  /-- VORPS (R608) -/
  | vorps (o : Operands)
  /-- PABSB (R609) -/
  | pabsb (o : Operands)
  /-- VPABSB (R609) -/
  | vpabsb (o : Operands)
  /-- PABSW (R610) -/
  | pabsw (o : Operands)
  /-- VPABSW (R610) -/
  | vpabsw (o : Operands)
  /-- PABSD (R611) -/
  | pabsd (o : Operands)
  /-- VPABSD (R611) -/
  | vpabsd (o : Operands)
  /-- VPABSQ (R612) -/
  | vpabsq (o : Operands)
  /-- PACKSSWB (R614) -/
  | packsswb (o : Operands)
  /-- VPACKSSWB (R614) -/
  | vpacksswb (o : Operands)
  /-- PACKSSDW (R615) -/
  | packssdw (o : Operands)
  /-- VPACKSSDW (R615) -/
  | vpackssdw (o : Operands)
  /-- PACKUSDW (R616) -/
  | packusdw (o : Operands)
  /-- VPACKUSDW (R616) -/
  | vpackusdw (o : Operands)
  /-- PACKUSWB (R617) -/
  | packuswb (o : Operands)
  /-- VPACKUSWB (R617) -/
  | vpackuswb (o : Operands)
  /-- PADDB (R618) -/
  | paddb (o : Operands)
  /-- VPADDB (R618) -/
  | vpaddb (o : Operands)
  /-- PADDW (R619) -/
  | paddw (o : Operands)
  /-- VPADDW (R619) -/
  | vpaddw (o : Operands)
  /-- PADDD (R620) -/
  | paddd (o : Operands)
  /-- VPADDD (R620) -/
  | vpaddd (o : Operands)
  /-- PADDQ (R621) -/
  | paddq (o : Operands)
  /-- VPADDQ (R621) -/
  | vpaddq (o : Operands)
  /-- PADDSB (R622) -/
  | paddsb (o : Operands)
  /-- VPADDSB (R622) -/
  | vpaddsb (o : Operands)
  /-- PADDSW (R623) -/
  | paddsw (o : Operands)
  /-- VPADDSW (R623) -/
  | vpaddsw (o : Operands)
  /-- PADDUSB (R624) -/
  | paddusb (o : Operands)
  /-- VPADDUSB (R624) -/
  | vpaddusb (o : Operands)
  /-- PADDUSW (R625) -/
  | paddusw (o : Operands)
  /-- VPADDUSW (R625) -/
  | vpaddusw (o : Operands)
  /-- PALIGNR (R626) -/
  | palignr (o : Operands)
  /-- VPALIGNR (R626) -/
  | vpalignr (o : Operands)
  /-- PAND (R627) -/
  | pand (o : Operands)
  /-- VPAND (R627) -/
  | vpand (o : Operands)
  /-- VPANDD (R628) -/
  | vpandd (o : Operands)
  /-- VPANDQ (R629) -/
  | vpandq (o : Operands)
  /-- PANDN (R630) -/
  | pandn (o : Operands)
  /-- VPANDN (R630) -/
  | vpandn (o : Operands)
  /-- VPANDND (R631) -/
  | vpandnd (o : Operands)
  /-- VPANDNQ (R632) -/
  | vpandnq (o : Operands)
  /-- PAVGB (R633) -/
  | pavgb (o : Operands)
  /-- VPAVGB (R633) -/
  | vpavgb (o : Operands)
  /-- PAVGW (R634) -/
  | pavgw (o : Operands)
  /-- VPAVGW (R634) -/
  | vpavgw (o : Operands)
  /-- VPBROADCASTMB2Q (R635) -/
  | vpbroadcastmb2q (o : Operands)
  /-- VPBROADCASTMW2D (R636) -/
  | vpbroadcastmw2d (o : Operands)
  /-- PCMPEQB (R638) -/
  | pcmpeqb (o : Operands)
  /-- VPCMPEQB (R638) -/
  | vpcmpeqb (o : Operands)
  /-- PCMPEQW (R639) -/
  | pcmpeqw (o : Operands)
  /-- VPCMPEQW (R639) -/
  | vpcmpeqw (o : Operands)
  /-- PCMPEQD (R640) -/
  | pcmpeqd (o : Operands)
  /-- VPCMPEQD (R640) -/
  | vpcmpeqd (o : Operands)
  /-- PCMPEQQ (R641) -/
  | pcmpeqq (o : Operands)
  /-- VPCMPEQQ (R641) -/
  | vpcmpeqq (o : Operands)
  /-- PCMPGTB (R642) -/
  | pcmpgtb (o : Operands)
  /-- VPCMPGTB (R642) -/
  | vpcmpgtb (o : Operands)
  /-- PCMPGTW (R643) -/
  | pcmpgtw (o : Operands)
  /-- VPCMPGTW (R643) -/
  | vpcmpgtw (o : Operands)
  /-- PCMPGTD (R644) -/
  | pcmpgtd (o : Operands)
  /-- VPCMPGTD (R644) -/
  | vpcmpgtd (o : Operands)
  /-- PCMPGTQ (R645) -/
  | pcmpgtq (o : Operands)
  /-- VPCMPGTQ (R645) -/
  | vpcmpgtq (o : Operands)
  /-- VPCMPB (R647) -/
  | vpcmpb (o : Operands)
  /-- VPCMPUB (R648) -/
  | vpcmpub (o : Operands)
  /-- VPCMPD (R649) -/
  | vpcmpd (o : Operands)
  /-- VPCMPUD (R650) -/
  | vpcmpud (o : Operands)
  /-- VPCMPQ (R651) -/
  | vpcmpq (o : Operands)
  /-- VPCMPUQ (R652) -/
  | vpcmpuq (o : Operands)
  /-- VPCMPW (R653) -/
  | vpcmpw (o : Operands)
  /-- VPCMPUW (R654) -/
  | vpcmpuw (o : Operands)
  /-- VPCOMPRESSD (R655) -/
  | vpcompressd (o : Operands)
  /-- VPCOMPRESSQ (R656) -/
  | vpcompressq (o : Operands)
  /-- VPCONFLICTD (R657) -/
  | vpconflictd (o : Operands)
  /-- VPCONFLICTQ (R658) -/
  | vpconflictq (o : Operands)
  /-- VPERMB (R670) -/
  | vpermb (o : Operands)
  /-- VPERMD (R671) -/
  | vpermd (o : Operands)
  /-- VPERMW (R672) -/
  | vpermw (o : Operands)
  /-- VPERMI2B (R674) -/
  | vpermi2b (o : Operands)
  /-- VPERMI2W (R675) -/
  | vpermi2w (o : Operands)
  /-- VPERMI2D (R676) -/
  | vpermi2d (o : Operands)
  /-- VPERMI2Q (R677) -/
  | vpermi2q (o : Operands)
  /-- VPERMI2PS (R678) -/
  | vpermi2ps (o : Operands)
  /-- VPERMI2PD (R679) -/
  | vpermi2pd (o : Operands)
  /-- VPERMT2B (R680) -/
  | vpermt2b (o : Operands)
  /-- VPERMT2W (R681) -/
  | vpermt2w (o : Operands)
  /-- VPERMT2D (R682) -/
  | vpermt2d (o : Operands)
  /-- VPERMT2Q (R683) -/
  | vpermt2q (o : Operands)
  /-- VPERMT2PS (R684) -/
  | vpermt2ps (o : Operands)
  /-- VPERMT2PD (R685) -/
  | vpermt2pd (o : Operands)
  /-- VPERMILPD (R686) -/
  | vpermilpd (o : Operands)
  /-- VPERMILPS (R687) -/
  | vpermilps (o : Operands)
  /-- VPERMPD (R688) -/
  | vpermpd (o : Operands)
  /-- VPERMPS (R689) -/
  | vpermps (o : Operands)
  /-- VPERMQ (R690) -/
  | vpermq (o : Operands)
  /-- VPEXPANDD (R691) -/
  | vpexpandd (o : Operands)
  /-- VPEXPANDQ (R692) -/
  | vpexpandq (o : Operands)
  /-- PEXTRB (R693) -/
  | pextrb (o : Operands)
  /-- VPEXTRB (R693) -/
  | vpextrb (o : Operands)
  /-- PEXTRW (R694) -/
  | pextrw (o : Operands)
  /-- VPEXTRW (R694) -/
  | vpextrw (o : Operands)
  /-- PEXTRD (R695) -/
  | pextrd (o : Operands)
  /-- VPEXTRD (R695) -/
  | vpextrd (o : Operands)
  /-- PEXTRQ (R696) -/
  | pextrq (o : Operands)
  /-- VPEXTRQ (R696) -/
  | vpextrq (o : Operands)
  /-- VPLZCNTD (R697) -/
  | vplzcntd (o : Operands)
  /-- VPLZCNTQ (R698) -/
  | vplzcntq (o : Operands)
  /-- PMADDUBSW (R699) -/
  | pmaddubsw (o : Operands)
  /-- VPMADDUBSW (R699) -/
  | vpmaddubsw (o : Operands)
  /-- PMADDWD (R700) -/
  | pmaddwd (o : Operands)
  /-- VPMADDWD (R700) -/
  | vpmaddwd (o : Operands)
  /-- PINSRB (R701) -/
  | pinsrb (o : Operands)
  /-- VPINSRB (R701) -/
  | vpinsrb (o : Operands)
  /-- PINSRW (R702) -/
  | pinsrw (o : Operands)
  /-- VPINSRW (R702) -/
  | vpinsrw (o : Operands)
  /-- PINSRD (R703) -/
  | pinsrd (o : Operands)
  /-- VPINSRD (R703) -/
  | vpinsrd (o : Operands)
  /-- PINSRQ (R704) -/
  | pinsrq (o : Operands)
  /-- VPINSRQ (R704) -/
  | vpinsrq (o : Operands)
  /-- VPMADD52LUQ (R705) -/
  | vpmadd52luq (o : Operands)
  /-- VPMADD52HUQ (R706) -/
  | vpmadd52huq (o : Operands)
  /-- PMAXSB (R707) -/
  | pmaxsb (o : Operands)
  /-- VPMAXSB (R707) -/
  | vpmaxsb (o : Operands)
  /-- PMAXSW (R708) -/
  | pmaxsw (o : Operands)
  /-- VPMAXSW (R708) -/
  | vpmaxsw (o : Operands)
  /-- PMAXSD (R709) -/
  | pmaxsd (o : Operands)
  /-- VPMAXSD (R709) -/
  | vpmaxsd (o : Operands)
  /-- VPMAXSQ (R710) -/
  | vpmaxsq (o : Operands)
  /-- PMAXUB (R711) -/
  | pmaxub (o : Operands)
  /-- VPMAXUB (R711) -/
  | vpmaxub (o : Operands)
  /-- PMAXUW (R712) -/
  | pmaxuw (o : Operands)
  /-- VPMAXUW (R712) -/
  | vpmaxuw (o : Operands)
  /-- PMAXUD (R713) -/
  | pmaxud (o : Operands)
  /-- VPMAXUD (R713) -/
  | vpmaxud (o : Operands)
  /-- VPMAXUQ (R714) -/
  | vpmaxuq (o : Operands)
  /-- PMINSB (R715) -/
  | pminsb (o : Operands)
  /-- VPMINSB (R715) -/
  | vpminsb (o : Operands)
  /-- PMINSW (R716) -/
  | pminsw (o : Operands)
  /-- VPMINSW (R716) -/
  | vpminsw (o : Operands)
  /-- PMINSD (R717) -/
  | pminsd (o : Operands)
  /-- VPMINSD (R717) -/
  | vpminsd (o : Operands)
  /-- VPMINSQ (R718) -/
  | vpminsq (o : Operands)
  /-- PMINUB (R719) -/
  | pminub (o : Operands)
  /-- VPMINUB (R719) -/
  | vpminub (o : Operands)
  /-- PMINUW (R720) -/
  | pminuw (o : Operands)
  /-- VPMINUW (R720) -/
  | vpminuw (o : Operands)
  /-- PMINUD (R721) -/
  | pminud (o : Operands)
  /-- VPMINUD (R721) -/
  | vpminud (o : Operands)
  /-- VPMINUQ (R722) -/
  | vpminuq (o : Operands)
  /-- VPMOVM2B (R730) -/
  | vpmovm2b (o : Operands)
  /-- VPMOVM2W (R731) -/
  | vpmovm2w (o : Operands)
  /-- VPMOVM2D (R732) -/
  | vpmovm2d (o : Operands)
  /-- VPMOVM2Q (R733) -/
  | vpmovm2q (o : Operands)
  /-- VPMOVB2M (R734) -/
  | vpmovb2m (o : Operands)
  /-- VPMOVW2M (R735) -/
  | vpmovw2m (o : Operands)
  /-- VPMOVD2M (R736) -/
  | vpmovd2m (o : Operands)
  /-- VPMOVQ2M (R737) -/
  | vpmovq2m (o : Operands)
  /-- VPMOVQB (R740) -/
  | vpmovqb (o : Operands)
  /-- VPMOVSQB (R741) -/
  | vpmovsqb (o : Operands)
  /-- VPMOVUSQB (R742) -/
  | vpmovusqb (o : Operands)
  /-- VPMOVQW (R743) -/
  | vpmovqw (o : Operands)
  /-- VPMOVSQW (R744) -/
  | vpmovsqw (o : Operands)
  /-- VPMOVUSQW (R745) -/
  | vpmovusqw (o : Operands)
  /-- VPMOVQD (R746) -/
  | vpmovqd (o : Operands)
  /-- VPMOVSQD (R747) -/
  | vpmovsqd (o : Operands)
  /-- VPMOVUSQD (R748) -/
  | vpmovusqd (o : Operands)
  /-- VPMOVDB (R749) -/
  | vpmovdb (o : Operands)
  /-- VPMOVSDB (R750) -/
  | vpmovsdb (o : Operands)
  /-- VPMOVUSDB (R751) -/
  | vpmovusdb (o : Operands)
  /-- VPMOVDW (R752) -/
  | vpmovdw (o : Operands)
  /-- VPMOVSDW (R753) -/
  | vpmovsdw (o : Operands)
  /-- VPMOVUSDW (R754) -/
  | vpmovusdw (o : Operands)
  /-- VPMOVWB (R755) -/
  | vpmovwb (o : Operands)
  /-- VPMOVSWB (R756) -/
  | vpmovswb (o : Operands)
  /-- VPMOVUSWB (R757) -/
  | vpmovuswb (o : Operands)
  /-- PMOVSXBW (R759) -/
  | pmovsxbw (o : Operands)
  /-- VPMOVSXBW (R759) -/
  | vpmovsxbw (o : Operands)
  /-- PMOVSXBD (R760) -/
  | pmovsxbd (o : Operands)
  /-- VPMOVSXBD (R760) -/
  | vpmovsxbd (o : Operands)
  /-- PMOVSXBQ (R761) -/
  | pmovsxbq (o : Operands)
  /-- VPMOVSXBQ (R761) -/
  | vpmovsxbq (o : Operands)
  /-- PMOVSXWD (R762) -/
  | pmovsxwd (o : Operands)
  /-- VPMOVSXWD (R762) -/
  | vpmovsxwd (o : Operands)
  /-- PMOVSXWQ (R763) -/
  | pmovsxwq (o : Operands)
  /-- VPMOVSXWQ (R763) -/
  | vpmovsxwq (o : Operands)
  /-- PMOVSXDQ (R764) -/
  | pmovsxdq (o : Operands)
  /-- VPMOVSXDQ (R764) -/
  | vpmovsxdq (o : Operands)
  /-- PMOVZXBW (R765) -/
  | pmovzxbw (o : Operands)
  /-- VPMOVZXBW (R765) -/
  | vpmovzxbw (o : Operands)
  /-- PMOVZXBD (R766) -/
  | pmovzxbd (o : Operands)
  /-- VPMOVZXBD (R766) -/
  | vpmovzxbd (o : Operands)
  /-- PMOVZXBQ (R767) -/
  | pmovzxbq (o : Operands)
  /-- VPMOVZXBQ (R767) -/
  | vpmovzxbq (o : Operands)
  /-- PMOVZXWD (R768) -/
  | pmovzxwd (o : Operands)
  /-- VPMOVZXWD (R768) -/
  | vpmovzxwd (o : Operands)
  /-- PMOVZXWQ (R769) -/
  | pmovzxwq (o : Operands)
  /-- VPMOVZXWQ (R769) -/
  | vpmovzxwq (o : Operands)
  /-- PMOVZXDQ (R770) -/
  | pmovzxdq (o : Operands)
  /-- VPMOVZXDQ (R770) -/
  | vpmovzxdq (o : Operands)
  /-- PMULDQ (R771) -/
  | pmuldq (o : Operands)
  /-- VPMULDQ (R771) -/
  | vpmuldq (o : Operands)
  /-- PMULHRSW (R772) -/
  | pmulhrsw (o : Operands)
  /-- VPMULHRSW (R772) -/
  | vpmulhrsw (o : Operands)
  /-- PMULHUW (R773) -/
  | pmulhuw (o : Operands)
  /-- VPMULHUW (R773) -/
  | vpmulhuw (o : Operands)
  /-- PMULHW (R774) -/
  | pmulhw (o : Operands)
  /-- VPMULHW (R774) -/
  | vpmulhw (o : Operands)
  /-- PMULLD (R775) -/
  | pmulld (o : Operands)
  /-- VPMULLD (R775) -/
  | vpmulld (o : Operands)
  /-- VPMULLQ (R776) -/
  | vpmullq (o : Operands)
  /-- PMULLW (R777) -/
  | pmullw (o : Operands)
  /-- VPMULLW (R777) -/
  | vpmullw (o : Operands)
  /-- VPMULTISHIFTQB (R778) -/
  | vpmultishiftqb (o : Operands)
  /-- PMULUDQ (R779) -/
  | pmuludq (o : Operands)
  /-- VPMULUDQ (R779) -/
  | vpmuludq (o : Operands)
  /-- POR (R780) -/
  | por (o : Operands)
  /-- VPOR (R780) -/
  | vpor (o : Operands)
  /-- VPORD (R781) -/
  | vpord (o : Operands)
  /-- VPORQ (R782) -/
  | vporq (o : Operands)
  /-- VPROLD (R784) -/
  | vprold (o : Operands)
  /-- VPROLVD (R785) -/
  | vprolvd (o : Operands)
  /-- VPROLQ (R786) -/
  | vprolq (o : Operands)
  /-- VPROLVQ (R787) -/
  | vprolvq (o : Operands)
  /-- VPRORD (R788) -/
  | vprord (o : Operands)
  /-- VPRORVD (R789) -/
  | vprorvd (o : Operands)
  /-- VPRORQ (R790) -/
  | vprorq (o : Operands)
  /-- VPRORVQ (R791) -/
  | vprorvq (o : Operands)
  /-- VPSCATTERDD (R793) -/
  | vpscatterdd (o : Operands)
  /-- VPSCATTERDQ (R794) -/
  | vpscatterdq (o : Operands)
  /-- VPSCATTERQD (R795) -/
  | vpscatterqd (o : Operands)
  /-- VPSCATTERQQ (R796) -/
  | vpscatterqq (o : Operands)
  /-- PSHUFB (R800) -/
  | pshufb (o : Operands)
  /-- VPSHUFB (R800) -/
  | vpshufb (o : Operands)
  /-- PSHUFHW (R801) -/
  | pshufhw (o : Operands)
  /-- VPSHUFHW (R801) -/
  | vpshufhw (o : Operands)
  /-- PSHUFLW (R802) -/
  | pshuflw (o : Operands)
  /-- VPSHUFLW (R802) -/
  | vpshuflw (o : Operands)
  /-- PSHUFD (R803) -/
  | pshufd (o : Operands)
  /-- VPSHUFD (R803) -/
  | vpshufd (o : Operands)
  /-- PSLLDQ (R804) -/
  | pslldq (o : Operands)
  /-- VPSLLDQ (R804) -/
  | vpslldq (o : Operands)
  /-- PSLLW (R806) -/
  | psllw (o : Operands)
  /-- VPSLLW (R806) -/
  | vpsllw (o : Operands)
  /-- PSLLD (R807) -/
  | pslld (o : Operands)
  /-- VPSLLD (R807) -/
  | vpslld (o : Operands)
  /-- PSLLQ (R808) -/
  | psllq (o : Operands)
  /-- VPSLLQ (R808) -/
  | vpsllq (o : Operands)
  /-- PSRAW (R809) -/
  | psraw (o : Operands)
  /-- VPSRAW (R809) -/
  | vpsraw (o : Operands)
  /-- PSRAD (R810) -/
  | psrad (o : Operands)
  /-- VPSRAD (R810) -/
  | vpsrad (o : Operands)
  /-- VPSRAQ (R811) -/
  | vpsraq (o : Operands)
  /-- PSRLDQ (R812) -/
  | psrldq (o : Operands)
  /-- VPSRLDQ (R812) -/
  | vpsrldq (o : Operands)
  /-- PSRLW (R813) -/
  | psrlw (o : Operands)
  /-- VPSRLW (R813) -/
  | vpsrlw (o : Operands)
  /-- PSRLD (R814) -/
  | psrld (o : Operands)
  /-- VPSRLD (R814) -/
  | vpsrld (o : Operands)
  /-- PSRLQ (R815) -/
  | psrlq (o : Operands)
  /-- VPSRLQ (R815) -/
  | vpsrlq (o : Operands)
  /-- VPSLLVW (R817) -/
  | vpsllvw (o : Operands)
  /-- VPSLLVD (R818) -/
  | vpsllvd (o : Operands)
  /-- VPSLLVQ (R819) -/
  | vpsllvq (o : Operands)
  /-- VPSRLVW (R820) -/
  | vpsrlvw (o : Operands)
  /-- VPSRLVD (R821) -/
  | vpsrlvd (o : Operands)
  /-- VPSRLVQ (R822) -/
  | vpsrlvq (o : Operands)
  /-- PSUBB (R830) -/
  | psubb (o : Operands)
  /-- VPSUBB (R830) -/
  | vpsubb (o : Operands)
  /-- PSUBW (R831) -/
  | psubw (o : Operands)
  /-- VPSUBW (R831) -/
  | vpsubw (o : Operands)
  /-- PSUBD (R832) -/
  | psubd (o : Operands)
  /-- VPSUBD (R832) -/
  | vpsubd (o : Operands)
  /-- PSUBQ (R833) -/
  | psubq (o : Operands)
  /-- VPSUBQ (R833) -/
  | vpsubq (o : Operands)
  /-- PSUBSB (R834) -/
  | psubsb (o : Operands)
  /-- VPSUBSB (R834) -/
  | vpsubsb (o : Operands)
  /-- PSUBSW (R835) -/
  | psubsw (o : Operands)
  /-- VPSUBSW (R835) -/
  | vpsubsw (o : Operands)
  /-- PSUBUSB (R836) -/
  | psubusb (o : Operands)
  /-- VPSUBUSB (R836) -/
  | vpsubusb (o : Operands)
  /-- PSUBUSW (R837) -/
  | psubusw (o : Operands)
  /-- VPSUBUSW (R837) -/
  | vpsubusw (o : Operands)
  /-- VPTESTNMB (R838) -/
  | vptestnmb (o : Operands)
  /-- VPTESTNMW (R839) -/
  | vptestnmw (o : Operands)
  /-- VPTESTNMD (R840) -/
  | vptestnmd (o : Operands)
  /-- VPTESTNMQ (R841) -/
  | vptestnmq (o : Operands)
  /-- PUNPCKHBW (R843) -/
  | punpckhbw (o : Operands)
  /-- VPUNPCKHBW (R843) -/
  | vpunpckhbw (o : Operands)
  /-- PUNPCKHWD (R844) -/
  | punpckhwd (o : Operands)
  /-- VPUNPCKHWD (R844) -/
  | vpunpckhwd (o : Operands)
  /-- PUNPCKHDQ (R845) -/
  | punpckhdq (o : Operands)
  /-- VPUNPCKHDQ (R845) -/
  | vpunpckhdq (o : Operands)
  /-- PUNPCKHQDQ (R846) -/
  | punpckhqdq (o : Operands)
  /-- VPUNPCKHQDQ (R846) -/
  | vpunpckhqdq (o : Operands)
  /-- PUNPCKLBW (R847) -/
  | punpcklbw (o : Operands)
  /-- VPUNPCKLBW (R847) -/
  | vpunpcklbw (o : Operands)
  /-- PUNPCKLWD (R848) -/
  | punpcklwd (o : Operands)
  /-- VPUNPCKLWD (R848) -/
  | vpunpcklwd (o : Operands)
  /-- PUNPCKLDQ (R849) -/
  | punpckldq (o : Operands)
  /-- VPUNPCKLDQ (R849) -/
  | vpunpckldq (o : Operands)
  /-- PUNPCKLQDQ (R850) -/
  | punpcklqdq (o : Operands)
  /-- VPUNPCKLQDQ (R850) -/
  | vpunpcklqdq (o : Operands)
  /-- VSHUFF32X4 (R861) -/
  | vshuff32x4 (o : Operands)
  /-- VSHUFF64X2 (R862) -/
  | vshuff64x2 (o : Operands)
  /-- VSHUFI32X4 (R863) -/
  | vshufi32x4 (o : Operands)
  /-- VSHUFI64X2 (R864) -/
  | vshufi64x2 (o : Operands)
  /-- SHUFPD (R865) -/
  | shufpd (o : Operands)
  /-- VSHUFPD (R865) -/
  | vshufpd (o : Operands)
  /-- SHUFPS (R866) -/
  | shufps (o : Operands)
  /-- VSHUFPS (R866) -/
  | vshufps (o : Operands)
  /-- SQRTPD (R867) -/
  | sqrtpd (o : Operands)
  /-- VSQRTPD (R867) -/
  | vsqrtpd (o : Operands)
  /-- SQRTPS (R868) -/
  | sqrtps (o : Operands)
  /-- VSQRTPS (R868) -/
  | vsqrtps (o : Operands)
  /-- SQRTSD (R869) -/
  | sqrtsd (o : Operands)
  /-- VSQRTSD (R869) -/
  | vsqrtsd (o : Operands)
  /-- SQRTSS (R870) -/
  | sqrtss (o : Operands)
  /-- VSQRTSS (R870) -/
  | vsqrtss (o : Operands)
  /-- VPTERNLOGD (R872) -/
  | vpternlogd (o : Operands)
  /-- VPTERNLOGQ (R873) -/
  | vpternlogq (o : Operands)
  /-- VPTESTMB (R874) -/
  | vptestmb (o : Operands)
  /-- VPTESTMW (R875) -/
  | vptestmw (o : Operands)
  /-- VPTESTMD (R876) -/
  | vptestmd (o : Operands)
  /-- VPTESTMQ (R877) -/
  | vptestmq (o : Operands)
  /-- VPSRAVW (R878) -/
  | vpsravw (o : Operands)
  /-- VPSRAVD (R879) -/
  | vpsravd (o : Operands)
  /-- VPSRAVQ (R880) -/
  | vpsravq (o : Operands)
  /-- PXOR (R881) -/
  | pxor (o : Operands)
  /-- VPXOR (R881) -/
  | vpxor (o : Operands)
  /-- VPXORD (R882) -/
  | vpxord (o : Operands)
  /-- VPXORQ (R883) -/
  | vpxorq (o : Operands)
  /-- VRANGEPD (R901) -/
  | vrangepd (o : Operands)
  /-- VRANGEPS (R902) -/
  | vrangeps (o : Operands)
  /-- VRANGESD (R903) -/
  | vrangesd (o : Operands)
  /-- VRANGESS (R904) -/
  | vrangess (o : Operands)
  /-- VRCP14PD (R906) -/
  | vrcp14pd (o : Operands)
  /-- VRCP14SD (R907) -/
  | vrcp14sd (o : Operands)
  /-- VRCP14PS (R908) -/
  | vrcp14ps (o : Operands)
  /-- VRCP14SS (R909) -/
  | vrcp14ss (o : Operands)
  /-- VREDUCEPD (R911) -/
  | vreducepd (o : Operands)
  /-- VREDUCESD (R912) -/
  | vreducesd (o : Operands)
  /-- VREDUCEPS (R913) -/
  | vreduceps (o : Operands)
  /-- VREDUCESS (R914) -/
  | vreducess (o : Operands)
  /-- VRNDSCALEPD (R916) -/
  | vrndscalepd (o : Operands)
  /-- VRNDSCALESD (R917) -/
  | vrndscalesd (o : Operands)
  /-- VRNDSCALEPS (R918) -/
  | vrndscaleps (o : Operands)
  /-- VRNDSCALESS (R919) -/
  | vrndscaless (o : Operands)
  /-- VRSQRT14PD (R921) -/
  | vrsqrt14pd (o : Operands)
  /-- VRSQRT14SD (R922) -/
  | vrsqrt14sd (o : Operands)
  /-- VRSQRT14PS (R923) -/
  | vrsqrt14ps (o : Operands)
  /-- VRSQRT14SS (R924) -/
  | vrsqrt14ss (o : Operands)
  /-- VSCALEFPD (R926) -/
  | vscalefpd (o : Operands)
  /-- VSCALEFSD (R927) -/
  | vscalefsd (o : Operands)
  /-- VSCALEFPS (R928) -/
  | vscalefps (o : Operands)
  /-- VSCALEFSS (R929) -/
  | vscalefss (o : Operands)
  /-- VSCATTERDPS (R931) -/
  | vscatterdps (o : Operands)
  /-- VSCATTERDPD (R932) -/
  | vscatterdpd (o : Operands)
  /-- VSCATTERQPS (R933) -/
  | vscatterqps (o : Operands)
  /-- VSCATTERQPD (R934) -/
  | vscatterqpd (o : Operands)
  /-- SUBPD (R970) -/
  | subpd (o : Operands)
  /-- VSUBPD (R970) -/
  | vsubpd (o : Operands)
  /-- SUBPS (R971) -/
  | subps (o : Operands)
  /-- VSUBPS (R971) -/
  | vsubps (o : Operands)
  /-- SUBSD (R972) -/
  | subsd (o : Operands)
  /-- VSUBSD (R972) -/
  | vsubsd (o : Operands)
  /-- SUBSS (R973) -/
  | subss (o : Operands)
  /-- VSUBSS (R973) -/
  | vsubss (o : Operands)
  /-- UCOMISD (R974) -/
  | ucomisd (o : Operands)
  /-- VUCOMISD (R974) -/
  | vucomisd (o : Operands)
  /-- UCOMISS (R975) -/
  | ucomiss (o : Operands)
  /-- VUCOMISS (R975) -/
  | vucomiss (o : Operands)
  /-- UNPCKHPD (R976) -/
  | unpckhpd (o : Operands)
  /-- VUNPCKHPD (R976) -/
  | vunpckhpd (o : Operands)
  /-- UNPCKHPS (R977) -/
  | unpckhps (o : Operands)
  /-- VUNPCKHPS (R977) -/
  | vunpckhps (o : Operands)
  /-- UNPCKLPD (R978) -/
  | unpcklpd (o : Operands)
  /-- VUNPCKLPD (R978) -/
  | vunpcklpd (o : Operands)
  /-- UNPCKLPS (R979) -/
  | unpcklps (o : Operands)
  /-- VUNPCKLPS (R979) -/
  | vunpcklps (o : Operands)
  /-- XORPD (R980) -/
  | xorpd (o : Operands)
  /-- VXORPD (R980) -/
  | vxorpd (o : Operands)
  /-- XORPS (R981) -/
  | xorps (o : Operands)
  /-- VXORPS (R981) -/
  | vxorps (o : Operands)
  /-- KADDW (R1310) -/
  | kaddw (o : Operands)
  /-- KADDB (R1311) -/
  | kaddb (o : Operands)
  /-- KADDQ (R1312) -/
  | kaddq (o : Operands)
  /-- KADDD (R1313) -/
  | kaddd (o : Operands)
  /-- KANDW (R1314) -/
  | kandw (o : Operands)
  /-- KANDB (R1315) -/
  | kandb (o : Operands)
  /-- KANDQ (R1316) -/
  | kandq (o : Operands)
  /-- KANDD (R1317) -/
  | kandd (o : Operands)
  /-- KANDNW (R1318) -/
  | kandnw (o : Operands)
  /-- KANDNB (R1319) -/
  | kandnb (o : Operands)
  /-- KANDNQ (R1320) -/
  | kandnq (o : Operands)
  /-- KANDND (R1321) -/
  | kandnd (o : Operands)
  /-- KORW (R1322) -/
  | korw (o : Operands)
  /-- KORB (R1323) -/
  | korb (o : Operands)
  /-- KORQ (R1324) -/
  | korq (o : Operands)
  /-- KORD (R1325) -/
  | kord (o : Operands)
  /-- KXNORW (R1326) -/
  | kxnorw (o : Operands)
  /-- KXNORB (R1327) -/
  | kxnorb (o : Operands)
  /-- KXNORQ (R1328) -/
  | kxnorq (o : Operands)
  /-- KXNORD (R1329) -/
  | kxnord (o : Operands)
  /-- KXORW (R1330) -/
  | kxorw (o : Operands)
  /-- KXORB (R1331) -/
  | kxorb (o : Operands)
  /-- KXORQ (R1332) -/
  | kxorq (o : Operands)
  /-- KXORD (R1333) -/
  | kxord (o : Operands)
  /-- KNOTW (R1334) -/
  | knotw (o : Operands)
  /-- KNOTB (R1335) -/
  | knotb (o : Operands)
  /-- KNOTQ (R1336) -/
  | knotq (o : Operands)
  /-- KNOTD (R1337) -/
  | knotd (o : Operands)
  /-- KMOVW (R1339) -/
  | kmovw (o : Operands)
  /-- KMOVB (R1340) -/
  | kmovb (o : Operands)
  /-- KMOVQ (R1341) -/
  | kmovq (o : Operands)
  /-- KMOVD (R1342) -/
  | kmovd (o : Operands)
  /-- KUNPCKBW (R1343) -/
  | kunpckbw (o : Operands)
  /-- KUNPCKWD (R1344) -/
  | kunpckwd (o : Operands)
  /-- KUNPCKDQ (R1345) -/
  | kunpckdq (o : Operands)
  /-- KORTESTW (R1346) -/
  | kortestw (o : Operands)
  /-- KORTESTB (R1347) -/
  | kortestb (o : Operands)
  /-- KORTESTQ (R1348) -/
  | kortestq (o : Operands)
  /-- KORTESTD (R1349) -/
  | kortestd (o : Operands)
  /-- KTESTW (R1350) -/
  | ktestw (o : Operands)
  /-- KTESTB (R1351) -/
  | ktestb (o : Operands)
  /-- KTESTQ (R1352) -/
  | ktestq (o : Operands)
  /-- KTESTD (R1353) -/
  | ktestd (o : Operands)
  /-- KSHIFTLW (R1354) -/
  | kshiftlw (o : Operands)
  /-- KSHIFTLB (R1355) -/
  | kshiftlb (o : Operands)
  /-- KSHIFTLQ (R1356) -/
  | kshiftlq (o : Operands)
  /-- KSHIFTLD (R1357) -/
  | kshiftld (o : Operands)
  /-- KSHIFTRW (R1358) -/
  | kshiftrw (o : Operands)
  /-- KSHIFTRB (R1359) -/
  | kshiftrb (o : Operands)
  /-- KSHIFTRQ (R1360) -/
  | kshiftrq (o : Operands)
  /-- KSHIFTRD (R1361) -/
  | kshiftrd (o : Operands)
  /-- VEXP2PD (R1405) -/
  | vexp2pd (o : Operands)
  /-- VEXP2PS (R1406) -/
  | vexp2ps (o : Operands)
  /-- VRCP28PD (R1407) -/
  | vrcp28pd (o : Operands)
  /-- VRCP28SD (R1408) -/
  | vrcp28sd (o : Operands)
  /-- VRCP28PS (R1409) -/
  | vrcp28ps (o : Operands)
  /-- VRCP28SS (R1410) -/
  | vrcp28ss (o : Operands)
  /-- VRSQRT28PD (R1411) -/
  | vrsqrt28pd (o : Operands)
  /-- VRSQRT28SD (R1412) -/
  | vrsqrt28sd (o : Operands)
  /-- VRSQRT28PS (R1413) -/
  | vrsqrt28ps (o : Operands)
  /-- VRSQRT28SS (R1414) -/
  | vrsqrt28ss (o : Operands)
  /-- VGATHERPF0DPS (R1421) -/
  | vgatherpf0dps (o : Operands)
  /-- VGATHERPF0QPS (R1422) -/
  | vgatherpf0qps (o : Operands)
  /-- VGATHERPF0DPD (R1423) -/
  | vgatherpf0dpd (o : Operands)
  /-- VGATHERPF0QPD (R1424) -/
  | vgatherpf0qpd (o : Operands)
  /-- VGATHERPF1DPS (R1425) -/
  | vgatherpf1dps (o : Operands)
  /-- VGATHERPF1QPS (R1426) -/
  | vgatherpf1qps (o : Operands)
  /-- VGATHERPF1DPD (R1427) -/
  | vgatherpf1dpd (o : Operands)
  /-- VGATHERPF1QPD (R1428) -/
  | vgatherpf1qpd (o : Operands)
  /-- VSCATTERPF0DPS (R1429) -/
  | vscatterpf0dps (o : Operands)
  /-- VSCATTERPF0QPS (R1430) -/
  | vscatterpf0qps (o : Operands)
  /-- VSCATTERPF0DPD (R1431) -/
  | vscatterpf0dpd (o : Operands)
  /-- VSCATTERPF0QPD (R1432) -/
  | vscatterpf0qpd (o : Operands)
  /-- VSCATTERPF1DPS (R1433) -/
  | vscatterpf1dps (o : Operands)
  /-- VSCATTERPF1QPS (R1434) -/
  | vscatterpf1qps (o : Operands)
  /-- VSCATTERPF1DPD (R1435) -/
  | vscatterpf1dpd (o : Operands)
  /-- VSCATTERPF1QPD (R1436) -/
  | vscatterpf1qpd (o : Operands)
  /-- SHA1RNDS4 (R1452) -/
  | sha1rnds4 (o : Operands)
  /-- SHA1NEXTE (R1453) -/
  | sha1nexte (o : Operands)
  /-- SHA1MSG1 (R1454) -/
  | sha1msg1 (o : Operands)
  /-- SHA1MSG2 (R1455) -/
  | sha1msg2 (o : Operands)
  /-- SHA256RNDS2 (R1456) -/
  | sha256rnds2 (o : Operands)
  /-- SHA256MSG1 (R1457) -/
  | sha256msg1 (o : Operands)
  /-- SHA256MSG2 (R1458) -/
  | sha256msg2 (o : Operands)
  /-- PREFETCHWT1 (R1480) -/
  | prefetchwt1 (o : Operands)
  /-- CLWB (R1481) -/
  | clwb (o : Operands)
  /-- PCOMMIT (R1482) -/
  | pcommit
deriving DecidableEq, Repr

end Sys2Proof
end

