-- ==== Sys2Proof/Machine/Row.lean ====
section
/-! DEFINITION. What a row of spec/opcode_table.json says (spec/30_encoding.md R110 to R153), and when the fields of an
encoded instruction match it. -/

namespace Sys2Proof.Machine

/-- The W bit a row asks for (R142, D29). -/
inductive WReq where
  | w0 | w1 | wig
deriving DecidableEq, Repr

/-- The length bits a row asks for (R124, R141); `any` for legacy rows and rows marked LIG (D21, U3). -/
inductive LReq where
  | any | l128 | l256 | l512
deriving DecidableEq, Repr

/-- The ModRM.mod a row allows (D28). -/
inductive ModReq where
  | any | reg | mem
deriving DecidableEq, Repr

/-- What a register field selects: nothing, a vector register, a general register, an opmask register, or an opcode
extension with its value (R118, R120). -/
inductive RegUse where
  | none | vec | gpr | kreg
  | ext (n : Nat)
deriving DecidableEq, Repr

/-- The four masking groups (R123): no mask, merging only, merging and zeroing, mask required. -/
inductive MaskUse where
  | none | merge | zero | must
deriving DecidableEq, Repr

/-- What EVEX.b means on the register form (R125, D24). -/
inductive Rnd where
  | none | er | sae | ignored
deriving DecidableEq, Repr

/-- The tuple types with their element size in bytes (R132). -/
inductive Tuple where
  | fv (n : Nat) | hv (n : Nat) | fvm | hvm | qvm | ovm | m128 | dup
  /-- a fixed number of bytes whatever the length: T1S, T1F, T2, T4, T8 -/
  | fixed (n : Nat)
deriving DecidableEq, Repr

/-- The exception class of a row (R1512 to R1534): an EVEX class, an opmask class, a VEX type, a legacy type, or an
instruction whose page lists its own exceptions (R1535). -/
inductive ExcClass where
  | e1 | e1nf | e2 | e3 | e3nf | e4 | e4nf | e5 | e5nf | e6 | e6nf | e7nm | e9nf | e10 | e10nf | e11 | e12 | e12np
  | k20 | k21
  | vex (n : Nat)
  | sse (n : Nat)
  | page
deriving DecidableEq, Repr

/-- One row of the opcode table. -/
structure Row where
  space : Space
  map : OpMap
  pp : Pfx
  w : WReq
  len : LReq
  opcode : Nat
  /-- the role of ModRM.reg -/
  reg : RegUse
  /-- the role of vvvv -/
  vv : RegUse
  /-- the kind of a register r/m operand -/
  rm : RegUse
  mod : ModReq
  vsib : Bool
  imm : Bool
  /-- the r/m operand is the destination -/
  memDst : Bool
  mask : MaskUse
  /-- bytes of an embedded broadcast element, 0 where there is none (R126) -/
  bcast : Nat
  rnd : Rnd
  tuple : Tuple
  feats : List Feature
  cls : ExcClass
  /-- a memory operand must be aligned to its own size (R74, R77) -/
  aligned : Bool
  /-- not encodable or invalid outside 64-bit mode -/
  only64 : Bool
deriving DecidableEq, Repr

/-- EVEX.b selects static rounding or SAE: it is set on the register form of a row that has `{er}` or `{sae}` (R125). -/
def Row.rounding (r : Row) (o : Operands) : Bool :=
  o.b && o.isReg && (r.rnd == .er || r.rnd == .sae)

/-- EVEX.b selects an embedded broadcast (R126). -/
def Row.broadcasts (r : Row) (o : Operands) : Bool :=
  o.b && !o.isReg && r.bcast != 0

/-- The vector length in bits of one use of a row (R124, R141, D22): 512 under static rounding or SAE, else from L or
L'L; 128 where the length is ignored. -/
def Row.vl (r : Row) (o : Operands) : Nat :=
  if r.len == .any then 128
  else if r.rounding o then 512
  else match o.ll with
    | 0 => 128
    | 1 => 256
    | _ => 512

/-- The length bits match the row (R124, R125, R141, D21, D22). -/
def Row.lenOk (r : Row) (o : Operands) : Bool :=
  match r.len with
  | .any => true
  | .l128 => o.ll == 0 && !r.rounding o
  | .l256 => o.ll == 1 && !r.rounding o
  | .l512 => o.ll == 2 || r.rounding o

/-- EVEX.b is legal on this row (R125). -/
def Row.bOk (r : Row) (o : Operands) : Bool :=
  !o.b || (if o.isReg then r.rnd != .none else r.bcast != 0)

/-- EVEX.aaa and EVEX.z are legal on this row (R84, R123). -/
def Row.maskOk (r : Row) (o : Operands) : Bool :=
  match r.mask with
  | .none => o.aaa == 0 && !o.z
  | .merge => !o.z
  | .zero => !o.z || (o.aaa != 0 && !(r.memDst && !o.isReg))
  | .must => o.aaa != 0 && !o.z

/-- The W bit matches the row (R142). -/
def WReq.accepts (r : WReq) (w : Bool) : Bool :=
  match r with
  | .w0 => !w
  | .w1 => w
  | .wig => true

/-- ModRM.mod matches the row (D28). -/
def ModReq.accepts (r : ModReq) (reg : Bool) : Bool :=
  match r with
  | .any => true
  | .reg => reg
  | .mem => !reg

/-- The index register of a gather is not its destination (R1530). -/
def Row.vsibOk (r : Row) (o : Operands) : Bool :=
  match o.rm with
  | .reg _ => true
  | .mem m => !(r.vsib && r.reg == .vec && !r.memDst && m.index == some o.reg)

/-- The fields of an encoded instruction match the row (R150). No matching row is #UD. -/
def Row.accepts (r : Row) (o : Operands) : Bool :=
  r.space == o.space && r.pp == o.pp && r.opcode == o.opcode.toNat && r.w.accepts o.w && r.mod.accepts o.isReg &&
    r.lenOk o && r.bOk o && r.maskOk o && r.vsibOk o

/-- The scale N of a compressed displacement (R132). -/
def Row.disp8N (r : Row) (vl : Nat) (b : Bool) : Nat :=
  match r.tuple with
  | .fv n => if b then n else vl / 8
  | .hv n => if b then n else vl / 16
  | .fvm => vl / 8
  | .hvm => vl / 16
  | .qvm => vl / 32
  | .ovm => vl / 64
  | .m128 => 16
  | .dup => if vl = 128 then 8 else vl / 8
  | .fixed n => n

/-- Memory faults of masked-off elements are suppressed (R85): the classes without the NF suffix. -/
def ExcClass.suppress : ExcClass → Bool
  | .e1 | .e2 | .e3 | .e4 | .e5 | .e6 | .e10 | .e11 | .e12 => true
  | _ => false

/-- A misaligned reference of `n` bytes may raise #AC (R78): the classes whose table has an #AC row, the VEX types as their
EVEX counterparts (D31). DESIGN CHOICE: a legacy form of a type raises it as the VEX forms of that type do; D31 and R1534 list
#UD, #NM and #GP for legacy forms and do not speak of #AC (notes/assumptions/49.md). -/
def ExcClass.ac (c : ExcClass) (n : Nat) : Bool :=
  match c with
  | .e3 | .e3nf | .e5 | .e5nf | .e9nf | .e10 | .e10nf | .k21 => n ≤ 8
  | .e6 | .e6nf => n == 4 || n == 8
  | .vex t | .sse t => if t == 6 then n == 4 || n == 8 else (t == 3 || t == 5 || t == 9 || t == 10) && n ≤ 8
  | _ => false

/-- The row reads or writes opmask registers under a VEX prefix (R31). -/
def Row.isOpmask (r : Row) : Bool :=
  r.space == .vex && (r.reg == .kreg || r.rm == .kreg)

end Sys2Proof.Machine
end

