-- ==== Sys2Proof/Machine/Rows41.lean ====
section
/-! DEFINITION. The rows of spec/opcode_table.json for the instructions of spec/41_addpd_to_vpbroadcast.md (ADD to VPBROADCAST), in the order of the table:
space, map, pp, W, L, opcode, roles of ModRM.reg, vvvv and r/m, mod, VSIB, imm8, r/m is the destination, masking, broadcast
bytes, rounding, tuple, CPUID flags, exception class, alignment, 64-bit mode only. -/

namespace Sys2Proof.Machine.Rows

/-- ADDPD (R320) -/
def addpd : List Row :=
  [⟨.legacy, .m0F, .p66, .wig, .any, 0x58, .vec, .none, .vec, .any, false, false, false, .none, 0, .none, .fixed 1, [.sse2], .sse 2, true, false⟩]

/-- VADDPD (R320) -/
def vaddpd : List Row :=
  [⟨.vex, .m0F, .p66, .wig, .l128, 0x58, .vec, .vec, .vec, .any, false, false, false, .none, 0, .none, .fixed 1, [.avx], .vex 2, false, false⟩,
   ⟨.vex, .m0F, .p66, .wig, .l256, 0x58, .vec, .vec, .vec, .any, false, false, false, .none, 0, .none, .fixed 1, [.avx], .vex 2, false, false⟩,
   ⟨.evex, .m0F, .p66, .w1, .l128, 0x58, .vec, .vec, .vec, .any, false, false, false, .zero, 8, .none, .fv 8, [.avx512vl, .avx512f], .e2, false, false⟩,
   ⟨.evex, .m0F, .p66, .w1, .l256, 0x58, .vec, .vec, .vec, .any, false, false, false, .zero, 8, .none, .fv 8, [.avx512vl, .avx512f], .e2, false, false⟩,
   ⟨.evex, .m0F, .p66, .w1, .l512, 0x58, .vec, .vec, .vec, .any, false, false, false, .zero, 8, .er, .fv 8, [.avx512f], .e2, false, false⟩]

/-- ADDPS (R321) -/
def addps : List Row :=
  [⟨.legacy, .m0F, .np, .wig, .any, 0x58, .vec, .none, .vec, .any, false, false, false, .none, 0, .none, .fixed 1, [.sse], .sse 2, true, false⟩]

/-- VADDPS (R321) -/
def vaddps : List Row :=
  [⟨.vex, .m0F, .np, .wig, .l128, 0x58, .vec, .vec, .vec, .any, false, false, false, .none, 0, .none, .fixed 1, [.avx], .vex 2, false, false⟩,
   ⟨.vex, .m0F, .np, .wig, .l256, 0x58, .vec, .vec, .vec, .any, false, false, false, .none, 0, .none, .fixed 1, [.avx], .vex 2, false, false⟩,
   ⟨.evex, .m0F, .np, .w0, .l128, 0x58, .vec, .vec, .vec, .any, false, false, false, .zero, 4, .none, .fv 4, [.avx512vl, .avx512f], .e2, false, false⟩,
   ⟨.evex, .m0F, .np, .w0, .l256, 0x58, .vec, .vec, .vec, .any, false, false, false, .zero, 4, .none, .fv 4, [.avx512vl, .avx512f], .e2, false, false⟩,
   ⟨.evex, .m0F, .np, .w0, .l512, 0x58, .vec, .vec, .vec, .any, false, false, false, .zero, 4, .er, .fv 4, [.avx512f], .e2, false, false⟩]

/-- ADDSD (R322) -/
def addsd : List Row :=
  [⟨.legacy, .m0F, .pF2, .wig, .any, 0x58, .vec, .none, .vec, .any, false, false, false, .none, 0, .none, .fixed 1, [.sse2], .sse 3, false, false⟩]

/-- VADDSD (R322) -/
def vaddsd : List Row :=
  [⟨.vex, .m0F, .pF2, .wig, .any, 0x58, .vec, .vec, .vec, .any, false, false, false, .none, 0, .none, .fixed 1, [.avx], .vex 3, false, false⟩,
   ⟨.evex, .m0F, .pF2, .w1, .any, 0x58, .vec, .vec, .vec, .any, false, false, false, .zero, 0, .er, .fixed 8, [.avx512f], .e3, false, false⟩]

/-- ADDSS (R323) -/
def addss : List Row :=
  [⟨.legacy, .m0F, .pF3, .wig, .any, 0x58, .vec, .none, .vec, .any, false, false, false, .none, 0, .none, .fixed 1, [.sse], .sse 3, false, false⟩]

/-- VADDSS (R323) -/
def vaddss : List Row :=
  [⟨.vex, .m0F, .pF3, .wig, .any, 0x58, .vec, .vec, .vec, .any, false, false, false, .none, 0, .none, .fixed 1, [.avx], .vex 3, false, false⟩,
   ⟨.evex, .m0F, .pF3, .w0, .any, 0x58, .vec, .vec, .vec, .any, false, false, false, .zero, 0, .er, .fixed 4, [.avx512f], .e3, false, false⟩]

/-- VALIGND (R324) -/
def valignd : List Row :=
  [⟨.evex, .m0F3A, .p66, .w0, .l128, 0x03, .vec, .vec, .vec, .any, false, true, false, .zero, 4, .none, .fv 4, [.avx512vl, .avx512f], .e4nf, false, false⟩,
   ⟨.evex, .m0F3A, .p66, .w0, .l256, 0x03, .vec, .vec, .vec, .any, false, true, false, .zero, 4, .none, .fv 4, [.avx512vl, .avx512f], .e4nf, false, false⟩,
   ⟨.evex, .m0F3A, .p66, .w0, .l512, 0x03, .vec, .vec, .vec, .any, false, true, false, .zero, 4, .none, .fv 4, [.avx512f], .e4nf, false, false⟩]

/-- VALIGNQ (R324) -/
def valignq : List Row :=
  [⟨.evex, .m0F3A, .p66, .w1, .l128, 0x03, .vec, .vec, .vec, .any, false, true, false, .zero, 8, .none, .fv 8, [.avx512vl, .avx512f], .e4nf, false, false⟩,
   ⟨.evex, .m0F3A, .p66, .w1, .l256, 0x03, .vec, .vec, .vec, .any, false, true, false, .zero, 8, .none, .fv 8, [.avx512vl, .avx512f], .e4nf, false, false⟩,
   ⟨.evex, .m0F3A, .p66, .w1, .l512, 0x03, .vec, .vec, .vec, .any, false, true, false, .zero, 8, .none, .fv 8, [.avx512f], .e4nf, false, false⟩]

/-- VBLENDMPD (R325) -/
def vblendmpd : List Row :=
  [⟨.evex, .m0F38, .p66, .w1, .l128, 0x65, .vec, .vec, .vec, .any, false, false, false, .zero, 8, .none, .fv 8, [.avx512vl, .avx512f], .e4, false, false⟩,
   ⟨.evex, .m0F38, .p66, .w1, .l256, 0x65, .vec, .vec, .vec, .any, false, false, false, .zero, 8, .none, .fv 8, [.avx512vl, .avx512f], .e4, false, false⟩,
   ⟨.evex, .m0F38, .p66, .w1, .l512, 0x65, .vec, .vec, .vec, .any, false, false, false, .zero, 8, .none, .fv 8, [.avx512f], .e4, false, false⟩]

/-- VBLENDMPS (R325) -/
def vblendmps : List Row :=
  [⟨.evex, .m0F38, .p66, .w0, .l128, 0x65, .vec, .vec, .vec, .any, false, false, false, .zero, 4, .none, .fv 4, [.avx512vl, .avx512f], .e4, false, false⟩,
   ⟨.evex, .m0F38, .p66, .w0, .l256, 0x65, .vec, .vec, .vec, .any, false, false, false, .zero, 4, .none, .fv 4, [.avx512vl, .avx512f], .e4, false, false⟩,
   ⟨.evex, .m0F38, .p66, .w0, .l512, 0x65, .vec, .vec, .vec, .any, false, false, false, .zero, 4, .none, .fv 4, [.avx512f], .e4, false, false⟩]

/-- VPBLENDMB (R326) -/
def vpblendmb : List Row :=
  [⟨.evex, .m0F38, .p66, .w0, .l128, 0x66, .vec, .vec, .vec, .any, false, false, false, .zero, 0, .none, .fvm, [.avx512vl, .avx512bw], .e4, false, false⟩,
   ⟨.evex, .m0F38, .p66, .w0, .l256, 0x66, .vec, .vec, .vec, .any, false, false, false, .zero, 0, .none, .fvm, [.avx512vl, .avx512bw], .e4, false, false⟩,
   ⟨.evex, .m0F38, .p66, .w0, .l512, 0x66, .vec, .vec, .vec, .any, false, false, false, .zero, 0, .none, .fvm, [.avx512bw], .e4, false, false⟩]

/-- VPBLENDMW (R326) -/
def vpblendmw : List Row :=
  [⟨.evex, .m0F38, .p66, .w1, .l128, 0x66, .vec, .vec, .vec, .any, false, false, false, .zero, 0, .none, .fvm, [.avx512vl, .avx512bw], .e4, false, false⟩,
   ⟨.evex, .m0F38, .p66, .w1, .l256, 0x66, .vec, .vec, .vec, .any, false, false, false, .zero, 0, .none, .fvm, [.avx512vl, .avx512bw], .e4, false, false⟩,
   ⟨.evex, .m0F38, .p66, .w1, .l512, 0x66, .vec, .vec, .vec, .any, false, false, false, .zero, 0, .none, .fvm, [.avx512bw], .e4, false, false⟩]

/-- VPBLENDMD (R327) -/
def vpblendmd : List Row :=
  [⟨.evex, .m0F38, .p66, .w0, .l128, 0x64, .vec, .vec, .vec, .any, false, false, false, .zero, 4, .none, .fv 4, [.avx512vl, .avx512f], .e4, false, false⟩,
   ⟨.evex, .m0F38, .p66, .w0, .l256, 0x64, .vec, .vec, .vec, .any, false, false, false, .zero, 4, .none, .fv 4, [.avx512vl, .avx512f], .e4, false, false⟩,
   ⟨.evex, .m0F38, .p66, .w0, .l512, 0x64, .vec, .vec, .vec, .any, false, false, false, .zero, 4, .none, .fv 4, [.avx512f], .e4, false, false⟩]

/-- VPBLENDMQ (R327); the 256-bit row needs AVX512VL (C33) -/
def vpblendmq : List Row :=
  [⟨.evex, .m0F38, .p66, .w1, .l128, 0x64, .vec, .vec, .vec, .any, false, false, false, .zero, 8, .none, .fv 8, [.avx512vl, .avx512f], .e4, false, false⟩,
   ⟨.evex, .m0F38, .p66, .w1, .l256, 0x64, .vec, .vec, .vec, .any, false, false, false, .zero, 8, .none, .fv 8, [.avx512vl, .avx512f], .e4, false, false⟩,
   ⟨.evex, .m0F38, .p66, .w1, .l512, 0x64, .vec, .vec, .vec, .any, false, false, false, .zero, 8, .none, .fv 8, [.avx512f], .e4, false, false⟩]

/-- ANDPD (R328) -/
def andpd : List Row :=
  [⟨.legacy, .m0F, .p66, .wig, .any, 0x54, .vec, .none, .vec, .any, false, false, false, .none, 0, .none, .fixed 1, [.sse2], .sse 4, true, false⟩]

/-- VANDPD (R328) -/
def vandpd : List Row :=
  [⟨.vex, .m0F, .p66, .wig, .l128, 0x54, .vec, .vec, .vec, .any, false, false, false, .none, 0, .none, .fixed 1, [.avx], .vex 4, false, false⟩,
   ⟨.vex, .m0F, .p66, .wig, .l256, 0x54, .vec, .vec, .vec, .any, false, false, false, .none, 0, .none, .fixed 1, [.avx], .vex 4, false, false⟩,
   ⟨.evex, .m0F, .p66, .w1, .l128, 0x54, .vec, .vec, .vec, .any, false, false, false, .zero, 8, .none, .fv 8, [.avx512vl, .avx512dq], .e4, false, false⟩,
   ⟨.evex, .m0F, .p66, .w1, .l256, 0x54, .vec, .vec, .vec, .any, false, false, false, .zero, 8, .none, .fv 8, [.avx512vl, .avx512dq], .e4, false, false⟩,
   ⟨.evex, .m0F, .p66, .w1, .l512, 0x54, .vec, .vec, .vec, .any, false, false, false, .zero, 8, .none, .fv 8, [.avx512dq], .e4, false, false⟩]

/-- ANDPS (R329) -/
def andps : List Row :=
  [⟨.legacy, .m0F, .np, .wig, .any, 0x54, .vec, .none, .vec, .any, false, false, false, .none, 0, .none, .fixed 1, [.sse], .sse 4, true, false⟩]

/-- VANDPS (R329) -/
def vandps : List Row :=
  [⟨.vex, .m0F, .np, .wig, .l128, 0x54, .vec, .vec, .vec, .any, false, false, false, .none, 0, .none, .fixed 1, [.avx], .vex 4, false, false⟩,
   ⟨.vex, .m0F, .np, .wig, .l256, 0x54, .vec, .vec, .vec, .any, false, false, false, .none, 0, .none, .fixed 1, [.avx], .vex 4, false, false⟩,
   ⟨.evex, .m0F, .np, .w0, .l128, 0x54, .vec, .vec, .vec, .any, false, false, false, .zero, 4, .none, .fv 4, [.avx512vl, .avx512dq], .e4, false, false⟩,
   ⟨.evex, .m0F, .np, .w0, .l256, 0x54, .vec, .vec, .vec, .any, false, false, false, .zero, 4, .none, .fv 4, [.avx512vl, .avx512dq], .e4, false, false⟩,
   ⟨.evex, .m0F, .np, .w0, .l512, 0x54, .vec, .vec, .vec, .any, false, false, false, .zero, 4, .none, .fv 4, [.avx512dq], .e4, false, false⟩]

/-- ANDNPD (R330) -/
def andnpd : List Row :=
  [⟨.legacy, .m0F, .p66, .wig, .any, 0x55, .vec, .none, .vec, .any, false, false, false, .none, 0, .none, .fixed 1, [.sse2], .sse 4, true, false⟩]

/-- VANDNPD (R330) -/
def vandnpd : List Row :=
  [⟨.vex, .m0F, .p66, .wig, .l128, 0x55, .vec, .vec, .vec, .any, false, false, false, .none, 0, .none, .fixed 1, [.avx], .vex 4, false, false⟩,
   ⟨.vex, .m0F, .p66, .wig, .l256, 0x55, .vec, .vec, .vec, .any, false, false, false, .none, 0, .none, .fixed 1, [.avx], .vex 4, false, false⟩,
   ⟨.evex, .m0F, .p66, .w1, .l128, 0x55, .vec, .vec, .vec, .any, false, false, false, .zero, 8, .none, .fv 8, [.avx512vl, .avx512dq], .e4, false, false⟩,
   ⟨.evex, .m0F, .p66, .w1, .l256, 0x55, .vec, .vec, .vec, .any, false, false, false, .zero, 8, .none, .fv 8, [.avx512vl, .avx512dq], .e4, false, false⟩,
   ⟨.evex, .m0F, .p66, .w1, .l512, 0x55, .vec, .vec, .vec, .any, false, false, false, .zero, 8, .none, .fv 8, [.avx512dq], .e4, false, false⟩]

/-- ANDNPS (R331) -/
def andnps : List Row :=
  [⟨.legacy, .m0F, .np, .wig, .any, 0x55, .vec, .none, .vec, .any, false, false, false, .none, 0, .none, .fixed 1, [.sse], .sse 4, true, false⟩]

/-- VANDNPS (R331) -/
def vandnps : List Row :=
  [⟨.vex, .m0F, .np, .wig, .l128, 0x55, .vec, .vec, .vec, .any, false, false, false, .none, 0, .none, .fixed 1, [.avx], .vex 4, false, false⟩,
   ⟨.vex, .m0F, .np, .wig, .l256, 0x55, .vec, .vec, .vec, .any, false, false, false, .none, 0, .none, .fixed 1, [.avx], .vex 4, false, false⟩,
   ⟨.evex, .m0F, .np, .w0, .l128, 0x55, .vec, .vec, .vec, .any, false, false, false, .zero, 4, .none, .fv 4, [.avx512vl, .avx512dq], .e4, false, false⟩,
   ⟨.evex, .m0F, .np, .w0, .l256, 0x55, .vec, .vec, .vec, .any, false, false, false, .zero, 4, .none, .fv 4, [.avx512vl, .avx512dq], .e4, false, false⟩,
   ⟨.evex, .m0F, .np, .w0, .l512, 0x55, .vec, .vec, .vec, .any, false, false, false, .zero, 4, .none, .fv 4, [.avx512dq], .e4, false, false⟩]

/-- VBROADCASTSS (R332) -/
def vbroadcastss : List Row :=
  [⟨.vex, .m0F38, .p66, .w0, .l128, 0x18, .vec, .none, .vec, .mem, false, false, false, .none, 0, .none, .fixed 1, [.avx], .vex 6, false, false⟩,
   ⟨.vex, .m0F38, .p66, .w0, .l256, 0x18, .vec, .none, .vec, .mem, false, false, false, .none, 0, .none, .fixed 1, [.avx], .vex 6, false, false⟩,
   ⟨.evex, .m0F38, .p66, .w0, .l128, 0x18, .vec, .none, .vec, .any, false, false, false, .zero, 0, .none, .fixed 4, [.avx512vl, .avx512f], .e6, false, false⟩,
   ⟨.evex, .m0F38, .p66, .w0, .l256, 0x18, .vec, .none, .vec, .any, false, false, false, .zero, 0, .none, .fixed 4, [.avx512vl, .avx512f], .e6, false, false⟩,
   ⟨.evex, .m0F38, .p66, .w0, .l512, 0x18, .vec, .none, .vec, .any, false, false, false, .zero, 0, .none, .fixed 4, [.avx512f], .e6, false, false⟩]

/-- VBROADCASTSD (R332) -/
def vbroadcastsd : List Row :=
  [⟨.vex, .m0F38, .p66, .w0, .l256, 0x19, .vec, .none, .vec, .mem, false, false, false, .none, 0, .none, .fixed 1, [.avx], .vex 6, false, false⟩,
   ⟨.evex, .m0F38, .p66, .w1, .l256, 0x19, .vec, .none, .vec, .any, false, false, false, .zero, 0, .none, .fixed 8, [.avx512vl, .avx512f], .e6, false, false⟩,
   ⟨.evex, .m0F38, .p66, .w1, .l512, 0x19, .vec, .none, .vec, .any, false, false, false, .zero, 0, .none, .fixed 8, [.avx512f], .e6, false, false⟩]

/-- VBROADCASTF128 (R332) -/
def vbroadcastf128 : List Row :=
  [⟨.vex, .m0F38, .p66, .w0, .l256, 0x1A, .vec, .none, .vec, .mem, false, false, false, .none, 0, .none, .fixed 1, [.avx], .vex 6, false, false⟩]

/-- VBROADCASTF32X2 (R332) -/
def vbroadcastf32x2 : List Row :=
  [⟨.evex, .m0F38, .p66, .w0, .l256, 0x19, .vec, .none, .vec, .any, false, false, false, .zero, 0, .none, .fixed 8, [.avx512vl, .avx512dq], .e6, false, false⟩,
   ⟨.evex, .m0F38, .p66, .w0, .l512, 0x19, .vec, .none, .vec, .any, false, false, false, .zero, 0, .none, .fixed 8, [.avx512dq], .e6, false, false⟩]

/-- VBROADCASTF32X4 (R332) -/
def vbroadcastf32x4 : List Row :=
  [⟨.evex, .m0F38, .p66, .w0, .l256, 0x1A, .vec, .none, .vec, .mem, false, false, false, .zero, 0, .none, .fixed 16, [.avx512vl, .avx512f], .e6, false, false⟩,
   ⟨.evex, .m0F38, .p66, .w0, .l512, 0x1A, .vec, .none, .vec, .mem, false, false, false, .zero, 0, .none, .fixed 16, [.avx512f], .e6, false, false⟩]

/-- VBROADCASTF64X2 (R332) -/
def vbroadcastf64x2 : List Row :=
  [⟨.evex, .m0F38, .p66, .w1, .l256, 0x1A, .vec, .none, .vec, .mem, false, false, false, .zero, 0, .none, .fixed 16, [.avx512vl, .avx512dq], .e6, false, false⟩,
   ⟨.evex, .m0F38, .p66, .w1, .l512, 0x1A, .vec, .none, .vec, .mem, false, false, false, .zero, 0, .none, .fixed 16, [.avx512dq], .e6, false, false⟩]

/-- VBROADCASTF32X8 (R332) -/
def vbroadcastf32x8 : List Row :=
  [⟨.evex, .m0F38, .p66, .w0, .l512, 0x1B, .vec, .none, .vec, .mem, false, false, false, .zero, 0, .none, .fixed 32, [.avx512dq], .e6, false, false⟩]

/-- VBROADCASTF64X4 (R332) -/
def vbroadcastf64x4 : List Row :=
  [⟨.evex, .m0F38, .p66, .w1, .l512, 0x1B, .vec, .none, .vec, .mem, false, false, false, .zero, 0, .none, .fixed 32, [.avx512f], .e6, false, false⟩]

/-- VPBROADCASTB (R333, R334) -/
def vpbroadcastb : List Row :=
  [⟨.evex, .m0F38, .p66, .w0, .l128, 0x7A, .vec, .none, .gpr, .reg, false, false, false, .zero, 0, .none, .fixed 1, [.avx512vl, .avx512bw], .e7nm, false, false⟩,
   ⟨.evex, .m0F38, .p66, .w0, .l256, 0x7A, .vec, .none, .gpr, .reg, false, false, false, .zero, 0, .none, .fixed 1, [.avx512vl, .avx512bw], .e7nm, false, false⟩,
   ⟨.evex, .m0F38, .p66, .w0, .l512, 0x7A, .vec, .none, .gpr, .reg, false, false, false, .zero, 0, .none, .fixed 1, [.avx512bw], .e7nm, false, false⟩,
   ⟨.vex, .m0F38, .p66, .w0, .l128, 0x78, .vec, .none, .vec, .any, false, false, false, .none, 0, .none, .fixed 1, [.avx2], .vex 6, false, false⟩,
   ⟨.vex, .m0F38, .p66, .w0, .l256, 0x78, .vec, .none, .vec, .any, false, false, false, .none, 0, .none, .fixed 1, [.avx2], .vex 6, false, false⟩,
   ⟨.evex, .m0F38, .p66, .w0, .l128, 0x78, .vec, .none, .vec, .any, false, false, false, .zero, 0, .none, .fixed 1, [.avx512vl, .avx512bw], .e6, false, false⟩,
   ⟨.evex, .m0F38, .p66, .w0, .l256, 0x78, .vec, .none, .vec, .any, false, false, false, .zero, 0, .none, .fixed 1, [.avx512vl, .avx512bw], .e6, false, false⟩,
   ⟨.evex, .m0F38, .p66, .w0, .l512, 0x78, .vec, .none, .vec, .any, false, false, false, .zero, 0, .none, .fixed 1, [.avx512bw], .e6, false, false⟩]

/-- VPBROADCASTW (R333, R334) -/
def vpbroadcastw : List Row :=
  [⟨.evex, .m0F38, .p66, .w0, .l128, 0x7B, .vec, .none, .gpr, .reg, false, false, false, .zero, 0, .none, .fixed 1, [.avx512vl, .avx512bw], .e7nm, false, false⟩,
   ⟨.evex, .m0F38, .p66, .w0, .l256, 0x7B, .vec, .none, .gpr, .reg, false, false, false, .zero, 0, .none, .fixed 1, [.avx512vl, .avx512bw], .e7nm, false, false⟩,
   ⟨.evex, .m0F38, .p66, .w0, .l512, 0x7B, .vec, .none, .gpr, .reg, false, false, false, .zero, 0, .none, .fixed 1, [.avx512bw], .e7nm, false, false⟩,
   ⟨.vex, .m0F38, .p66, .w0, .l128, 0x79, .vec, .none, .vec, .any, false, false, false, .none, 0, .none, .fixed 1, [.avx2], .vex 6, false, false⟩,
   ⟨.vex, .m0F38, .p66, .w0, .l256, 0x79, .vec, .none, .vec, .any, false, false, false, .none, 0, .none, .fixed 1, [.avx2], .vex 6, false, false⟩,
   ⟨.evex, .m0F38, .p66, .w0, .l128, 0x79, .vec, .none, .vec, .any, false, false, false, .zero, 0, .none, .fixed 2, [.avx512vl, .avx512bw], .e6, false, false⟩,
   ⟨.evex, .m0F38, .p66, .w0, .l256, 0x79, .vec, .none, .vec, .any, false, false, false, .zero, 0, .none, .fixed 2, [.avx512vl, .avx512bw], .e6, false, false⟩,
   ⟨.evex, .m0F38, .p66, .w0, .l512, 0x79, .vec, .none, .vec, .any, false, false, false, .zero, 0, .none, .fixed 2, [.avx512bw], .e6, false, false⟩]

/-- VPBROADCASTD (R333, R334) -/
def vpbroadcastd : List Row :=
  [⟨.evex, .m0F38, .p66, .w0, .l128, 0x7C, .vec, .none, .gpr, .reg, false, false, false, .zero, 0, .none, .fixed 1, [.avx512vl, .avx512f], .e7nm, false, false⟩,
   ⟨.evex, .m0F38, .p66, .w0, .l256, 0x7C, .vec, .none, .gpr, .reg, false, false, false, .zero, 0, .none, .fixed 1, [.avx512vl, .avx512f], .e7nm, false, false⟩,
   ⟨.evex, .m0F38, .p66, .w0, .l512, 0x7C, .vec, .none, .gpr, .reg, false, false, false, .zero, 0, .none, .fixed 1, [.avx512f], .e7nm, false, false⟩,
   ⟨.vex, .m0F38, .p66, .w0, .l128, 0x58, .vec, .none, .vec, .any, false, false, false, .none, 0, .none, .fixed 1, [.avx2], .vex 6, false, false⟩,
   ⟨.vex, .m0F38, .p66, .w0, .l256, 0x58, .vec, .none, .vec, .any, false, false, false, .none, 0, .none, .fixed 1, [.avx2], .vex 6, false, false⟩,
   ⟨.evex, .m0F38, .p66, .w0, .l128, 0x58, .vec, .none, .vec, .any, false, false, false, .zero, 0, .none, .fixed 4, [.avx512vl, .avx512f], .e6, false, false⟩,
   ⟨.evex, .m0F38, .p66, .w0, .l256, 0x58, .vec, .none, .vec, .any, false, false, false, .zero, 0, .none, .fixed 4, [.avx512vl, .avx512f], .e6, false, false⟩,
   ⟨.evex, .m0F38, .p66, .w0, .l512, 0x58, .vec, .none, .vec, .any, false, false, false, .zero, 0, .none, .fixed 4, [.avx512f], .e6, false, false⟩]

/-- VPBROADCASTQ (R333, R334) -/
def vpbroadcastq : List Row :=
  [⟨.evex, .m0F38, .p66, .w1, .l128, 0x7C, .vec, .none, .gpr, .reg, false, false, false, .zero, 0, .none, .fixed 1, [.avx512vl, .avx512f], .e7nm, false, true⟩,
   ⟨.evex, .m0F38, .p66, .w1, .l256, 0x7C, .vec, .none, .gpr, .reg, false, false, false, .zero, 0, .none, .fixed 1, [.avx512vl, .avx512f], .e7nm, false, true⟩,
   ⟨.evex, .m0F38, .p66, .w1, .l512, 0x7C, .vec, .none, .gpr, .reg, false, false, false, .zero, 0, .none, .fixed 1, [.avx512f], .e7nm, false, true⟩,
   ⟨.vex, .m0F38, .p66, .w0, .l128, 0x59, .vec, .none, .vec, .any, false, false, false, .none, 0, .none, .fixed 1, [.avx2], .vex 6, false, false⟩,
   ⟨.vex, .m0F38, .p66, .w0, .l256, 0x59, .vec, .none, .vec, .any, false, false, false, .none, 0, .none, .fixed 1, [.avx2], .vex 6, false, false⟩,
   ⟨.evex, .m0F38, .p66, .w1, .l128, 0x59, .vec, .none, .vec, .any, false, false, false, .zero, 0, .none, .fixed 8, [.avx512vl, .avx512f], .e6, false, false⟩,
   ⟨.evex, .m0F38, .p66, .w1, .l256, 0x59, .vec, .none, .vec, .any, false, false, false, .zero, 0, .none, .fixed 8, [.avx512vl, .avx512f], .e6, false, false⟩,
   ⟨.evex, .m0F38, .p66, .w1, .l512, 0x59, .vec, .none, .vec, .any, false, false, false, .zero, 0, .none, .fixed 8, [.avx512f], .e6, false, false⟩]

/-- VBROADCASTI32x2 (R334) -/
def vbroadcasti32x2 : List Row :=
  [⟨.evex, .m0F38, .p66, .w0, .l128, 0x59, .vec, .none, .vec, .any, false, false, false, .zero, 0, .none, .fixed 8, [.avx512vl, .avx512dq], .e6, false, false⟩,
   ⟨.evex, .m0F38, .p66, .w0, .l256, 0x59, .vec, .none, .vec, .any, false, false, false, .zero, 0, .none, .fixed 8, [.avx512vl, .avx512dq], .e6, false, false⟩,
   ⟨.evex, .m0F38, .p66, .w0, .l512, 0x59, .vec, .none, .vec, .any, false, false, false, .zero, 0, .none, .fixed 8, [.avx512dq], .e6, false, false⟩]

/-- VBROADCASTI128 (R334) -/
def vbroadcasti128 : List Row :=
  [⟨.vex, .m0F38, .p66, .w0, .l256, 0x5A, .vec, .none, .vec, .mem, false, false, false, .none, 0, .none, .fixed 1, [.avx2], .vex 6, false, false⟩]

/-- VBROADCASTI32X4 (R334) -/
def vbroadcasti32x4 : List Row :=
  [⟨.evex, .m0F38, .p66, .w0, .l256, 0x5A, .vec, .none, .vec, .mem, false, false, false, .zero, 0, .none, .fixed 16, [.avx512vl, .avx512f], .e6, false, false⟩,
   ⟨.evex, .m0F38, .p66, .w0, .l512, 0x5A, .vec, .none, .vec, .mem, false, false, false, .zero, 0, .none, .fixed 16, [.avx512f], .e6, false, false⟩]

/-- VBROADCASTI64X2 (R334) -/
def vbroadcasti64x2 : List Row :=
  [⟨.evex, .m0F38, .p66, .w1, .l256, 0x5A, .vec, .none, .vec, .mem, false, false, false, .zero, 0, .none, .fixed 16, [.avx512vl, .avx512dq], .e6, false, false⟩,
   ⟨.evex, .m0F38, .p66, .w1, .l512, 0x5A, .vec, .none, .vec, .mem, false, false, false, .zero, 0, .none, .fixed 16, [.avx512dq], .e6, false, false⟩]

/-- VBROADCASTI32X8 (R334) -/
def vbroadcasti32x8 : List Row :=
  [⟨.evex, .m0F38, .p66, .w0, .l512, 0x5B, .vec, .none, .vec, .mem, false, false, false, .zero, 0, .none, .fixed 32, [.avx512dq], .e6, false, false⟩]

/-- VBROADCASTI64X4 (R334) -/
def vbroadcasti64x4 : List Row :=
  [⟨.evex, .m0F38, .p66, .w1, .l512, 0x5B, .vec, .none, .vec, .mem, false, false, false, .zero, 0, .none, .fixed 32, [.avx512f], .e6, false, false⟩]

end Sys2Proof.Machine.Rows
end

