-- ==== Sys2Proof/Machine/Bits.lean ====
section
/-! DEFINITION. Bit fields, vector elements and byte order: the slices `X[h:l]` and elements `X.e[j]` of
spec/00_scope.md R8 and spec/41_addpd_to_vpbroadcast.md R300. -/

namespace Sys2Proof.Machine

/-- Element `j` of width `w`: bits `w*j+w-1 : w*j` (R300). -/
def elem (w j : Nat) {n : Nat} (v : BitVec n) : BitVec w := v.extractLsb' (w * j) w

/-- The vector whose elements 0 to `n - 1` of width `w` are given, zero above them. -/
def pack (w : Nat) : Nat → (Nat → BitVec w) → ZWord
  | 0, _ => 0
  | n + 1, f => pack w n f ||| ((f n).setWidth 512 <<< (w * n))

/-- The vector whose elements of width `w` are listed, element 0 first. -/
def packList (w : Nat) : Nat → List (BitVec w) → ZWord
  | _, [] => 0
  | j, x :: xs => (x.setWidth 512 <<< (w * j)) ||| packList w (j + 1) xs

/-- The vector with element `j` replaced. -/
def setElem (w j : Nat) (x : BitVec w) (v : ZWord) : ZWord :=
  (v &&& ~~~((BitVec.allOnes w).setWidth 512 <<< (w * j))) ||| (x.setWidth 512 <<< (w * j))

/-- The low `n` bits of a vector, zero above. -/
def lowBits (n : Nat) (v : ZWord) : ZWord := v &&& ((1#512 <<< n) - 1)

/-- The mask whose bit `j` is `f j` for `j < n`, zero above: an opmask destination (R27). -/
def packMask : Nat → (Nat → Bool) → KWord
  | 0, _ => 0
  | n + 1, f => packMask n f ||| ((if f n then 1#64 else 0#64) <<< n)

/-- How many of bits 0 to `n - 1` of a mask are set. -/
def popCount : Nat → KWord → Nat
  | 0, _ => 0
  | n + 1, k => popCount n k + (if k.getLsbD n then 1 else 0)

/-- Byte `i` of a value as it lies in memory: the byte at the operand's address plus `i` (R70). -/
def byteAt (i : Nat) (v : ZWord) : Byte := elem 8 i v

/-- The value whose bytes are listed with their offsets, zero elsewhere (R70). -/
def fromBytes : List (Nat × Byte) → ZWord
  | [] => 0
  | (i, b) :: bs => (b.setWidth 512 <<< (8 * i)) ||| fromBytes bs

/-- Absolute value of a two's-complement number, `-2^(w-1)` mapping to itself. -/
def absBits {w : Nat} (x : BitVec w) : BitVec w := if x.msb then -x else x

/-- The nearest integer that fits a signed `w`-bit number (signed saturation). -/
def satS (w : Nat) (x : Int) : BitVec w :=
  if x < -(2 ^ (w - 1) : Nat) then BitVec.ofNat w (2 ^ (w - 1))
  else if x > (2 ^ (w - 1) : Nat) - 1 then BitVec.ofNat w (2 ^ (w - 1) - 1)
  else BitVec.ofInt w x

/-- The nearest integer that fits an unsigned `w`-bit number (unsigned saturation). -/
def satU (w : Nat) (x : Int) : BitVec w :=
  if x < 0 then 0
  else if x > (2 ^ w : Nat) - 1 then BitVec.allOnes w
  else BitVec.ofInt w x

/-- All ones or all zeros: the result of a vector compare in a vector register. -/
def boolMask (w : Nat) (b : Bool) : BitVec w := if b then BitVec.allOnes w else 0

end Sys2Proof.Machine
end

