-- ==== Sys2Proof/Machine/Float.lean ====
section
/-! DEFINITION. IEEE 754 arithmetic as spec/41_addpd_to_vpbroadcast.md R306 to R308 and spec/60_exceptions.md R1550 to
R1561 describe it: exact values, one rounding, the exception conditions of one element. -/

namespace Sys2Proof.Machine

/-- A binary floating-point format of width `w`: exponent bits and fraction bits (R307). -/
structure Fmt (w : Nat) where
  ebits : Nat
  mbits : Nat
deriving DecidableEq, Repr

/-- Half precision, binary16. -/
def f16 : Fmt 16 := ⟨5, 10⟩
/-- Single precision, binary32. -/
def f32 : Fmt 32 := ⟨8, 23⟩
/-- Double precision, binary64. -/
def f64 : Fmt 64 := ⟨11, 52⟩

/-- The rounding modes in the order of their code (R306, Table 4-7). -/
inductive Rc where
  | nearest | down | up | zero
deriving DecidableEq, Repr

/-- The rounding mode a two-bit code selects. -/
def Rc.ofBits (b : BitVec 2) : Rc :=
  if b = 0 then .nearest else if b = 1 then .down else if b = 2 then .up else .zero

/-- What the result of one element depends on beside its operands: the rounding mode, DAZ, FZ, whether underflow is masked
(R306, R1560, R1561). -/
structure FpEnv where
  rc : Rc
  daz : Bool
  fz : Bool
  um : Bool
deriving DecidableEq, Repr

/-- The exception conditions of one element, at the positions of the MXCSR flags (R28). -/
abbrev FpFlags := BitVec 6

def FpFlags.i : FpFlags := 1
def FpFlags.d : FpFlags := 2
def FpFlags.z : FpFlags := 4
def FpFlags.o : FpFlags := 8
def FpFlags.u : FpFlags := 16
def FpFlags.p : FpFlags := 32

/-- The masked result of one element and the conditions detected. -/
structure FpRes (w : Nat) where
  val : BitVec w
  flags : FpFlags := 0
deriving DecidableEq, Repr

/-- Add conditions to a result. -/
def FpRes.and {w : Nat} (r : FpRes w) (f : FpFlags) : FpRes w := { r with flags := r.flags ||| f }

namespace Fmt

variable {w : Nat}

def bias (F : Fmt w) : Nat := 2 ^ (F.ebits - 1) - 1
def maxExp (F : Fmt w) : Nat := 2 ^ F.ebits - 1
def expField (F : Fmt w) (x : BitVec w) : Nat := (x.toNat >>> F.mbits) % 2 ^ F.ebits
def frac (F : Fmt w) (x : BitVec w) : Nat := x.toNat % 2 ^ F.mbits
def sign (_ : Fmt w) (x : BitVec w) : Bool := x.msb

/-- The number with this sign whose other bits are `mag`. -/
def make (_ : Fmt w) (neg : Bool) (mag : Nat) : BitVec w := BitVec.ofNat w ((if neg then 2 ^ (w - 1) else 0) + mag)

def isNaN (F : Fmt w) (x : BitVec w) : Bool := F.expField x == F.maxExp && F.frac x != 0
def isQNaN (F : Fmt w) (x : BitVec w) : Bool := F.isNaN x && x.getLsbD (F.mbits - 1)
def isSNaN (F : Fmt w) (x : BitVec w) : Bool := F.isNaN x && !x.getLsbD (F.mbits - 1)
def isInf (F : Fmt w) (x : BitVec w) : Bool := F.expField x == F.maxExp && F.frac x == 0
def isZero (F : Fmt w) (x : BitVec w) : Bool := F.expField x == 0 && F.frac x == 0
def isDenormal (F : Fmt w) (x : BitVec w) : Bool := F.expField x == 0 && F.frac x != 0

def zero (F : Fmt w) (neg : Bool) : BitVec w := F.make neg 0
def inf (F : Fmt w) (neg : Bool) : BitVec w := F.make neg (F.maxExp <<< F.mbits)
def maxFinite (F : Fmt w) (neg : Bool) : BitVec w := F.make neg ((F.maxExp <<< F.mbits) - 1)
/-- Plus or minus 2^`e`, for an exponent of a normal number. -/
def pow2 (F : Fmt w) (neg : Bool) (e : Int) : BitVec w := F.make neg ((e + F.bias).toNat <<< F.mbits)
/-- The QNaN real indefinite (R308). -/
def indefinite (F : Fmt w) : BitVec w := F.make true ((F.maxExp <<< F.mbits) + 2 ^ (F.mbits - 1))
/-- A NaN with the top bit of its fraction set (R308). -/
def quiet (F : Fmt w) (x : BitVec w) : BitVec w := x ||| BitVec.ofNat w (2 ^ (F.mbits - 1))

/-- The operand under MXCSR.DAZ: a denormal is a zero of the same sign (R1561). -/
def canon (F : Fmt w) (daz : Bool) (x : BitVec w) : BitVec w := if daz && F.isDenormal x then F.zero (F.sign x) else x

/-- #D: a denormal operand with DAZ = 0 (R307). -/
def den (F : Fmt w) (daz : Bool) (x : BitVec w) : FpFlags := if !daz && F.isDenormal x then FpFlags.d else 0

/-- #I for a signaling NaN (R308). -/
def snan (F : Fmt w) (x : BitVec w) : FpFlags := if F.isSNaN x then FpFlags.i else 0

end Fmt

/-- A finite real number: plus or minus `mant * 2 ^ exp`. -/
structure Num where
  neg : Bool
  mant : Nat
  exp : Int
deriving DecidableEq, Repr

/-- The value of a finite number. -/
def Fmt.num {w : Nat} (F : Fmt w) (x : BitVec w) : Num :=
  if F.expField x = 0 then ⟨F.sign x, F.frac x, 1 - (F.bias : Int) - F.mbits⟩
  else ⟨F.sign x, 2 ^ F.mbits + F.frac x, (F.expField x : Int) - F.bias - F.mbits⟩

/-- `m / 2 ^ sh` rounded to an integer, and whether that is inexact. -/
def shiftRound (rc : Rc) (neg : Bool) (m : Nat) (sh : Int) : Nat × Bool :=
  match sh with
  | .negSucc k => (m <<< (k + 1), false)
  | .ofNat k =>
    let q := m >>> k
    let r := m % 2 ^ k
    let up := match rc with
      | .nearest => 2 * r > 2 ^ k || (2 * r == 2 ^ k && q % 2 == 1)
      | .down => neg && r != 0
      | .up => !neg && r != 0
      | .zero => false
    (if up then q + 1 else q, r != 0)

/-- The result of an overflow (R1551): infinity or the largest finite number by rounding mode. -/
def Fmt.overflow {w : Nat} (F : Fmt w) (rc : Rc) (neg : Bool) : BitVec w :=
  match rc, neg with
  | .nearest, _ | .down, true | .up, false => F.inf neg
  | _, _ => F.maxFinite neg

/-- ROUND ONCE to the format (R307, R1551, R1561): overflow, tininess after rounding, underflow, inexactness, and the flush
to zero. -/
def Fmt.round {w : Nat} (F : Fmt w) (env : FpEnv) (n : Num) : FpRes w :=
  if n.mant = 0 then ⟨F.zero n.neg, 0⟩
  else
    let top : Int := n.mant.log2 + n.exp
    let emin : Int := 1 - (F.bias : Int)
    let q : Int := max top emin - F.mbits
    let (k, inexact) := shiftRound env.rc n.neg n.mant (q - n.exp)
    let mag := ((q + F.mbits + F.bias - 1).toNat <<< F.mbits) + k
    let p := if inexact then FpFlags.p else 0
    if mag ≥ F.maxExp <<< F.mbits then ⟨F.overflow env.rc n.neg, FpFlags.o ||| FpFlags.p⟩
    else
      let carries := (shiftRound env.rc n.neg n.mant (top - F.mbits - n.exp)).1 ≥ 2 ^ (F.mbits + 1)
      let tiny := top < emin && !(top == emin - 1 && carries)
      if tiny && env.fz && env.um then ⟨F.zero n.neg, FpFlags.u ||| FpFlags.p⟩
      else ⟨F.make n.neg mag, p ||| (if tiny && (inexact || !env.um) then FpFlags.u else 0)⟩

namespace Num

/-- The signed mantissa of a number brought to a lower exponent. -/
def scaled (a : Num) (e : Int) : Int :=
  let m : Nat := a.mant <<< (a.exp - e).toNat
  if a.neg then -(m : Int) else m

/-- The exact sum; an exact zero from operands of unlike sign is +0, or -0 under round-down (R320). -/
def add (rc : Rc) (a b : Num) : Num :=
  let e := min a.exp b.exp
  let s := a.scaled e + b.scaled e
  if s = 0 then ⟨if a.neg == b.neg then a.neg else rc == .down, 0, e⟩ else ⟨s < 0, s.natAbs, e⟩

/-- The exact product. -/
def mul (a b : Num) : Num := ⟨a.neg != b.neg, a.mant * b.mant, a.exp + b.exp⟩

/-- A quotient cut after more than `bits` bits, its lowest bit set when something was cut off: it rounds as the exact
quotient does. -/
def div (bits : Nat) (a b : Num) : Num :=
  let sh := bits + b.mant.log2 + 4
  let q := (a.mant <<< sh) / b.mant
  let r := (a.mant <<< sh) % b.mant
  ⟨a.neg != b.neg, if a.mant = 0 then 0 else 2 * q + (if r = 0 then 0 else 1), a.exp - b.exp - sh - 1⟩

/-- The largest `s` below `2 ^ n` times 2 added to `acc` with `s * s ≤ x`, bit by bit. -/
def isqrtFrom (x : Nat) : Nat → Nat → Nat
  | 0, acc => acc
  | n + 1, acc =>
    let t := acc + 2 ^ n
    isqrtFrom x n (if t * t ≤ x then t else acc)

/-- The integer square root. -/
def isqrt (x : Nat) : Nat := isqrtFrom x (x.log2 / 2 + 1) 0

/-- A square root cut after more than `bits` bits, its lowest bit set when something was cut off. -/
def sqrt (bits : Nat) (a : Num) : Num :=
  let odd := a.exp % 2 != 0
  let m := (if odd then 2 * a.mant else a.mant) <<< (2 * (bits + 4))
  let e := if odd then a.exp - 1 else a.exp
  let r := isqrt m
  ⟨false, if a.mant = 0 then 0 else 2 * r + (if r * r = m then 0 else 1), e / 2 - (bits + 4) - 1⟩

/-- `|a| < |b|`. -/
def absLt (a b : Num) : Bool :=
  let e := min a.exp b.exp
  a.mant <<< (a.exp - e).toNat < b.mant <<< (b.exp - e).toNat

/-- `a < b` as real numbers. -/
def lt (a b : Num) : Bool :=
  let e := min a.exp b.exp
  a.scaled e < b.scaled e

/-- The number rounded to an integer, and whether that is inexact. -/
def toInt (rc : Rc) (a : Num) : Int × Bool :=
  let (k, inexact) := shiftRound rc a.neg a.mant (-a.exp)
  (if a.neg then -(k : Int) else k, inexact)

/-- An integer as a number. -/
def ofInt (x : Int) : Num := ⟨x < 0, x.natAbs, 0⟩

end Num

namespace Fmt

variable {w : Nat}

/-- The NaN rule of two-source arithmetic (R308): the first NaN operand made quiet; #I for a signaling one. -/
def nan2 (F : Fmt w) (a b : BitVec w) : Option (FpRes w) :=
  if F.isNaN a then some ⟨F.quiet a, F.snan a ||| F.snan b⟩
  else if F.isNaN b then some ⟨F.quiet b, F.snan b⟩
  else none

/-- An invalid operation on operands that are no NaN (R308). -/
def invalid (F : Fmt w) : FpRes w := ⟨F.indefinite, FpFlags.i⟩

/-- Two-source arithmetic: DAZ, the NaN rule, then the operation on what is left; #D for a denormal operand (R307,
R308). -/
def binary (F : Fmt w) (env : FpEnv) (a b : BitVec w) (op : BitVec w → BitVec w → FpRes w) : FpRes w :=
  let r := match F.nan2 a b with
    | some r => r
    | none => op (F.canon env.daz a) (F.canon env.daz b)
  r.and (F.den env.daz a ||| F.den env.daz b)

/-- Addition (R320). -/
def add (F : Fmt w) (env : FpEnv) (a b : BitVec w) : FpRes w :=
  F.binary env a b fun a b =>
    if F.isInf a && F.isInf b && F.sign a != F.sign b then F.invalid
    else if F.isInf a then ⟨a, 0⟩
    else if F.isInf b then ⟨b, 0⟩
    else F.round env ((F.num a).add env.rc (F.num b))

/-- The number with the other sign; a NaN is left as it is. -/
def negate (F : Fmt w) (x : BitVec w) : BitVec w := if F.isNaN x then x else x ^^^ BitVec.ofNat w (2 ^ (w - 1))

/-- Subtraction (R970 to R973). -/
def sub (F : Fmt w) (env : FpEnv) (a b : BitVec w) : FpRes w := F.add env a (F.negate b)

/-- Multiplication (R603 to R606). -/
def mul (F : Fmt w) (env : FpEnv) (a b : BitVec w) : FpRes w :=
  F.binary env a b fun a b =>
    let neg := F.sign a != F.sign b
    if (F.isInf a && F.isZero b) || (F.isZero a && F.isInf b) then F.invalid
    else if F.isInf a || F.isInf b then ⟨F.inf neg, 0⟩
    else F.round env ((F.num a).mul (F.num b))

/-- Division (R348 to R351). -/
def div (F : Fmt w) (env : FpEnv) (a b : BitVec w) : FpRes w :=
  F.binary env a b fun a b =>
    let neg := F.sign a != F.sign b
    if (F.isInf a && F.isInf b) || (F.isZero a && F.isZero b) then F.invalid
    else if F.isInf a then ⟨F.inf neg, 0⟩
    else if F.isInf b then ⟨F.zero neg, 0⟩
    else if F.isZero b then ⟨F.inf neg, FpFlags.z⟩
    else F.round env ((F.num a).div F.mbits (F.num b))

/-- Square root (R867 to R870). -/
def sqrt (F : Fmt w) (env : FpEnv) (a : BitVec w) : FpRes w :=
  let x := F.canon env.daz a
  let r :=
    if F.isNaN x then ⟨F.quiet x, F.snan x⟩
    else if F.isZero x then ⟨x, 0⟩
    else if F.sign x then F.invalid
    else if F.isInf x then ⟨x, 0⟩
    else F.round env ((F.num x).sqrt F.mbits)
  r.and (F.den env.daz a)

/-- Fused multiply-add `x*y + z` with the product and the addend negated as asked (R432, D26). -/
def fma (F : Fmt w) (env : FpEnv) (negProd negAdd : Bool) (x y z : BitVec w) : FpRes w :=
  let a := F.canon env.daz x
  let b := F.canon env.daz y
  let c := F.canon env.daz z
  let badProd := (F.isInf a && F.isZero b) || (F.isZero a && F.isInf b)
  let neg := (F.sign a != F.sign b) != negProd
  let negC := F.sign c != negAdd
  let i := F.snan x ||| F.snan y ||| F.snan z ||| (if badProd then FpFlags.i else 0)
  let r : FpRes w :=
    if F.isNaN x then ⟨F.quiet x, i⟩
    else if F.isNaN y then ⟨F.quiet y, i⟩
    else if F.isNaN z then ⟨F.quiet z, i⟩
    else if badProd then F.invalid
    else if F.isInf a || F.isInf b then
      (if F.isInf c && neg != negC then F.invalid else ⟨F.inf neg, 0⟩)
    else if F.isInf c then ⟨F.inf negC, 0⟩
    else
      let p := (F.num a).mul (F.num b)
      F.round env (Num.add env.rc { p with neg := neg } { F.num c with neg := negC })
  r.and (F.den env.daz x ||| F.den env.daz y ||| F.den env.daz z)

/-- The comparison of two operands (R340): unordered, less, equal, greater. -/
inductive Cmp where
  | unordered | lt | eq | gt
deriving DecidableEq, Repr

/-- Compare two numbers; zeros are equal whatever their signs (R340). -/
def compare (F : Fmt w) (daz : Bool) (a b : BitVec w) : Cmp :=
  let x := F.canon daz a
  let y := F.canon daz b
  -- an infinity's fields read as a number lie beyond every finite number's
  if F.isNaN x || F.isNaN y then .unordered
  else if (F.num x).lt (F.num y) then .lt
  else if (F.num y).lt (F.num x) then .gt
  else .eq

end Fmt

end Sys2Proof.Machine
end

