-- ==== Sys2Proof/Machine/FloatOps.lean ====
section
/-! DEFINITION. The floating-point functions of single instruction groups: compares, minimum and maximum, conversions,
classification, fix-up, exponent and mantissa, range, reduce, rounding to a scale, scaling, and the approximations with
the bounds the spec gives them. -/

namespace Sys2Proof.Machine

namespace Fmt

variable {w : Nat}

/-! ### Comparison, minimum, maximum -/

/-- The columns GT, LT, EQ, UN and Sig of one line of Table 5-3. -/
structure Predicate where
  gt : Bool
  lt : Bool
  eq : Bool
  un : Bool
  sig : Bool
deriving DecidableEq, Repr

/-- Table 5-3 (R340): lines 00H to 0FH; lines 10H to 1FH have the same relations and the other Sig. -/
def predicate (p : Nat) : Predicate :=
  let base : Predicate := match p % 16 with
    | 0 => ⟨false, false, true, false, false⟩
    | 1 => ⟨false, true, false, false, true⟩
    | 2 => ⟨false, true, true, false, true⟩
    | 3 => ⟨false, false, false, true, false⟩
    | 4 => ⟨true, true, false, true, false⟩
    | 5 => ⟨true, false, true, true, true⟩
    | 6 => ⟨true, false, false, true, true⟩
    | 7 => ⟨true, true, true, false, false⟩
    | 8 => ⟨false, false, true, true, false⟩
    | 9 => ⟨false, true, false, true, true⟩
    | 10 => ⟨false, true, true, true, true⟩
    | 11 => ⟨false, false, false, false, false⟩
    | 12 => ⟨true, true, false, false, false⟩
    | 13 => ⟨true, false, true, false, true⟩
    | 14 => ⟨true, false, false, false, true⟩
    | _ => ⟨true, true, true, true, false⟩
  if p < 16 then base else { base with sig := !base.sig }

/-- CMP(P, A, B) and its conditions (R340): #I for a signaling NaN, and for a quiet one when the predicate signals. -/
def cmp (F : Fmt w) (daz : Bool) (p : Nat) (a b : BitVec w) : Bool × FpFlags :=
  let q := predicate p
  let r := match F.compare daz a b with
    | .gt => q.gt
    | .lt => q.lt
    | .eq => q.eq
    | .unordered => q.un
  let i := F.isSNaN a || F.isSNaN b || (q.sig && (F.isNaN a || F.isNaN b))
  (r, (if i then FpFlags.i else 0) ||| F.den daz a ||| F.den daz b)

/-- MIN or MAX (R540): the second operand for two zeros or a NaN, which is not made quiet. -/
def minMax (F : Fmt w) (max : Bool) (env : FpEnv) (a b : BitVec w) : FpRes w :=
  let x := F.canon env.daz a
  let y := F.canon env.daz b
  let first := F.compare env.daz a b == (if max then .gt else .lt)
  { val := if first then x else y
    flags := (if F.isNaN a || F.isNaN b then FpFlags.i else 0) ||| F.den env.daz a ||| F.den env.daz b }

/-! ### Conversions (R360) -/

/-- FP2SI and FP2UI: the integer, or the integer indefinite with #I. -/
def toInteger (F : Fmt w) (env : FpEnv) (trunc signed : Bool) (v : Nat) (x : BitVec w) : FpRes v :=
  let indefinite : FpRes v := ⟨if signed then BitVec.ofNat v (2 ^ (v - 1)) else BitVec.allOnes v, FpFlags.i⟩
  if F.isNaN x || F.isInf x then indefinite
  else
    let (n, inexact) := (F.num (F.canon env.daz x)).toInt (if trunc then .zero else env.rc)
    let ok := if signed then -(2 ^ (v - 1) : Int) ≤ n && n < 2 ^ (v - 1) else 0 ≤ n && n < 2 ^ v
    if ok then ⟨BitVec.ofInt v n, if inexact then FpFlags.p else 0⟩ else indefinite

/-- SI2FP and UI2FP. -/
def ofInteger (F : Fmt w) (env : FpEnv) (x : Int) : FpRes w := F.round env (Num.ofInt x)

/-- The same NaN in another format, quiet: its sign and the upper fraction bits are kept (R360 (d), (e) between single and
double precision). DESIGN CHOICE: half precision is treated alike, for which R370 gives no NaN result
(notes/assumptions/42.md). -/
def nanTo {v : Nat} (F : Fmt w) (G : Fmt v) (x : BitVec w) : BitVec v :=
  let f := if F.mbits ≤ G.mbits then F.frac x <<< (G.mbits - F.mbits) else F.frac x >>> (F.mbits - G.mbits)
  G.quiet (G.make (F.sign x) ((G.maxExp <<< G.mbits) + f))

/-- S2D and D2S: conversion between formats, #D for a denormal source where `reportDen` (R360 (d) (e)). -/
def convert {v : Nat} (F : Fmt w) (G : Fmt v) (env : FpEnv) (reportDen : Bool) (a : BitVec w) : FpRes v :=
  let x := F.canon env.daz a
  let r :=
    if F.isNaN x then ⟨F.nanTo G x, F.snan x⟩
    else if F.isInf x then ⟨G.inf (F.sign x), 0⟩
    else G.round env (F.num x)
  r.and (if reportDen then F.den env.daz a else 0)

/-! ### Classification and fix-up -/

/-- CheckFPClass (R500). -/
def classify (F : Fmt w) (daz : Bool) (imm : BitVec 8) (a : BitVec w) : Bool :=
  let x := F.canon daz a
  let neg := F.sign x
  (imm.getLsbD 0 && F.isQNaN x) || (imm.getLsbD 1 && !neg && F.isZero x) || (imm.getLsbD 2 && neg && F.isZero x) ||
  (imm.getLsbD 3 && !neg && F.isInf x) || (imm.getLsbD 4 && neg && F.isInf x) || (imm.getLsbD 5 && F.isDenormal x) ||
  (imm.getLsbD 6 && neg && F.expField x != F.maxExp && !F.isZero x) || (imm.getLsbD 7 && F.isSNaN x)

/-- The token of a source of VFIXUPIMM (R424 step 2). -/
def fixupToken (F : Fmt w) (x : BitVec w) : Nat :=
  if F.isQNaN x then 0
  else if F.isSNaN x then 1
  else if F.isZero x then 2
  else if x == F.pow2 false 0 then 3
  else if x == F.inf true then 4
  else if x == F.inf false then 5
  else if F.sign x then 6
  else 7

/-- PI/2 in the format (R424). -/
def halfPi (F : Fmt w) : BitVec w := if F.ebits = 11 then BitVec.ofNat w 0x3FF921FB54442D18 else BitVec.ofNat w 0x3FC90FDB

/-- FIXUPIMM (R424). -/
def fixup (F : Fmt w) (daz : Bool) (imm : BitVec 8) (dest src tbl : BitVec w) : FpRes w :=
  let x := if daz && F.expField src == 0 then F.zero false else src
  let t := F.fixupToken x
  let val := match (tbl.toNat >>> (4 * t)) % 16 with
    | 0 => dest
    | 1 => x
    | 2 => F.quiet x
    | 3 => F.indefinite
    | 4 => F.inf true
    | 5 => F.inf false
    | 6 => F.inf (F.sign x)
    | 7 => F.zero true
    | 8 => F.zero false
    | 9 => F.pow2 true 0
    | 10 => F.pow2 false 0
    | 11 => F.pow2 false (-1)
    | 12 => (F.round ⟨.nearest, false, false, true⟩ ⟨false, 90, 0⟩).val
    | 13 => F.halfPi
    | 14 => F.maxFinite false
    | _ => F.maxFinite true
  let z := (t == 2 && imm.getLsbD 0) || (t == 3 && imm.getLsbD 2)
  let i := (t == 2 && imm.getLsbD 1) || (t == 3 && imm.getLsbD 3) || (t == 1 && imm.getLsbD 4) ||
    (t == 4 && imm.getLsbD 5) || (t == 6 && imm.getLsbD 6) || (t == 5 && imm.getLsbD 7)
  ⟨val, (if z then FpFlags.z else 0) ||| (if i then FpFlags.i else 0)⟩

/-! ### Exponent, mantissa -/

/-- GETEXP (R514). -/
def getExp (F : Fmt w) (env : FpEnv) (x : BitVec w) : FpRes w :=
  if F.isNaN x then ⟨F.quiet x, F.snan x⟩
  else if F.isInf x then ⟨F.inf false, 0⟩
  else if F.isZero (F.canon env.daz x) then ⟨F.inf true, 0⟩
  else
    let n := F.num x
    (F.ofInteger ⟨.nearest, false, false, true⟩ (n.mant.log2 + n.exp)).and (F.den env.daz x)

/-- The exponent GETMANT gives its result (R519 step 7). -/
def getMantExp (F : Fmt w) (interv : Nat) (odd top : Bool) : Nat :=
  match interv with
  | 0 => F.bias
  | 1 => if odd then F.bias - 1 else F.bias
  | 2 => F.bias - 1
  | _ => if top then F.bias - 1 else F.bias

/-- GETMANT (R519, D27). A denormal with DAZ = 1 is a zero of the same sign (D27), which sc[1] does not reject (step 3). DEDUCED:
D27 goes before the words "normal or denormal" of step 4, and its magnitude is the one R519's last sentence gives
(notes/assumptions/44.md). -/
def getMant (F : Fmt w) (env : FpEnv) (imm : BitVec 8) (a : BitVec w) : FpRes w :=
  let interv := imm.toNat % 4
  let neg := F.sign a && !imm.getLsbD 2
  let x := F.canon env.daz a
  if F.isNaN a then ⟨F.quiet a, F.snan a⟩
  else if F.isInf a || F.isZero a then
    if F.isInf a && F.sign a && imm.getLsbD 3 then F.invalid else ⟨F.pow2 neg 0, 0⟩
  else if F.isZero x then ⟨F.make neg (F.getMantExp interv true false <<< F.mbits), 0⟩
  else if F.sign a && imm.getLsbD 3 then F.invalid
  else
    let n := F.num x
    let e := n.mant.log2 + n.exp
    let f := (n.mant <<< (F.mbits - n.mant.log2)) % 2 ^ F.mbits
    let m := (F.getMantExp interv (e % 2 != 0) (f ≥ 2 ^ (F.mbits - 1)) <<< F.mbits) + f
    ⟨F.make neg m, F.den env.daz a⟩

/-! ### Range, reduce, round to scale, scale -/

/-- The number with its sign bit set as given. -/
def withSign (F : Fmt w) (neg : Bool) (x : BitVec w) : BitVec w := F.make neg (x.toNat % 2 ^ (w - 1))

/-- Steps 3 to 6 of RANGE (R900). -/
def rangePick (F : Fmt w) (ctl : Nat) (a b : BitVec w) : BitVec w :=
  let x := if ctl ≥ 2 then F.withSign false a else a
  let y := if ctl ≥ 2 then F.withSign false b else b
  let le := F.compare false x y != .gt
  if F.isNaN b then a
  else if F.isNaN a then b
  else if F.isZero a && F.isZero b && F.sign a != F.sign b then F.zero (ctl % 2 == 0)
  else if ctl ≥ 2 && x == y && F.sign a != F.sign b then F.withSign (ctl == 2) a
  else if ctl % 2 == 0 then (if le then a else b)
  else (if le then b else a)

/-- RANGE (R900, D55, D56). -/
def range (F : Fmt w) (env : FpEnv) (imm : BitVec 8) (a b : BitVec w) : FpRes w :=
  if F.isSNaN a then ⟨F.quiet a, FpFlags.i⟩
  else if F.isSNaN b then ⟨F.quiet b, FpFlags.i⟩
  else
    let t := F.rangePick (imm.toNat % 4) (F.canon env.daz a) (F.canon env.daz b)
    let v := match imm.toNat / 4 % 4 with
      | 0 => F.withSign (F.sign a) t
      | 1 => t
      | 2 => F.withSign false t
      | _ => F.withSign true t
    ⟨v, (if F.isNaN b then 0 else F.den env.daz a) ||| (if F.isNaN a then 0 else F.den env.daz b)⟩

/-- The rounding mode that imm8 of VREDUCE and VRNDSCALE selects (R910, R915). -/
def immRc (env : FpEnv) (imm : BitVec 8) : Rc :=
  if imm.getLsbD 2 then env.rc else Rc.ofBits (imm.extractLsb' 0 2)

/-- `x` rounded to a multiple of `2 ^ -m`, as an exact number (R910, R915). -/
def roundToScale (rc : Rc) (m : Nat) (n : Num) : Num × Bool :=
  let (k, inexact) := shiftRound rc n.neg n.mant (-(n.exp + m))
  (⟨n.neg, k, -(m : Int)⟩, inexact)

/-- REDUCE (R910, D57). DESIGN CHOICE: MXCSR.FZ does not flush a denormal result; R910 does not name FZ and Table 5-24 gives
Src1 itself, while R28 and R1561 flush tiny results (notes/assumptions/37.md). -/
def reduce (F : Fmt w) (env : FpEnv) (imm : BitVec 8) (a : BitVec w) : FpRes w :=
  let x := F.canon env.daz a
  let rc := immRc env imm
  if F.isNaN x then ⟨F.quiet x, F.snan x⟩
  else if F.isInf x then ⟨F.zero false, 0⟩
  else
    let n := F.num x
    let t := (roundToScale rc (imm.toNat / 16) n).1
    let d := n.add rc { t with neg := !t.neg }
    if d.mant = 0 then ⟨F.zero (rc == .down), 0⟩
    else
      let r := F.round { env with rc := rc, fz := false } d
      ⟨r.val, if imm.getLsbD 3 then 0 else r.flags &&& FpFlags.p⟩

/-- RNDSCALE (R915). -/
def rndScale (F : Fmt w) (env : FpEnv) (imm : BitVec 8) (a : BitVec w) : FpRes w :=
  let x := F.canon env.daz a
  if F.isNaN x then ⟨F.quiet x, F.snan x⟩
  else if F.isInf x || F.isZero x then ⟨x, 0⟩
  else
    let (t, inexact) := roundToScale (immRc env imm) (imm.toNat / 16) (F.num x)
    ⟨(F.round ⟨.nearest, false, false, true⟩ t).val, if inexact && !imm.getLsbD 3 then FpFlags.p else 0⟩

/-- floor of a finite number, cut to plus or minus 2^13: beyond it every finite number overflows or underflows (R925). -/
def floorClamped (F : Fmt w) (b : BitVec w) : Int :=
  let n := F.num b
  if n.mant ≠ 0 ∧ n.mant.log2 + n.exp ≥ 13 then (if n.neg then -8192 else 8192) else (n.toInt .down).1

/-- SCALE (R925, D58). -/
def scale (F : Fmt w) (env : FpEnv) (a b : BitVec w) : FpRes w :=
  let x := F.canon env.daz a
  let y := F.canon env.daz b
  let i := F.snan a ||| F.snan b
  let r : FpRes w :=
    if F.isNaN x then ⟨F.quiet x, i⟩
    else if F.isNaN y then ⟨F.quiet y, i⟩
    else if F.isInf x then (if F.isInf y && F.sign y then F.invalid else ⟨x, 0⟩)
    else if F.isZero x then (if F.isInf y && !F.sign y then F.invalid else ⟨x, 0⟩)
    else if F.isInf y then ⟨if F.sign y then F.zero (F.sign x) else F.inf (F.sign x), 0⟩
    else
      let n := F.num x
      F.round env { n with exp := n.exp + F.floorClamped y }
  r.and (F.den env.daz a)

/-! ### Approximations -/

/-- `|p - 1| < 2 ^ -k` for a positive number. -/
def nearOne (k : Nat) (p : Num) : Bool :=
  let d := p.add .nearest ⟨true, 1, 0⟩
  !p.neg && (Num.mk false d.mant d.exp).absLt ⟨false, 1, -(k : Int)⟩

/-- `(1 - 2 ^ -k) ^ 2 < p < (1 + 2 ^ -k) ^ 2` for a positive number. -/
def nearOneSq (k : Nat) (p : Num) : Bool :=
  !p.neg && (Num.mk false ((2 ^ k - 1) ^ 2) (-(2 * k : Int))).absLt p &&
    p.absLt ⟨false, (2 ^ k + 1) ^ 2, -(2 * k : Int)⟩

/-- A power of two. -/
def isPow2 (n : Num) : Bool := n.mant == 2 ^ n.mant.log2

/-- Rounding to nearest with nothing else in force. -/
def plainEnv : FpEnv := ⟨.nearest, false, false, true⟩

/-- The reciprocal of a finite non-zero number, rounded. -/
def rcpRounded (F : Fmt w) (rc : Rc) (x : BitVec w) : BitVec w :=
  (F.round { plainEnv with rc := rc } (Num.div F.mbits ⟨false, 1, 0⟩ (F.num x))).val

/-- An approximation of the reciprocal of a finite non-zero number: `best`, which is exact there, for a power of two; else
the implementation's value where it is within `2 ^ -k` of the true one and of a kind `ok` allows, and `best` where it is not
(R905, R1403). -/
def rcpApprox (F : Fmt w) (k : Nat) (best : BitVec w) (ok : BitVec w → Bool) (impl : BitVec w → BitVec w) (x : BitVec w) :
    BitVec w :=
  let n := F.num x
  let r := impl x
  if isPow2 n then best
  else if F.expField r != F.maxExp && ok r && nearOne k ((F.num r).mul n) then r
  else best

/-- The reciprocal square root of a positive finite number, likewise (R920, R1404). -/
def rsqrtApprox (F : Fmt w) (k : Nat) (impl : BitVec w → BitVec w) (x : BitVec w) : BitVec w :=
  let n := F.num x
  let best := (F.round plainEnv (Num.div F.mbits ⟨false, 1, 0⟩ (n.sqrt (2 * F.mbits)))).val
  let exact := isPow2 n && (n.mant.log2 + n.exp) % 2 == 0
  let root := (F.num x).exp + n.mant.log2
  let r := impl x
  if exact then F.pow2 false (-(root / 2))
  else if F.expField r != F.maxExp && !F.sign r && nearOneSq k (((F.num r).mul (F.num r)).mul n) then r
  else best

/-- The magnitude of a finite number is above `2 ^ (bias - 1)`, 2^1022 or 2^126: its reciprocal underflows (R905, R1403). -/
def rcpUnderflows (F : Fmt w) (x : BitVec w) : Bool := (Num.mk false 1 (F.bias - 1 : Int)).absLt (F.num x)

/-- A number with its fraction cut to the upper 18 bits. -/
def top18 (F : Fmt w) (x : BitVec w) : BitVec w := x &&& ~~~BitVec.ofNat w (2 ^ (F.mbits - 18) - 1)

/-- RCP14 where the reciprocal underflows and is not flushed (R905, Tables 5-22 and 5-23): a denormal approximation of which
"up to 18 bits of fractions are returned". DEDUCED: those are the upper 18 bits of the fraction field, the bits below are
zero (notes/assumptions/26.md). -/
def rcp14Tiny (F : Fmt w) (impl : BitVec w → BitVec w) (x : BitVec w) : BitVec w :=
  F.rcpApprox 14 (F.top18 (F.rcpRounded .zero x)) (fun r => F.isDenormal r && F.top18 r == r) impl x

/-- RCP14 (R905): where the reciprocal underflows, a denormal approximation, or with FZ a zero of its sign. -/
def rcp14 (F : Fmt w) (env : FpEnv) (impl : BitVec w → BitVec w) (a : BitVec w) : BitVec w :=
  let x := F.canon env.daz a
  if F.isNaN x then F.quiet x
  else if F.isInf x then F.zero (F.sign x)
  else if F.isZero x then F.inf (F.sign x)
  else if !(Num.mk false 1 (-(F.bias + 1 : Int))).absLt (F.num x) then F.inf (F.sign x)
  else if F.rcpUnderflows x then (if env.fz then F.zero (F.sign x) else F.rcp14Tiny impl x)
  else F.rcpApprox 14 (F.rcpRounded .nearest x) (fun _ => true) impl x

/-- RSQRT14 (R920). -/
def rsqrt14 (F : Fmt w) (env : FpEnv) (impl : BitVec w → BitVec w) (a : BitVec w) : BitVec w :=
  let x := F.canon env.daz a
  if F.isNaN x then F.quiet x
  else if F.isZero x then F.inf (F.sign x)
  else if F.sign x then F.indefinite
  else if F.isInf x then F.zero false
  else F.rsqrtApprox 14 impl x

/-- The bound of the 28-bit approximations on the written value: 2^-28, or 2^-23 in single precision (R1403, R1404). -/
def bound28 (F : Fmt w) : Nat := if F.ebits = 11 then 28 else 23

/-- RCP28 (R1401, R1403): a result is never denormal; it is a zero exactly where the reciprocal underflows. -/
def rcp28 (F : Fmt w) (impl : BitVec w → BitVec w) (a : BitVec w) : FpRes w :=
  let x := F.canon true a
  if F.isNaN x then ⟨F.quiet x, F.snan x⟩
  else if F.isInf x then ⟨F.zero (F.sign x), 0⟩
  else if F.isZero x then ⟨F.inf (F.sign x), FpFlags.z⟩
  else if F.rcpUnderflows x then ⟨F.zero (F.sign x), 0⟩
  else ⟨F.rcpApprox F.bound28 (F.rcpRounded .nearest x) (fun r => F.expField r != 0) impl x, 0⟩

/-- RSQRT28 (R1401, R1404). -/
def rsqrt28 (F : Fmt w) (impl : BitVec w → BitVec w) (a : BitVec w) : FpRes w :=
  let x := F.canon true a
  if F.isNaN x then ⟨F.quiet x, F.snan x⟩
  else if F.isZero x then ⟨F.inf (F.sign x), FpFlags.z⟩
  else if F.sign x then F.invalid
  else if F.isInf x then ⟨F.zero false, 0⟩
  else ⟨F.rsqrtApprox F.bound28 impl x, 0⟩

/-- Multiply `acc` by the square roots of `c` that the top bits of the 64-bit fraction `f` select; numbers carry 96
fraction bits. -/
def exp2Loop : Nat → Nat → Nat → Nat → Nat
  | 0, _, _, acc => acc
  | n + 1, c, f, acc =>
    let c' := Num.isqrt (c <<< 96)
    exp2Loop n c' f (if f.testBit n then (acc * c') >>> 96 else acc)

/-- `2 ^ x` with a relative error below `2 ^ -58`. -/
def exp2Near (x : Num) : Num :=
  let (k, _) := shiftRound (if x.neg then .up else .zero) false x.mant (-(x.exp + 64))
  let v : Int := if x.neg then -(k : Int) else k
  ⟨false, exp2Loop 64 (2 ^ 97) (v % 2 ^ 64).toNat (2 ^ 96), v / 2 ^ 64 - 96⟩

/-- `|r - p| < c * 2 ^ -56 * p` for a positive `p`. -/
def within56 (c : Nat) (r p : Num) : Bool :=
  let d := r.add .nearest { p with neg := !p.neg }
  (Num.mk false d.mant (d.exp + 56)).absLt ⟨false, p.mant * c, p.exp⟩

/-- `|r - 2 ^ x| < 2 ^ -23 * 2 ^ x` for a positive `r`, exactly: with `x = n / q` and `q` a power of two, the powers
`(1 - 2 ^ -23) ^ q * 2 ^ n < r ^ q < (1 + 2 ^ -23) ^ q * 2 ^ n` are compared. -/
def within23Exact (r x : Num) : Bool :=
  let q : Nat := 2 ^ (-x.exp).toNat
  let n : Int := if x.neg then -(x.mant : Int) else x.mant
  let p : Num := ⟨false, r.mant ^ q, r.exp * q⟩
  (Num.mk false ((2 ^ 23 - 1) ^ q) (n - 23 * q)).absLt p && p.absLt ⟨false, (2 ^ 23 + 1) ^ q, n - 23 * q⟩

/-- THE BOUND OF R1402 on a positive number `r` as a value of `2 ^ x`. The cut value `exp2Near x`, whose relative error is
below 2^-58, decides it except in the sliver between 2^-23 - 2^-56 and 2^-23 + 2^-56 around it, where the exact comparison
does. -/
def within23 (r x : Num) : Bool :=
  within56 (2 ^ 33 - 1) r (exp2Near x) || (within56 (2 ^ 33 + 1) r (exp2Near x) && within23Exact r x)

/-- EXP2_23 (R1401, R1402). -/
def exp2 (F : Fmt w) (rc : Rc) (impl : BitVec w → BitVec w) (a : BitVec w) : FpRes w :=
  let x := F.canon true a
  let n := F.num x
  let (v, inexact) := n.toInt .down
  if F.isNaN x then ⟨F.quiet x, F.snan x⟩
  else if F.isInf x then ⟨if F.sign x then F.zero false else F.inf false, 0⟩
  else if v > F.bias then ⟨F.overflow rc false, FpFlags.o⟩
  else if v < 1 - (F.bias : Int) then ⟨F.zero false, 0⟩
  else if !inexact then ⟨F.pow2 false v, 0⟩
  else
    let r := impl x
    if F.expField r != F.maxExp && F.expField r != 0 && !F.sign r && within23 (F.num r) n then ⟨r, 0⟩
    else ⟨(F.round { plainEnv with rc := .zero } (exp2Near n)).val, 0⟩

end Fmt

end Sys2Proof.Machine
end

