-- ==== Sys2Proof/Machine/State.lean ====
section
/-! DEFINITION. The machine's state as plain data (spec/10_state.md, spec/20_memory.md), its reset value
(spec/70_reset_and_hazards.md), and the reasons a step can stop. -/

namespace Sys2Proof.Machine

/-- The operating modes the exception conditions distinguish (R12, R71, R1510). -/
inductive Mode where
  | real | virtual8086 | protectedMode | compatibility | long64
deriving DecidableEq, Repr

/-- A segment register as far as the spec uses it: its base, its limit and whether it holds a null selector (R133,
R1510 (g), (h), R1533). -/
structure Segment where
  base : Word
  limit : BitVec 32
  isNull : Bool
deriving DecidableEq, Repr

/-- The six segment registers (R71). -/
structure Segments where
  es : Segment
  cs : Segment
  ss : Segment
  ds : Segment
  fs : Segment
  gs : Segment
deriving DecidableEq, Repr

/-- The exceptions of R1500. -/
inductive Exc where
  /-- #UD, vector 6 -/
  | ud
  /-- #NM, vector 7 -/
  | nm
  /-- #SS(0), vector 12 -/
  | ss
  /-- #GP(0), vector 13 -/
  | gp
  /-- #PF(fault-code), vector 14 -/
  | pf (code : BitVec 32)
  /-- #AC(0), vector 17 -/
  | ac
  /-- #XM, vector 19 -/
  | xm
deriving DecidableEq, Repr

/-- What an exception hands to the environment function `Deliver` (D30, R1501): the exception, the address of the
faulting instruction, for #PF the faulting linear address, and the RF bit of the saved flags. -/
structure Trap where
  exc : Exc
  pc : Word
  addr : Option Word
  /-- EFLAGS.RF in the saved flags image (R95, R505) -/
  rf : Bool
deriving DecidableEq, Repr

/-- How the machine left the instruction stream: a trapped state (D30), or a VM exit with its basic reason (R1585). -/
inductive Event where
  | trap (t : Trap)
  | vmExit (reason : Nat)
deriving DecidableEq, Repr

/-- The faults `Translate` may answer (D15). -/
inductive TranslateFault where
  /-- #PF(code) -/
  | pf (code : BitVec 32)
  /-- #GP(0) -/
  | gp
  /-- #SS(0) -/
  | ss
deriving DecidableEq, Repr

/-- One region of the environment function `Translate` (D15, R108) as plain data: linear addresses `base` to
`base + size - 1` go to physical addresses from `phys` on, or raise the fault listed for a read, a write or a fetch at the
current privilege level (0 to 3). An address in no region goes to itself. -/
structure Region where
  base : Nat
  size : Nat
  phys : Nat
  onRead : Vector (Option TranslateFault) 4
  onWrite : Vector (Option TranslateFault) 4
  onFetch : Vector (Option TranslateFault) 4
  /-- the accessed flag of the translation, which a load and CLWB set (R108, R1481, notes/assumptions/29.md) -/
  accessed : Bool
  /-- the dirty flag of the translation, which a load and CLWB leave as it is (R108, R1481) -/
  dirty : Bool
deriving DecidableEq, Repr

/-- How far the newest store to a byte of persistent memory is known to have come (R100 to R104). -/
inductive Durability where
  /-- globally visible at the latest, not known to be accepted to memory -/
  | stored
  /-- a non-temporal store or one to memory that is not write-back, or a flush that covers the store, was executed and is not
  known to be globally visible -/
  | draining
  /-- accepted to memory (R101) -/
  | accepted
  /-- a PCOMMIT was executed after the store was accepted and is not known to be globally visible -/
  | committing
  /-- persistent (R102) -/
  | persistent
deriving DecidableEq, Repr

/-- The memory types R101 distinguishes, and WP, which R571 names (notes/assumptions/40.md). -/
inductive MemType where
  /-- write-back -/
  | wb
  /-- write-through -/
  | wt
  /-- write-combining -/
  | wc
  /-- uncacheable -/
  | uc
  /-- write-protected: the spec names it and does not say what it is -/
  | wp
deriving DecidableEq, Repr

/-- Memory: (physical address, byte) pairs, addresses strictly rising, no byte equal to what an unlisted address reads
as (zero, notes/assumptions/9.md). -/
abbrev Memory := List Host.Cell

/-- The machine. -/
structure State where
  /-- RAX, RCX, RDX, RBX, RSP, RBP, RSI, RDI, R8 to R15 (R20) -/
  gpr : Vector Word 16
  /-- the instruction pointer (R22, D2) -/
  pc : Word
  /-- the model's own: the address of the instruction after the one being executed -/
  npc : Word
  /-- EFLAGS (R23) -/
  eflags : BitVec 32
  /-- ZMM0 to ZMM31; YMM and XMM are their low bits (R24) -/
  zmm : Vector ZWord 32
  /-- k0 to k7 (R26) -/
  k : Vector KWord 8
  /-- MXCSR (R28) -/
  mxcsr : BitVec 32
  /-- XCR0 (R30) -/
  xcr0 : Word
  /-- CR0: EM, TS, AM (R33) -/
  cr0 : Word
  /-- CR2: the faulting linear address of #PF (R1501) -/
  cr2 : Word
  /-- CR4: OSFXSR, OSXMMEXCPT, OSXSAVE (R32), PKE (R202; its bit 22 is PRESUMED, notes/assumptions/35.md) -/
  cr4 : Word
  /-- the operating mode (R12) -/
  mode : Mode
  /-- outside 64-bit mode, the code segment's default size is 16 bits (R71, R130) -/
  code16 : Bool
  /-- the current privilege level (R1570) -/
  cpl : BitVec 2
  segs : Segments
  /-- IA32_BIOS_SIGN_ID (R34, R239) -/
  biosSignId : Word
  /-- IA32_FEATURE_CONTROL: LOCK and PCOMMIT_ENABLE (R35) -/
  featureControl : Word
  /-- IA32_MISC_ENABLES: BOOT_NT4 (R214) -/
  miscEnables : Word
  /-- IA32_XSS (R30, R225) -/
  xss : Word
  /-- the secondary processor-based VM-execution controls: bit 21 is PCOMMIT exiting (R36, R1585) -/
  vmxControls2 : BitVec 32
  /-- VMX non-root operation (R1585) -/
  vmxNonRoot : Bool
  /-- execution inside an SGX enclave (R1586) -/
  inEnclave : Bool
  /-- the contents of physical memory (R70, R71) -/
  mem : Memory
  /-- the environment function `Translate` (R108, D15) -/
  regions : List Region
  /-- PMEM_RANGES: first address and size of each persistent range (R71, D12) -/
  pmem : List (Nat × Nat)
  /-- the memory types of the address ranges that are not write-back (R101): first address, size and type of each -/
  memTypes : List (Nat × Nat × MemType)
  /-- for bytes of persistent memory stored to since reset: how far the newest store has come (R100 to R104); addresses
  strictly rising -/
  durability : List (Nat × Durability)
  /-- the CPUID data of this part (R7, R202) -/
  cpu : CpuInfo
  /-- a pending exception or VM exit: the terminal trapped state of D30 -/
  event : Option Event
deriving DecidableEq, Repr

/-- Why the machine stops with a fault. -/
inductive Fault where
  /-- The machine is in the trapped state of D30 (or has left VMX non-root operation): an earlier step took an exception,
  and what `Deliver` does next is outside the spec (R1505). Raised by `step` only. Safe: the hardware goes on, the model
  says nothing more. -/
  | trapped (e : Event)
deriving DecidableEq, Repr

/-- Why the machine refuses to give a meaning. -/
inductive Refusal where
  /-- An instruction of the opcode table that has no meaning yet. Raised by `exec` only. Safe. -/
  | notModelled (mnemonic : String)
  /-- Bytes of the legacy opcode space that are no row of the table (R151, U1): the base architecture's, outside this
  spec. Raised by `step`. Safe. -/
  | unknownOpcode
  /-- PREFETCHWT1's opcode 0F 0D with a ModR/M byte other than /2 with a memory operand: "unpredictable behavior"
  (R151, U2). Raised by `step`. Safe. -/
  | unpredictablePrefetch
  /-- The state is in 64-bit mode on a part whose CPUID.80000001H:EDX[29] is 0: that mode does not exist there (R235), so
  no such machine exists. Raised by `step`. Safe. -/
  | noSuchMode
deriving DecidableEq, Repr

/-- A flat segment: the value every segment register holds at reset (notes/assumptions/6.md). -/
def Segment.flat : Segment := { base := 0, limit := 0xFFFFFFFF, isNull := false }

/-- Configuration CFG-ALL (R250, D54): every feature of this spec present. AVX2's own flag (leaf 07H EBX bit 5) is not
among the bits R250 sets, and AVX2 is present all the same (notes/assumptions/12.md). DESIGN CHOICE: PCOMMIT is supported, and the
microcode revision and the APIC identifier, which R250 does not give, are 0 (notes/assumptions/50.md). -/
def CpuInfo.cfgAll : CpuInfo where
  maxBasic := 0xD
  maxExt := 0x80000008
  entries :=
    [⟨0x1, 0, 0, 0, 0x34181201, 0x07000001⟩,
     ⟨0x7, 0, 0, 0xFD230000, 0x3, 0⟩,
     ⟨0xD, 0, 0xE7, 0, 2688, 0⟩,
     ⟨0xD, 2, 256, 576, 0, 0⟩,
     ⟨0xD, 5, 64, 1088, 0, 0⟩,
     ⟨0xD, 6, 512, 1152, 0, 0⟩,
     ⟨0xD, 7, 1024, 1664, 0, 0⟩,
     ⟨0x80000001, 0, 0, 0, 0, 0x20000000⟩,
     ⟨0x80000008, 0, 0x3028, 0, 0, 0⟩]
  avx2Unlisted := true
  pcommitSupported := true
  microcode := 0
  apicId := 0

/-- The machine right after reset: the values of R1600 and D7 to D10; where the spec gives none, the values
notes/assumptions/2.md to 9.md name. DESIGN CHOICE: the part is CFG-ALL, which D54 fixes for the test vectors only
(notes/assumptions/50.md). -/
def State.reset : State where
  gpr := Vector.replicate 16 0
  pc := 0
  npc := 0
  eflags := 0x2
  zmm := Vector.replicate 32 0
  k := Vector.replicate 8 0
  mxcsr := 0x1F80
  xcr0 := 1
  cr0 := 0
  cr2 := 0
  cr4 := 0
  mode := .long64
  code16 := false
  cpl := 0
  segs := ⟨.flat, .flat, .flat, .flat, .flat, .flat⟩
  biosSignId := 0
  featureControl := 0
  miscEnables := 0
  xss := 0
  vmxControls2 := 0
  vmxNonRoot := false
  inEnclave := false
  mem := []
  regions := []
  pmem := []
  memTypes := []
  durability := []
  cpu := CpuInfo.cfgAll
  event := none

end Sys2Proof.Machine
end

