-- ==== Sys2Proof/Machine/Ops.lean ====
section
/-! DEFINITION. The named operations every meaning uses: registers, memory and its checks, the durability of stores,
taking an exception and resuming after one, feature flags and the enabling checks. -/

namespace Sys2Proof.Machine

/-- A condition that ends an instruction with an exception, before the address of the instruction is added. -/
structure Abort where
  exc : Exc
  addr : Option Word := none
  rf : Bool := false
deriving DecidableEq, Repr

/-! ### Registers -/

/-- General register `n`; numbers 16 to 31 do not exist and are read modulo 16 (R20). -/
def State.getGpr (s : State) (n : Fin 32) : Word := s.gpr.get (Fin.ofNat 16 n.val)

/-- Write all 64 bits of a general register. -/
def State.setGpr (s : State) (n : Fin 32) (v : Word) : State :=
  { s with gpr := s.gpr.set (n.val % 16) v (Nat.mod_lt _ (by decide)) }

/-- Vector register `n`, all 512 bits (R24). -/
def State.getZ (s : State) (n : Fin 32) : ZWord := s.zmm.get n

/-- Write all 512 bits of a vector register. -/
def State.setZ (s : State) (n : Fin 32) (v : ZWord) : State := { s with zmm := s.zmm.set n.val v n.isLt }

/-- Opmask register `n` modulo 8 (R26). -/
def State.getK (s : State) (n : Fin 32) : KWord := s.k.get (Fin.ofNat 8 n.val)

/-- Write all 64 bits of an opmask register. -/
def State.setK (s : State) (n : Fin 32) (v : KWord) : State :=
  { s with k := s.k.set (n.val % 8) v (Nat.mod_lt _ (by decide)) }

/-- Write a vector register's low `vl` bits and what R25 puts above them: zeros, or for a legacy form the old
contents. -/
def State.putVec (s : State) (sp : Space) (n : Fin 32) (vl : Nat) (v : ZWord) : State :=
  match sp with
  | .legacy => s.setZ n (((s.getZ n >>> vl) <<< vl) ||| lowBits vl v)
  | _ => s.setZ n (lowBits vl v)

/-- The writemask of an instruction: all ones for aaa = 000b, whatever k0 holds (R26, R122). -/
def State.writemask (s : State) (o : Operands) : KWord :=
  if o.aaa = 0 then BitVec.allOnes 64 else s.k.get o.aaa

/-! ### Exceptions -/

/-- The vector number of an exception (R1500). -/
def Exc.vector : Exc → Nat
  | .ud => 6
  | .nm => 7
  | .ss => 12
  | .gp => 13
  | .pf _ => 14
  | .ac => 17
  | .xm => 19

/-- The error code an exception supplies (R1500). -/
def Exc.errorCode : Exc → Option (BitVec 32)
  | .ss | .gp | .ac => some 0
  | .pf c => some c
  | _ => none

/-- TAKING AN EXCEPTION (R1501, R1505, D30). The instruction ends where it stands: the pc keeps the address of the
faulting instruction, #PF puts the faulting linear address in CR2, and the machine enters the trapped state that holds
what `Deliver` receives. Every other effect is one the caller already made (R1501). -/
def State.raise (s : State) (a : Abort) : State :=
  { s with
    cr2 := match a.exc with
      | .pf _ => a.addr.getD s.cr2
      | _ => s.cr2
    event := some (.trap { exc := a.exc, pc := s.pc, addr := a.addr, rf := a.rf }) }

/-- RESUMING AFTER AN EXCEPTION (R22, R1506): the handler returns to the saved address, where the instruction is executed
again. What the handler does is outside the spec. -/
def State.resume (s : State) : State :=
  match s.event with
  | some (.trap t) => { s with pc := t.pc, event := none }
  | _ => s

/-- A completed instruction: the next sequential instruction follows (R22, R112). -/
def State.retire (s : State) : State :=
  match s.event with
  | none => { s with pc := s.npc }
  | some _ => s

/-- Run a body that may end in an exception: the exception is taken, or the instruction completes. -/
def State.finish (s : State) (r : Except Abort State) : Host.Outcome State Fault Refusal :=
  match r with
  | .error a => .next (s.raise a)
  | .ok t => .next t.retire

/-! ### Physical memory -/

/-- What an address that memory does not list reads as (notes/assumptions/9.md). -/
def Memory.blank : Byte := 0

/-- The byte at a physical address. -/
def Memory.get : Memory → Nat → Byte
  | [], _ => Memory.blank
  | (b, v) :: m, a => if a = b then v else Memory.get m a

/-- Store a byte, keeping the canonical form: addresses rising, no byte equal to `Memory.blank`. -/
def Memory.set : Memory → Nat → Byte → Memory
  | [], a, v => if v = Memory.blank then [] else [(a, v)]
  | (b, w) :: m, a, v =>
    if a < b then (if v = Memory.blank then (b, w) :: m else (a, v) :: (b, w) :: m)
    else if a = b then (if v = Memory.blank then m else (a, v) :: m)
    else (b, w) :: Memory.set m a v

/-- Every address of the memory is above `lo`, rising, and no byte is blank. -/
def Memory.wfAbove : Option Nat → Memory → Bool
  | _, [] => true
  | lo, (b, v) :: m => (match lo with
      | none => true
      | some l => l < b) && v != Memory.blank && Memory.wfAbove (some b) m

/-- The canonical form of memory. -/
def Memory.wf (m : Memory) : Bool := Memory.wfAbove none m

/-! ### Durability of stores to persistent memory -/

/-- The address lies in a persistent range (R71, D12). -/
def State.isPmem (s : State) (a : Nat) : Bool := s.pmem.any fun r => r.1 ≤ a && a < r.1 + r.2

/-- Record how far the newest store to an address has come. -/
def setDurability : List (Nat × Durability) → Nat → Durability → List (Nat × Durability)
  | [], a, d => [(a, d)]
  | (b, e) :: m, a, d =>
    if a < b then (a, d) :: (b, e) :: m
    else if a = b then (a, d) :: m
    else (b, e) :: setDurability m a d

/-- The memory type of a physical address (R101): that of the first listed range that holds it, write-back where none does
(N34, D12, notes/assumptions/40.md). -/
def State.memType (s : State) (a : Nat) : MemType :=
  match s.memTypes.find? fun r => r.1 ≤ a && a < r.1 + r.2.1 with
  | some r => r.2.2
  | none => .wb

/-- A store after which a fence suffices for acceptance to memory (R101): to UC, WC or WT memory, or a non-temporal one to WB
memory. DESIGN CHOICE: WP memory overrides the non-temporal hint, as R571 says it can, and a store to it is accepted as an
ordinary store to WB memory is; R101 does not name WP (notes/assumptions/40.md). -/
def State.storesThrough (s : State) (nt : Bool) (a : Nat) : Bool :=
  match s.memType a with
  | .wb => nt
  | .wp => false
  | .wt | .wc | .uc => true

/-- Store one byte at a physical address: an ordinary store, or a non-temporal one (R96, R101). -/
def State.storeByte (s : State) (nt : Bool) (a : Nat) (v : Byte) : State :=
  { s with
    mem := s.mem.set a v
    durability :=
      if s.isPmem a then setDurability s.durability a (if s.storesThrough nt a then .draining else .stored)
      else s.durability }

/-- A flush of one cache line (R101, R103, R106): the stores to the line are being written back. -/
def State.writeBackLine (s : State) (line size : Nat) : State :=
  { s with durability := s.durability.map fun e =>
      if line ≤ e.1 && e.1 < line + size && e.2 == .stored then (e.1, .draining) else e }

/-- PCOMMIT (R102, R104): what was accepted to memory before it is being committed. -/
def State.commitStores (s : State) : State :=
  { s with durability := s.durability.map fun e => if e.2 == .accepted then (e.1, .committing) else e }

/-- A serializing instruction (R99, R201): everything executed before it is globally visible, so write-backs and
non-temporal stores are accepted to memory and commits have made their stores persistent (R101, R102). -/
def State.serialize (s : State) : State :=
  { s with durability := s.durability.map fun e =>
      match e.2 with
      | .draining => (e.1, .accepted)
      | .committing => (e.1, .persistent)
      | d => (e.1, d) }

/-! ### Linear addresses and translation -/

/-- The bits an address of this size keeps (R72, R133). -/
def truncAddr (a : ASize) (x : Word) : Word :=
  match a with
  | .a16 => x &&& 0xFFFF
  | .a32 => x &&& 0xFFFFFFFF
  | .a64 => x

/-- The contents of a segment register. -/
def State.segment (s : State) : SegReg → Segment
  | .es => s.segs.es
  | .cs => s.segs.cs
  | .ss => s.segs.ss
  | .ds => s.segs.ds
  | .fs => s.segs.fs
  | .gs => s.segs.gs

/-- The base a segment adds: in 64-bit mode only FS and GS have one (R133). -/
def State.segBase (s : State) (g : SegReg) : Word :=
  match s.mode, g with
  | .long64, .fs => s.segs.fs.base
  | .long64, .gs => s.segs.gs.base
  | .long64, _ => 0
  | _, g => (s.segment g).base

/-- Base plus index times scale plus displacement, cut to the address size (R72, R131, R133). The index is a parameter: a
general register, or an element of a VSIB index vector. -/
def State.effective (s : State) (m : MemOp) (idx : Word) : Word :=
  let base := match m.base with
    | .none => 0
    | .gpr n => s.gpr.get n
    | .rip => s.npc
  truncAddr m.asize (base + (idx <<< m.scale.val) + m.disp)

/-- The effective address of an ordinary memory operand (R130, R131). -/
def State.ea (s : State) (m : MemOp) : Word :=
  s.effective m (match m.index with
    | some n => s.getGpr n
    | none => 0)

/-- The linear address of byte `i` of an operand at effective address `ea` (R133). -/
def State.linear (s : State) (g : SegReg) (ea : Word) (i : Nat) : Word :=
  let a := s.segBase g + ea + BitVec.ofNat 64 i
  if s.mode = .long64 then a else a &&& 0xFFFFFFFF

/-- The number of linear-address bits of the part: CPUID.80000008H:EAX[15:8], 48 where it reads 0 (R237). -/
def linAddrBits (c : CpuInfo) : Nat :=
  match c.entries.find? fun e => e.leaf == 0x80000008 with
  | some e => let n := (elem 8 1 e.eax).toNat; if n = 0 then 48 else n
  | none => 48

/-- A canonical address: the bits above the linear-address width repeat its top bit (R108). -/
def canonical (bits : Nat) (a : Word) : Bool :=
  let top := a.toNat / 2 ^ (bits - 1)
  top == 0 || top == 2 ^ (65 - bits) - 1

/-- The segment checks on byte `i` of an operand (R108, R1510 (g) and (h), R1533): canonical form in 64-bit mode; the
limit and null selectors in protected and compatibility mode; offsets to FFFFH in real-address and virtual-8086 mode. The
spec names the null-selector fault for class K21 and DS, ES, FS, GS only; DESIGN CHOICE: it is raised for every class, and
for CS (#GP) and SS (#SS) too (notes/assumptions/34.md). -/
def State.segFault (s : State) (g : SegReg) (ea : Word) (i : Nat) : Option Abort :=
  let bad : Abort := { exc := if g = .ss then .ss else .gp }
  match s.mode with
  | .long64 => if canonical (linAddrBits s.cpu) (s.linear g ea i) then none else some bad
  | .real | .virtual8086 => if ea.toNat + i ≤ 0xFFFF then none else some { exc := .gp }
  | _ =>
    if (s.segment g).isNull then some bad
    else if ea.toNat + i ≤ (s.segment g).limit.toNat then none else some bad

/-- The kinds of access `Translate` distinguishes (D15). -/
inductive Access where
  | read | write | fetch
deriving DecidableEq, Repr

/-- The exception a fault of `Translate` is. -/
def TranslateFault.exc : TranslateFault → Exc
  | .pf c => .pf c
  | .gp => .gp
  | .ss => .ss

/-- What a region raises for an access at a privilege level (D15). -/
def Region.fault (r : Region) (cpl : BitVec 2) (acc : Access) : Option Exc :=
  ((match acc with
    | .read => r.onRead
    | .write => r.onWrite
    | .fetch => r.onFetch).get (Fin.ofNat 4 cpl.toNat)).map TranslateFault.exc

/-- A linear address lies in a region. -/
def Region.holds (r : Region) (lin : Word) : Bool := r.base ≤ lin.toNat && lin.toNat < r.base + r.size

/-- `Translate` (R108, D15): the physical address of a linear address, or the fault of its region. DESIGN CHOICE: in every mode,
real-address mode too, for which R1481 lists no #PF (notes/assumptions/48.md). -/
def State.translate (s : State) (acc : Access) (lin : Word) : Except Abort Nat :=
  match s.regions.find? fun r => r.holds lin with
  | none => .ok lin.toNat
  | some r =>
    match r.fault s.cpl acc with
    | some e => .error { exc := e, addr := some lin }
    | none => .ok (r.phys + (lin.toNat - r.base))

/-- The regions with the accessed flag set in the one that translates an address; the dirty flag stays (R108, R1481). -/
def markAccessed (lin : Word) : List Region → List Region
  | [] => []
  | r :: rs => if r.holds lin then { r with accessed := true } :: rs else r :: markAccessed lin rs

/-- The same for each of several addresses. -/
def markAll (lins : List Word) (rs : List Region) : List Region := lins.foldl (fun rs a => markAccessed a rs) rs

/-- Set the accessed flags of the translations of these linear addresses (R108). -/
def State.marked (s : State) (lins : List Word) : State := { s with regions := markAll lins s.regions }

/-- The same after an instruction that completed. DESIGN CHOICE: one that takes an exception has marked no translation, as it
has changed no register and no memory (R1501, notes/assumptions/29.md). -/
def State.noteRead (s : State) (lins : List Word) : State :=
  match s.event with
  | none => s.marked lins
  | some _ => s

/-- A body that uses what a load answered: the value, and the linear addresses it read, whose accessed flags are set when the
body completes (R108, R1572). -/
def loading {α : Type} (x : Except Abort (α × List Word)) (body : α → State) : Except Abort State :=
  x.map fun b => (body b.1).noteRead b.2

/-- `Translate` on each byte of an operand, lowest first (R1540). -/
def State.translateAll (s : State) (acc : Access) (g : SegReg) (ea : Word) : List Nat → Except Abort (List (Nat × Nat))
  | [] => .ok []
  | i :: is =>
    match s.translate acc (s.linear g ea i) with
    | .error a => .error a
    | .ok p =>
      match s.translateAll acc g ea is with
      | .error a => .error a
      | .ok ps => .ok ((i, p) :: ps)

/-- Alignment checking is enabled: CR0.AM, EFLAGS.AC and CPL 3 (R78). -/
def State.acEnabled (s : State) : Bool := s.cr0.getLsbD 18 && s.eflags.getLsbD 18 && s.cpl == 3

/-- THE CHECKS ON A MEMORY OPERAND (R74, R78, R85, R1540, D34): alignment to `align` bytes (1 where none is asked),
segment and canonical form, translation, then #AC for a reference of `ac` bytes (0 where the class has no #AC row). `offs`
are the offsets of the bytes accessed; a masked-off element's bytes are not among them. Answers the physical address of
each byte. DESIGN CHOICE: the segment and canonical checks of all bytes come before the translation of any, as D34 orders the
exceptions, also where R1540's last sentence would let a lower byte's page fault decide, and the alignment check comes before
them (notes/assumptions/46.md). -/
def State.checkMem (s : State) (acc : Access) (g : SegReg) (ea : Word) (offs : List Nat) (align ac : Nat) :
    Except Abort (List (Nat × Nat)) :=
  if (s.linear g ea 0).toNat % align ≠ 0 then .error { exc := .gp }
  else match offs.findSome? (s.segFault g ea) with
    | some a => .error a
    | none =>
      match s.translateAll acc g ea offs with
      | .error a => .error a
      | .ok ps =>
        if offs ≠ [] ∧ ac ≠ 0 ∧ s.acEnabled ∧ (s.linear g ea 0).toNat % ac ≠ 0 then .error { exc := .ac }
        else .ok ps

/-- Read the listed bytes of a memory operand; bytes not listed are zero in the answer (R70, R85). Beside the value the
linear addresses read are answered (R108). -/
def State.readMem (s : State) (g : SegReg) (ea : Word) (offs : List Nat) (align ac : Nat) :
    Except Abort (ZWord × List Word) :=
  match s.checkMem .read g ea offs align ac with
  | .error a => .error a
  | .ok ps => .ok (fromBytes (ps.map fun p => (p.1, s.mem.get p.2)), offs.map (s.linear g ea))

/-- Store bytes of a value at physical addresses. -/
def State.storeBytes (s : State) (nt : Bool) (v : ZWord) : List (Nat × Nat) → State
  | [] => s
  | p :: ps => (s.storeByte nt p.2 (byteAt p.1 v)).storeBytes nt v ps

/-- Write the listed bytes of a value to a memory operand; no byte is written unless all may be (R84, R1501). -/
def State.writeMem (s : State) (nt : Bool) (g : SegReg) (ea : Word) (offs : List Nat) (align ac : Nat) (v : ZWord) :
    Except Abort State :=
  match s.checkMem .write g ea offs align ac with
  | .error a => .error a
  | .ok ps => .ok (s.storeBytes nt v ps)

/-! ### CPUID data and feature flags -/

/-- A leaf whose contents depend on the sub-leaf in ECX (R201). -/
def leafHasSub (leaf : BitVec 32) : Bool :=
  leaf == 0x4 || leaf == 0x7 || leaf == 0xB || leaf == 0xD || leaf == 0xF || leaf == 0x10 || leaf == 0x14 || leaf == 0x17

/-- The table's line for a leaf and sub-leaf, zeros where it has none (R202, D50). -/
def cpuidEntry (c : CpuInfo) (leaf sub : BitVec 32) : CpuidEntry :=
  match c.entries.find? fun e => e.leaf == leaf && (!leafHasSub leaf || e.sub == sub) with
  | some e => e
  | none => ⟨leaf, sub, 0, 0, 0, 0⟩

/-- PCOMMIT is enabled: supported, and firmware has set IA32_FEATURE_CONTROL bits 19 and 0 (R35, R1606). -/
def State.pcommitEnabled (s : State) : Bool :=
  s.cpu.pcommitSupported && s.featureControl.getLsbD 19 && s.featureControl.getLsbD 0

/-- A feature flag reads 1 (R13, R208, R209, R218, R243); every AVX-512 group needs AVX512F too (R240, D52). AVX2 is present in
CFG-ALL without its flag (R250, notes/assumptions/12.md). -/
def State.hasFeature (s : State) (f : Feature) : Bool :=
  let c1 := (cpuidEntry s.cpu 1 0).ecx
  let d1 := (cpuidEntry s.cpu 1 0).edx
  let b7 := (cpuidEntry s.cpu 7 0).ebx
  let c7 := (cpuidEntry s.cpu 7 0).ecx
  let z := b7.getLsbD 16
  match f with
  | .sse => d1.getLsbD 25
  | .sse2 => d1.getLsbD 26
  | .sse3 => c1.getLsbD 0
  | .ssse3 => c1.getLsbD 9
  | .sse41 => c1.getLsbD 19
  | .sse42 => c1.getLsbD 20
  | .avx => c1.getLsbD 28
  | .avx2 => b7.getLsbD 5 || s.cpu.avx2Unlisted
  | .fma => c1.getLsbD 12
  | .f16c => c1.getLsbD 29
  | .avx512f => z
  | .avx512cd => z && b7.getLsbD 28
  | .avx512dq => z && b7.getLsbD 17
  | .avx512bw => z && b7.getLsbD 30
  | .avx512vl => z && b7.getLsbD 31
  | .avx512ifma => z && b7.getLsbD 21
  | .avx512vbmi => z && c7.getLsbD 1
  | .avx512er => z && b7.getLsbD 27
  | .avx512pf => z && b7.getLsbD 26
  | .sha => b7.getLsbD 29
  | .prefetchwt1 => c7.getLsbD 0
  | .clwb => b7.getLsbD 24
  | .pcommit => s.pcommitEnabled
  | .clflushopt => b7.getLsbD 23

/-- The part has the Intel 64 architecture, so 64-bit mode exists on it: CPUID.80000001H:EDX[29] (R235). -/
def hasIntel64 (c : CpuInfo) : Bool := (cpuidEntry c 0x80000001 0).edx.getLsbD 29

/-- The operating mode is one the part has (R235). -/
def State.modeExists (s : State) : Bool := s.mode != .long64 || hasIntel64 s.cpu

/-! ### The checks before an instruction executes -/

/-- The processor is in real-address or virtual-8086 mode. -/
def Mode.isReal : Mode → Bool
  | .real | .virtual8086 => true
  | _ => false

/-- The operating system has enabled the state a row uses: CR4.OSXSAVE and XCR0 for VEX and EVEX (R31), CR0.EM and
CR4.OSFXSR for legacy SSE (R1534, D35); no such condition for an instruction with its own page of exceptions (R1535). -/
def State.enabled (s : State) (r : Row) : Bool :=
  match r.space with
  | .evex => !s.mode.isReal && s.cr4.getLsbD 18 && (s.xcr0 &&& 0xE7) == 0xE7
  | .vex =>
    !s.mode.isReal && s.cr4.getLsbD 18 &&
      (if r.isOpmask then (s.xcr0 &&& 0x23) == 0x23 else (s.xcr0 &&& 0x7) == 0x7)
  | .legacy => r.cls == .page || (!s.cr0.getLsbD 2 && s.cr4.getLsbD 9)

/-- CR0.TS = 1 makes the row raise #NM (R33, R1510 (f), R1534). -/
def State.deviceNotAvailable (s : State) (r : Row) : Bool := s.cr0.getLsbD 3 && r.cls != .page

/-- The row of an instruction its fields select, after the #UD and #NM checks (R150, R1510, R1540). -/
def State.gate (s : State) (rows : List Row) (o : Operands) : Except Abort Row :=
  match rows.find? fun r => r.accepts o with
  | none => .error { exc := .ud }
  | some r =>
    if r.only64 && s.mode != .long64 then .error { exc := .ud }
    else if !(r.feats.all s.hasFeature) then .error { exc := .ud }
    else if !s.enabled r then .error { exc := .ud }
    else if s.deviceNotAvailable r then .error { exc := .nm }
    else .ok r

/-- EXECUTE ONE INSTRUCTION: the checks of `gate`, then the body on the selected row. -/
def State.run (s : State) (rows : List Row) (o : Operands) (body : Row → Except Abort State) :
    Host.Outcome State Fault Refusal :=
  s.finish (match s.gate rows o with
    | .error a => .error a
    | .ok r => body r)

end Sys2Proof.Machine
end

