-- ==== Sys2Proof/Machine/Flags.lean ====
section
/-! DEFINITION. The flag computations: the response to SIMD floating-point conditions in MXCSR (spec/60_exceptions.md R1550
to R1561) and the EFLAGS results of compares and opmask tests (spec/10_state.md R23). -/

namespace Sys2Proof.Machine

/-! ### MXCSR -/

/-- MXCSR.RC (R28). -/
def State.mxcsrRc (s : State) : Rc := Rc.ofBits (s.mxcsr.extractLsb' 13 2)

/-- The conditions whose mask bit in MXCSR is clear (R28, R1550). -/
def State.unmasked (s : State) : FpFlags := ~~~(s.mxcsr.extractLsb' 7 6)

/-- What an element's result depends on (R306, R1560, R1561): static rounding takes RC from EVEX.L'L, SAE counts as all
conditions masked. -/
def State.fpEnv (s : State) (r : Row) (o : Operands) : FpEnv where
  rc := if r.rounding o && r.rnd == .er then Rc.ofBits o.ll else s.mxcsrRc
  daz := s.mxcsr.getLsbD 6
  fz := s.mxcsr.getLsbD 15
  um := r.rounding o || s.mxcsr.getLsbD 11

/-- The conditions an element reports: invalid, denormal and divide-by-zero come before computation, and an unmasked one
of them keeps the others from being reported (R1551). -/
def State.reported (s : State) (f : FpFlags) : FpFlags := if f &&& 7 &&& s.unmasked ≠ 0 then f &&& 7 else f

/-- The union of what elements 0 to `n - 1` report. -/
def orFlags (f : Nat → FpFlags) : Nat → FpFlags
  | 0 => 0
  | n + 1 => orFlags f n ||| f n

/-- Set sticky flags in MXCSR (R28). -/
def State.setMxcsrFlags (s : State) (f : FpFlags) : State := { s with mxcsr := s.mxcsr ||| f.setWidth 32 }

/-- THE RESPONSE TO SIMD FLOATING-POINT CONDITIONS (R1551, R1560): under SAE the result is written and no flag; an unmasked
condition sets the flags, writes nothing and raises #XM, or #UD when CR4.OSXMMEXCPT = 0; else flags and result are
written. -/
def State.fpRespond (s : State) (sae : Bool) (f : FpFlags) (commit : State → State) : State :=
  if sae then commit s
  else if f &&& s.unmasked ≠ 0 then
    (s.setMxcsrFlags f).raise { exc := if s.cr4.getLsbD 10 then .xm else .ud }
  else commit (s.setMxcsrFlags f)

/-! ### EFLAGS -/

/-- EFLAGS with ZF, PF, CF as given and OF, SF, AF cleared: what COMIS, UCOMIS, KORTEST and KTEST write (R23). -/
def State.setCompareFlags (s : State) (zf pf cf : Bool) : State :=
  let bit (b : Bool) (n : Nat) : BitVec 32 := if b then 1#32 <<< n else 0
  { s with eflags := (s.eflags &&& ~~~0x8D5#32) ||| bit cf 0 ||| bit pf 2 ||| bit zf 6 }

/-- The flags of an ordered or unordered compare (R346): unordered 111, greater 000, less 001, equal 100. -/
def State.setFpCompare (s : State) (c : Fmt.Cmp) : State :=
  match c with
  | .unordered => s.setCompareFlags true true true
  | .gt => s.setCompareFlags false false false
  | .lt => s.setCompareFlags false false true
  | .eq => s.setCompareFlags true false false

end Sys2Proof.Machine
end

