-- ==== Sys2Proof/Machine/Operands.lean ====
section
/-! DEFINITION. The operand forms (spec/30_encoding.md R118 to R134, spec/41_addpd_to_vpbroadcast.md R300 to R306): fetching
sources with their access checks and fault suppression, embedded broadcast, masked writes to registers and memory, and the
shapes most meanings share. -/

namespace Sys2Proof.Machine

/-! ### Sources -/

/-- The alignment asked of a memory operand of `n` bytes (R74, R77). -/
def Row.alignArg (r : Row) (n : Nat) : Nat := if r.aligned then n else 1

/-- The size for which #AC is checked, 0 where the class has no #AC row (R78). DESIGN CHOICE: the memory reference of which R78
speaks is the whole operand at its effective address, also where some of its elements are masked off
(notes/assumptions/45.md). -/
def Row.acArg (r : Row) (n : Nat) : Nat := if r.cls.ac n then n else 0

/-- The offsets of the bytes of those of `n` elements of width `w` whose bit in `k` is set, lowest first. -/
def elemOffs (w n : Nat) (k : KWord) : List Nat :=
  ((List.range n).filter fun j => k.getLsbD j).flatMap fun j => (List.range (w / 8)).map fun i => w / 8 * j + i

/-- The elements whose memory is accessed: those of the writemask where the class suppresses faults, else all (R85). -/
def State.accessMask (s : State) (r : Row) (o : Operands) : KWord :=
  if r.cls.suppress then s.writemask o else BitVec.allOnes 64

/-- Read the bytes at `offs` of a memory operand of `n` bytes: their value, and the linear addresses read. -/
def State.readOperand (s : State) (r : Row) (m : MemOp) (offs : List Nat) (n : Nat) : Except Abort (ZWord × List Word) :=
  s.readMem m.seg (s.ea m) offs (r.alignArg n) (r.acArg n)

/-- THE r/m SOURCE as `n` elements of width `w` (R300, R302): a vector register; or memory, of which masked-off elements
are not accessed under fault suppression; or one broadcast element, not accessed when every element is masked off. Beside
it the linear addresses read. -/
def State.src (s : State) (r : Row) (o : Operands) (w n : Nat) : Except Abort (ZWord × List Word) :=
  match o.rm with
  | .reg x => .ok (s.getZ x, [])
  | .mem m =>
    let k := s.accessMask r o
    if r.broadcasts o then
      let offs := if popCount n k = 0 then [] else List.range r.bcast
      (s.readOperand r m offs r.bcast).map fun v =>
        (pack (8 * r.bcast) (64 / r.bcast) fun _ => elem (8 * r.bcast) 0 v.1, v.2)
    else s.readOperand r m (elemOffs w n k) (n * w / 8)

/-- The first source: vvvv where the row has one, else the destination register itself (R303, R305). -/
def State.src1 (s : State) (r : Row) (o : Operands) : ZWord :=
  if r.vv == .vec then s.getZ o.vvvv else s.getZ o.reg

/-- A general-register or memory source of `n` bytes, zero-extended, and the linear addresses read. -/
def State.srcGpr (s : State) (r : Row) (o : Operands) (n : Nat) : Except Abort (Word × List Word) :=
  match o.rm with
  | .reg x => .ok ((s.getGpr x) &&& BitVec.ofNat 64 (2 ^ (8 * n) - 1), [])
  | .mem m => (s.readOperand r m (List.range n) n).map fun v => (v.1.setWidth 64, v.2)

/-! ### Destinations -/

/-- One element of a masked result (R122, R301): the new value, or zero or the old value. -/
def mergeElem {w : Nat} (k : KWord) (z : Bool) (j : Nat) (new old : BitVec w) : BitVec w :=
  if k.getLsbD j then new else if z then 0 else old

/-- `n` elements of width `w` under the writemask, zero above. -/
def State.merged (s : State) (o : Operands) (w n : Nat) (old : ZWord) (f : Nat → BitVec w) : ZWord :=
  let k := s.writemask o
  pack w n fun j => mergeElem k o.z j (f j) (elem w j old)

/-- Write `n` elements of width `w` to a vector register under the writemask; what lies above is R25's. -/
def State.putElemsAt (s : State) (r : Row) (o : Operands) (d : Fin 32) (w n : Nat) (f : Nat → BitVec w) : State :=
  s.putVec o.space d (r.vl o) (s.merged o w n (s.getZ d) f)

/-- The same for the destination ModRM.reg names. -/
def State.putElems (s : State) (r : Row) (o : Operands) (w n : Nat) (f : Nat → BitVec w) : State :=
  s.putElemsAt r o o.reg w n f

/-- Write a scalar result: element 0 under the writemask, bits 127 and below above it from `upper`, zeros above for VEX and
EVEX (R303, R304, R305). -/
def State.putScalar (s : State) (o : Operands) (w : Nat) (upper : ZWord) (x : BitVec w) : State :=
  s.putVec o.space o.reg 128 (setElem w 0 (mergeElem (s.writemask o) o.z 0 x (elem w 0 (s.getZ o.reg))) upper)

/-- Write an opmask register: `n` bits under the writemask, zero above (R27). -/
def State.putMask (s : State) (o : Operands) (n : Nat) (f : Nat → Bool) : State :=
  let k := s.writemask o
  s.setK o.reg (packMask n fun j => k.getLsbD j && f j)

/-- Write a general register, zero-extended to 64 bits (R21). -/
def State.putGpr {w : Nat} (s : State) (n : Fin 32) (x : BitVec w) : State := s.setGpr n (x.setWidth 64)

/-- Store `n` elements of width `w` to memory under the writemask (R84, R85): masked-off elements are not written; their
bytes are checked only where the class does not suppress faults. DESIGN CHOICE: #AC asks whether the whole operand is misaligned,
not its selected elements (R78, notes/assumptions/45.md). -/
def State.storeElems (s : State) (r : Row) (o : Operands) (m : MemOp) (nt : Bool) (w n : Nat) (v : ZWord) :
    Except Abort State :=
  let k := s.writemask o
  (s.checkMem .write m.seg (s.ea m) (elemOffs w n (s.accessMask r o)) (r.alignArg (n * w / 8))
    (r.acArg (n * w / 8))).map fun ps => s.storeBytes nt v (ps.filter fun p => k.getLsbD (p.1 / (w / 8)))

/-- Write `n` elements of width `w` to the r/m operand, a vector register or memory. -/
def State.putRM (s : State) (r : Row) (o : Operands) (nt : Bool) (w n : Nat) (f : Nat → BitVec w) : Except Abort State :=
  match o.rm with
  | .reg d => .ok (s.putElemsAt r o d w n f)
  | .mem m => s.storeElems r o m nt w n (pack w n f)

/-! ### Shapes of vector instructions -/

/-- The number of elements of width `w` in the row's vector length (R26, R300). -/
def Row.count (r : Row) (o : Operands) (w : Nat) : Nat := r.vl o / w

/-- A vector result from two sources: `g` gives element `j` from the whole sources. -/
def State.vec2 (s : State) (r : Row) (o : Operands) (w : Nat) (g : ZWord → ZWord → Nat → BitVec w) : Except Abort State :=
  loading (s.src r o w (r.count o w)) fun b => s.putElems r o w (r.count o w) (g (s.src1 r o) b)

/-- PACKED: element by element from two sources (R301, R304, R305). -/
def State.map2 (s : State) (r : Row) (o : Operands) (w : Nat) (f : BitVec w → BitVec w → BitVec w) : Except Abort State :=
  s.vec2 r o w fun a b j => f (elem w j a) (elem w j b)

/-- A vector result from one source. -/
def State.vec1 (s : State) (r : Row) (o : Operands) (w : Nat) (g : ZWord → Nat → BitVec w) : Except Abort State :=
  s.vec2 r o w fun _ b => g b

/-- Element by element from one source. -/
def State.map1 (s : State) (r : Row) (o : Operands) (w : Nat) (f : BitVec w → BitVec w) : Except Abort State :=
  s.vec1 r o w fun b j => f (elem w j b)

/-- Element by element from two sources and the destination's old contents. -/
def State.vec3 (s : State) (r : Row) (o : Operands) (w : Nat) (g : ZWord → ZWord → ZWord → Nat → BitVec w) :
    Except Abort State :=
  loading (s.src r o w (r.count o w)) fun b => s.putElems r o w (r.count o w) (g (s.getZ o.reg) (s.src1 r o) b)

/-- Elements of width `w` from elements of width `v`; the narrower ones lie at the low end (R758, R360). -/
def State.widen (s : State) (r : Row) (o : Operands) (v w : Nat) (f : BitVec v → BitVec w) : Except Abort State :=
  let n := r.count o (max v w)
  loading (s.src r o v n) fun b => s.putElems r o w n fun j => f (elem v j b)

/-- A compare: elements all ones or all zeros, or an opmask destination (R637). -/
def State.compareVec (s : State) (r : Row) (o : Operands) (w : Nat) (p : BitVec w → BitVec w → Bool) :
    Except Abort State :=
  let n := r.count o w
  loading (s.src r o w n) fun b =>
    let hit := fun j => p (elem w j (s.src1 r o)) (elem w j b)
    if r.reg == .kreg then s.putMask o n hit else s.putElems r o w n fun j => boolMask w (hit j)

/-! ### Shapes of floating-point instructions -/

/-- The writemask lets an element be computed. -/
def State.active (s : State) (o : Operands) (j : Nat) : Bool := (s.writemask o).getLsbD j

/-- The conditions `n` results report; masked-off elements report none (R1552). -/
def State.fpFlags {w : Nat} (s : State) (o : Operands) (n : Nat) (f : Nat → FpRes w) : FpFlags :=
  orFlags (fun j => if s.active o j then s.reported (f j).flags else 0) n

/-- Write `n` floating-point results of width `w`, or take the exception of their conditions. -/
def State.putFp {w : Nat} (s : State) (r : Row) (o : Operands) (n : Nat) (f : Nat → FpRes w) : State :=
  s.fpRespond (r.rounding o) (s.fpFlags o n f) fun t => t.putElems r o w n fun j => (f j).val

/-- Write one floating-point result of width `w` with `upper` above it, or take the exception of its conditions. -/
def State.putFpScalar {w : Nat} (s : State) (r : Row) (o : Operands) (upper : ZWord) (x : FpRes w) : State :=
  s.fpRespond (r.rounding o) (s.fpFlags o 1 fun _ => x) fun t => t.putScalar o w upper x.val

/-- Packed arithmetic on two sources. -/
def State.fp2 {w : Nat} (s : State) (r : Row) (o : Operands) (op : FpEnv → BitVec w → BitVec w → FpRes w) :
    Except Abort State :=
  loading (s.src r o w (r.count o w)) fun b =>
    s.putFp r o (r.count o w) fun j => op (s.fpEnv r o) (elem w j (s.src1 r o)) (elem w j b)

/-- Packed arithmetic on one source. -/
def State.fp1 {w : Nat} (s : State) (r : Row) (o : Operands) (op : FpEnv → BitVec w → FpRes w) : Except Abort State :=
  s.fp2 r o fun env _ b => op env b

/-- Scalar arithmetic on two sources; bits 127 and below above the element come from the first source (R303). -/
def State.fp2s {w : Nat} (s : State) (r : Row) (o : Operands) (op : FpEnv → BitVec w → BitVec w → FpRes w) :
    Except Abort State :=
  loading (s.src r o w 1) fun b =>
    s.putFpScalar r o (s.src1 r o) (op (s.fpEnv r o) (elem w 0 (s.src1 r o)) (elem w 0 b))

/-- Scalar arithmetic on the second source. -/
def State.fp1s {w : Nat} (s : State) (r : Row) (o : Operands) (op : FpEnv → BitVec w → FpRes w) : Except Abort State :=
  s.fp2s r o fun env _ b => op env b

/-- Packed conversion from elements of width `v` to elements of width `w`. -/
def State.fpWiden {v w : Nat} (s : State) (r : Row) (o : Operands) (op : FpEnv → BitVec v → FpRes w) :
    Except Abort State :=
  let n := r.count o (max v w)
  loading (s.src r o v n) fun b => s.putFp r o n fun j => op (s.fpEnv r o) (elem v j b)

/-- Scalar conversion from the low element of the second source to another width (R380, R383). -/
def State.fpScalarFrom {v w : Nat} (s : State) (r : Row) (o : Operands) (op : FpEnv → BitVec v → FpRes w) :
    Except Abort State :=
  loading (s.src r o v 1) fun b => s.putFpScalar r o (s.src1 r o) (op (s.fpEnv r o) (elem v 0 b))

/-- The operand order of the three FMA forms (R430): each gives x, y, z of `x*y + z` from the destination, the vvvv operand
and the third operand. -/
inductive FmaForm where
  | f132 | f213 | f231
deriving DecidableEq, Repr

/-- The element operands x, y, z of an FMA form. -/
def FmaForm.pick {α : Type} (f : FmaForm) (dest src2 src3 : α) : α × α × α :=
  match f with
  | .f132 => (dest, src3, src2)
  | .f213 => (src2, dest, src3)
  | .f231 => (src2, src3, dest)

/-- FMA-PACKED (R431); `negAdd` may depend on the element (FMADDSUB, FMSUBADD). -/
def State.fmaVec {w : Nat} (s : State) (r : Row) (o : Operands) (F : Fmt w) (form : FmaForm) (negProd : Bool)
    (negAdd : Nat → Bool) : Except Abort State :=
  loading (s.src r o w (r.count o w)) fun c =>
    s.putFp r o (r.count o w) fun j =>
      let (x, y, z) := form.pick (elem w j (s.getZ o.reg)) (elem w j (s.getZ o.vvvv)) (elem w j c)
      F.fma (s.fpEnv r o) negProd (negAdd j) x y z

/-- FMA-SCALAR (R431): bits 127 and below above the element stay the destination's own. -/
def State.fmaScalar {w : Nat} (s : State) (r : Row) (o : Operands) (F : Fmt w) (form : FmaForm) (negProd negAdd : Bool) :
    Except Abort State :=
  loading (s.src r o w 1) fun c =>
    let (x, y, z) := form.pick (elem w 0 (s.getZ o.reg)) (elem w 0 (s.getZ o.vvvv)) (elem w 0 c)
    s.putFpScalar r o (s.getZ o.reg) (F.fma (s.fpEnv r o) negProd negAdd x y z)

end Sys2Proof.Machine
end

