-- ==== Sys2Proof/Machine/Vector.lean ====
section
/-! DEFINITION. The data movements several instructions share, as functions from whole sources to one result element:
shuffles, permutes, packs, unpacks, shifts, sums (spec/41 to spec/55). An index `j` is a result element, `imm` the
immediate byte. Then the operand shapes that only these use. -/

namespace Sys2Proof.Machine

/-! ### Permutes and shuffles -/

/-- VALIGN (R324): the concatenation of `a` (high) and `b` (low), `n` elements each, shifted right by imm8 mod n elements. -/
def alignElems (w n : Nat) (imm : BitVec 8) (a b : ZWord) (j : Nat) : BitVec w :=
  let i := j + imm.toNat % n
  if i < n then elem w i b else elem w (i - n) a

/-- PALIGNR (R626): the same per 128-bit lane in bytes, zeros shifted in. -/
def alignBytes (imm : BitVec 8) (a b : ZWord) (j : Nat) : BitVec 8 :=
  let i := j % 16 + imm.toNat
  if i < 16 then elem 8 (j / 16 * 16 + i) b else if i < 32 then elem 8 (j / 16 * 16 + (i - 16)) a else 0

/-- UNPACK (R842): per 128-bit lane, the high or low half of both sources interleaved, even elements from `a`. -/
def unpack (w : Nat) (high : Bool) (a b : ZWord) (j : Nat) : BitVec w :=
  let e := 128 / w
  let i := j / e * e + (if high then e / 2 else 0) + j % e / 2
  if j % 2 = 0 then elem w i a else elem w i b

/-- PACK (R613): per 128-bit lane, the elements of `a` then those of `b`, each brought to half the width by `f`. -/
def packLanes {v : Nat} (w : Nat) (f : BitVec w → BitVec v) (a b : ZWord) (j : Nat) : BitVec v :=
  let e := 128 / w
  let lane := j / (2 * e)
  let p := j % (2 * e)
  if p < e then f (elem w (lane * e + p) a) else f (elem w (lane * e + (p - e)) b)

/-- PSHUFB (R800): a byte of `a` in the same lane, chosen by the byte of `b`; zero when bit 7 of that byte is set. -/
def shuffleBytes (a b : ZWord) (j : Nat) : BitVec 8 :=
  let c := elem 8 j b
  if c.msb then 0 else elem 8 (j / 16 * 16 + c.toNat % 16) a

/-- The two-bit selector `t` of an immediate. -/
def sel2 (imm : BitVec 8) (t : Nat) : Nat := imm.toNat / 4 ^ t % 4

/-- PSHUFD and VPERMILPS with an immediate (R803, R687): within each 128-bit lane. -/
def shuffleDwords (imm : BitVec 8) (b : ZWord) (j : Nat) : BitVec 32 := elem 32 (j / 4 * 4 + sel2 imm (j % 4)) b

/-- PSHUFHW, PSHUFLW (R801, R802): the high or the low four words of each lane. -/
def shuffleWords (high : Bool) (imm : BitVec 8) (b : ZWord) (j : Nat) : BitVec 16 :=
  let p := j % 8
  if high then (if p < 4 then elem 16 j b else elem 16 (j / 8 * 8 + 4 + sel2 imm (p - 4)) b)
  else (if p < 4 then elem 16 (j / 8 * 8 + sel2 imm p) b else elem 16 j b)

/-- SHUFPS (R866): two elements from `a`, two from `b`, in each lane. -/
def shufPs (imm : BitVec 8) (a b : ZWord) (j : Nat) : BitVec 32 :=
  let i := j / 4 * 4 + sel2 imm (j % 4)
  if j % 4 < 2 then elem 32 i a else elem 32 i b

/-- SHUFPD (R865): even elements from `a`, odd ones from `b`, chosen by bit `j`. -/
def shufPd (imm : BitVec 8) (a b : ZWord) (j : Nat) : BitVec 64 :=
  let i := j / 2 * 2 + (if imm.getLsbD j then 1 else 0)
  if j % 2 = 0 then elem 64 i a else elem 64 i b

/-- VSHUFF32X4 and its kin (R860): 128-bit lanes, the low half of the result from `a`, the high half from `b`. -/
def shufLanes (w vl : Nat) (imm : BitVec 8) (a b : ZWord) (j : Nat) : BitVec w :=
  let e := 128 / w
  let lane := j / e
  let n := vl / 128
  let s := if n = 2 then (if imm.getLsbD lane then 1 else 0) else sel2 imm lane
  elem w (s * e + j % e) (if lane < n / 2 then a else b)

/-- VPERMB, VPERMW, VPERMD, VPERMPS and the index forms of VPERMQ, VPERMPD (R670 to R672, R688): `n` elements of `b`
indexed by the low bits of `a`'s. -/
def permute (w n : Nat) (a b : ZWord) (j : Nat) : BitVec w := elem w ((elem w j a).toNat % n) b

/-- VPERMQ and VPERMPD with an immediate (R688, R690): within each 256-bit half. -/
def permuteHalves (imm : BitVec 8) (b : ZWord) (j : Nat) : BitVec 64 := elem 64 (j / 4 * 4 + sel2 imm (j % 4)) b

/-- PERM2 (R673): tables of `n` elements; the bit above the index selects the second. -/
def permute2 (w n : Nat) (idx t1 t2 : ZWord) (j : Nat) : BitVec w :=
  let x := (elem w j idx).toNat
  if x / n % 2 = 1 then elem w (x % n) t2 else elem w (x % n) t1

/-- VPERMILPD, variable control in bit 1 (R686). -/
def permilPdVar (a b : ZWord) (j : Nat) : BitVec 64 :=
  elem 64 (j / 2 * 2 + (if (elem 64 j b).getLsbD 1 then 1 else 0)) a

/-- VPERMILPD, immediate (R686). -/
def permilPdImm (imm : BitVec 8) (b : ZWord) (j : Nat) : BitVec 64 :=
  elem 64 (j / 2 * 2 + (if imm.getLsbD j then 1 else 0)) b

/-- VPERMILPS, variable control (R687). -/
def permilPsVar (a b : ZWord) (j : Nat) : BitVec 32 := elem 32 (j / 4 * 4 + (elem 32 j b).toNat % 4) a

/-- VPMULTISHIFTQB (R778): the byte of `b`'s quadword that starts at the bit `a`'s byte names, wrapping around. -/
def multishift (a b : ZWord) (j : Nat) : BitVec 8 :=
  ((elem 64 (j / 8) b).rotateRight ((elem 8 j a).toNat % 64)).setWidth 8

/-- VINSERT (R524): `a` with its block of `bits` bits number `sel` replaced by the low bits of `b`. -/
def replaceBlock (w bits sel : Nat) (a b : ZWord) (j : Nat) : BitVec w :=
  let e := bits / w
  if j / e = sel then elem w (j % e) b else elem w j a

/-- PSLLDQ (R804): each lane shifted left by bytes. -/
def shiftLaneLeft (imm : BitVec 8) (a : ZWord) (j : Nat) : BitVec 8 :=
  if imm.toNat ≤ j % 16 then elem 8 (j - imm.toNat) a else 0

/-- PSRLDQ (R812): each lane shifted right by bytes. -/
def shiftLaneRight (imm : BitVec 8) (a : ZWord) (j : Nat) : BitVec 8 :=
  if j % 16 + imm.toNat < 16 then elem 8 (j + imm.toNat) a else 0

/-! ### Shifts and rotates of one element -/

/-- SLL (R805). -/
def sll {w : Nat} (x : BitVec w) (c : Nat) : BitVec w := if c > w - 1 then 0 else x <<< c
/-- SRL (R805). -/
def srl {w : Nat} (x : BitVec w) (c : Nat) : BitVec w := if c > w - 1 then 0 else x >>> c
/-- SRA (R805). -/
def sra {w : Nat} (x : BitVec w) (c : Nat) : BitVec w := x.sshiftRight (min c w)
/-- LEFT_ROTATE (R783). -/
def rol {w : Nat} (x : BitVec w) (c : Nat) : BitVec w := x.rotateLeft (c % w)
/-- RIGHT_ROTATE (R783). -/
def ror {w : Nat} (x : BitVec w) (c : Nat) : BitVec w := x.rotateRight (c % w)

/-! ### Arithmetic on groups of elements -/

/-- `|a - b|` of two unsigned bytes. -/
def absDiff (a b : BitVec 8) : Nat := (a.toNat - b.toNat) + (b.toNat - a.toNat)

/-- The sum of `f 0` to `f (n - 1)`. -/
def sumTo (f : Nat → Nat) : Nat → Nat
  | 0 => 0
  | n + 1 => sumTo f n + f n

/-- PSADBW (R602). -/
def sumAbsDiff (a b : ZWord) (j : Nat) : BitVec 64 :=
  BitVec.ofNat 64 (sumTo (fun m => absDiff (elem 8 (8 * j + m) a) (elem 8 (8 * j + m) b)) 8)

/-- VDBPSADBW (R418): words of sums over four byte differences, `b` first permuted within its lanes. -/
def dbSumAbsDiff (imm : BitVec 8) (a b : ZWord) (j : Nat) : BitVec 16 :=
  let q := j / 4
  let t := fun m => -- byte `m` of the permuted superblock
    let d := 2 * q + m / 4
    elem 8 (4 * (d / 4 * 4 + sel2 imm (d % 4)) + m % 4) b
  let (i, k) := match j % 4 with
    | 0 => (0, 0)
    | 1 => (0, 1)
    | 2 => (4, 2)
    | _ => (4, 3)
  BitVec.ofNat 16 (sumTo (fun m => absDiff (elem 8 (8 * q + i + m) a) (t (k + m))) 4)

/-- PMADDUBSW (R699). -/
def maddUbs (a b : ZWord) (j : Nat) : BitVec 16 :=
  satS 16 ((elem 8 (2 * j) a).toNat * (elem 8 (2 * j) b).toInt + (elem 8 (2 * j + 1) a).toNat * (elem 8 (2 * j + 1) b).toInt)

/-- PMADDWD (R700). -/
def maddWd (a b : ZWord) (j : Nat) : BitVec 32 :=
  BitVec.ofInt 32 ((elem 16 (2 * j) a).toInt * (elem 16 (2 * j) b).toInt +
    (elem 16 (2 * j + 1) a).toInt * (elem 16 (2 * j + 1) b).toInt)

/-- PMULHRSW (R772). -/
def mulHrs (x y : BitVec 16) : BitVec 16 := BitVec.ofInt 16 ((x.toInt * y.toInt / 2 ^ 14 + 1) / 2)

/-- PMULHW (R774). -/
def mulHighS (x y : BitVec 16) : BitVec 16 := BitVec.ofInt 16 (x.toInt * y.toInt / 2 ^ 16)

/-- PMULHUW (R773). -/
def mulHighU (x y : BitVec 16) : BitVec 16 := BitVec.ofNat 16 (x.toNat * y.toNat / 2 ^ 16)

/-- PMULDQ (R771): the low doublewords as signed numbers. -/
def mulLowS (x y : BitVec 64) : BitVec 64 := (x.setWidth 32).signExtend 64 * (y.setWidth 32).signExtend 64

/-- PMULUDQ (R779): the low doublewords as unsigned numbers. -/
def mulLowU (x y : BitVec 64) : BitVec 64 := (x.setWidth 32).setWidth 64 * (y.setWidth 32).setWidth 64

/-- VPMADD52 (R705, R706): the accumulator plus the low or high 52 bits of the product of the low 52 bits. -/
def madd52 (high : Bool) (acc x y : BitVec 64) : BitVec 64 :=
  let p := (x.toNat % 2 ^ 52) * (y.toNat % 2 ^ 52)
  acc + BitVec.ofNat 64 (if high then p / 2 ^ 52 else p % 2 ^ 52)

/-- PAVG (R633, R634). -/
def avg {w : Nat} (x y : BitVec w) : BitVec w := BitVec.ofNat w ((x.toNat + y.toNat + 1) / 2)

/-- PMAXS, PMINS: signed maximum and minimum (R707 to R722). -/
def maxS {w : Nat} (x y : BitVec w) : BitVec w := if x.toInt > y.toInt then x else y
def minS {w : Nat} (x y : BitVec w) : BitVec w := if x.toInt < y.toInt then x else y
/-- PMAXU, PMINU: unsigned maximum and minimum. -/
def maxU {w : Nat} (x y : BitVec w) : BitVec w := if x.toNat > y.toNat then x else y
def minU {w : Nat} (x y : BitVec w) : BitVec w := if x.toNat < y.toNat then x else y

/-- VPLZCNT (R697): the number of leading zeros. -/
def lzcnt {w : Nat} (x : BitVec w) : BitVec w := BitVec.ofNat w (if x = 0 then w else w - 1 - x.toNat.log2)

/-- VPCONFLICT (R657): which lower elements equal element `j`. -/
def conflict (w : Nat) (b : ZWord) (j : Nat) : BitVec w :=
  (packMask j fun i => elem w i b == elem w j b).setWidth w

/-- VPTERNLOG (R871): each result bit is the bit of imm8 that the bits of the three sources index. -/
def ternLog {w : Nat} (imm : BitVec 8) (a b c : BitVec w) : BitVec w :=
  let term := fun (i : Nat) =>
    if imm.getLsbD i then
      (if i / 4 = 1 then a else ~~~a) &&& (if i / 2 % 2 = 1 then b else ~~~b) &&& (if i % 2 = 1 then c else ~~~c)
    else 0
  term 0 ||| term 1 ||| term 2 ||| term 3 ||| term 4 ||| term 5 ||| term 6 ||| term 7

/-- The predicate of VPCMP and VPCMPU (R646). -/
def cmpPred {w : Nat} (signed : Bool) (imm : BitVec 8) (x y : BitVec w) : Bool :=
  let lt := if signed then x.slt y else x.ult y
  match imm.toNat % 8 with
  | 0 => x == y
  | 1 => lt
  | 2 => lt || x == y
  | 3 => false
  | 4 => x != y
  | 5 => !lt
  | 6 => !(lt || x == y)
  | _ => true

/-! ### Operand shapes of data movement -/

/-- VBLENDM (R325): the writemask selects the second source, else the first or zero. -/
def State.blend (s : State) (r : Row) (o : Operands) (w : Nat) : Except Abort State :=
  let n := r.count o w
  loading (s.src r o w n) fun b =>
    let k := s.writemask o
    s.putVec o.space o.reg (r.vl o) (pack w n fun j => mergeElem k o.z j (elem w j b) (elem w j (s.src1 r o)))

/-- The r/m source of a broadcast of a tuple of `t` elements of width `w`: a general or vector register, or the tuple in
memory, of which the elements that some result element takes are accessed (R332 to R334, R85). -/
def State.tupleSource (s : State) (r : Row) (o : Operands) (w t : Nat) : Except Abort (ZWord × List Word) :=
  match o.rm with
  | .reg x => .ok (if r.rm = .gpr then (s.getGpr x).setWidth 512 else s.getZ x, [])
  | .mem m =>
    s.readOperand r m
      (elemOffs w t (packMask t fun i =>
        (List.range (r.count o w)).any fun j => j % t == i && (s.accessMask r o).getLsbD j)) (t * w / 8)

/-- Broadcast a tuple of `t` elements (R332 to R334). -/
def State.broadcastTuple (s : State) (r : Row) (o : Operands) (w t : Nat) : Except Abort State :=
  loading (s.tupleSource r o w t) fun v => s.putElems r o w (r.count o w) fun j => elem w (j % t) v

/-- How many of the first `n` elements the writemask selects. -/
def State.selected (s : State) (o : Operands) (n : Nat) : Nat := popCount n (s.writemask o)

/-- The position in `0 … n-1` of the selected element number `i` (lowest first), if there is one. -/
def nthSet (n : Nat) (k : KWord) (i : Nat) : Option Nat := ((List.range n).filter fun j => k.getLsbD j)[i]?

/-- VCOMPRESS (R352): the selected elements of the source, packed together. -/
def State.compress (s : State) (r : Row) (o : Operands) (w : Nat) : Except Abort State :=
  let n := r.count o w
  let k := s.writemask o
  let c := s.selected o n
  let x := fun j => match nthSet n k j with
    | some i => elem w i (s.getZ o.reg)
    | none => 0
  match o.rm with
  | .reg d =>
    .ok (s.putVec o.space d (r.vl o) (pack w n fun j => if j < c then x j else if o.z then 0 else elem w j (s.getZ d)))
  | .mem m => s.writeMem false m.seg (s.ea m) (List.range (c * w / 8)) 1 (r.acArg (c * w / 8)) (pack w c x)

/-- The r/m source of an expand: a vector register, or as many consecutive elements in memory as the writemask selects
(R419). -/
def State.expandSource (s : State) (r : Row) (o : Operands) (w : Nat) : Except Abort (ZWord × List Word) :=
  match o.rm with
  | .reg x => .ok (s.getZ x, [])
  | .mem m =>
    s.readOperand r m (List.range (s.selected o (r.count o w) * w / 8)) (s.selected o (r.count o w) * w / 8)

/-- VEXPAND (R419, D25): consecutive source elements to the selected positions. -/
def State.expand (s : State) (r : Row) (o : Operands) (w : Nat) : Except Abort State :=
  loading (s.expandSource r o w) fun v =>
    s.putElems r o w (r.count o w) fun j => elem w (popCount j (s.writemask o)) v

/-- VEXTRACT (R421, R422): block number `sel` of `bits` bits to the r/m operand, elements of width `w`. -/
def State.extractBlock (s : State) (r : Row) (o : Operands) (w bits : Nat) : Except Abort State :=
  let e := bits / w
  let sel := o.imm.toNat % (r.vl o / bits)
  s.putRM r o false w e fun j => elem w (sel * e + j) (s.getZ o.reg)

/-- VINSERT (R524, R525). -/
def State.insertBlock (s : State) (r : Row) (o : Operands) (w bits : Nat) : Except Abort State :=
  loading (s.src r o bits 1) fun b =>
    s.putElems r o w (r.count o w) (replaceBlock w bits (o.imm.toNat % (r.vl o / bits)) (s.src1 r o) b)

/-- A whole-register move (R549): load, store or copy under the writemask at element width `w`. -/
def State.moveFull (s : State) (r : Row) (o : Operands) (nt : Bool) (w : Nat) : Except Abort State :=
  if r.memDst then s.putRM r o nt w (r.count o w) fun j => elem w j (s.getZ o.reg)
  else s.map1 r o w id

/-- Write a whole 128-bit result to the destination register (R303 to R305), no mask. -/
def State.putXmm (s : State) (o : Operands) (v : ZWord) : State := s.putVec o.space o.reg 128 v

/-- MOVD and MOVQ (R552 to R554): `w` bits between an XMM register and a general register, an XMM register or memory; a
register destination is zero above. -/
def State.moveLow (s : State) (r : Row) (o : Operands) (w : Nat) : Except Abort State :=
  let x := elem w 0 (s.getZ o.reg)
  if r.memDst then
    match o.rm with
    | .reg d => .ok (if r.rm == .gpr then s.putGpr d x else s.putVec o.space d 128 (x.setWidth 512))
    | .mem m => s.writeMem false m.seg (s.ea m) (List.range (w / 8)) 1 (r.acArg (w / 8)) (x.setWidth 512)
  else if r.rm == .gpr then loading (s.srcGpr r o (w / 8)) fun v => s.putXmm o ((v.setWidth w).setWidth 512)
  else loading (s.src r o w 1) fun v => s.putXmm o ((elem w 0 v).setWidth 512)

/-- MOVHPD and MOVHPS (`high`), MOVLPD and MOVLPS (R565 to R569): one half of an XMM register loaded beside the other half
of the first source, or stored. -/
def State.moveHalf (s : State) (r : Row) (o : Operands) (high : Bool) : Except Abort State :=
  if r.memDst then
    match o.rm with
    | .reg _ => .error { exc := .ud }
    | .mem m =>
      let x : BitVec 64 := elem 64 (if high then 1 else 0) (s.getZ o.reg)
      s.writeMem false m.seg (s.ea m) (List.range 8) 1 (r.acArg 8) (x.setWidth 512)
  else loading (s.src r o 64 1) fun b => s.putXmm o (setElem 64 (if high then 1 else 0) (elem 64 0 b) (s.src1 r o))

/-- MOVSS and MOVSD (R574, R577): a load zeroes above the element; a register move keeps what the first source has there;
opcode 11H stores, and between registers writes the r/m operand. -/
def State.moveScalar (s : State) (r : Row) (o : Operands) (w : Nat) : Except Abort State :=
  let x := elem w 0 (s.getZ o.reg)
  match o.rm with
  | .mem m =>
    if r.memDst then s.storeElems r o m false w 1 (x.setWidth 512)
    else loading (s.src r o w 1) fun b => s.putScalar o w 0 (elem w 0 b)
  | .reg d =>
    if o.opcode = 0x11 then
      let upper := if r.vv == .vec then s.getZ o.vvvv else s.getZ d
      .ok (s.putVec o.space d 128 (setElem w 0 (mergeElem (s.writemask o) o.z 0 x (elem w 0 (s.getZ d))) upper))
    else .ok (s.putScalar o w (s.src1 r o) (elem w 0 (s.getZ d)))

/-- MOVDDUP (R555): even quadwords duplicated; the 128-bit form reads eight bytes. -/
def State.moveDup (s : State) (r : Row) (o : Operands) : Except Abort State :=
  let n := r.count o 64
  loading (s.src r o 64 (if n = 2 then 1 else n)) fun b => s.putElems r o 64 n fun j => elem 64 (j / 2 * 2) b

/-- The uniform shifts (R805): by imm8 when ModRM.reg is an opcode extension, the data then being the r/m operand and the
destination vvvv or, in legacy forms, the r/m register; else by the low quadword of an XMM register or 16 bytes of
memory. -/
def State.shiftAll (s : State) (r : Row) (o : Operands) (w : Nat) (f : BitVec w → Nat → BitVec w) : Except Abort State :=
  let n := r.count o w
  if r.reg == .vec then
    loading (s.src r o 128 1) fun c =>
      s.putElems r o w n fun j => f (elem w j (s.src1 r o)) (elem 64 0 c).toNat
  else
    match o.space, o.rm with
    | .legacy, .reg d => .ok (s.putElemsAt r o d w n fun j => f (elem w j (s.getZ d)) o.imm.toNat)
    | _, _ => loading (s.src r o w n) fun b => s.putElemsAt r o o.vvvv w n fun j => f (elem w j b) o.imm.toNat

/-- PSLLDQ and PSRLDQ (R804, R812): destination as in the immediate shifts. -/
def State.shiftLanes (s : State) (r : Row) (o : Operands) (f : ZWord → Nat → BitVec 8) : Except Abort State :=
  let n := r.count o 8
  match o.space, o.rm with
  | .legacy, .reg d => .ok (s.putElemsAt r o d 8 n (f (s.getZ d)))
  | _, _ => loading (s.src r o 8 n) fun b => s.putElemsAt r o o.vvvv 8 n (f b)

/-- The variable shifts and rotates: each element by the whole count element (R783, R816). -/
def State.shiftEach (s : State) (r : Row) (o : Operands) (w : Nat) (f : BitVec w → Nat → BitVec w) : Except Abort State :=
  s.map2 r o w fun x c => f x c.toNat

/-- DOWNCONV (R738): narrowed elements to the r/m operand. -/
def State.downConvert (s : State) (r : Row) (o : Operands) (big small : Nat) (f : BitVec big → BitVec small) :
    Except Abort State :=
  s.putRM r o false small (r.count o big) fun j => f (elem big j (s.getZ o.reg))

/-- PEXTR and EXTRACTPS (R423, R693 to R696): element imm8 to a general register or memory; the form with a register r/m
source writes ModRM.reg. -/
def State.extractElem (s : State) (r : Row) (o : Operands) (w : Nat) : Except Abort State :=
  let i := o.imm.toNat % (128 / w)
  match o.rm with
  | .reg d => .ok (if r.memDst then s.putGpr d (elem w i (s.getZ o.reg)) else s.putGpr o.reg (elem w i (s.getZ d)))
  | .mem m => s.writeMem false m.seg (s.ea m) (List.range (w / 8)) 1 (r.acArg (w / 8)) ((elem w i (s.getZ o.reg)).setWidth 512)

/-- PINSR (R701 to R704): element imm8 of the first source replaced. -/
def State.insertElem (s : State) (r : Row) (o : Operands) (w : Nat) : Except Abort State :=
  loading (s.srcGpr r o (w / 8)) fun v => s.putXmm o (setElem w (o.imm.toNat % (128 / w)) (v.setWidth w) (s.src1 r o))

/-- INSERTPS (R526). -/
def State.insertPs (s : State) (r : Row) (o : Operands) : Except Abort State :=
  loading (s.src r o 32 1) fun b =>
    let x : BitVec 32 := elem 32 (if o.isReg then o.imm.toNat / 64 else 0) b
    let v := setElem 32 (sel2 o.imm 2) x (s.src1 r o)
    s.putXmm o (pack 32 4 fun j => if o.imm.getLsbD j then 0 else elem 32 j v)

/-- A masked-off byte as an instruction that needs it sees it: memory's, or an unknown one where reading would fault. -/
def State.peek (s : State) (g : SegReg) (ea : Word) (i : Nat) : Byte :=
  let lin := s.linear g ea i
  match s.segFault g ea i, s.translate .read lin with
  | none, .ok p => s.mem.get p
  | _, _ => Config.suppressedByte lin

/-- VPCONFLICT (R657): every source element is compared, masked-off ones too; only the others can fault (R85). -/
def State.conflicts (s : State) (r : Row) (o : Operands) (w : Nat) : Except Abort State :=
  let n := r.count o w
  loading (s.src r o w n) fun b =>
    let v := match o.rm with
      | .reg _ => b
      | .mem m =>
        if r.broadcasts o then b
        else pack w n fun j =>
          if s.active o j then elem w j b
          else (pack 8 (w / 8) fun i => s.peek m.seg (s.ea m) (w / 8 * j + i)).setWidth w
    s.putElems r o w n (conflict w v)

/-- Elements from the bits of an opmask register (R730 to R733, R635, R636). -/
def State.fromMask (s : State) (r : Row) (o : Operands) (w : Nat) (f : KWord → Nat → BitVec w) : Except Abort State :=
  match o.rm with
  | .reg x => .ok (s.putElems r o w (r.count o w) (f (s.getK x)))
  | .mem _ => .error { exc := .ud }

/-- An opmask register from the top bits of elements (R734 to R737). -/
def State.toMask (s : State) (r : Row) (o : Operands) (w : Nat) : Except Abort State :=
  loading (s.src r o w (r.count o w)) fun b => s.putMask o (r.count o w) fun j => (elem w j b).msb

/-! ### Shapes of floating-point compares, conversions and classifications -/

/-- CMPPD and CMPPS (R342, R343): predicate imm8[4:0], in legacy forms imm8[2:0] (U7). -/
def State.fpCompareVec {w : Nat} (s : State) (r : Row) (o : Operands) (F : Fmt w) : Except Abort State :=
  let n := r.count o w
  let p := if o.space == .legacy then o.imm.toNat % 8 else o.imm.toNat % 32
  loading (s.src r o w n) fun b =>
    let c := fun j => F.cmp (s.fpEnv r o).daz p (elem w j (s.src1 r o)) (elem w j b)
    let res := fun j : Nat => (⟨boolMask w (c j).1, (c j).2⟩ : FpRes w)
    s.fpRespond (r.rounding o) (s.fpFlags o n res) fun t =>
      if r.reg == .kreg then t.putMask o n fun j => (c j).1 else t.putElems r o w n fun j => (res j).val

/-- CMPSD and CMPSS (R344, R345). -/
def State.fpCompareScalar {w : Nat} (s : State) (r : Row) (o : Operands) (F : Fmt w) : Except Abort State :=
  let p := if o.space == .legacy then o.imm.toNat % 8 else o.imm.toNat % 32
  loading (s.src r o w 1) fun b =>
    let c := F.cmp (s.fpEnv r o).daz p (elem w 0 (s.src1 r o)) (elem w 0 b)
    let res : FpRes w := ⟨boolMask w c.1, c.2⟩
    s.fpRespond (r.rounding o) (s.fpFlags o 1 fun _ => res) fun t =>
      if r.reg == .kreg then t.putMask o 1 fun _ => c.1 else t.putScalar o w (s.src1 r o) res.val

/-- COMIS and UCOMIS (R346, R347, R974, R975): `quiet` ones signal only signaling NaNs; EFLAGS is not written when an
exception is taken. -/
def State.fpCompareFlags {w : Nat} (s : State) (r : Row) (o : Operands) (F : Fmt w) (quiet : Bool) : Except Abort State :=
  loading (s.src r o w 1) fun v =>
    let daz := (s.fpEnv r o).daz
    let a := elem w 0 (s.getZ o.reg)
    let b := elem w 0 v
    let i := F.isSNaN a || F.isSNaN b || (!quiet && (F.isNaN a || F.isNaN b))
    let f := (if i then FpFlags.i else 0) ||| F.den daz a ||| F.den daz b
    s.fpRespond (r.rounding o) (s.reported f) fun t => t.setFpCompare (F.compare daz a b)

/-- The conversions from a scalar to a general register (R378, R379, R384, R385, R408 to R411): 64 bits with W = 1. -/
def State.cvtToGpr {w : Nat} (s : State) (r : Row) (o : Operands) (F : Fmt w) (trunc signed : Bool) : Except Abort State :=
  loading (s.src r o w 1) fun b =>
    let x : FpRes 64 :=
      if o.w then F.toInteger (s.fpEnv r o) trunc signed 64 (elem w 0 b)
      else
        let y := F.toInteger (s.fpEnv r o) trunc signed 32 (elem w 0 b)
        ⟨y.val.setWidth 64, y.flags⟩
    s.fpRespond (r.rounding o) (s.reported x.flags) fun t => t.putGpr o.reg x.val

/-- The conversions from a general register or memory to a scalar (R381, R382, R416, R417). -/
def State.cvtFromGpr {w : Nat} (s : State) (r : Row) (o : Operands) (F : Fmt w) (signed : Bool) : Except Abort State :=
  loading (s.srcGpr r o (if o.w then 8 else 4)) fun v =>
    let n : Int := if !signed then v.toNat else if o.w then v.toInt else (v.setWidth 32).toInt
    s.putFpScalar r o (s.src1 r o) (F.ofInteger (s.fpEnv r o) n)

/-- VCVTPS2PH (R370): rounding from imm8 or MXCSR, denormal results whatever FZ says; the r/m operand is written. R370 does
not say what a NaN becomes; DESIGN CHOICE: a quiet NaN with its sign and the upper bits of its fraction
(notes/assumptions/42.md). -/
def State.cvtToHalf (s : State) (r : Row) (o : Operands) : Except Abort State :=
  let n := r.count o 32
  let env := { s.fpEnv r o with rc := Fmt.immRc (s.fpEnv r o) o.imm, fz := false }
  let x := fun j => f32.convert f16 env true (elem 32 j (s.getZ o.reg))
  let f := s.fpFlags o n x
  match o.rm with
  | .reg d => .ok (s.fpRespond (r.rounding o) f fun t => t.putElemsAt r o d 16 n fun j => (x j).val)
  | .mem m =>
    (s.checkMem .write m.seg (s.ea m) (elemOffs 16 n (s.accessMask r o)) 1 (r.acArg (2 * n))).map fun ps =>
      s.fpRespond false f fun t =>
        t.storeBytes false (pack 16 n fun j => (x j).val) (ps.filter fun p => s.active o (p.1 / 2))

/-- VFPCLASS (R500 to R504): an opmask result of `n` bits, no flags. -/
def State.fpClass {w : Nat} (s : State) (r : Row) (o : Operands) (F : Fmt w) (n : Nat) : Except Abort State :=
  loading (s.src r o w n) fun b =>
    s.putMask o n fun j => F.classify (s.fpEnv r o).daz o.imm (elem w j b)

/-- VFIXUPIMM on packed elements (R424 to R426): conditions are reported as if masked. -/
def State.fixupVec {w : Nat} (s : State) (r : Row) (o : Operands) (F : Fmt w) : Except Abort State :=
  let n := r.count o w
  loading (s.src r o w n) fun b =>
    let x := fun j => F.fixup (s.fpEnv r o).daz o.imm (elem w j (s.getZ o.reg)) (elem w j (s.getZ o.vvvv)) (elem w j b)
    let f := orFlags (fun j => if s.active o j then (x j).flags else 0) n
    (if r.rounding o then s else s.setMxcsrFlags f).putElems r o w n fun j => (x j).val

/-- VFIXUPIMM on the low element (R427, R428). -/
def State.fixupScalar {w : Nat} (s : State) (r : Row) (o : Operands) (F : Fmt w) : Except Abort State :=
  loading (s.src r o w 1) fun b =>
    let x := F.fixup (s.fpEnv r o).daz o.imm (elem w 0 (s.getZ o.reg)) (elem w 0 (s.getZ o.vvvv)) (elem w 0 b)
    let f := if s.active o 0 then x.flags else 0
    (if r.rounding o then s else s.setMxcsrFlags f).putScalar o w (s.getZ o.vvvv) x.val

/-- An approximation on packed elements: no condition is reported (R905, R920). -/
def State.approxVec {w : Nat} (s : State) (r : Row) (o : Operands) (f : FpEnv → BitVec w → BitVec w) : Except Abort State :=
  s.map1 r o w (f (s.fpEnv r o))

/-- The same on the low element, the rest from the first source. -/
def State.approxScalar {w : Nat} (s : State) (r : Row) (o : Operands) (f : FpEnv → BitVec w → BitVec w) :
    Except Abort State :=
  loading (s.src r o w 1) fun b => s.putScalar o w (s.src1 r o) (f (s.fpEnv r o) (elem w 0 b))

end Sys2Proof.Machine
end

