-- ==== Sys2Proof/Machine/Exec41.lean ====
section
/-! DEFINITION. The meanings of the instructions of spec/41_addpd_to_vpbroadcast.md (ADD to VPBROADCAST), one definition each: the checks
of `State.run` on the rows of the instruction, then its operation on the row its fields select. -/

namespace Sys2Proof.Machine

/-- ADDPD (R320). -/
def execAddpd (o : Operands) (s : State) : Host.Outcome State Fault Refusal :=
  s.run Rows.addpd o fun r => s.fp2 r o f64.add

/-- VADDPD (R320). -/
def execVaddpd (o : Operands) (s : State) : Host.Outcome State Fault Refusal :=
  s.run Rows.vaddpd o fun r => s.fp2 r o f64.add

/-- ADDPS (R321). -/
def execAddps (o : Operands) (s : State) : Host.Outcome State Fault Refusal :=
  s.run Rows.addps o fun r => s.fp2 r o f32.add

/-- VADDPS (R321). -/
def execVaddps (o : Operands) (s : State) : Host.Outcome State Fault Refusal :=
  s.run Rows.vaddps o fun r => s.fp2 r o f32.add

/-- ADDSD (R322). -/
def execAddsd (o : Operands) (s : State) : Host.Outcome State Fault Refusal :=
  s.run Rows.addsd o fun r => s.fp2s r o f64.add

/-- VADDSD (R322). -/
def execVaddsd (o : Operands) (s : State) : Host.Outcome State Fault Refusal :=
  s.run Rows.vaddsd o fun r => s.fp2s r o f64.add

/-- ADDSS (R323). -/
def execAddss (o : Operands) (s : State) : Host.Outcome State Fault Refusal :=
  s.run Rows.addss o fun r => s.fp2s r o f32.add

/-- VADDSS (R323). -/
def execVaddss (o : Operands) (s : State) : Host.Outcome State Fault Refusal :=
  s.run Rows.vaddss o fun r => s.fp2s r o f32.add

/-- VALIGND (R324). -/
def execValignd (o : Operands) (s : State) : Host.Outcome State Fault Refusal :=
  s.run Rows.valignd o fun r => s.vec2 r o 32 (alignElems 32 (r.count o 32) o.imm)

/-- VALIGNQ (R324). -/
def execValignq (o : Operands) (s : State) : Host.Outcome State Fault Refusal :=
  s.run Rows.valignq o fun r => s.vec2 r o 64 (alignElems 64 (r.count o 64) o.imm)

/-- VBLENDMPD (R325). -/
def execVblendmpd (o : Operands) (s : State) : Host.Outcome State Fault Refusal :=
  s.run Rows.vblendmpd o fun r => s.blend r o 64

/-- VBLENDMPS (R325). -/
def execVblendmps (o : Operands) (s : State) : Host.Outcome State Fault Refusal :=
  s.run Rows.vblendmps o fun r => s.blend r o 32

/-- VPBLENDMB (R326). -/
def execVpblendmb (o : Operands) (s : State) : Host.Outcome State Fault Refusal :=
  s.run Rows.vpblendmb o fun r => s.blend r o 8

/-- VPBLENDMW (R326). -/
def execVpblendmw (o : Operands) (s : State) : Host.Outcome State Fault Refusal :=
  s.run Rows.vpblendmw o fun r => s.blend r o 16

/-- VPBLENDMD (R327). -/
def execVpblendmd (o : Operands) (s : State) : Host.Outcome State Fault Refusal :=
  s.run Rows.vpblendmd o fun r => s.blend r o 32

/-- VPBLENDMQ (R327). -/
def execVpblendmq (o : Operands) (s : State) : Host.Outcome State Fault Refusal :=
  s.run Rows.vpblendmq o fun r => s.blend r o 64

/-- ANDPD (R328). -/
def execAndpd (o : Operands) (s : State) : Host.Outcome State Fault Refusal :=
  s.run Rows.andpd o fun r => s.map2 r o 64 fun a b => a &&& b

/-- VANDPD (R328). -/
def execVandpd (o : Operands) (s : State) : Host.Outcome State Fault Refusal :=
  s.run Rows.vandpd o fun r => s.map2 r o 64 fun a b => a &&& b

/-- ANDPS (R329). -/
def execAndps (o : Operands) (s : State) : Host.Outcome State Fault Refusal :=
  s.run Rows.andps o fun r => s.map2 r o 32 fun a b => a &&& b

/-- VANDPS (R329). -/
def execVandps (o : Operands) (s : State) : Host.Outcome State Fault Refusal :=
  s.run Rows.vandps o fun r => s.map2 r o 32 fun a b => a &&& b

/-- ANDNPD (R330). -/
def execAndnpd (o : Operands) (s : State) : Host.Outcome State Fault Refusal :=
  s.run Rows.andnpd o fun r => s.map2 r o 64 fun a b => ~~~a &&& b

/-- VANDNPD (R330). -/
def execVandnpd (o : Operands) (s : State) : Host.Outcome State Fault Refusal :=
  s.run Rows.vandnpd o fun r => s.map2 r o 64 fun a b => ~~~a &&& b

/-- ANDNPS (R331). -/
def execAndnps (o : Operands) (s : State) : Host.Outcome State Fault Refusal :=
  s.run Rows.andnps o fun r => s.map2 r o 32 fun a b => ~~~a &&& b

/-- VANDNPS (R331). -/
def execVandnps (o : Operands) (s : State) : Host.Outcome State Fault Refusal :=
  s.run Rows.vandnps o fun r => s.map2 r o 32 fun a b => ~~~a &&& b

/-- VBROADCASTSS (R332). -/
def execVbroadcastss (o : Operands) (s : State) : Host.Outcome State Fault Refusal :=
  s.run Rows.vbroadcastss o fun r => s.broadcastTuple r o 32 1

/-- VBROADCASTSD (R332). -/
def execVbroadcastsd (o : Operands) (s : State) : Host.Outcome State Fault Refusal :=
  s.run Rows.vbroadcastsd o fun r => s.broadcastTuple r o 64 1

/-- VBROADCASTF128 (R332). -/
def execVbroadcastf128 (o : Operands) (s : State) : Host.Outcome State Fault Refusal :=
  s.run Rows.vbroadcastf128 o fun r => s.broadcastTuple r o 128 1

/-- VBROADCASTF32X2 (R332). -/
def execVbroadcastf32x2 (o : Operands) (s : State) : Host.Outcome State Fault Refusal :=
  s.run Rows.vbroadcastf32x2 o fun r => s.broadcastTuple r o 32 2

/-- VBROADCASTF32X4 (R332). -/
def execVbroadcastf32x4 (o : Operands) (s : State) : Host.Outcome State Fault Refusal :=
  s.run Rows.vbroadcastf32x4 o fun r => s.broadcastTuple r o 32 4

/-- VBROADCASTF64X2 (R332). -/
def execVbroadcastf64x2 (o : Operands) (s : State) : Host.Outcome State Fault Refusal :=
  s.run Rows.vbroadcastf64x2 o fun r => s.broadcastTuple r o 64 2

/-- VBROADCASTF32X8 (R332). -/
def execVbroadcastf32x8 (o : Operands) (s : State) : Host.Outcome State Fault Refusal :=
  s.run Rows.vbroadcastf32x8 o fun r => s.broadcastTuple r o 32 8

/-- VBROADCASTF64X4 (R332). -/
def execVbroadcastf64x4 (o : Operands) (s : State) : Host.Outcome State Fault Refusal :=
  s.run Rows.vbroadcastf64x4 o fun r => s.broadcastTuple r o 64 4

/-- VPBROADCASTB (R333, R334). -/
def execVpbroadcastb (o : Operands) (s : State) : Host.Outcome State Fault Refusal :=
  s.run Rows.vpbroadcastb o fun r => s.broadcastTuple r o 8 1

/-- VPBROADCASTW (R333, R334). -/
def execVpbroadcastw (o : Operands) (s : State) : Host.Outcome State Fault Refusal :=
  s.run Rows.vpbroadcastw o fun r => s.broadcastTuple r o 16 1

/-- VPBROADCASTD (R333, R334). -/
def execVpbroadcastd (o : Operands) (s : State) : Host.Outcome State Fault Refusal :=
  s.run Rows.vpbroadcastd o fun r => s.broadcastTuple r o 32 1

/-- VPBROADCASTQ (R333, R334). -/
def execVpbroadcastq (o : Operands) (s : State) : Host.Outcome State Fault Refusal :=
  s.run Rows.vpbroadcastq o fun r => s.broadcastTuple r o 64 1

/-- VBROADCASTI32x2 (R334). -/
def execVbroadcasti32x2 (o : Operands) (s : State) : Host.Outcome State Fault Refusal :=
  s.run Rows.vbroadcasti32x2 o fun r => s.broadcastTuple r o 32 2

/-- VBROADCASTI128 (R334). -/
def execVbroadcasti128 (o : Operands) (s : State) : Host.Outcome State Fault Refusal :=
  s.run Rows.vbroadcasti128 o fun r => s.broadcastTuple r o 128 1

/-- VBROADCASTI32X4 (R334). -/
def execVbroadcasti32x4 (o : Operands) (s : State) : Host.Outcome State Fault Refusal :=
  s.run Rows.vbroadcasti32x4 o fun r => s.broadcastTuple r o 32 4

/-- VBROADCASTI64X2 (R334). -/
def execVbroadcasti64x2 (o : Operands) (s : State) : Host.Outcome State Fault Refusal :=
  s.run Rows.vbroadcasti64x2 o fun r => s.broadcastTuple r o 64 2

/-- VBROADCASTI32X8 (R334). -/
def execVbroadcasti32x8 (o : Operands) (s : State) : Host.Outcome State Fault Refusal :=
  s.run Rows.vbroadcasti32x8 o fun r => s.broadcastTuple r o 32 8

/-- VBROADCASTI64X4 (R334). -/
def execVbroadcasti64x4 (o : Operands) (s : State) : Host.Outcome State Fault Refusal :=
  s.run Rows.vbroadcasti64x4 o fun r => s.broadcastTuple r o 64 4

end Sys2Proof.Machine
end

