-- ==== Sys2Proof/Machine/Rows42.lean ====
section
/-! DEFINITION. The rows of spec/opcode_table.json for the instructions of spec/42_cmppd_to_vcompressps.md (CMP to VCOMPRESS), in the order of the table:
space, map, pp, W, L, opcode, roles of ModRM.reg, vvvv and r/m, mod, VSIB, imm8, r/m is the destination, masking, broadcast
bytes, rounding, tuple, CPUID flags, exception class, alignment, 64-bit mode only. -/

namespace Sys2Proof.Machine.Rows

/-- CMPPD (R342) -/
def cmppd : List Row :=
  [⟨.legacy, .m0F, .p66, .wig, .any, 0xC2, .vec, .none, .vec, .any, false, true, false, .none, 0, .none, .fixed 1, [.sse2], .sse 2, true, false⟩]

/-- VCMPPD (R342) -/
def vcmppd : List Row :=
  [⟨.vex, .m0F, .p66, .wig, .l128, 0xC2, .vec, .vec, .vec, .any, false, true, false, .none, 0, .none, .fixed 1, [.avx], .vex 2, false, false⟩,
   ⟨.vex, .m0F, .p66, .wig, .l256, 0xC2, .vec, .vec, .vec, .any, false, true, false, .none, 0, .none, .fixed 1, [.avx], .vex 2, false, false⟩,
   ⟨.evex, .m0F, .p66, .w1, .l128, 0xC2, .kreg, .vec, .vec, .any, false, true, false, .merge, 8, .none, .fv 8, [.avx512vl, .avx512f], .e2, false, false⟩,
   ⟨.evex, .m0F, .p66, .w1, .l256, 0xC2, .kreg, .vec, .vec, .any, false, true, false, .merge, 8, .none, .fv 8, [.avx512vl, .avx512f], .e2, false, false⟩,
   ⟨.evex, .m0F, .p66, .w1, .l512, 0xC2, .kreg, .vec, .vec, .any, false, true, false, .merge, 8, .sae, .fv 8, [.avx512f], .e2, false, false⟩]

/-- CMPPS (R343) -/
def cmpps : List Row :=
  [⟨.legacy, .m0F, .np, .wig, .any, 0xC2, .vec, .none, .vec, .any, false, true, false, .none, 0, .none, .fixed 1, [.sse], .sse 2, true, false⟩]

/-- VCMPPS (R343) -/
def vcmpps : List Row :=
  [⟨.vex, .m0F, .np, .wig, .l128, 0xC2, .vec, .vec, .vec, .any, false, true, false, .none, 0, .none, .fixed 1, [.avx], .vex 2, false, false⟩,
   ⟨.vex, .m0F, .np, .wig, .l256, 0xC2, .vec, .vec, .vec, .any, false, true, false, .none, 0, .none, .fixed 1, [.avx], .vex 2, false, false⟩,
   ⟨.evex, .m0F, .np, .w0, .l128, 0xC2, .kreg, .vec, .vec, .any, false, true, false, .merge, 4, .none, .fv 4, [.avx512vl, .avx512f], .e2, false, false⟩,
   ⟨.evex, .m0F, .np, .w0, .l256, 0xC2, .kreg, .vec, .vec, .any, false, true, false, .merge, 4, .none, .fv 4, [.avx512vl, .avx512f], .e2, false, false⟩,
   ⟨.evex, .m0F, .np, .w0, .l512, 0xC2, .kreg, .vec, .vec, .any, false, true, false, .merge, 4, .sae, .fv 4, [.avx512f], .e2, false, false⟩]

/-- CMPSD (R344) -/
def cmpsd : List Row :=
  [⟨.legacy, .m0F, .pF2, .wig, .any, 0xC2, .vec, .none, .vec, .any, false, true, false, .none, 0, .none, .fixed 1, [.sse2], .sse 3, false, false⟩]

/-- VCMPSD (R344) -/
def vcmpsd : List Row :=
  [⟨.vex, .m0F, .pF2, .wig, .any, 0xC2, .vec, .vec, .vec, .any, false, true, false, .none, 0, .none, .fixed 1, [.avx], .vex 3, false, false⟩,
   ⟨.evex, .m0F, .pF2, .w1, .any, 0xC2, .kreg, .vec, .vec, .any, false, true, false, .merge, 0, .sae, .fixed 8, [.avx512f], .e3, false, false⟩]

/-- CMPSS (R345) -/
def cmpss : List Row :=
  [⟨.legacy, .m0F, .pF3, .wig, .any, 0xC2, .vec, .none, .vec, .any, false, true, false, .none, 0, .none, .fixed 1, [.sse], .sse 3, false, false⟩]

/-- VCMPSS (R345) -/
def vcmpss : List Row :=
  [⟨.vex, .m0F, .pF3, .wig, .any, 0xC2, .vec, .vec, .vec, .any, false, true, false, .none, 0, .none, .fixed 1, [.avx], .vex 3, false, false⟩,
   ⟨.evex, .m0F, .pF3, .w0, .any, 0xC2, .kreg, .vec, .vec, .any, false, true, false, .merge, 0, .sae, .fixed 4, [.avx512f], .e3, false, false⟩]

/-- COMISD (R346) -/
def comisd : List Row :=
  [⟨.legacy, .m0F, .p66, .wig, .any, 0x2F, .vec, .none, .vec, .any, false, false, false, .none, 0, .none, .fixed 1, [.sse2], .sse 3, false, false⟩]

/-- VCOMISD (R346) -/
def vcomisd : List Row :=
  [⟨.vex, .m0F, .p66, .wig, .any, 0x2F, .vec, .none, .vec, .any, false, false, false, .none, 0, .none, .fixed 1, [.avx], .vex 3, false, false⟩,
   ⟨.evex, .m0F, .p66, .w1, .any, 0x2F, .vec, .none, .vec, .any, false, false, false, .none, 0, .sae, .fixed 8, [.avx512f], .e3nf, false, false⟩]

/-- COMISS (R347) -/
def comiss : List Row :=
  [⟨.legacy, .m0F, .np, .wig, .any, 0x2F, .vec, .none, .vec, .any, false, false, false, .none, 0, .none, .fixed 1, [.sse], .sse 3, false, false⟩]

/-- VCOMISS (R347) -/
def vcomiss : List Row :=
  [⟨.vex, .m0F, .np, .wig, .any, 0x2F, .vec, .none, .vec, .any, false, false, false, .none, 0, .none, .fixed 1, [.avx], .vex 3, false, false⟩,
   ⟨.evex, .m0F, .np, .w0, .any, 0x2F, .vec, .none, .vec, .any, false, false, false, .none, 0, .sae, .fixed 4, [.avx512f], .e3nf, false, false⟩]

/-- DIVPD (R348) -/
def divpd : List Row :=
  [⟨.legacy, .m0F, .p66, .wig, .any, 0x5E, .vec, .none, .vec, .any, false, false, false, .none, 0, .none, .fixed 1, [.sse2], .sse 2, true, false⟩]

/-- VDIVPD (R348) -/
def vdivpd : List Row :=
  [⟨.vex, .m0F, .p66, .wig, .l128, 0x5E, .vec, .vec, .vec, .any, false, false, false, .none, 0, .none, .fixed 1, [.avx], .vex 2, false, false⟩,
   ⟨.vex, .m0F, .p66, .wig, .l256, 0x5E, .vec, .vec, .vec, .any, false, false, false, .none, 0, .none, .fixed 1, [.avx], .vex 2, false, false⟩,
   ⟨.evex, .m0F, .p66, .w1, .l128, 0x5E, .vec, .vec, .vec, .any, false, false, false, .zero, 8, .none, .fv 8, [.avx512vl, .avx512f], .e2, false, false⟩,
   ⟨.evex, .m0F, .p66, .w1, .l256, 0x5E, .vec, .vec, .vec, .any, false, false, false, .zero, 8, .none, .fv 8, [.avx512vl, .avx512f], .e2, false, false⟩,
   ⟨.evex, .m0F, .p66, .w1, .l512, 0x5E, .vec, .vec, .vec, .any, false, false, false, .zero, 8, .er, .fv 8, [.avx512f], .e2, false, false⟩]

/-- DIVPS (R349) -/
def divps : List Row :=
  [⟨.legacy, .m0F, .np, .wig, .any, 0x5E, .vec, .none, .vec, .any, false, false, false, .none, 0, .none, .fixed 1, [.sse], .sse 2, true, false⟩]

/-- VDIVPS (R349) -/
def vdivps : List Row :=
  [⟨.vex, .m0F, .np, .wig, .l128, 0x5E, .vec, .vec, .vec, .any, false, false, false, .none, 0, .none, .fixed 1, [.avx], .vex 2, false, false⟩,
   ⟨.vex, .m0F, .np, .wig, .l256, 0x5E, .vec, .vec, .vec, .any, false, false, false, .none, 0, .none, .fixed 1, [.avx], .vex 2, false, false⟩,
   ⟨.evex, .m0F, .np, .w0, .l128, 0x5E, .vec, .vec, .vec, .any, false, false, false, .zero, 4, .none, .fv 4, [.avx512vl, .avx512f], .e2, false, false⟩,
   ⟨.evex, .m0F, .np, .w0, .l256, 0x5E, .vec, .vec, .vec, .any, false, false, false, .zero, 4, .none, .fv 4, [.avx512vl, .avx512f], .e2, false, false⟩,
   ⟨.evex, .m0F, .np, .w0, .l512, 0x5E, .vec, .vec, .vec, .any, false, false, false, .zero, 4, .er, .fv 4, [.avx512f], .e2, false, false⟩]

/-- DIVSD (R350) -/
def divsd : List Row :=
  [⟨.legacy, .m0F, .pF2, .wig, .any, 0x5E, .vec, .none, .vec, .any, false, false, false, .none, 0, .none, .fixed 1, [.sse2], .sse 3, false, false⟩]

/-- VDIVSD (R350) -/
def vdivsd : List Row :=
  [⟨.vex, .m0F, .pF2, .wig, .any, 0x5E, .vec, .vec, .vec, .any, false, false, false, .none, 0, .none, .fixed 1, [.avx], .vex 3, false, false⟩,
   ⟨.evex, .m0F, .pF2, .w1, .any, 0x5E, .vec, .vec, .vec, .any, false, false, false, .zero, 0, .er, .fixed 8, [.avx512f], .e3, false, false⟩]

/-- DIVSS (R351) -/
def divss : List Row :=
  [⟨.legacy, .m0F, .pF3, .wig, .any, 0x5E, .vec, .none, .vec, .any, false, false, false, .none, 0, .none, .fixed 1, [.sse], .sse 3, false, false⟩]

/-- VDIVSS (R351) -/
def vdivss : List Row :=
  [⟨.vex, .m0F, .pF3, .wig, .any, 0x5E, .vec, .vec, .vec, .any, false, false, false, .none, 0, .none, .fixed 1, [.avx], .vex 3, false, false⟩,
   ⟨.evex, .m0F, .pF3, .w0, .any, 0x5E, .vec, .vec, .vec, .any, false, false, false, .zero, 0, .er, .fixed 4, [.avx512f], .e3, false, false⟩]

/-- VCOMPRESSPD (R352) -/
def vcompresspd : List Row :=
  [⟨.evex, .m0F38, .p66, .w1, .l128, 0x8A, .vec, .none, .vec, .any, false, false, true, .zero, 0, .none, .fixed 8, [.avx512vl, .avx512f], .e4, false, false⟩,
   ⟨.evex, .m0F38, .p66, .w1, .l256, 0x8A, .vec, .none, .vec, .any, false, false, true, .zero, 0, .none, .fixed 8, [.avx512vl, .avx512f], .e4, false, false⟩,
   ⟨.evex, .m0F38, .p66, .w1, .l512, 0x8A, .vec, .none, .vec, .any, false, false, true, .zero, 0, .none, .fixed 8, [.avx512f], .e4, false, false⟩]

/-- VCOMPRESSPS (R353) -/
def vcompressps : List Row :=
  [⟨.evex, .m0F38, .p66, .w0, .l128, 0x8A, .vec, .none, .vec, .any, false, false, true, .zero, 0, .none, .fixed 4, [.avx512vl, .avx512f], .e4, false, false⟩,
   ⟨.evex, .m0F38, .p66, .w0, .l256, 0x8A, .vec, .none, .vec, .any, false, false, true, .zero, 0, .none, .fixed 4, [.avx512vl, .avx512f], .e4, false, false⟩,
   ⟨.evex, .m0F38, .p66, .w0, .l512, 0x8A, .vec, .none, .vec, .any, false, false, true, .zero, 0, .none, .fixed 4, [.avx512f], .e4, false, false⟩]

end Sys2Proof.Machine.Rows
end

