-- ==== Sys2Proof/Machine/Exec42.lean ====
section
/-! DEFINITION. The meanings of the instructions of spec/42_cmppd_to_vcompressps.md (CMP to VCOMPRESS), one definition each: the checks
of `State.run` on the rows of the instruction, then its operation on the row its fields select. -/

namespace Sys2Proof.Machine

/-- CMPPD (R342). -/
def execCmppd (o : Operands) (s : State) : Host.Outcome State Fault Refusal :=
  s.run Rows.cmppd o fun r => s.fpCompareVec r o f64

/-- VCMPPD (R342). -/
def execVcmppd (o : Operands) (s : State) : Host.Outcome State Fault Refusal :=
  s.run Rows.vcmppd o fun r => s.fpCompareVec r o f64

/-- CMPPS (R343). -/
def execCmpps (o : Operands) (s : State) : Host.Outcome State Fault Refusal :=
  s.run Rows.cmpps o fun r => s.fpCompareVec r o f32

/-- VCMPPS (R343). -/
def execVcmpps (o : Operands) (s : State) : Host.Outcome State Fault Refusal :=
  s.run Rows.vcmpps o fun r => s.fpCompareVec r o f32

/-- CMPSD (R344). -/
def execCmpsd (o : Operands) (s : State) : Host.Outcome State Fault Refusal :=
  s.run Rows.cmpsd o fun r => s.fpCompareScalar r o f64

/-- VCMPSD (R344). -/
def execVcmpsd (o : Operands) (s : State) : Host.Outcome State Fault Refusal :=
  s.run Rows.vcmpsd o fun r => s.fpCompareScalar r o f64

/-- CMPSS (R345). -/
def execCmpss (o : Operands) (s : State) : Host.Outcome State Fault Refusal :=
  s.run Rows.cmpss o fun r => s.fpCompareScalar r o f32

/-- VCMPSS (R345). -/
def execVcmpss (o : Operands) (s : State) : Host.Outcome State Fault Refusal :=
  s.run Rows.vcmpss o fun r => s.fpCompareScalar r o f32

/-- COMISD (R346). -/
def execComisd (o : Operands) (s : State) : Host.Outcome State Fault Refusal :=
  s.run Rows.comisd o fun r => s.fpCompareFlags r o f64 false

/-- VCOMISD (R346). -/
def execVcomisd (o : Operands) (s : State) : Host.Outcome State Fault Refusal :=
  s.run Rows.vcomisd o fun r => s.fpCompareFlags r o f64 false

/-- COMISS (R347). -/
def execComiss (o : Operands) (s : State) : Host.Outcome State Fault Refusal :=
  s.run Rows.comiss o fun r => s.fpCompareFlags r o f32 false

/-- VCOMISS (R347). -/
def execVcomiss (o : Operands) (s : State) : Host.Outcome State Fault Refusal :=
  s.run Rows.vcomiss o fun r => s.fpCompareFlags r o f32 false

/-- DIVPD (R348). -/
def execDivpd (o : Operands) (s : State) : Host.Outcome State Fault Refusal :=
  s.run Rows.divpd o fun r => s.fp2 r o f64.div

/-- VDIVPD (R348). -/
def execVdivpd (o : Operands) (s : State) : Host.Outcome State Fault Refusal :=
  s.run Rows.vdivpd o fun r => s.fp2 r o f64.div

/-- DIVPS (R349). -/
def execDivps (o : Operands) (s : State) : Host.Outcome State Fault Refusal :=
  s.run Rows.divps o fun r => s.fp2 r o f32.div

/-- VDIVPS (R349). -/
def execVdivps (o : Operands) (s : State) : Host.Outcome State Fault Refusal :=
  s.run Rows.vdivps o fun r => s.fp2 r o f32.div

/-- DIVSD (R350). -/
def execDivsd (o : Operands) (s : State) : Host.Outcome State Fault Refusal :=
  s.run Rows.divsd o fun r => s.fp2s r o f64.div

/-- VDIVSD (R350). -/
def execVdivsd (o : Operands) (s : State) : Host.Outcome State Fault Refusal :=
  s.run Rows.vdivsd o fun r => s.fp2s r o f64.div

/-- DIVSS (R351). -/
def execDivss (o : Operands) (s : State) : Host.Outcome State Fault Refusal :=
  s.run Rows.divss o fun r => s.fp2s r o f32.div

/-- VDIVSS (R351). -/
def execVdivss (o : Operands) (s : State) : Host.Outcome State Fault Refusal :=
  s.run Rows.vdivss o fun r => s.fp2s r o f32.div

/-- VCOMPRESSPD (R352). -/
def execVcompresspd (o : Operands) (s : State) : Host.Outcome State Fault Refusal :=
  s.run Rows.vcompresspd o fun r => s.compress r o 64

/-- VCOMPRESSPS (R353). -/
def execVcompressps (o : Operands) (s : State) : Host.Outcome State Fault Refusal :=
  s.run Rows.vcompressps o fun r => s.compress r o 32

end Sys2Proof.Machine
end

