-- ==== Sys2Proof/Machine/Rows43.lean ====
section
/-! DEFINITION. The rows of spec/opcode_table.json for the instructions of spec/43_cvtdq2pd_to_vcvtss2usi.md (CVT to VCVTSS2USI), in the order of the table:
space, map, pp, W, L, opcode, roles of ModRM.reg, vvvv and r/m, mod, VSIB, imm8, r/m is the destination, masking, broadcast
bytes, rounding, tuple, CPUID flags, exception class, alignment, 64-bit mode only. -/

namespace Sys2Proof.Machine.Rows

/-- CVTDQ2PD (R362) -/
def cvtdq2pd : List Row :=
  [⟨.legacy, .m0F, .pF3, .wig, .any, 0xE6, .vec, .none, .vec, .any, false, false, false, .none, 0, .none, .fixed 1, [.sse2], .sse 5, false, false⟩]

/-- VCVTDQ2PD (R362) -/
def vcvtdq2pd : List Row :=
  [⟨.vex, .m0F, .pF3, .wig, .l128, 0xE6, .vec, .none, .vec, .any, false, false, false, .none, 0, .none, .fixed 1, [.avx], .vex 5, false, false⟩,
   ⟨.vex, .m0F, .pF3, .wig, .l256, 0xE6, .vec, .none, .vec, .any, false, false, false, .none, 0, .none, .fixed 1, [.avx], .vex 5, false, false⟩,
   ⟨.evex, .m0F, .pF3, .w0, .l128, 0xE6, .vec, .none, .vec, .any, false, false, false, .zero, 4, .ignored, .hv 4, [.avx512vl, .avx512f], .e5, false, false⟩,
   ⟨.evex, .m0F, .pF3, .w0, .l256, 0xE6, .vec, .none, .vec, .any, false, false, false, .zero, 4, .ignored, .hv 4, [.avx512vl, .avx512f], .e5, false, false⟩,
   ⟨.evex, .m0F, .pF3, .w0, .l512, 0xE6, .vec, .none, .vec, .any, false, false, false, .zero, 4, .ignored, .hv 4, [.avx512f], .e5, false, false⟩]

/-- CVTDQ2PS (R363) -/
def cvtdq2ps : List Row :=
  [⟨.legacy, .m0F, .np, .wig, .any, 0x5B, .vec, .none, .vec, .any, false, false, false, .none, 0, .none, .fixed 1, [.sse2], .sse 2, true, false⟩]

/-- VCVTDQ2PS (R363) -/
def vcvtdq2ps : List Row :=
  [⟨.vex, .m0F, .np, .wig, .l128, 0x5B, .vec, .none, .vec, .any, false, false, false, .none, 0, .none, .fixed 1, [.avx], .vex 2, false, false⟩,
   ⟨.vex, .m0F, .np, .wig, .l256, 0x5B, .vec, .none, .vec, .any, false, false, false, .none, 0, .none, .fixed 1, [.avx], .vex 2, false, false⟩,
   ⟨.evex, .m0F, .np, .w0, .l128, 0x5B, .vec, .none, .vec, .any, false, false, false, .zero, 4, .none, .fv 4, [.avx512vl, .avx512f], .e2, false, false⟩,
   ⟨.evex, .m0F, .np, .w0, .l256, 0x5B, .vec, .none, .vec, .any, false, false, false, .zero, 4, .none, .fv 4, [.avx512vl, .avx512f], .e2, false, false⟩,
   ⟨.evex, .m0F, .np, .w0, .l512, 0x5B, .vec, .none, .vec, .any, false, false, false, .zero, 4, .er, .fv 4, [.avx512f], .e2, false, false⟩]

/-- CVTPD2DQ (R364) -/
def cvtpd2dq : List Row :=
  [⟨.legacy, .m0F, .pF2, .wig, .any, 0xE6, .vec, .none, .vec, .any, false, false, false, .none, 0, .none, .fixed 1, [.sse2], .sse 2, true, false⟩]

/-- VCVTPD2DQ (R364) -/
def vcvtpd2dq : List Row :=
  [⟨.vex, .m0F, .pF2, .wig, .l128, 0xE6, .vec, .none, .vec, .any, false, false, false, .none, 0, .none, .fixed 1, [.avx], .vex 2, false, false⟩,
   ⟨.vex, .m0F, .pF2, .wig, .l256, 0xE6, .vec, .none, .vec, .any, false, false, false, .none, 0, .none, .fixed 1, [.avx], .vex 2, false, false⟩,
   ⟨.evex, .m0F, .pF2, .w1, .l128, 0xE6, .vec, .none, .vec, .any, false, false, false, .zero, 8, .none, .fv 8, [.avx512vl, .avx512f], .e2, false, false⟩,
   ⟨.evex, .m0F, .pF2, .w1, .l256, 0xE6, .vec, .none, .vec, .any, false, false, false, .zero, 8, .none, .fv 8, [.avx512vl, .avx512f], .e2, false, false⟩,
   ⟨.evex, .m0F, .pF2, .w1, .l512, 0xE6, .vec, .none, .vec, .any, false, false, false, .zero, 8, .er, .fv 8, [.avx512f], .e2, false, false⟩]

/-- CVTPD2PS (R365) -/
def cvtpd2ps : List Row :=
  [⟨.legacy, .m0F, .p66, .wig, .any, 0x5A, .vec, .none, .vec, .any, false, false, false, .none, 0, .none, .fixed 1, [.sse2], .sse 2, true, false⟩]

/-- VCVTPD2PS (R365) -/
def vcvtpd2ps : List Row :=
  [⟨.vex, .m0F, .p66, .wig, .l128, 0x5A, .vec, .none, .vec, .any, false, false, false, .none, 0, .none, .fixed 1, [.avx], .vex 2, false, false⟩,
   ⟨.vex, .m0F, .p66, .wig, .l256, 0x5A, .vec, .none, .vec, .any, false, false, false, .none, 0, .none, .fixed 1, [.avx], .vex 2, false, false⟩,
   ⟨.evex, .m0F, .p66, .w1, .l128, 0x5A, .vec, .none, .vec, .any, false, false, false, .zero, 8, .none, .fv 8, [.avx512vl, .avx512f], .e2, false, false⟩,
   ⟨.evex, .m0F, .p66, .w1, .l256, 0x5A, .vec, .none, .vec, .any, false, false, false, .zero, 8, .none, .fv 8, [.avx512vl, .avx512f], .e2, false, false⟩,
   ⟨.evex, .m0F, .p66, .w1, .l512, 0x5A, .vec, .none, .vec, .any, false, false, false, .zero, 8, .er, .fv 8, [.avx512f], .e2, false, false⟩]

/-- VCVTPD2QQ (R366) -/
def vcvtpd2qq : List Row :=
  [⟨.evex, .m0F, .p66, .w1, .l128, 0x7B, .vec, .none, .vec, .any, false, false, false, .zero, 8, .none, .fv 8, [.avx512vl, .avx512dq], .e2, false, false⟩,
   ⟨.evex, .m0F, .p66, .w1, .l256, 0x7B, .vec, .none, .vec, .any, false, false, false, .zero, 8, .none, .fv 8, [.avx512vl, .avx512dq], .e2, false, false⟩,
   ⟨.evex, .m0F, .p66, .w1, .l512, 0x7B, .vec, .none, .vec, .any, false, false, false, .zero, 8, .er, .fv 8, [.avx512dq], .e2, false, false⟩]

/-- VCVTPD2UDQ (R367) -/
def vcvtpd2udq : List Row :=
  [⟨.evex, .m0F, .np, .w1, .l128, 0x79, .vec, .none, .vec, .any, false, false, false, .zero, 8, .none, .fv 8, [.avx512vl, .avx512f], .e2, false, false⟩,
   ⟨.evex, .m0F, .np, .w1, .l256, 0x79, .vec, .none, .vec, .any, false, false, false, .zero, 8, .none, .fv 8, [.avx512vl, .avx512f], .e2, false, false⟩,
   ⟨.evex, .m0F, .np, .w1, .l512, 0x79, .vec, .none, .vec, .any, false, false, false, .zero, 8, .er, .fv 8, [.avx512f], .e2, false, false⟩]

/-- VCVTPD2UQQ (R368) -/
def vcvtpd2uqq : List Row :=
  [⟨.evex, .m0F, .p66, .w1, .l128, 0x79, .vec, .none, .vec, .any, false, false, false, .zero, 8, .none, .fv 8, [.avx512vl, .avx512dq], .e2, false, false⟩,
   ⟨.evex, .m0F, .p66, .w1, .l256, 0x79, .vec, .none, .vec, .any, false, false, false, .zero, 8, .none, .fv 8, [.avx512vl, .avx512dq], .e2, false, false⟩,
   ⟨.evex, .m0F, .p66, .w1, .l512, 0x79, .vec, .none, .vec, .any, false, false, false, .zero, 8, .er, .fv 8, [.avx512dq], .e2, false, false⟩]

/-- VCVTPH2PS (R369) -/
def vcvtph2ps : List Row :=
  [⟨.vex, .m0F38, .p66, .w0, .l128, 0x13, .vec, .none, .vec, .any, false, false, false, .none, 0, .none, .fixed 1, [.f16c], .vex 11, false, false⟩,
   ⟨.vex, .m0F38, .p66, .w0, .l256, 0x13, .vec, .none, .vec, .any, false, false, false, .none, 0, .none, .fixed 1, [.f16c], .vex 11, false, false⟩,
   ⟨.evex, .m0F38, .p66, .w0, .l128, 0x13, .vec, .none, .vec, .any, false, false, false, .zero, 0, .none, .hvm, [.avx512vl, .avx512f], .e11, false, false⟩,
   ⟨.evex, .m0F38, .p66, .w0, .l256, 0x13, .vec, .none, .vec, .any, false, false, false, .zero, 0, .none, .hvm, [.avx512vl, .avx512f], .e11, false, false⟩,
   ⟨.evex, .m0F38, .p66, .w0, .l512, 0x13, .vec, .none, .vec, .any, false, false, false, .zero, 0, .sae, .hvm, [.avx512f], .e11, false, false⟩]

/-- VCVTPS2PH (R370) -/
def vcvtps2ph : List Row :=
  [⟨.vex, .m0F3A, .p66, .w0, .l128, 0x1D, .vec, .none, .vec, .any, false, true, true, .none, 0, .none, .fixed 1, [.f16c], .vex 11, false, false⟩,
   ⟨.vex, .m0F3A, .p66, .w0, .l256, 0x1D, .vec, .none, .vec, .any, false, true, true, .none, 0, .none, .fixed 1, [.f16c], .vex 11, false, false⟩,
   ⟨.evex, .m0F3A, .p66, .w0, .l128, 0x1D, .vec, .none, .vec, .any, false, true, true, .zero, 0, .none, .hvm, [.avx512vl, .avx512f], .e11, false, false⟩,
   ⟨.evex, .m0F3A, .p66, .w0, .l256, 0x1D, .vec, .none, .vec, .any, false, true, true, .zero, 0, .none, .hvm, [.avx512vl, .avx512f], .e11, false, false⟩,
   ⟨.evex, .m0F3A, .p66, .w0, .l512, 0x1D, .vec, .none, .vec, .any, false, true, true, .zero, 0, .sae, .hvm, [.avx512f], .e11, false, false⟩]

/-- CVTPS2DQ (R371) -/
def cvtps2dq : List Row :=
  [⟨.legacy, .m0F, .p66, .wig, .any, 0x5B, .vec, .none, .vec, .any, false, false, false, .none, 0, .none, .fixed 1, [.sse2], .sse 2, true, false⟩]

/-- VCVTPS2DQ (R371) -/
def vcvtps2dq : List Row :=
  [⟨.vex, .m0F, .p66, .wig, .l128, 0x5B, .vec, .none, .vec, .any, false, false, false, .none, 0, .none, .fixed 1, [.avx], .vex 2, false, false⟩,
   ⟨.vex, .m0F, .p66, .wig, .l256, 0x5B, .vec, .none, .vec, .any, false, false, false, .none, 0, .none, .fixed 1, [.avx], .vex 2, false, false⟩,
   ⟨.evex, .m0F, .p66, .w0, .l128, 0x5B, .vec, .none, .vec, .any, false, false, false, .zero, 4, .none, .fv 4, [.avx512vl, .avx512f], .e2, false, false⟩,
   ⟨.evex, .m0F, .p66, .w0, .l256, 0x5B, .vec, .none, .vec, .any, false, false, false, .zero, 4, .none, .fv 4, [.avx512vl, .avx512f], .e2, false, false⟩,
   ⟨.evex, .m0F, .p66, .w0, .l512, 0x5B, .vec, .none, .vec, .any, false, false, false, .zero, 4, .er, .fv 4, [.avx512f], .e2, false, false⟩]

/-- VCVTPS2UDQ (R372) -/
def vcvtps2udq : List Row :=
  [⟨.evex, .m0F, .np, .w0, .l128, 0x79, .vec, .none, .vec, .any, false, false, false, .zero, 4, .none, .fv 4, [.avx512vl, .avx512f], .e2, false, false⟩,
   ⟨.evex, .m0F, .np, .w0, .l256, 0x79, .vec, .none, .vec, .any, false, false, false, .zero, 4, .none, .fv 4, [.avx512vl, .avx512f], .e2, false, false⟩,
   ⟨.evex, .m0F, .np, .w0, .l512, 0x79, .vec, .none, .vec, .any, false, false, false, .zero, 4, .er, .fv 4, [.avx512f], .e2, false, false⟩]

/-- VCVTPS2QQ (R373) -/
def vcvtps2qq : List Row :=
  [⟨.evex, .m0F, .p66, .w0, .l128, 0x7B, .vec, .none, .vec, .any, false, false, false, .zero, 4, .none, .hv 4, [.avx512vl, .avx512dq], .e3, false, false⟩,
   ⟨.evex, .m0F, .p66, .w0, .l256, 0x7B, .vec, .none, .vec, .any, false, false, false, .zero, 4, .none, .hv 4, [.avx512vl, .avx512dq], .e3, false, false⟩,
   ⟨.evex, .m0F, .p66, .w0, .l512, 0x7B, .vec, .none, .vec, .any, false, false, false, .zero, 4, .er, .hv 4, [.avx512dq], .e3, false, false⟩]

/-- VCVTPS2UQQ (R374) -/
def vcvtps2uqq : List Row :=
  [⟨.evex, .m0F, .p66, .w0, .l128, 0x79, .vec, .none, .vec, .any, false, false, false, .zero, 4, .none, .hv 4, [.avx512vl, .avx512dq], .e3, false, false⟩,
   ⟨.evex, .m0F, .p66, .w0, .l256, 0x79, .vec, .none, .vec, .any, false, false, false, .zero, 4, .none, .hv 4, [.avx512vl, .avx512dq], .e3, false, false⟩,
   ⟨.evex, .m0F, .p66, .w0, .l512, 0x79, .vec, .none, .vec, .any, false, false, false, .zero, 4, .er, .hv 4, [.avx512dq], .e3, false, false⟩]

/-- CVTPS2PD (R375) -/
def cvtps2pd : List Row :=
  [⟨.legacy, .m0F, .np, .wig, .any, 0x5A, .vec, .none, .vec, .any, false, false, false, .none, 0, .none, .fixed 1, [.sse2], .sse 3, false, false⟩]

/-- VCVTPS2PD (R375) -/
def vcvtps2pd : List Row :=
  [⟨.vex, .m0F, .np, .wig, .l128, 0x5A, .vec, .none, .vec, .any, false, false, false, .none, 0, .none, .fixed 1, [.avx], .vex 3, false, false⟩,
   ⟨.vex, .m0F, .np, .wig, .l256, 0x5A, .vec, .none, .vec, .any, false, false, false, .none, 0, .none, .fixed 1, [.avx], .vex 3, false, false⟩,
   ⟨.evex, .m0F, .np, .w0, .l128, 0x5A, .vec, .none, .vec, .any, false, false, false, .zero, 4, .none, .hv 4, [.avx512vl, .avx512f], .e3, false, false⟩,
   ⟨.evex, .m0F, .np, .w0, .l256, 0x5A, .vec, .none, .vec, .any, false, false, false, .zero, 4, .none, .hv 4, [.avx512vl], .e3, false, false⟩,
   ⟨.evex, .m0F, .np, .w0, .l512, 0x5A, .vec, .none, .vec, .any, false, false, false, .zero, 4, .sae, .hv 4, [.avx512f], .e3, false, false⟩]

/-- VCVTQQ2PD (R376) -/
def vcvtqq2pd : List Row :=
  [⟨.evex, .m0F, .pF3, .w1, .l128, 0xE6, .vec, .none, .vec, .any, false, false, false, .zero, 8, .none, .fv 8, [.avx512vl, .avx512dq], .e2, false, false⟩,
   ⟨.evex, .m0F, .pF3, .w1, .l256, 0xE6, .vec, .none, .vec, .any, false, false, false, .zero, 8, .none, .fv 8, [.avx512vl, .avx512dq], .e2, false, false⟩,
   ⟨.evex, .m0F, .pF3, .w1, .l512, 0xE6, .vec, .none, .vec, .any, false, false, false, .zero, 8, .er, .fv 8, [.avx512dq], .e2, false, false⟩]

/-- VCVTQQ2PS (R377) -/
def vcvtqq2ps : List Row :=
  [⟨.evex, .m0F, .np, .w1, .l128, 0x5B, .vec, .none, .vec, .any, false, false, false, .zero, 8, .none, .fv 8, [.avx512vl, .avx512dq], .e2, false, false⟩,
   ⟨.evex, .m0F, .np, .w1, .l256, 0x5B, .vec, .none, .vec, .any, false, false, false, .zero, 8, .none, .fv 8, [.avx512vl, .avx512dq], .e2, false, false⟩,
   ⟨.evex, .m0F, .np, .w1, .l512, 0x5B, .vec, .none, .vec, .any, false, false, false, .zero, 8, .er, .fv 8, [.avx512dq], .e2, false, false⟩]

/-- CVTSD2SI (R378) -/
def cvtsd2si : List Row :=
  [⟨.legacy, .m0F, .pF2, .w0, .any, 0x2D, .gpr, .none, .vec, .any, false, false, false, .none, 0, .none, .fixed 1, [.sse2], .sse 3, false, false⟩,
   ⟨.legacy, .m0F, .pF2, .w1, .any, 0x2D, .gpr, .none, .vec, .any, false, false, false, .none, 0, .none, .fixed 1, [.sse2], .sse 3, false, true⟩]

/-- VCVTSD2SI (R378) -/
def vcvtsd2si : List Row :=
  [⟨.vex, .m0F, .pF2, .w0, .any, 0x2D, .gpr, .none, .vec, .any, false, false, false, .none, 0, .none, .fixed 1, [.avx], .vex 3, false, false⟩,
   ⟨.vex, .m0F, .pF2, .w1, .any, 0x2D, .gpr, .none, .vec, .any, false, false, false, .none, 0, .none, .fixed 1, [.avx], .vex 3, false, true⟩,
   ⟨.evex, .m0F, .pF2, .w0, .any, 0x2D, .gpr, .none, .vec, .any, false, false, false, .none, 0, .er, .fixed 8, [.avx512f], .e3nf, false, false⟩,
   ⟨.evex, .m0F, .pF2, .w1, .any, 0x2D, .gpr, .none, .vec, .any, false, false, false, .none, 0, .er, .fixed 8, [.avx512f], .e3nf, false, true⟩]

/-- VCVTSD2USI (R379) -/
def vcvtsd2usi : List Row :=
  [⟨.evex, .m0F, .pF2, .w0, .any, 0x79, .gpr, .none, .vec, .any, false, false, false, .none, 0, .er, .fixed 8, [.avx512f], .e3nf, false, false⟩,
   ⟨.evex, .m0F, .pF2, .w1, .any, 0x79, .gpr, .none, .vec, .any, false, false, false, .none, 0, .er, .fixed 8, [.avx512f], .e3nf, false, true⟩]

/-- CVTSD2SS (R380) -/
def cvtsd2ss : List Row :=
  [⟨.legacy, .m0F, .pF2, .wig, .any, 0x5A, .vec, .none, .vec, .any, false, false, false, .none, 0, .none, .fixed 1, [.sse2], .sse 3, false, false⟩]

/-- VCVTSD2SS (R380) -/
def vcvtsd2ss : List Row :=
  [⟨.vex, .m0F, .pF2, .wig, .any, 0x5A, .vec, .vec, .vec, .any, false, false, false, .none, 0, .none, .fixed 1, [.avx], .vex 3, false, false⟩,
   ⟨.evex, .m0F, .pF2, .w1, .any, 0x5A, .vec, .vec, .vec, .any, false, false, false, .zero, 0, .er, .fixed 8, [.avx512f], .e3, false, false⟩]

/-- CVTSI2SD (R381) -/
def cvtsi2sd : List Row :=
  [⟨.legacy, .m0F, .pF2, .w0, .any, 0x2A, .vec, .none, .gpr, .any, false, false, false, .none, 0, .none, .fixed 1, [.sse2], .sse 5, false, false⟩,
   ⟨.legacy, .m0F, .pF2, .w1, .any, 0x2A, .vec, .none, .gpr, .any, false, false, false, .none, 0, .none, .fixed 1, [.sse2], .sse 3, false, true⟩]

/-- VCVTSI2SD (R381) -/
def vcvtsi2sd : List Row :=
  [⟨.vex, .m0F, .pF2, .w0, .any, 0x2A, .vec, .vec, .gpr, .any, false, false, false, .none, 0, .none, .fixed 1, [.avx], .vex 5, false, false⟩,
   ⟨.vex, .m0F, .pF2, .w1, .any, 0x2A, .vec, .vec, .gpr, .any, false, false, false, .none, 0, .none, .fixed 1, [.avx], .vex 3, false, true⟩,
   ⟨.evex, .m0F, .pF2, .w0, .any, 0x2A, .vec, .vec, .gpr, .any, false, false, false, .none, 0, .ignored, .fixed 4, [.avx512f], .e10nf, false, false⟩,
   ⟨.evex, .m0F, .pF2, .w1, .any, 0x2A, .vec, .vec, .gpr, .any, false, false, false, .none, 0, .er, .fixed 8, [.avx512f], .e3nf, false, true⟩]

/-- CVTSI2SS (R382) -/
def cvtsi2ss : List Row :=
  [⟨.legacy, .m0F, .pF3, .w0, .any, 0x2A, .vec, .none, .gpr, .any, false, false, false, .none, 0, .none, .fixed 1, [.sse], .sse 3, false, false⟩,
   ⟨.legacy, .m0F, .pF3, .w1, .any, 0x2A, .vec, .none, .gpr, .any, false, false, false, .none, 0, .none, .fixed 1, [.sse], .sse 3, false, true⟩]

/-- VCVTSI2SS (R382) -/
def vcvtsi2ss : List Row :=
  [⟨.vex, .m0F, .pF3, .w0, .any, 0x2A, .vec, .vec, .gpr, .any, false, false, false, .none, 0, .none, .fixed 1, [.avx], .vex 3, false, false⟩,
   ⟨.vex, .m0F, .pF3, .w1, .any, 0x2A, .vec, .vec, .gpr, .any, false, false, false, .none, 0, .none, .fixed 1, [.avx], .vex 3, false, true⟩,
   ⟨.evex, .m0F, .pF3, .w0, .any, 0x2A, .vec, .vec, .gpr, .any, false, false, false, .none, 0, .er, .fixed 4, [.avx512f], .e3nf, false, false⟩,
   ⟨.evex, .m0F, .pF3, .w1, .any, 0x2A, .vec, .vec, .gpr, .any, false, false, false, .none, 0, .er, .fixed 8, [.avx512f], .e3nf, false, true⟩]

/-- CVTSS2SD (R383) -/
def cvtss2sd : List Row :=
  [⟨.legacy, .m0F, .pF3, .wig, .any, 0x5A, .vec, .none, .vec, .any, false, false, false, .none, 0, .none, .fixed 1, [.sse2], .sse 3, false, false⟩]

/-- VCVTSS2SD (R383) -/
def vcvtss2sd : List Row :=
  [⟨.vex, .m0F, .pF3, .wig, .any, 0x5A, .vec, .vec, .vec, .any, false, false, false, .none, 0, .none, .fixed 1, [.avx], .vex 3, false, false⟩,
   ⟨.evex, .m0F, .pF3, .w0, .any, 0x5A, .vec, .vec, .vec, .any, false, false, false, .zero, 0, .sae, .fixed 4, [.avx512f], .e3, false, false⟩]

/-- CVTSS2SI (R384) -/
def cvtss2si : List Row :=
  [⟨.legacy, .m0F, .pF3, .w0, .any, 0x2D, .gpr, .none, .vec, .any, false, false, false, .none, 0, .none, .fixed 1, [.sse], .sse 3, false, false⟩,
   ⟨.legacy, .m0F, .pF3, .w1, .any, 0x2D, .gpr, .none, .vec, .any, false, false, false, .none, 0, .none, .fixed 1, [.sse], .sse 3, false, true⟩]

/-- VCVTSS2SI (R384) -/
def vcvtss2si : List Row :=
  [⟨.vex, .m0F, .pF3, .w0, .any, 0x2D, .gpr, .none, .vec, .any, false, false, false, .none, 0, .none, .fixed 1, [.avx], .vex 3, false, false⟩,
   ⟨.vex, .m0F, .pF3, .w1, .any, 0x2D, .gpr, .none, .vec, .any, false, false, false, .none, 0, .none, .fixed 1, [.avx], .vex 3, false, true⟩,
   ⟨.evex, .m0F, .pF3, .w0, .any, 0x2D, .gpr, .none, .vec, .any, false, false, false, .none, 0, .er, .fixed 4, [.avx512f], .e3nf, false, false⟩,
   ⟨.evex, .m0F, .pF3, .w1, .any, 0x2D, .gpr, .none, .vec, .any, false, false, false, .none, 0, .er, .fixed 4, [.avx512f], .e3nf, false, true⟩]

/-- VCVTSS2USI (R385) -/
def vcvtss2usi : List Row :=
  [⟨.evex, .m0F, .pF3, .w0, .any, 0x79, .gpr, .none, .vec, .any, false, false, false, .none, 0, .er, .fixed 4, [.avx512f], .e3nf, false, false⟩,
   ⟨.evex, .m0F, .pF3, .w1, .any, 0x79, .gpr, .none, .vec, .any, false, false, false, .none, 0, .er, .fixed 4, [.avx512f], .e3nf, false, true⟩]

end Sys2Proof.Machine.Rows
end

