-- ==== Sys2Proof/Machine/Exec43.lean ====
section
/-! DEFINITION. The meanings of the instructions of spec/43_cvtdq2pd_to_vcvtss2usi.md (CVT to VCVTSS2USI), one definition each: the checks
of `State.run` on the rows of the instruction, then its operation on the row its fields select. -/

namespace Sys2Proof.Machine

/-- CVTDQ2PD (R362). -/
def execCvtdq2pd (o : Operands) (s : State) : Host.Outcome State Fault Refusal :=
  s.run Rows.cvtdq2pd o fun r => s.fpWiden r o fun env (x : BitVec 32) => f64.ofInteger env x.toInt

/-- VCVTDQ2PD (R362). -/
def execVcvtdq2pd (o : Operands) (s : State) : Host.Outcome State Fault Refusal :=
  s.run Rows.vcvtdq2pd o fun r => s.fpWiden r o fun env (x : BitVec 32) => f64.ofInteger env x.toInt

/-- CVTDQ2PS (R363). -/
def execCvtdq2ps (o : Operands) (s : State) : Host.Outcome State Fault Refusal :=
  s.run Rows.cvtdq2ps o fun r => s.fpWiden r o fun env (x : BitVec 32) => f32.ofInteger env x.toInt

/-- VCVTDQ2PS (R363). -/
def execVcvtdq2ps (o : Operands) (s : State) : Host.Outcome State Fault Refusal :=
  s.run Rows.vcvtdq2ps o fun r => s.fpWiden r o fun env (x : BitVec 32) => f32.ofInteger env x.toInt

/-- CVTPD2DQ (R364). -/
def execCvtpd2dq (o : Operands) (s : State) : Host.Outcome State Fault Refusal :=
  s.run Rows.cvtpd2dq o fun r => s.fpWiden r o fun env (x : BitVec 64) => f64.toInteger env false true 32 x

/-- VCVTPD2DQ (R364). -/
def execVcvtpd2dq (o : Operands) (s : State) : Host.Outcome State Fault Refusal :=
  s.run Rows.vcvtpd2dq o fun r => s.fpWiden r o fun env (x : BitVec 64) => f64.toInteger env false true 32 x

/-- CVTPD2PS (R365). -/
def execCvtpd2ps (o : Operands) (s : State) : Host.Outcome State Fault Refusal :=
  s.run Rows.cvtpd2ps o fun r => s.fpWiden r o fun env => f64.convert f32 env true

/-- VCVTPD2PS (R365). -/
def execVcvtpd2ps (o : Operands) (s : State) : Host.Outcome State Fault Refusal :=
  s.run Rows.vcvtpd2ps o fun r => s.fpWiden r o fun env => f64.convert f32 env true

/-- VCVTPD2QQ (R366). -/
def execVcvtpd2qq (o : Operands) (s : State) : Host.Outcome State Fault Refusal :=
  s.run Rows.vcvtpd2qq o fun r => s.fpWiden r o fun env (x : BitVec 64) => f64.toInteger env false true 64 x

/-- VCVTPD2UDQ (R367). -/
def execVcvtpd2udq (o : Operands) (s : State) : Host.Outcome State Fault Refusal :=
  s.run Rows.vcvtpd2udq o fun r => s.fpWiden r o fun env (x : BitVec 64) => f64.toInteger env false false 32 x

/-- VCVTPD2UQQ (R368). -/
def execVcvtpd2uqq (o : Operands) (s : State) : Host.Outcome State Fault Refusal :=
  s.run Rows.vcvtpd2uqq o fun r => s.fpWiden r o fun env (x : BitVec 64) => f64.toInteger env false false 64 x

/-- VCVTPH2PS (R369). -/
def execVcvtph2ps (o : Operands) (s : State) : Host.Outcome State Fault Refusal :=
  s.run Rows.vcvtph2ps o fun r => s.fpWiden r o fun env => f16.convert f32 { env with daz := false } false

/-- VCVTPS2PH (R370). -/
def execVcvtps2ph (o : Operands) (s : State) : Host.Outcome State Fault Refusal :=
  s.run Rows.vcvtps2ph o fun r => s.cvtToHalf r o

/-- CVTPS2DQ (R371). -/
def execCvtps2dq (o : Operands) (s : State) : Host.Outcome State Fault Refusal :=
  s.run Rows.cvtps2dq o fun r => s.fpWiden r o fun env (x : BitVec 32) => f32.toInteger env false true 32 x

/-- VCVTPS2DQ (R371). -/
def execVcvtps2dq (o : Operands) (s : State) : Host.Outcome State Fault Refusal :=
  s.run Rows.vcvtps2dq o fun r => s.fpWiden r o fun env (x : BitVec 32) => f32.toInteger env false true 32 x

/-- VCVTPS2UDQ (R372). -/
def execVcvtps2udq (o : Operands) (s : State) : Host.Outcome State Fault Refusal :=
  s.run Rows.vcvtps2udq o fun r => s.fpWiden r o fun env (x : BitVec 32) => f32.toInteger env false false 32 x

/-- VCVTPS2QQ (R373). -/
def execVcvtps2qq (o : Operands) (s : State) : Host.Outcome State Fault Refusal :=
  s.run Rows.vcvtps2qq o fun r => s.fpWiden r o fun env (x : BitVec 32) => f32.toInteger env false true 64 x

/-- VCVTPS2UQQ (R374). -/
def execVcvtps2uqq (o : Operands) (s : State) : Host.Outcome State Fault Refusal :=
  s.run Rows.vcvtps2uqq o fun r => s.fpWiden r o fun env (x : BitVec 32) => f32.toInteger env false false 64 x

/-- CVTPS2PD (R375). -/
def execCvtps2pd (o : Operands) (s : State) : Host.Outcome State Fault Refusal :=
  s.run Rows.cvtps2pd o fun r => s.fpWiden r o fun env => f32.convert f64 env true

/-- VCVTPS2PD (R375). -/
def execVcvtps2pd (o : Operands) (s : State) : Host.Outcome State Fault Refusal :=
  s.run Rows.vcvtps2pd o fun r => s.fpWiden r o fun env => f32.convert f64 env true

/-- VCVTQQ2PD (R376). -/
def execVcvtqq2pd (o : Operands) (s : State) : Host.Outcome State Fault Refusal :=
  s.run Rows.vcvtqq2pd o fun r => s.fpWiden r o fun env (x : BitVec 64) => f64.ofInteger env x.toInt

/-- VCVTQQ2PS (R377). -/
def execVcvtqq2ps (o : Operands) (s : State) : Host.Outcome State Fault Refusal :=
  s.run Rows.vcvtqq2ps o fun r => s.fpWiden r o fun env (x : BitVec 64) => f32.ofInteger env x.toInt

/-- CVTSD2SI (R378). -/
def execCvtsd2si (o : Operands) (s : State) : Host.Outcome State Fault Refusal :=
  s.run Rows.cvtsd2si o fun r => s.cvtToGpr r o f64 false true

/-- VCVTSD2SI (R378). -/
def execVcvtsd2si (o : Operands) (s : State) : Host.Outcome State Fault Refusal :=
  s.run Rows.vcvtsd2si o fun r => s.cvtToGpr r o f64 false true

/-- VCVTSD2USI (R379). -/
def execVcvtsd2usi (o : Operands) (s : State) : Host.Outcome State Fault Refusal :=
  s.run Rows.vcvtsd2usi o fun r => s.cvtToGpr r o f64 false false

/-- CVTSD2SS (R380). -/
def execCvtsd2ss (o : Operands) (s : State) : Host.Outcome State Fault Refusal :=
  s.run Rows.cvtsd2ss o fun r => s.fpScalarFrom r o fun env => f64.convert f32 env true

/-- VCVTSD2SS (R380). -/
def execVcvtsd2ss (o : Operands) (s : State) : Host.Outcome State Fault Refusal :=
  s.run Rows.vcvtsd2ss o fun r => s.fpScalarFrom r o fun env => f64.convert f32 env true

/-- CVTSI2SD (R381). -/
def execCvtsi2sd (o : Operands) (s : State) : Host.Outcome State Fault Refusal :=
  s.run Rows.cvtsi2sd o fun r => s.cvtFromGpr r o f64 true

/-- VCVTSI2SD (R381). -/
def execVcvtsi2sd (o : Operands) (s : State) : Host.Outcome State Fault Refusal :=
  s.run Rows.vcvtsi2sd o fun r => s.cvtFromGpr r o f64 true

/-- CVTSI2SS (R382). -/
def execCvtsi2ss (o : Operands) (s : State) : Host.Outcome State Fault Refusal :=
  s.run Rows.cvtsi2ss o fun r => s.cvtFromGpr r o f32 true

/-- VCVTSI2SS (R382). -/
def execVcvtsi2ss (o : Operands) (s : State) : Host.Outcome State Fault Refusal :=
  s.run Rows.vcvtsi2ss o fun r => s.cvtFromGpr r o f32 true

/-- CVTSS2SD (R383). -/
def execCvtss2sd (o : Operands) (s : State) : Host.Outcome State Fault Refusal :=
  s.run Rows.cvtss2sd o fun r => s.fpScalarFrom r o fun env => f32.convert f64 env true

/-- VCVTSS2SD (R383). -/
def execVcvtss2sd (o : Operands) (s : State) : Host.Outcome State Fault Refusal :=
  s.run Rows.vcvtss2sd o fun r => s.fpScalarFrom r o fun env => f32.convert f64 env true

/-- CVTSS2SI (R384). -/
def execCvtss2si (o : Operands) (s : State) : Host.Outcome State Fault Refusal :=
  s.run Rows.cvtss2si o fun r => s.cvtToGpr r o f32 false true

/-- VCVTSS2SI (R384). -/
def execVcvtss2si (o : Operands) (s : State) : Host.Outcome State Fault Refusal :=
  s.run Rows.vcvtss2si o fun r => s.cvtToGpr r o f32 false true

/-- VCVTSS2USI (R385). -/
def execVcvtss2usi (o : Operands) (s : State) : Host.Outcome State Fault Refusal :=
  s.run Rows.vcvtss2usi o fun r => s.cvtToGpr r o f32 false false

end Sys2Proof.Machine
end

