-- ==== Sys2Proof/Machine/Rows44.lean ====
section
/-! DEFINITION. The rows of spec/opcode_table.json for the instructions of spec/44_cvttpd2dq_to_vfixupimmss.md (VCVTT to VFIXUPIMM), in the order of the table:
space, map, pp, W, L, opcode, roles of ModRM.reg, vvvv and r/m, mod, VSIB, imm8, r/m is the destination, masking, broadcast
bytes, rounding, tuple, CPUID flags, exception class, alignment, 64-bit mode only. -/

namespace Sys2Proof.Machine.Rows

/-- CVTTPD2DQ (R400) -/
def cvttpd2dq : List Row :=
  [⟨.legacy, .m0F, .p66, .wig, .any, 0xE6, .vec, .none, .vec, .any, false, false, false, .none, 0, .none, .fixed 1, [.sse2], .sse 2, true, false⟩]

/-- VCVTTPD2DQ (R400) -/
def vcvttpd2dq : List Row :=
  [⟨.vex, .m0F, .p66, .wig, .l128, 0xE6, .vec, .none, .vec, .any, false, false, false, .none, 0, .none, .fixed 1, [.avx], .vex 2, false, false⟩,
   ⟨.vex, .m0F, .p66, .wig, .l256, 0xE6, .vec, .none, .vec, .any, false, false, false, .none, 0, .none, .fixed 1, [.avx], .vex 2, false, false⟩,
   ⟨.evex, .m0F, .p66, .w1, .l128, 0xE6, .vec, .none, .vec, .any, false, false, false, .zero, 8, .none, .fv 8, [.avx512vl, .avx512f], .e2, false, false⟩,
   ⟨.evex, .m0F, .p66, .w1, .l256, 0xE6, .vec, .none, .vec, .any, false, false, false, .zero, 8, .none, .fv 8, [.avx512vl, .avx512f], .e2, false, false⟩,
   ⟨.evex, .m0F, .p66, .w1, .l512, 0xE6, .vec, .none, .vec, .any, false, false, false, .zero, 8, .sae, .fv 8, [.avx512f], .e2, false, false⟩]

/-- VCVTTPD2QQ (R401) -/
def vcvttpd2qq : List Row :=
  [⟨.evex, .m0F, .p66, .w1, .l128, 0x7A, .vec, .none, .vec, .any, false, false, false, .zero, 8, .none, .fv 8, [.avx512vl, .avx512dq], .e2, false, false⟩,
   ⟨.evex, .m0F, .p66, .w1, .l256, 0x7A, .vec, .none, .vec, .any, false, false, false, .zero, 8, .none, .fv 8, [.avx512vl, .avx512dq], .e2, false, false⟩,
   ⟨.evex, .m0F, .p66, .w1, .l512, 0x7A, .vec, .none, .vec, .any, false, false, false, .zero, 8, .sae, .fv 8, [.avx512dq], .e2, false, false⟩]

/-- VCVTTPD2UDQ (R402) -/
def vcvttpd2udq : List Row :=
  [⟨.evex, .m0F, .np, .w1, .l128, 0x78, .vec, .none, .vec, .any, false, false, false, .zero, 8, .none, .fv 8, [.avx512vl, .avx512f], .e2, false, false⟩,
   ⟨.evex, .m0F, .np, .w1, .l256, 0x78, .vec, .none, .vec, .any, false, false, false, .zero, 8, .none, .fv 8, [.avx512vl, .avx512f], .e2, false, false⟩,
   ⟨.evex, .m0F, .np, .w1, .l512, 0x78, .vec, .none, .vec, .any, false, false, false, .zero, 8, .sae, .fv 8, [.avx512f], .e2, false, false⟩]

/-- VCVTTPD2UQQ (R403) -/
def vcvttpd2uqq : List Row :=
  [⟨.evex, .m0F, .p66, .w1, .l128, 0x78, .vec, .none, .vec, .any, false, false, false, .zero, 8, .none, .fv 8, [.avx512vl, .avx512dq], .e2, false, false⟩,
   ⟨.evex, .m0F, .p66, .w1, .l256, 0x78, .vec, .none, .vec, .any, false, false, false, .zero, 8, .none, .fv 8, [.avx512vl, .avx512dq], .e2, false, false⟩,
   ⟨.evex, .m0F, .p66, .w1, .l512, 0x78, .vec, .none, .vec, .any, false, false, false, .zero, 8, .sae, .fv 8, [.avx512dq], .e2, false, false⟩]

/-- CVTTPS2DQ (R404) -/
def cvttps2dq : List Row :=
  [⟨.legacy, .m0F, .pF3, .wig, .any, 0x5B, .vec, .none, .vec, .any, false, false, false, .none, 0, .none, .fixed 1, [.sse2], .sse 2, true, false⟩]

/-- VCVTTPS2DQ (R404) -/
def vcvttps2dq : List Row :=
  [⟨.vex, .m0F, .pF3, .wig, .l128, 0x5B, .vec, .none, .vec, .any, false, false, false, .none, 0, .none, .fixed 1, [.avx], .vex 2, false, false⟩,
   ⟨.vex, .m0F, .pF3, .wig, .l256, 0x5B, .vec, .none, .vec, .any, false, false, false, .none, 0, .none, .fixed 1, [.avx], .vex 2, false, false⟩,
   ⟨.evex, .m0F, .pF3, .w0, .l128, 0x5B, .vec, .none, .vec, .any, false, false, false, .zero, 4, .none, .fv 4, [.avx512vl, .avx512f], .e2, false, false⟩,
   ⟨.evex, .m0F, .pF3, .w0, .l256, 0x5B, .vec, .none, .vec, .any, false, false, false, .zero, 4, .none, .fv 4, [.avx512vl, .avx512f], .e2, false, false⟩,
   ⟨.evex, .m0F, .pF3, .w0, .l512, 0x5B, .vec, .none, .vec, .any, false, false, false, .zero, 4, .sae, .fv 4, [.avx512f], .e2, false, false⟩]

/-- VCVTTPS2UDQ (R405) -/
def vcvttps2udq : List Row :=
  [⟨.evex, .m0F, .np, .w0, .l128, 0x78, .vec, .none, .vec, .any, false, false, false, .zero, 4, .none, .fv 4, [.avx512vl, .avx512f], .e2, false, false⟩,
   ⟨.evex, .m0F, .np, .w0, .l256, 0x78, .vec, .none, .vec, .any, false, false, false, .zero, 4, .none, .fv 4, [.avx512vl, .avx512f], .e2, false, false⟩,
   ⟨.evex, .m0F, .np, .w0, .l512, 0x78, .vec, .none, .vec, .any, false, false, false, .zero, 4, .sae, .fv 4, [.avx512f], .e2, false, false⟩]

/-- VCVTTPS2QQ (R406) -/
def vcvttps2qq : List Row :=
  [⟨.evex, .m0F, .p66, .w0, .l128, 0x7A, .vec, .none, .vec, .any, false, false, false, .zero, 4, .none, .hv 4, [.avx512vl, .avx512dq], .e3, false, false⟩,
   ⟨.evex, .m0F, .p66, .w0, .l256, 0x7A, .vec, .none, .vec, .any, false, false, false, .zero, 4, .none, .hv 4, [.avx512vl, .avx512dq], .e3, false, false⟩,
   ⟨.evex, .m0F, .p66, .w0, .l512, 0x7A, .vec, .none, .vec, .any, false, false, false, .zero, 4, .sae, .hv 4, [.avx512dq], .e3, false, false⟩]

/-- VCVTTPS2UQQ (R407) -/
def vcvttps2uqq : List Row :=
  [⟨.evex, .m0F, .p66, .w0, .l128, 0x78, .vec, .none, .vec, .any, false, false, false, .zero, 4, .none, .hv 4, [.avx512vl, .avx512dq], .e3, false, false⟩,
   ⟨.evex, .m0F, .p66, .w0, .l256, 0x78, .vec, .none, .vec, .any, false, false, false, .zero, 4, .none, .hv 4, [.avx512vl, .avx512dq], .e3, false, false⟩,
   ⟨.evex, .m0F, .p66, .w0, .l512, 0x78, .vec, .none, .vec, .any, false, false, false, .zero, 4, .sae, .hv 4, [.avx512dq], .e3, false, false⟩]

/-- CVTTSD2SI (R408) -/
def cvttsd2si : List Row :=
  [⟨.legacy, .m0F, .pF2, .w0, .any, 0x2C, .gpr, .none, .vec, .any, false, false, false, .none, 0, .none, .fixed 1, [.sse2], .sse 3, false, false⟩,
   ⟨.legacy, .m0F, .pF2, .w1, .any, 0x2C, .gpr, .none, .vec, .any, false, false, false, .none, 0, .none, .fixed 1, [.sse2], .sse 3, false, true⟩]

/-- VCVTTSD2SI (R408) -/
def vcvttsd2si : List Row :=
  [⟨.vex, .m0F, .pF2, .w0, .any, 0x2C, .gpr, .none, .vec, .any, false, false, false, .none, 0, .none, .fixed 1, [.avx], .vex 3, false, false⟩,
   ⟨.vex, .m0F, .pF2, .w1, .any, 0x2C, .gpr, .none, .vec, .any, false, false, false, .none, 0, .none, .fixed 1, [.avx], .vex 3, false, true⟩,
   ⟨.evex, .m0F, .pF2, .w0, .any, 0x2C, .gpr, .none, .vec, .any, false, false, false, .none, 0, .sae, .fixed 8, [.avx512f], .e3nf, false, false⟩,
   ⟨.evex, .m0F, .pF2, .w1, .any, 0x2C, .gpr, .none, .vec, .any, false, false, false, .none, 0, .sae, .fixed 8, [.avx512f], .e3nf, false, true⟩]

/-- VCVTTSD2USI (R409) -/
def vcvttsd2usi : List Row :=
  [⟨.evex, .m0F, .pF2, .w0, .any, 0x78, .gpr, .none, .vec, .any, false, false, false, .none, 0, .sae, .fixed 8, [.avx512f], .e3nf, false, false⟩,
   ⟨.evex, .m0F, .pF2, .w1, .any, 0x78, .gpr, .none, .vec, .any, false, false, false, .none, 0, .sae, .fixed 8, [.avx512f], .e3nf, false, true⟩]

/-- CVTTSS2SI (R410) -/
def cvttss2si : List Row :=
  [⟨.legacy, .m0F, .pF3, .w0, .any, 0x2C, .gpr, .none, .vec, .any, false, false, false, .none, 0, .none, .fixed 1, [.sse], .sse 3, false, false⟩,
   ⟨.legacy, .m0F, .pF3, .w1, .any, 0x2C, .gpr, .none, .vec, .any, false, false, false, .none, 0, .none, .fixed 1, [.sse], .sse 3, false, true⟩]

/-- VCVTTSS2SI (R410) -/
def vcvttss2si : List Row :=
  [⟨.vex, .m0F, .pF3, .w0, .any, 0x2C, .gpr, .none, .vec, .any, false, false, false, .none, 0, .none, .fixed 1, [.avx], .vex 3, false, false⟩,
   ⟨.vex, .m0F, .pF3, .w1, .any, 0x2C, .gpr, .none, .vec, .any, false, false, false, .none, 0, .none, .fixed 1, [.avx], .vex 3, false, true⟩,
   ⟨.evex, .m0F, .pF3, .w0, .any, 0x2C, .gpr, .none, .vec, .any, false, false, false, .none, 0, .sae, .fixed 4, [.avx512f], .e3nf, false, false⟩,
   ⟨.evex, .m0F, .pF3, .w1, .any, 0x2C, .gpr, .none, .vec, .any, false, false, false, .none, 0, .sae, .fixed 4, [.avx512f], .e3nf, false, true⟩]

/-- VCVTTSS2USI (R411) -/
def vcvttss2usi : List Row :=
  [⟨.evex, .m0F, .pF3, .w0, .any, 0x78, .gpr, .none, .vec, .any, false, false, false, .none, 0, .sae, .fixed 4, [.avx512f], .e3nf, false, false⟩,
   ⟨.evex, .m0F, .pF3, .w1, .any, 0x78, .gpr, .none, .vec, .any, false, false, false, .none, 0, .sae, .fixed 4, [.avx512f], .e3nf, false, true⟩]

/-- VCVTUDQ2PD (R412) -/
def vcvtudq2pd : List Row :=
  [⟨.evex, .m0F, .pF3, .w0, .l128, 0x7A, .vec, .none, .vec, .any, false, false, false, .zero, 4, .ignored, .hv 4, [.avx512vl, .avx512f], .e5, false, false⟩,
   ⟨.evex, .m0F, .pF3, .w0, .l256, 0x7A, .vec, .none, .vec, .any, false, false, false, .zero, 4, .ignored, .hv 4, [.avx512vl, .avx512f], .e5, false, false⟩,
   ⟨.evex, .m0F, .pF3, .w0, .l512, 0x7A, .vec, .none, .vec, .any, false, false, false, .zero, 4, .ignored, .hv 4, [.avx512f], .e5, false, false⟩]

/-- VCVTUDQ2PS (R413) -/
def vcvtudq2ps : List Row :=
  [⟨.evex, .m0F, .pF2, .w0, .l128, 0x7A, .vec, .none, .vec, .any, false, false, false, .zero, 4, .none, .fv 4, [.avx512vl, .avx512f], .e2, false, false⟩,
   ⟨.evex, .m0F, .pF2, .w0, .l256, 0x7A, .vec, .none, .vec, .any, false, false, false, .zero, 4, .none, .fv 4, [.avx512vl, .avx512f], .e2, false, false⟩,
   ⟨.evex, .m0F, .pF2, .w0, .l512, 0x7A, .vec, .none, .vec, .any, false, false, false, .zero, 4, .er, .fv 4, [.avx512f], .e2, false, false⟩]

/-- VCVTUQQ2PD (R414) -/
def vcvtuqq2pd : List Row :=
  [⟨.evex, .m0F, .pF3, .w1, .l128, 0x7A, .vec, .none, .vec, .any, false, false, false, .zero, 8, .none, .fv 8, [.avx512vl, .avx512dq], .e2, false, false⟩,
   ⟨.evex, .m0F, .pF3, .w1, .l256, 0x7A, .vec, .none, .vec, .any, false, false, false, .zero, 8, .none, .fv 8, [.avx512vl, .avx512dq], .e2, false, false⟩,
   ⟨.evex, .m0F, .pF3, .w1, .l512, 0x7A, .vec, .none, .vec, .any, false, false, false, .zero, 8, .er, .fv 8, [.avx512dq], .e2, false, false⟩]

/-- VCVTUQQ2PS (R415) -/
def vcvtuqq2ps : List Row :=
  [⟨.evex, .m0F, .pF2, .w1, .l128, 0x7A, .vec, .none, .vec, .any, false, false, false, .zero, 8, .none, .fv 8, [.avx512vl, .avx512dq], .e2, false, false⟩,
   ⟨.evex, .m0F, .pF2, .w1, .l256, 0x7A, .vec, .none, .vec, .any, false, false, false, .zero, 8, .none, .fv 8, [.avx512vl, .avx512dq], .e2, false, false⟩,
   ⟨.evex, .m0F, .pF2, .w1, .l512, 0x7A, .vec, .none, .vec, .any, false, false, false, .zero, 8, .er, .fv 8, [.avx512dq], .e2, false, false⟩]

/-- VCVTUSI2SD (R416) -/
def vcvtusi2sd : List Row :=
  [⟨.evex, .m0F, .pF2, .w0, .any, 0x7B, .vec, .vec, .gpr, .any, false, false, false, .none, 0, .ignored, .fixed 4, [.avx512f], .e10nf, false, false⟩,
   ⟨.evex, .m0F, .pF2, .w1, .any, 0x7B, .vec, .vec, .gpr, .any, false, false, false, .none, 0, .er, .fixed 8, [.avx512f], .e3nf, false, true⟩]

/-- VCVTUSI2SS (R417) -/
def vcvtusi2ss : List Row :=
  [⟨.evex, .m0F, .pF3, .w0, .any, 0x7B, .vec, .vec, .gpr, .any, false, false, false, .none, 0, .er, .fixed 4, [.avx512f], .e3nf, false, false⟩,
   ⟨.evex, .m0F, .pF3, .w1, .any, 0x7B, .vec, .vec, .gpr, .any, false, false, false, .none, 0, .er, .fixed 8, [.avx512f], .e3nf, false, true⟩]

/-- VDBPSADBW (R418) -/
def vdbpsadbw : List Row :=
  [⟨.evex, .m0F3A, .p66, .w0, .l128, 0x42, .vec, .vec, .vec, .any, false, true, false, .zero, 0, .none, .fvm, [.avx512vl, .avx512bw], .e4nf, false, false⟩,
   ⟨.evex, .m0F3A, .p66, .w0, .l256, 0x42, .vec, .vec, .vec, .any, false, true, false, .zero, 0, .none, .fvm, [.avx512vl, .avx512bw], .e4nf, false, false⟩,
   ⟨.evex, .m0F3A, .p66, .w0, .l512, 0x42, .vec, .vec, .vec, .any, false, true, false, .zero, 0, .none, .fvm, [.avx512bw], .e4nf, false, false⟩]

/-- VEXPANDPD (R419) -/
def vexpandpd : List Row :=
  [⟨.evex, .m0F38, .p66, .w1, .l128, 0x88, .vec, .none, .vec, .any, false, false, false, .zero, 0, .none, .fixed 8, [.avx512vl, .avx512f], .e4, false, false⟩,
   ⟨.evex, .m0F38, .p66, .w1, .l256, 0x88, .vec, .none, .vec, .any, false, false, false, .zero, 0, .none, .fixed 8, [.avx512vl, .avx512f], .e4, false, false⟩,
   ⟨.evex, .m0F38, .p66, .w1, .l512, 0x88, .vec, .none, .vec, .any, false, false, false, .zero, 0, .none, .fixed 8, [.avx512f], .e4, false, false⟩]

/-- VEXPANDPS (R420) -/
def vexpandps : List Row :=
  [⟨.evex, .m0F38, .p66, .w0, .l128, 0x88, .vec, .none, .vec, .any, false, false, false, .zero, 0, .none, .fixed 4, [.avx512vl, .avx512f], .e4, false, false⟩,
   ⟨.evex, .m0F38, .p66, .w0, .l256, 0x88, .vec, .none, .vec, .any, false, false, false, .zero, 0, .none, .fixed 4, [.avx512vl, .avx512f], .e4, false, false⟩,
   ⟨.evex, .m0F38, .p66, .w0, .l512, 0x88, .vec, .none, .vec, .any, false, false, false, .zero, 0, .none, .fixed 4, [.avx512f], .e4, false, false⟩]

/-- VEXTRACTF128 (R421) -/
def vextractf128 : List Row :=
  [⟨.vex, .m0F3A, .p66, .w0, .l256, 0x19, .vec, .none, .vec, .any, false, true, true, .none, 0, .none, .fixed 1, [.avx], .vex 6, false, false⟩]

/-- VEXTRACTF32X4 (R421) -/
def vextractf32x4 : List Row :=
  [⟨.evex, .m0F3A, .p66, .w0, .l256, 0x19, .vec, .none, .vec, .any, false, true, true, .zero, 0, .none, .fixed 16, [.avx512vl, .avx512f], .e6nf, false, false⟩]

/-- VEXTRACTF32x4 (R421) -/
def vextractf32x4z : List Row :=
  [⟨.evex, .m0F3A, .p66, .w0, .l512, 0x19, .vec, .none, .vec, .any, false, true, true, .zero, 0, .none, .fixed 16, [.avx512f], .e6nf, false, false⟩]

/-- VEXTRACTF64X2 (R421) -/
def vextractf64x2 : List Row :=
  [⟨.evex, .m0F3A, .p66, .w1, .l256, 0x19, .vec, .none, .vec, .any, false, true, true, .zero, 0, .none, .fixed 16, [.avx512vl, .avx512dq], .e6nf, false, false⟩,
   ⟨.evex, .m0F3A, .p66, .w1, .l512, 0x19, .vec, .none, .vec, .any, false, true, true, .zero, 0, .none, .fixed 16, [.avx512dq], .e6nf, false, false⟩]

/-- VEXTRACTF32X8 (R421) -/
def vextractf32x8 : List Row :=
  [⟨.evex, .m0F3A, .p66, .w0, .l512, 0x1B, .vec, .none, .vec, .any, false, true, true, .zero, 0, .none, .fixed 32, [.avx512dq], .e6nf, false, false⟩]

/-- VEXTRACTF64x4 (R421) -/
def vextractf64x4z : List Row :=
  [⟨.evex, .m0F3A, .p66, .w1, .l512, 0x1B, .vec, .none, .vec, .any, false, true, true, .zero, 0, .none, .fixed 32, [.avx512f], .e6nf, false, false⟩]

/-- VEXTRACTI128 (R422) -/
def vextracti128 : List Row :=
  [⟨.vex, .m0F3A, .p66, .w0, .l256, 0x39, .vec, .none, .vec, .any, false, true, true, .none, 0, .none, .fixed 1, [.avx2], .vex 6, false, false⟩]

/-- VEXTRACTI32X4 (R422) -/
def vextracti32x4 : List Row :=
  [⟨.evex, .m0F3A, .p66, .w0, .l256, 0x39, .vec, .none, .vec, .any, false, true, true, .zero, 0, .none, .fixed 16, [.avx512vl, .avx512f], .e6nf, false, false⟩]

/-- VEXTRACTI32x4 (R422) -/
def vextracti32x4z : List Row :=
  [⟨.evex, .m0F3A, .p66, .w0, .l512, 0x39, .vec, .none, .vec, .any, false, true, true, .zero, 0, .none, .fixed 16, [.avx512f], .e6nf, false, false⟩]

/-- VEXTRACTI64X2 (R422) -/
def vextracti64x2 : List Row :=
  [⟨.evex, .m0F3A, .p66, .w1, .l256, 0x39, .vec, .none, .vec, .any, false, true, true, .zero, 0, .none, .fixed 16, [.avx512vl, .avx512dq], .e6nf, false, false⟩,
   ⟨.evex, .m0F3A, .p66, .w1, .l512, 0x39, .vec, .none, .vec, .any, false, true, true, .zero, 0, .none, .fixed 16, [.avx512dq], .e6nf, false, false⟩]

/-- VEXTRACTI32X8 (R422) -/
def vextracti32x8 : List Row :=
  [⟨.evex, .m0F3A, .p66, .w0, .l512, 0x3B, .vec, .none, .vec, .any, false, true, true, .zero, 0, .none, .fixed 32, [.avx512dq], .e6nf, false, false⟩]

/-- VEXTRACTI64x4 (R422) -/
def vextracti64x4z : List Row :=
  [⟨.evex, .m0F3A, .p66, .w1, .l512, 0x3B, .vec, .none, .vec, .any, false, true, true, .zero, 0, .none, .fixed 32, [.avx512f], .e6nf, false, false⟩]

/-- EXTRACTPS (R423) -/
def extractps : List Row :=
  [⟨.legacy, .m0F3A, .p66, .wig, .any, 0x17, .vec, .none, .gpr, .any, false, true, true, .none, 0, .none, .fixed 1, [.sse41], .sse 5, false, false⟩]

/-- VEXTRACTPS (R423) -/
def vextractps : List Row :=
  [⟨.vex, .m0F3A, .p66, .wig, .l128, 0x17, .vec, .none, .gpr, .any, false, true, true, .none, 0, .none, .fixed 1, [.avx], .vex 5, false, false⟩,
   ⟨.evex, .m0F3A, .p66, .wig, .l128, 0x17, .vec, .none, .gpr, .any, false, true, true, .none, 0, .none, .fixed 4, [.avx512f], .e9nf, false, false⟩]

/-- VFIXUPIMMPD (R425) -/
def vfixupimmpd : List Row :=
  [⟨.evex, .m0F3A, .p66, .w1, .l128, 0x54, .vec, .vec, .vec, .any, false, true, false, .zero, 8, .none, .fv 8, [.avx512vl, .avx512f], .e2, false, false⟩,
   ⟨.evex, .m0F3A, .p66, .w1, .l256, 0x54, .vec, .vec, .vec, .any, false, true, false, .zero, 8, .none, .fv 8, [.avx512vl, .avx512f], .e2, false, false⟩,
   ⟨.evex, .m0F3A, .p66, .w1, .l512, 0x54, .vec, .vec, .vec, .any, false, true, false, .zero, 8, .sae, .fv 8, [.avx512f], .e2, false, false⟩]

/-- VFIXUPIMMPS (R426) -/
def vfixupimmps : List Row :=
  [⟨.evex, .m0F3A, .p66, .w0, .l128, 0x54, .vec, .vec, .vec, .any, false, true, false, .zero, 4, .none, .fv 4, [.avx512vl, .avx512f], .e2, false, false⟩,
   ⟨.evex, .m0F3A, .p66, .w0, .l256, 0x54, .vec, .vec, .vec, .any, false, true, false, .zero, 4, .none, .fv 4, [.avx512vl, .avx512f], .e2, false, false⟩,
   ⟨.evex, .m0F3A, .p66, .w0, .l512, 0x54, .vec, .vec, .vec, .any, false, true, false, .zero, 4, .sae, .fv 4, [.avx512f], .e2, false, false⟩]

/-- VFIXUPIMMSD (R427) -/
def vfixupimmsd : List Row :=
  [⟨.evex, .m0F3A, .p66, .w1, .any, 0x55, .vec, .vec, .vec, .any, false, true, false, .zero, 0, .sae, .fixed 8, [.avx512f], .e3, false, false⟩]

/-- VFIXUPIMMSS (R428) -/
def vfixupimmss : List Row :=
  [⟨.evex, .m0F3A, .p66, .w0, .any, 0x55, .vec, .vec, .vec, .any, false, true, false, .zero, 0, .sae, .fixed 4, [.avx512f], .e3, false, false⟩]

end Sys2Proof.Machine.Rows
end

