-- ==== Sys2Proof/Machine/Exec44.lean ====
section
/-! DEFINITION. The meanings of the instructions of spec/44_cvttpd2dq_to_vfixupimmss.md (VCVTT to VFIXUPIMM), one definition each: the checks
of `State.run` on the rows of the instruction, then its operation on the row its fields select. -/

namespace Sys2Proof.Machine

/-- CVTTPD2DQ (R400). -/
def execCvttpd2dq (o : Operands) (s : State) : Host.Outcome State Fault Refusal :=
  s.run Rows.cvttpd2dq o fun r => s.fpWiden r o fun env (x : BitVec 64) => f64.toInteger env true true 32 x

/-- VCVTTPD2DQ (R400). -/
def execVcvttpd2dq (o : Operands) (s : State) : Host.Outcome State Fault Refusal :=
  s.run Rows.vcvttpd2dq o fun r => s.fpWiden r o fun env (x : BitVec 64) => f64.toInteger env true true 32 x

/-- VCVTTPD2QQ (R401). -/
def execVcvttpd2qq (o : Operands) (s : State) : Host.Outcome State Fault Refusal :=
  s.run Rows.vcvttpd2qq o fun r => s.fpWiden r o fun env (x : BitVec 64) => f64.toInteger env true true 64 x

/-- VCVTTPD2UDQ (R402). -/
def execVcvttpd2udq (o : Operands) (s : State) : Host.Outcome State Fault Refusal :=
  s.run Rows.vcvttpd2udq o fun r => s.fpWiden r o fun env (x : BitVec 64) => f64.toInteger env true false 32 x

/-- VCVTTPD2UQQ (R403). -/
def execVcvttpd2uqq (o : Operands) (s : State) : Host.Outcome State Fault Refusal :=
  s.run Rows.vcvttpd2uqq o fun r => s.fpWiden r o fun env (x : BitVec 64) => f64.toInteger env true false 64 x

/-- CVTTPS2DQ (R404). -/
def execCvttps2dq (o : Operands) (s : State) : Host.Outcome State Fault Refusal :=
  s.run Rows.cvttps2dq o fun r => s.fpWiden r o fun env (x : BitVec 32) => f32.toInteger env true true 32 x

/-- VCVTTPS2DQ (R404). -/
def execVcvttps2dq (o : Operands) (s : State) : Host.Outcome State Fault Refusal :=
  s.run Rows.vcvttps2dq o fun r => s.fpWiden r o fun env (x : BitVec 32) => f32.toInteger env true true 32 x

/-- VCVTTPS2UDQ (R405). -/
def execVcvttps2udq (o : Operands) (s : State) : Host.Outcome State Fault Refusal :=
  s.run Rows.vcvttps2udq o fun r => s.fpWiden r o fun env (x : BitVec 32) => f32.toInteger env true false 32 x

/-- VCVTTPS2QQ (R406). -/
def execVcvttps2qq (o : Operands) (s : State) : Host.Outcome State Fault Refusal :=
  s.run Rows.vcvttps2qq o fun r => s.fpWiden r o fun env (x : BitVec 32) => f32.toInteger env true true 64 x

/-- VCVTTPS2UQQ (R407). -/
def execVcvttps2uqq (o : Operands) (s : State) : Host.Outcome State Fault Refusal :=
  s.run Rows.vcvttps2uqq o fun r => s.fpWiden r o fun env (x : BitVec 32) => f32.toInteger env true false 64 x

/-- CVTTSD2SI (R408). -/
def execCvttsd2si (o : Operands) (s : State) : Host.Outcome State Fault Refusal :=
  s.run Rows.cvttsd2si o fun r => s.cvtToGpr r o f64 true true

/-- VCVTTSD2SI (R408). -/
def execVcvttsd2si (o : Operands) (s : State) : Host.Outcome State Fault Refusal :=
  s.run Rows.vcvttsd2si o fun r => s.cvtToGpr r o f64 true true

/-- VCVTTSD2USI (R409). -/
def execVcvttsd2usi (o : Operands) (s : State) : Host.Outcome State Fault Refusal :=
  s.run Rows.vcvttsd2usi o fun r => s.cvtToGpr r o f64 true false

/-- CVTTSS2SI (R410). -/
def execCvttss2si (o : Operands) (s : State) : Host.Outcome State Fault Refusal :=
  s.run Rows.cvttss2si o fun r => s.cvtToGpr r o f32 true true

/-- VCVTTSS2SI (R410). -/
def execVcvttss2si (o : Operands) (s : State) : Host.Outcome State Fault Refusal :=
  s.run Rows.vcvttss2si o fun r => s.cvtToGpr r o f32 true true

/-- VCVTTSS2USI (R411). -/
def execVcvttss2usi (o : Operands) (s : State) : Host.Outcome State Fault Refusal :=
  s.run Rows.vcvttss2usi o fun r => s.cvtToGpr r o f32 true false

/-- VCVTUDQ2PD (R412). -/
def execVcvtudq2pd (o : Operands) (s : State) : Host.Outcome State Fault Refusal :=
  s.run Rows.vcvtudq2pd o fun r => s.fpWiden r o fun env (x : BitVec 32) => f64.ofInteger env x.toNat

/-- VCVTUDQ2PS (R413). -/
def execVcvtudq2ps (o : Operands) (s : State) : Host.Outcome State Fault Refusal :=
  s.run Rows.vcvtudq2ps o fun r => s.fpWiden r o fun env (x : BitVec 32) => f32.ofInteger env x.toNat

/-- VCVTUQQ2PD (R414). -/
def execVcvtuqq2pd (o : Operands) (s : State) : Host.Outcome State Fault Refusal :=
  s.run Rows.vcvtuqq2pd o fun r => s.fpWiden r o fun env (x : BitVec 64) => f64.ofInteger env x.toNat

/-- VCVTUQQ2PS (R415). -/
def execVcvtuqq2ps (o : Operands) (s : State) : Host.Outcome State Fault Refusal :=
  s.run Rows.vcvtuqq2ps o fun r => s.fpWiden r o fun env (x : BitVec 64) => f32.ofInteger env x.toNat

/-- VCVTUSI2SD (R416). -/
def execVcvtusi2sd (o : Operands) (s : State) : Host.Outcome State Fault Refusal :=
  s.run Rows.vcvtusi2sd o fun r => s.cvtFromGpr r o f64 false

/-- VCVTUSI2SS (R417). -/
def execVcvtusi2ss (o : Operands) (s : State) : Host.Outcome State Fault Refusal :=
  s.run Rows.vcvtusi2ss o fun r => s.cvtFromGpr r o f32 false

/-- VDBPSADBW (R418). -/
def execVdbpsadbw (o : Operands) (s : State) : Host.Outcome State Fault Refusal :=
  s.run Rows.vdbpsadbw o fun r => s.vec2 r o 16 (dbSumAbsDiff o.imm)

/-- VEXPANDPD (R419). -/
def execVexpandpd (o : Operands) (s : State) : Host.Outcome State Fault Refusal :=
  s.run Rows.vexpandpd o fun r => s.expand r o 64

/-- VEXPANDPS (R420). -/
def execVexpandps (o : Operands) (s : State) : Host.Outcome State Fault Refusal :=
  s.run Rows.vexpandps o fun r => s.expand r o 32

/-- VEXTRACTF128 (R421). -/
def execVextractf128 (o : Operands) (s : State) : Host.Outcome State Fault Refusal :=
  s.run Rows.vextractf128 o fun r => s.extractBlock r o 64 128

/-- VEXTRACTF32X4 (R421). -/
def execVextractf32x4 (o : Operands) (s : State) : Host.Outcome State Fault Refusal :=
  s.run Rows.vextractf32x4 o fun r => s.extractBlock r o 32 128

/-- VEXTRACTF32x4 (R421). -/
def execVextractf32x4z (o : Operands) (s : State) : Host.Outcome State Fault Refusal :=
  s.run Rows.vextractf32x4z o fun r => s.extractBlock r o 32 128

/-- VEXTRACTF64X2 (R421). -/
def execVextractf64x2 (o : Operands) (s : State) : Host.Outcome State Fault Refusal :=
  s.run Rows.vextractf64x2 o fun r => s.extractBlock r o 64 128

/-- VEXTRACTF32X8 (R421). -/
def execVextractf32x8 (o : Operands) (s : State) : Host.Outcome State Fault Refusal :=
  s.run Rows.vextractf32x8 o fun r => s.extractBlock r o 32 256

/-- VEXTRACTF64x4 (R421). -/
def execVextractf64x4z (o : Operands) (s : State) : Host.Outcome State Fault Refusal :=
  s.run Rows.vextractf64x4z o fun r => s.extractBlock r o 64 256

/-- VEXTRACTI128 (R422). -/
def execVextracti128 (o : Operands) (s : State) : Host.Outcome State Fault Refusal :=
  s.run Rows.vextracti128 o fun r => s.extractBlock r o 64 128

/-- VEXTRACTI32X4 (R422). -/
def execVextracti32x4 (o : Operands) (s : State) : Host.Outcome State Fault Refusal :=
  s.run Rows.vextracti32x4 o fun r => s.extractBlock r o 32 128

/-- VEXTRACTI32x4 (R422). -/
def execVextracti32x4z (o : Operands) (s : State) : Host.Outcome State Fault Refusal :=
  s.run Rows.vextracti32x4z o fun r => s.extractBlock r o 32 128

/-- VEXTRACTI64X2 (R422). -/
def execVextracti64x2 (o : Operands) (s : State) : Host.Outcome State Fault Refusal :=
  s.run Rows.vextracti64x2 o fun r => s.extractBlock r o 64 128

/-- VEXTRACTI32X8 (R422). -/
def execVextracti32x8 (o : Operands) (s : State) : Host.Outcome State Fault Refusal :=
  s.run Rows.vextracti32x8 o fun r => s.extractBlock r o 32 256

/-- VEXTRACTI64x4 (R422). -/
def execVextracti64x4z (o : Operands) (s : State) : Host.Outcome State Fault Refusal :=
  s.run Rows.vextracti64x4z o fun r => s.extractBlock r o 64 256

/-- EXTRACTPS (R423). -/
def execExtractps (o : Operands) (s : State) : Host.Outcome State Fault Refusal :=
  s.run Rows.extractps o fun r => s.extractElem r o 32

/-- VEXTRACTPS (R423). -/
def execVextractps (o : Operands) (s : State) : Host.Outcome State Fault Refusal :=
  s.run Rows.vextractps o fun r => s.extractElem r o 32

/-- VFIXUPIMMPD (R425). -/
def execVfixupimmpd (o : Operands) (s : State) : Host.Outcome State Fault Refusal :=
  s.run Rows.vfixupimmpd o fun r => s.fixupVec r o f64

/-- VFIXUPIMMPS (R426). -/
def execVfixupimmps (o : Operands) (s : State) : Host.Outcome State Fault Refusal :=
  s.run Rows.vfixupimmps o fun r => s.fixupVec r o f32

/-- VFIXUPIMMSD (R427). -/
def execVfixupimmsd (o : Operands) (s : State) : Host.Outcome State Fault Refusal :=
  s.run Rows.vfixupimmsd o fun r => s.fixupScalar r o f64

/-- VFIXUPIMMSS (R428). -/
def execVfixupimmss (o : Operands) (s : State) : Host.Outcome State Fault Refusal :=
  s.run Rows.vfixupimmss o fun r => s.fixupScalar r o f32

end Sys2Proof.Machine
end

