-- ==== Sys2Proof/Machine/Rows45.lean ====
section
/-! DEFINITION. The rows of spec/opcode_table.json for the instructions of spec/45_fma_part1.md (FMA part 1), in the order of the table:
space, map, pp, W, L, opcode, roles of ModRM.reg, vvvv and r/m, mod, VSIB, imm8, r/m is the destination, masking, broadcast
bytes, rounding, tuple, CPUID flags, exception class, alignment, 64-bit mode only. -/

namespace Sys2Proof.Machine.Rows

/-- VFMADD132PD (R434) -/
def vfmadd132pd : List Row :=
  [⟨.vex, .m0F38, .p66, .w1, .l128, 0x98, .vec, .vec, .vec, .any, false, false, false, .none, 0, .none, .fixed 1, [.fma], .vex 2, false, false⟩,
   ⟨.vex, .m0F38, .p66, .w1, .l256, 0x98, .vec, .vec, .vec, .any, false, false, false, .none, 0, .none, .fixed 1, [.fma], .vex 2, false, false⟩,
   ⟨.evex, .m0F38, .p66, .w1, .l128, 0x98, .vec, .vec, .vec, .any, false, false, false, .zero, 8, .none, .fv 8, [.avx512vl, .avx512f], .e2, false, false⟩,
   ⟨.evex, .m0F38, .p66, .w1, .l256, 0x98, .vec, .vec, .vec, .any, false, false, false, .zero, 8, .none, .fv 8, [.avx512vl, .avx512f], .e2, false, false⟩,
   ⟨.evex, .m0F38, .p66, .w1, .l512, 0x98, .vec, .vec, .vec, .any, false, false, false, .zero, 8, .er, .fv 8, [.avx512f], .e2, false, false⟩]

/-- VFMADD213PD (R435) -/
def vfmadd213pd : List Row :=
  [⟨.vex, .m0F38, .p66, .w1, .l128, 0xA8, .vec, .vec, .vec, .any, false, false, false, .none, 0, .none, .fixed 1, [.fma], .vex 2, false, false⟩,
   ⟨.vex, .m0F38, .p66, .w1, .l256, 0xA8, .vec, .vec, .vec, .any, false, false, false, .none, 0, .none, .fixed 1, [.fma], .vex 2, false, false⟩,
   ⟨.evex, .m0F38, .p66, .w1, .l128, 0xA8, .vec, .vec, .vec, .any, false, false, false, .zero, 8, .none, .fv 8, [.avx512vl, .avx512f], .e2, false, false⟩,
   ⟨.evex, .m0F38, .p66, .w1, .l256, 0xA8, .vec, .vec, .vec, .any, false, false, false, .zero, 8, .none, .fv 8, [.avx512vl, .avx512f], .e2, false, false⟩,
   ⟨.evex, .m0F38, .p66, .w1, .l512, 0xA8, .vec, .vec, .vec, .any, false, false, false, .zero, 8, .er, .fv 8, [.avx512f], .e2, false, false⟩]

/-- VFMADD231PD (R436) -/
def vfmadd231pd : List Row :=
  [⟨.vex, .m0F38, .p66, .w1, .l128, 0xB8, .vec, .vec, .vec, .any, false, false, false, .none, 0, .none, .fixed 1, [.fma], .vex 2, false, false⟩,
   ⟨.vex, .m0F38, .p66, .w1, .l256, 0xB8, .vec, .vec, .vec, .any, false, false, false, .none, 0, .none, .fixed 1, [.fma], .vex 2, false, false⟩,
   ⟨.evex, .m0F38, .p66, .w1, .l128, 0xB8, .vec, .vec, .vec, .any, false, false, false, .zero, 8, .none, .fv 8, [.avx512vl, .avx512f], .e2, false, false⟩,
   ⟨.evex, .m0F38, .p66, .w1, .l256, 0xB8, .vec, .vec, .vec, .any, false, false, false, .zero, 8, .none, .fv 8, [.avx512vl, .avx512f], .e2, false, false⟩,
   ⟨.evex, .m0F38, .p66, .w1, .l512, 0xB8, .vec, .vec, .vec, .any, false, false, false, .zero, 8, .er, .fv 8, [.avx512f], .e2, false, false⟩]

/-- VFMADD132PS (R437) -/
def vfmadd132ps : List Row :=
  [⟨.vex, .m0F38, .p66, .w0, .l128, 0x98, .vec, .vec, .vec, .any, false, false, false, .none, 0, .none, .fixed 1, [.fma], .vex 2, false, false⟩,
   ⟨.vex, .m0F38, .p66, .w0, .l256, 0x98, .vec, .vec, .vec, .any, false, false, false, .none, 0, .none, .fixed 1, [.fma], .vex 2, false, false⟩,
   ⟨.evex, .m0F38, .p66, .w0, .l128, 0x98, .vec, .vec, .vec, .any, false, false, false, .zero, 4, .none, .fv 4, [.avx512vl, .avx512f], .e2, false, false⟩,
   ⟨.evex, .m0F38, .p66, .w0, .l256, 0x98, .vec, .vec, .vec, .any, false, false, false, .zero, 4, .none, .fv 4, [.avx512vl, .avx512f], .e2, false, false⟩,
   ⟨.evex, .m0F38, .p66, .w0, .l512, 0x98, .vec, .vec, .vec, .any, false, false, false, .zero, 4, .er, .fv 4, [.avx512f], .e2, false, false⟩]

/-- VFMADD213PS (R438) -/
def vfmadd213ps : List Row :=
  [⟨.vex, .m0F38, .p66, .w0, .l128, 0xA8, .vec, .vec, .vec, .any, false, false, false, .none, 0, .none, .fixed 1, [.fma], .vex 2, false, false⟩,
   ⟨.vex, .m0F38, .p66, .w0, .l256, 0xA8, .vec, .vec, .vec, .any, false, false, false, .none, 0, .none, .fixed 1, [.fma], .vex 2, false, false⟩,
   ⟨.evex, .m0F38, .p66, .w0, .l128, 0xA8, .vec, .vec, .vec, .any, false, false, false, .zero, 4, .none, .fv 4, [.avx512vl, .avx512f], .e2, false, false⟩,
   ⟨.evex, .m0F38, .p66, .w0, .l256, 0xA8, .vec, .vec, .vec, .any, false, false, false, .zero, 4, .none, .fv 4, [.avx512vl, .avx512f], .e2, false, false⟩,
   ⟨.evex, .m0F38, .p66, .w0, .l512, 0xA8, .vec, .vec, .vec, .any, false, false, false, .zero, 4, .er, .fv 4, [.avx512f], .e2, false, false⟩]

/-- VFMADD231PS (R439) -/
def vfmadd231ps : List Row :=
  [⟨.vex, .m0F38, .p66, .w0, .l128, 0xB8, .vec, .vec, .vec, .any, false, false, false, .none, 0, .none, .fixed 1, [.fma], .vex 2, false, false⟩,
   ⟨.vex, .m0F38, .p66, .w0, .l256, 0xB8, .vec, .vec, .vec, .any, false, false, false, .none, 0, .none, .fixed 1, [.fma], .vex 2, false, false⟩,
   ⟨.evex, .m0F38, .p66, .w0, .l128, 0xB8, .vec, .vec, .vec, .any, false, false, false, .zero, 4, .none, .fv 4, [.avx512vl, .avx512f], .e2, false, false⟩,
   ⟨.evex, .m0F38, .p66, .w0, .l256, 0xB8, .vec, .vec, .vec, .any, false, false, false, .zero, 4, .none, .fv 4, [.avx512vl, .avx512f], .e2, false, false⟩,
   ⟨.evex, .m0F38, .p66, .w0, .l512, 0xB8, .vec, .vec, .vec, .any, false, false, false, .zero, 4, .er, .fv 4, [.avx512f], .e2, false, false⟩]

/-- VFMADD132SD (R440) -/
def vfmadd132sd : List Row :=
  [⟨.vex, .m0F38, .p66, .w1, .any, 0x99, .vec, .vec, .vec, .any, false, false, false, .none, 0, .none, .fixed 1, [.fma], .vex 3, false, false⟩,
   ⟨.evex, .m0F38, .p66, .w1, .any, 0x99, .vec, .vec, .vec, .any, false, false, false, .zero, 0, .er, .fixed 8, [.avx512f], .e3, false, false⟩]

/-- VFMADD213SD (R441) -/
def vfmadd213sd : List Row :=
  [⟨.vex, .m0F38, .p66, .w1, .any, 0xA9, .vec, .vec, .vec, .any, false, false, false, .none, 0, .none, .fixed 1, [.fma], .vex 3, false, false⟩,
   ⟨.evex, .m0F38, .p66, .w1, .any, 0xA9, .vec, .vec, .vec, .any, false, false, false, .zero, 0, .er, .fixed 8, [.avx512f], .e3, false, false⟩]

/-- VFMADD231SD (R442) -/
def vfmadd231sd : List Row :=
  [⟨.vex, .m0F38, .p66, .w1, .any, 0xB9, .vec, .vec, .vec, .any, false, false, false, .none, 0, .none, .fixed 1, [.fma], .vex 3, false, false⟩,
   ⟨.evex, .m0F38, .p66, .w1, .any, 0xB9, .vec, .vec, .vec, .any, false, false, false, .zero, 0, .er, .fixed 8, [.avx512f], .e3, false, false⟩]

/-- VFMADD132SS (R443) -/
def vfmadd132ss : List Row :=
  [⟨.vex, .m0F38, .p66, .w0, .any, 0x99, .vec, .vec, .vec, .any, false, false, false, .none, 0, .none, .fixed 1, [.fma], .vex 3, false, false⟩,
   ⟨.evex, .m0F38, .p66, .w0, .any, 0x99, .vec, .vec, .vec, .any, false, false, false, .zero, 0, .er, .fixed 4, [.avx512f], .e3, false, false⟩]

/-- VFMADD213SS (R444) -/
def vfmadd213ss : List Row :=
  [⟨.vex, .m0F38, .p66, .w0, .any, 0xA9, .vec, .vec, .vec, .any, false, false, false, .none, 0, .none, .fixed 1, [.fma], .vex 3, false, false⟩,
   ⟨.evex, .m0F38, .p66, .w0, .any, 0xA9, .vec, .vec, .vec, .any, false, false, false, .zero, 0, .er, .fixed 4, [.avx512f], .e3, false, false⟩]

/-- VFMADD231SS (R445) -/
def vfmadd231ss : List Row :=
  [⟨.vex, .m0F38, .p66, .w0, .any, 0xB9, .vec, .vec, .vec, .any, false, false, false, .none, 0, .none, .fixed 1, [.fma], .vex 3, false, false⟩,
   ⟨.evex, .m0F38, .p66, .w0, .any, 0xB9, .vec, .vec, .vec, .any, false, false, false, .zero, 0, .er, .fixed 4, [.avx512f], .e3, false, false⟩]

/-- VFMADDSUB132PD (R446) -/
def vfmaddsub132pd : List Row :=
  [⟨.vex, .m0F38, .p66, .w1, .l128, 0x96, .vec, .vec, .vec, .any, false, false, false, .none, 0, .none, .fixed 1, [.fma], .vex 2, false, false⟩,
   ⟨.vex, .m0F38, .p66, .w1, .l256, 0x96, .vec, .vec, .vec, .any, false, false, false, .none, 0, .none, .fixed 1, [.fma], .vex 2, false, false⟩,
   ⟨.evex, .m0F38, .p66, .w1, .l128, 0x96, .vec, .vec, .vec, .any, false, false, false, .zero, 8, .none, .fv 8, [.avx512vl, .avx512f], .e2, false, false⟩,
   ⟨.evex, .m0F38, .p66, .w1, .l256, 0x96, .vec, .vec, .vec, .any, false, false, false, .zero, 8, .none, .fv 8, [.avx512vl, .avx512f], .e2, false, false⟩,
   ⟨.evex, .m0F38, .p66, .w1, .l512, 0x96, .vec, .vec, .vec, .any, false, false, false, .zero, 8, .er, .fv 8, [.avx512f], .e2, false, false⟩]

/-- VFMADDSUB213PD (R447) -/
def vfmaddsub213pd : List Row :=
  [⟨.vex, .m0F38, .p66, .w1, .l128, 0xA6, .vec, .vec, .vec, .any, false, false, false, .none, 0, .none, .fixed 1, [.fma], .vex 2, false, false⟩,
   ⟨.vex, .m0F38, .p66, .w1, .l256, 0xA6, .vec, .vec, .vec, .any, false, false, false, .none, 0, .none, .fixed 1, [.fma], .vex 2, false, false⟩,
   ⟨.evex, .m0F38, .p66, .w1, .l128, 0xA6, .vec, .vec, .vec, .any, false, false, false, .zero, 8, .none, .fv 8, [.avx512vl, .avx512f], .e2, false, false⟩,
   ⟨.evex, .m0F38, .p66, .w1, .l256, 0xA6, .vec, .vec, .vec, .any, false, false, false, .zero, 8, .none, .fv 8, [.avx512vl, .avx512f], .e2, false, false⟩,
   ⟨.evex, .m0F38, .p66, .w1, .l512, 0xA6, .vec, .vec, .vec, .any, false, false, false, .zero, 8, .er, .fv 8, [.avx512f], .e2, false, false⟩]

/-- VFMADDSUB231PD (R448) -/
def vfmaddsub231pd : List Row :=
  [⟨.vex, .m0F38, .p66, .w1, .l128, 0xB6, .vec, .vec, .vec, .any, false, false, false, .none, 0, .none, .fixed 1, [.fma], .vex 2, false, false⟩,
   ⟨.vex, .m0F38, .p66, .w1, .l256, 0xB6, .vec, .vec, .vec, .any, false, false, false, .none, 0, .none, .fixed 1, [.fma], .vex 2, false, false⟩,
   ⟨.evex, .m0F38, .p66, .w1, .l128, 0xB6, .vec, .vec, .vec, .any, false, false, false, .zero, 8, .none, .fv 8, [.avx512vl, .avx512f], .e2, false, false⟩,
   ⟨.evex, .m0F38, .p66, .w1, .l256, 0xB6, .vec, .vec, .vec, .any, false, false, false, .zero, 8, .none, .fv 8, [.avx512vl, .avx512f], .e2, false, false⟩,
   ⟨.evex, .m0F38, .p66, .w1, .l512, 0xB6, .vec, .vec, .vec, .any, false, false, false, .zero, 8, .er, .fv 8, [.avx512f], .e2, false, false⟩]

/-- VFMADDSUB132PS (R449) -/
def vfmaddsub132ps : List Row :=
  [⟨.vex, .m0F38, .p66, .w0, .l128, 0x96, .vec, .vec, .vec, .any, false, false, false, .none, 0, .none, .fixed 1, [.fma], .vex 2, false, false⟩,
   ⟨.vex, .m0F38, .p66, .w0, .l256, 0x96, .vec, .vec, .vec, .any, false, false, false, .none, 0, .none, .fixed 1, [.fma], .vex 2, false, false⟩,
   ⟨.evex, .m0F38, .p66, .w0, .l128, 0x96, .vec, .vec, .vec, .any, false, false, false, .zero, 4, .none, .fv 4, [.avx512vl, .avx512f], .e2, false, false⟩,
   ⟨.evex, .m0F38, .p66, .w0, .l256, 0x96, .vec, .vec, .vec, .any, false, false, false, .zero, 4, .none, .fv 4, [.avx512vl, .avx512f], .e2, false, false⟩,
   ⟨.evex, .m0F38, .p66, .w0, .l512, 0x96, .vec, .vec, .vec, .any, false, false, false, .zero, 4, .er, .fv 4, [.avx512f], .e2, false, false⟩]

/-- VFMADDSUB213PS (R450) -/
def vfmaddsub213ps : List Row :=
  [⟨.vex, .m0F38, .p66, .w0, .l128, 0xA6, .vec, .vec, .vec, .any, false, false, false, .none, 0, .none, .fixed 1, [.fma], .vex 2, false, false⟩,
   ⟨.vex, .m0F38, .p66, .w0, .l256, 0xA6, .vec, .vec, .vec, .any, false, false, false, .none, 0, .none, .fixed 1, [.fma], .vex 2, false, false⟩,
   ⟨.evex, .m0F38, .p66, .w0, .l128, 0xA6, .vec, .vec, .vec, .any, false, false, false, .zero, 4, .none, .fv 4, [.avx512vl, .avx512f], .e2, false, false⟩,
   ⟨.evex, .m0F38, .p66, .w0, .l256, 0xA6, .vec, .vec, .vec, .any, false, false, false, .zero, 4, .none, .fv 4, [.avx512vl, .avx512f], .e2, false, false⟩,
   ⟨.evex, .m0F38, .p66, .w0, .l512, 0xA6, .vec, .vec, .vec, .any, false, false, false, .zero, 4, .er, .fv 4, [.avx512f], .e2, false, false⟩]

/-- VFMADDSUB231PS (R451) -/
def vfmaddsub231ps : List Row :=
  [⟨.vex, .m0F38, .p66, .w0, .l128, 0xB6, .vec, .vec, .vec, .any, false, false, false, .none, 0, .none, .fixed 1, [.fma], .vex 2, false, false⟩,
   ⟨.vex, .m0F38, .p66, .w0, .l256, 0xB6, .vec, .vec, .vec, .any, false, false, false, .none, 0, .none, .fixed 1, [.fma], .vex 2, false, false⟩,
   ⟨.evex, .m0F38, .p66, .w0, .l128, 0xB6, .vec, .vec, .vec, .any, false, false, false, .zero, 4, .none, .fv 4, [.avx512vl, .avx512f], .e2, false, false⟩,
   ⟨.evex, .m0F38, .p66, .w0, .l256, 0xB6, .vec, .vec, .vec, .any, false, false, false, .zero, 4, .none, .fv 4, [.avx512vl, .avx512f], .e2, false, false⟩,
   ⟨.evex, .m0F38, .p66, .w0, .l512, 0xB6, .vec, .vec, .vec, .any, false, false, false, .zero, 4, .er, .fv 4, [.avx512f], .e2, false, false⟩]

/-- VFMSUBADD132PD (R452) -/
def vfmsubadd132pd : List Row :=
  [⟨.vex, .m0F38, .p66, .w1, .l128, 0x97, .vec, .vec, .vec, .any, false, false, false, .none, 0, .none, .fixed 1, [.fma], .vex 2, false, false⟩,
   ⟨.vex, .m0F38, .p66, .w1, .l256, 0x97, .vec, .vec, .vec, .any, false, false, false, .none, 0, .none, .fixed 1, [.fma], .vex 2, false, false⟩,
   ⟨.evex, .m0F38, .p66, .w1, .l128, 0x97, .vec, .vec, .vec, .any, false, false, false, .zero, 8, .none, .fv 8, [.avx512vl, .avx512f], .e2, false, false⟩,
   ⟨.evex, .m0F38, .p66, .w1, .l256, 0x97, .vec, .vec, .vec, .any, false, false, false, .zero, 8, .none, .fv 8, [.avx512vl, .avx512f], .e2, false, false⟩,
   ⟨.evex, .m0F38, .p66, .w1, .l512, 0x97, .vec, .vec, .vec, .any, false, false, false, .zero, 8, .er, .fv 8, [.avx512f], .e2, false, false⟩]

/-- VFMSUBADD213PD (R453) -/
def vfmsubadd213pd : List Row :=
  [⟨.vex, .m0F38, .p66, .w1, .l128, 0xA7, .vec, .vec, .vec, .any, false, false, false, .none, 0, .none, .fixed 1, [.fma], .vex 2, false, false⟩,
   ⟨.vex, .m0F38, .p66, .w1, .l256, 0xA7, .vec, .vec, .vec, .any, false, false, false, .none, 0, .none, .fixed 1, [.fma], .vex 2, false, false⟩,
   ⟨.evex, .m0F38, .p66, .w1, .l128, 0xA7, .vec, .vec, .vec, .any, false, false, false, .zero, 8, .none, .fv 8, [.avx512vl, .avx512f], .e2, false, false⟩,
   ⟨.evex, .m0F38, .p66, .w1, .l256, 0xA7, .vec, .vec, .vec, .any, false, false, false, .zero, 8, .none, .fv 8, [.avx512vl, .avx512f], .e2, false, false⟩,
   ⟨.evex, .m0F38, .p66, .w1, .l512, 0xA7, .vec, .vec, .vec, .any, false, false, false, .zero, 8, .er, .fv 8, [.avx512f], .e2, false, false⟩]

/-- VFMSUBADD231PD (R454) -/
def vfmsubadd231pd : List Row :=
  [⟨.vex, .m0F38, .p66, .w1, .l128, 0xB7, .vec, .vec, .vec, .any, false, false, false, .none, 0, .none, .fixed 1, [.fma], .vex 2, false, false⟩,
   ⟨.vex, .m0F38, .p66, .w1, .l256, 0xB7, .vec, .vec, .vec, .any, false, false, false, .none, 0, .none, .fixed 1, [.fma], .vex 2, false, false⟩,
   ⟨.evex, .m0F38, .p66, .w1, .l128, 0xB7, .vec, .vec, .vec, .any, false, false, false, .zero, 8, .none, .fv 8, [.avx512vl, .avx512f], .e2, false, false⟩,
   ⟨.evex, .m0F38, .p66, .w1, .l256, 0xB7, .vec, .vec, .vec, .any, false, false, false, .zero, 8, .none, .fv 8, [.avx512vl, .avx512f], .e2, false, false⟩,
   ⟨.evex, .m0F38, .p66, .w1, .l512, 0xB7, .vec, .vec, .vec, .any, false, false, false, .zero, 8, .er, .fv 8, [.avx512f], .e2, false, false⟩]

/-- VFMSUBADD132PS (R455) -/
def vfmsubadd132ps : List Row :=
  [⟨.vex, .m0F38, .p66, .w0, .l128, 0x97, .vec, .vec, .vec, .any, false, false, false, .none, 0, .none, .fixed 1, [.fma], .vex 2, false, false⟩,
   ⟨.vex, .m0F38, .p66, .w0, .l256, 0x97, .vec, .vec, .vec, .any, false, false, false, .none, 0, .none, .fixed 1, [.fma], .vex 2, false, false⟩,
   ⟨.evex, .m0F38, .p66, .w0, .l128, 0x97, .vec, .vec, .vec, .any, false, false, false, .zero, 4, .none, .fv 4, [.avx512vl, .avx512f], .e2, false, false⟩,
   ⟨.evex, .m0F38, .p66, .w0, .l256, 0x97, .vec, .vec, .vec, .any, false, false, false, .zero, 4, .none, .fv 4, [.avx512vl, .avx512f], .e2, false, false⟩,
   ⟨.evex, .m0F38, .p66, .w0, .l512, 0x97, .vec, .vec, .vec, .any, false, false, false, .zero, 4, .er, .fv 4, [.avx512f], .e2, false, false⟩]

/-- VFMSUBADD213PS (R456) -/
def vfmsubadd213ps : List Row :=
  [⟨.vex, .m0F38, .p66, .w0, .l128, 0xA7, .vec, .vec, .vec, .any, false, false, false, .none, 0, .none, .fixed 1, [.fma], .vex 2, false, false⟩,
   ⟨.vex, .m0F38, .p66, .w0, .l256, 0xA7, .vec, .vec, .vec, .any, false, false, false, .none, 0, .none, .fixed 1, [.fma], .vex 2, false, false⟩,
   ⟨.evex, .m0F38, .p66, .w0, .l128, 0xA7, .vec, .vec, .vec, .any, false, false, false, .zero, 4, .none, .fv 4, [.avx512vl, .avx512f], .e2, false, false⟩,
   ⟨.evex, .m0F38, .p66, .w0, .l256, 0xA7, .vec, .vec, .vec, .any, false, false, false, .zero, 4, .none, .fv 4, [.avx512vl, .avx512f], .e2, false, false⟩,
   ⟨.evex, .m0F38, .p66, .w0, .l512, 0xA7, .vec, .vec, .vec, .any, false, false, false, .zero, 4, .er, .fv 4, [.avx512f], .e2, false, false⟩]

/-- VFMSUBADD231PS (R457) -/
def vfmsubadd231ps : List Row :=
  [⟨.vex, .m0F38, .p66, .w0, .l128, 0xB7, .vec, .vec, .vec, .any, false, false, false, .none, 0, .none, .fixed 1, [.fma], .vex 2, false, false⟩,
   ⟨.vex, .m0F38, .p66, .w0, .l256, 0xB7, .vec, .vec, .vec, .any, false, false, false, .none, 0, .none, .fixed 1, [.fma], .vex 2, false, false⟩,
   ⟨.evex, .m0F38, .p66, .w0, .l128, 0xB7, .vec, .vec, .vec, .any, false, false, false, .zero, 4, .none, .fv 4, [.avx512vl, .avx512f], .e2, false, false⟩,
   ⟨.evex, .m0F38, .p66, .w0, .l256, 0xB7, .vec, .vec, .vec, .any, false, false, false, .zero, 4, .none, .fv 4, [.avx512vl, .avx512f], .e2, false, false⟩,
   ⟨.evex, .m0F38, .p66, .w0, .l512, 0xB7, .vec, .vec, .vec, .any, false, false, false, .zero, 4, .er, .fv 4, [.avx512f], .e2, false, false⟩]

end Sys2Proof.Machine.Rows
end

