-- ==== Sys2Proof/Machine/Exec45.lean ====
section
/-! DEFINITION. The meanings of the instructions of spec/45_fma_part1.md (FMA part 1), one definition each: the checks
of `State.run` on the rows of the instruction, then its operation on the row its fields select. -/

namespace Sys2Proof.Machine

/-- VFMADD132PD (R434). -/
def execVfmadd132pd (o : Operands) (s : State) : Host.Outcome State Fault Refusal :=
  s.run Rows.vfmadd132pd o fun r => s.fmaVec r o f64 .f132 false fun _ => false

/-- VFMADD213PD (R435). -/
def execVfmadd213pd (o : Operands) (s : State) : Host.Outcome State Fault Refusal :=
  s.run Rows.vfmadd213pd o fun r => s.fmaVec r o f64 .f213 false fun _ => false

/-- VFMADD231PD (R436). -/
def execVfmadd231pd (o : Operands) (s : State) : Host.Outcome State Fault Refusal :=
  s.run Rows.vfmadd231pd o fun r => s.fmaVec r o f64 .f231 false fun _ => false

/-- VFMADD132PS (R437). -/
def execVfmadd132ps (o : Operands) (s : State) : Host.Outcome State Fault Refusal :=
  s.run Rows.vfmadd132ps o fun r => s.fmaVec r o f32 .f132 false fun _ => false

/-- VFMADD213PS (R438). -/
def execVfmadd213ps (o : Operands) (s : State) : Host.Outcome State Fault Refusal :=
  s.run Rows.vfmadd213ps o fun r => s.fmaVec r o f32 .f213 false fun _ => false

/-- VFMADD231PS (R439). -/
def execVfmadd231ps (o : Operands) (s : State) : Host.Outcome State Fault Refusal :=
  s.run Rows.vfmadd231ps o fun r => s.fmaVec r o f32 .f231 false fun _ => false

/-- VFMADD132SD (R440). -/
def execVfmadd132sd (o : Operands) (s : State) : Host.Outcome State Fault Refusal :=
  s.run Rows.vfmadd132sd o fun r => s.fmaScalar r o f64 .f132 false false

/-- VFMADD213SD (R441). -/
def execVfmadd213sd (o : Operands) (s : State) : Host.Outcome State Fault Refusal :=
  s.run Rows.vfmadd213sd o fun r => s.fmaScalar r o f64 .f213 false false

/-- VFMADD231SD (R442). -/
def execVfmadd231sd (o : Operands) (s : State) : Host.Outcome State Fault Refusal :=
  s.run Rows.vfmadd231sd o fun r => s.fmaScalar r o f64 .f231 false false

/-- VFMADD132SS (R443). -/
def execVfmadd132ss (o : Operands) (s : State) : Host.Outcome State Fault Refusal :=
  s.run Rows.vfmadd132ss o fun r => s.fmaScalar r o f32 .f132 false false

/-- VFMADD213SS (R444). -/
def execVfmadd213ss (o : Operands) (s : State) : Host.Outcome State Fault Refusal :=
  s.run Rows.vfmadd213ss o fun r => s.fmaScalar r o f32 .f213 false false

/-- VFMADD231SS (R445). -/
def execVfmadd231ss (o : Operands) (s : State) : Host.Outcome State Fault Refusal :=
  s.run Rows.vfmadd231ss o fun r => s.fmaScalar r o f32 .f231 false false

/-- VFMADDSUB132PD (R446). -/
def execVfmaddsub132pd (o : Operands) (s : State) : Host.Outcome State Fault Refusal :=
  s.run Rows.vfmaddsub132pd o fun r => s.fmaVec r o f64 .f132 false fun j => j % 2 == 0

/-- VFMADDSUB213PD (R447). -/
def execVfmaddsub213pd (o : Operands) (s : State) : Host.Outcome State Fault Refusal :=
  s.run Rows.vfmaddsub213pd o fun r => s.fmaVec r o f64 .f213 false fun j => j % 2 == 0

/-- VFMADDSUB231PD (R448). -/
def execVfmaddsub231pd (o : Operands) (s : State) : Host.Outcome State Fault Refusal :=
  s.run Rows.vfmaddsub231pd o fun r => s.fmaVec r o f64 .f231 false fun j => j % 2 == 0

/-- VFMADDSUB132PS (R449). -/
def execVfmaddsub132ps (o : Operands) (s : State) : Host.Outcome State Fault Refusal :=
  s.run Rows.vfmaddsub132ps o fun r => s.fmaVec r o f32 .f132 false fun j => j % 2 == 0

/-- VFMADDSUB213PS (R450). -/
def execVfmaddsub213ps (o : Operands) (s : State) : Host.Outcome State Fault Refusal :=
  s.run Rows.vfmaddsub213ps o fun r => s.fmaVec r o f32 .f213 false fun j => j % 2 == 0

/-- VFMADDSUB231PS (R451). -/
def execVfmaddsub231ps (o : Operands) (s : State) : Host.Outcome State Fault Refusal :=
  s.run Rows.vfmaddsub231ps o fun r => s.fmaVec r o f32 .f231 false fun j => j % 2 == 0

/-- VFMSUBADD132PD (R452). -/
def execVfmsubadd132pd (o : Operands) (s : State) : Host.Outcome State Fault Refusal :=
  s.run Rows.vfmsubadd132pd o fun r => s.fmaVec r o f64 .f132 false fun j => j % 2 == 1

/-- VFMSUBADD213PD (R453). -/
def execVfmsubadd213pd (o : Operands) (s : State) : Host.Outcome State Fault Refusal :=
  s.run Rows.vfmsubadd213pd o fun r => s.fmaVec r o f64 .f213 false fun j => j % 2 == 1

/-- VFMSUBADD231PD (R454). -/
def execVfmsubadd231pd (o : Operands) (s : State) : Host.Outcome State Fault Refusal :=
  s.run Rows.vfmsubadd231pd o fun r => s.fmaVec r o f64 .f231 false fun j => j % 2 == 1

/-- VFMSUBADD132PS (R455). -/
def execVfmsubadd132ps (o : Operands) (s : State) : Host.Outcome State Fault Refusal :=
  s.run Rows.vfmsubadd132ps o fun r => s.fmaVec r o f32 .f132 false fun j => j % 2 == 1

/-- VFMSUBADD213PS (R456). -/
def execVfmsubadd213ps (o : Operands) (s : State) : Host.Outcome State Fault Refusal :=
  s.run Rows.vfmsubadd213ps o fun r => s.fmaVec r o f32 .f213 false fun j => j % 2 == 1

/-- VFMSUBADD231PS (R457). -/
def execVfmsubadd231ps (o : Operands) (s : State) : Host.Outcome State Fault Refusal :=
  s.run Rows.vfmsubadd231ps o fun r => s.fmaVec r o f32 .f231 false fun j => j % 2 == 1

end Sys2Proof.Machine
end

