-- ==== Sys2Proof/Machine/Rows46.lean ====
section
/-! DEFINITION. The rows of spec/opcode_table.json for the instructions of spec/46_fma_part2.md (FMA part 2), in the order of the table:
space, map, pp, W, L, opcode, roles of ModRM.reg, vvvv and r/m, mod, VSIB, imm8, r/m is the destination, masking, broadcast
bytes, rounding, tuple, CPUID flags, exception class, alignment, 64-bit mode only. -/

namespace Sys2Proof.Machine.Rows

/-- VFMSUB132PD (R458) -/
def vfmsub132pd : List Row :=
  [⟨.vex, .m0F38, .p66, .w1, .l128, 0x9A, .vec, .vec, .vec, .any, false, false, false, .none, 0, .none, .fixed 1, [.fma], .vex 2, false, false⟩,
   ⟨.vex, .m0F38, .p66, .w1, .l256, 0x9A, .vec, .vec, .vec, .any, false, false, false, .none, 0, .none, .fixed 1, [.fma], .vex 2, false, false⟩,
   ⟨.evex, .m0F38, .p66, .w1, .l128, 0x9A, .vec, .vec, .vec, .any, false, false, false, .zero, 8, .none, .fv 8, [.avx512vl, .avx512f], .e2, false, false⟩,
   ⟨.evex, .m0F38, .p66, .w1, .l256, 0x9A, .vec, .vec, .vec, .any, false, false, false, .zero, 8, .none, .fv 8, [.avx512vl, .avx512f], .e2, false, false⟩,
   ⟨.evex, .m0F38, .p66, .w1, .l512, 0x9A, .vec, .vec, .vec, .any, false, false, false, .zero, 8, .er, .fv 8, [.avx512f], .e2, false, false⟩]

/-- VFMSUB213PD (R459) -/
def vfmsub213pd : List Row :=
  [⟨.vex, .m0F38, .p66, .w1, .l128, 0xAA, .vec, .vec, .vec, .any, false, false, false, .none, 0, .none, .fixed 1, [.fma], .vex 2, false, false⟩,
   ⟨.vex, .m0F38, .p66, .w1, .l256, 0xAA, .vec, .vec, .vec, .any, false, false, false, .none, 0, .none, .fixed 1, [.fma], .vex 2, false, false⟩,
   ⟨.evex, .m0F38, .p66, .w1, .l128, 0xAA, .vec, .vec, .vec, .any, false, false, false, .zero, 8, .none, .fv 8, [.avx512vl, .avx512f], .e2, false, false⟩,
   ⟨.evex, .m0F38, .p66, .w1, .l256, 0xAA, .vec, .vec, .vec, .any, false, false, false, .zero, 8, .none, .fv 8, [.avx512vl, .avx512f], .e2, false, false⟩,
   ⟨.evex, .m0F38, .p66, .w1, .l512, 0xAA, .vec, .vec, .vec, .any, false, false, false, .zero, 8, .er, .fv 8, [.avx512f], .e2, false, false⟩]

/-- VFMSUB231PD (R460) -/
def vfmsub231pd : List Row :=
  [⟨.vex, .m0F38, .p66, .w1, .l128, 0xBA, .vec, .vec, .vec, .any, false, false, false, .none, 0, .none, .fixed 1, [.fma], .vex 2, false, false⟩,
   ⟨.vex, .m0F38, .p66, .w1, .l256, 0xBA, .vec, .vec, .vec, .any, false, false, false, .none, 0, .none, .fixed 1, [.fma], .vex 2, false, false⟩,
   ⟨.evex, .m0F38, .p66, .w1, .l128, 0xBA, .vec, .vec, .vec, .any, false, false, false, .zero, 8, .none, .fv 8, [.avx512vl, .avx512f], .e2, false, false⟩,
   ⟨.evex, .m0F38, .p66, .w1, .l256, 0xBA, .vec, .vec, .vec, .any, false, false, false, .zero, 8, .none, .fv 8, [.avx512vl, .avx512f], .e2, false, false⟩,
   ⟨.evex, .m0F38, .p66, .w1, .l512, 0xBA, .vec, .vec, .vec, .any, false, false, false, .zero, 8, .er, .fv 8, [.avx512f], .e2, false, false⟩]

/-- VFMSUB132PS (R461) -/
def vfmsub132ps : List Row :=
  [⟨.vex, .m0F38, .p66, .w0, .l128, 0x9A, .vec, .vec, .vec, .any, false, false, false, .none, 0, .none, .fixed 1, [.fma], .vex 2, false, false⟩,
   ⟨.vex, .m0F38, .p66, .w0, .l256, 0x9A, .vec, .vec, .vec, .any, false, false, false, .none, 0, .none, .fixed 1, [.fma], .vex 2, false, false⟩,
   ⟨.evex, .m0F38, .p66, .w0, .l128, 0x9A, .vec, .vec, .vec, .any, false, false, false, .zero, 4, .none, .fv 4, [.avx512vl, .avx512f], .e2, false, false⟩,
   ⟨.evex, .m0F38, .p66, .w0, .l256, 0x9A, .vec, .vec, .vec, .any, false, false, false, .zero, 4, .none, .fv 4, [.avx512vl, .avx512f], .e2, false, false⟩,
   ⟨.evex, .m0F38, .p66, .w0, .l512, 0x9A, .vec, .vec, .vec, .any, false, false, false, .zero, 4, .er, .fv 4, [.avx512f], .e2, false, false⟩]

/-- VFMSUB213PS (R462) -/
def vfmsub213ps : List Row :=
  [⟨.vex, .m0F38, .p66, .w0, .l128, 0xAA, .vec, .vec, .vec, .any, false, false, false, .none, 0, .none, .fixed 1, [.fma], .vex 2, false, false⟩,
   ⟨.vex, .m0F38, .p66, .w0, .l256, 0xAA, .vec, .vec, .vec, .any, false, false, false, .none, 0, .none, .fixed 1, [.fma], .vex 2, false, false⟩,
   ⟨.evex, .m0F38, .p66, .w0, .l128, 0xAA, .vec, .vec, .vec, .any, false, false, false, .zero, 4, .none, .fv 4, [.avx512vl, .avx512f], .e2, false, false⟩,
   ⟨.evex, .m0F38, .p66, .w0, .l256, 0xAA, .vec, .vec, .vec, .any, false, false, false, .zero, 4, .none, .fv 4, [.avx512vl, .avx512f], .e2, false, false⟩,
   ⟨.evex, .m0F38, .p66, .w0, .l512, 0xAA, .vec, .vec, .vec, .any, false, false, false, .zero, 4, .er, .fv 4, [.avx512f], .e2, false, false⟩]

/-- VFMSUB231PS (R463) -/
def vfmsub231ps : List Row :=
  [⟨.vex, .m0F38, .p66, .w0, .l128, 0xBA, .vec, .vec, .vec, .any, false, false, false, .none, 0, .none, .fixed 1, [.fma], .vex 2, false, false⟩,
   ⟨.vex, .m0F38, .p66, .w0, .l256, 0xBA, .vec, .vec, .vec, .any, false, false, false, .none, 0, .none, .fixed 1, [.fma], .vex 2, false, false⟩,
   ⟨.evex, .m0F38, .p66, .w0, .l128, 0xBA, .vec, .vec, .vec, .any, false, false, false, .zero, 4, .none, .fv 4, [.avx512vl, .avx512f], .e2, false, false⟩,
   ⟨.evex, .m0F38, .p66, .w0, .l256, 0xBA, .vec, .vec, .vec, .any, false, false, false, .zero, 4, .none, .fv 4, [.avx512vl, .avx512f], .e2, false, false⟩,
   ⟨.evex, .m0F38, .p66, .w0, .l512, 0xBA, .vec, .vec, .vec, .any, false, false, false, .zero, 4, .er, .fv 4, [.avx512f], .e2, false, false⟩]

/-- VFMSUB132SD (R464) -/
def vfmsub132sd : List Row :=
  [⟨.vex, .m0F38, .p66, .w1, .any, 0x9B, .vec, .vec, .vec, .any, false, false, false, .none, 0, .none, .fixed 1, [.fma], .vex 3, false, false⟩,
   ⟨.evex, .m0F38, .p66, .w1, .any, 0x9B, .vec, .vec, .vec, .any, false, false, false, .zero, 0, .er, .fixed 8, [.avx512f], .e3, false, false⟩]

/-- VFMSUB213SD (R465) -/
def vfmsub213sd : List Row :=
  [⟨.vex, .m0F38, .p66, .w1, .any, 0xAB, .vec, .vec, .vec, .any, false, false, false, .none, 0, .none, .fixed 1, [.fma], .vex 3, false, false⟩,
   ⟨.evex, .m0F38, .p66, .w1, .any, 0xAB, .vec, .vec, .vec, .any, false, false, false, .zero, 0, .er, .fixed 8, [.avx512f], .e3, false, false⟩]

/-- VFMSUB231SD (R466) -/
def vfmsub231sd : List Row :=
  [⟨.vex, .m0F38, .p66, .w1, .any, 0xBB, .vec, .vec, .vec, .any, false, false, false, .none, 0, .none, .fixed 1, [.fma], .vex 3, false, false⟩,
   ⟨.evex, .m0F38, .p66, .w1, .any, 0xBB, .vec, .vec, .vec, .any, false, false, false, .zero, 0, .er, .fixed 8, [.avx512f], .e3, false, false⟩]

/-- VFMSUB132SS (R467) -/
def vfmsub132ss : List Row :=
  [⟨.vex, .m0F38, .p66, .w0, .any, 0x9B, .vec, .vec, .vec, .any, false, false, false, .none, 0, .none, .fixed 1, [.fma], .vex 3, false, false⟩,
   ⟨.evex, .m0F38, .p66, .w0, .any, 0x9B, .vec, .vec, .vec, .any, false, false, false, .zero, 0, .er, .fixed 4, [.avx512f], .e3, false, false⟩]

/-- VFMSUB213SS (R468) -/
def vfmsub213ss : List Row :=
  [⟨.vex, .m0F38, .p66, .w0, .any, 0xAB, .vec, .vec, .vec, .any, false, false, false, .none, 0, .none, .fixed 1, [.fma], .vex 3, false, false⟩,
   ⟨.evex, .m0F38, .p66, .w0, .any, 0xAB, .vec, .vec, .vec, .any, false, false, false, .zero, 0, .er, .fixed 4, [.avx512f], .e3, false, false⟩]

/-- VFMSUB231SS (R469) -/
def vfmsub231ss : List Row :=
  [⟨.vex, .m0F38, .p66, .w0, .any, 0xBB, .vec, .vec, .vec, .any, false, false, false, .none, 0, .none, .fixed 1, [.fma], .vex 3, false, false⟩,
   ⟨.evex, .m0F38, .p66, .w0, .any, 0xBB, .vec, .vec, .vec, .any, false, false, false, .zero, 0, .er, .fixed 4, [.avx512f], .e3, false, false⟩]

/-- VFNMADD132PD (R470) -/
def vfnmadd132pd : List Row :=
  [⟨.vex, .m0F38, .p66, .w1, .l128, 0x9C, .vec, .vec, .vec, .any, false, false, false, .none, 0, .none, .fixed 1, [.fma], .vex 2, false, false⟩,
   ⟨.vex, .m0F38, .p66, .w1, .l256, 0x9C, .vec, .vec, .vec, .any, false, false, false, .none, 0, .none, .fixed 1, [.fma], .vex 2, false, false⟩,
   ⟨.evex, .m0F38, .p66, .w1, .l128, 0x9C, .vec, .vec, .vec, .any, false, false, false, .zero, 8, .none, .fv 8, [.avx512vl, .avx512f], .e2, false, false⟩,
   ⟨.evex, .m0F38, .p66, .w1, .l256, 0x9C, .vec, .vec, .vec, .any, false, false, false, .zero, 8, .none, .fv 8, [.avx512vl, .avx512f], .e2, false, false⟩,
   ⟨.evex, .m0F38, .p66, .w1, .l512, 0x9C, .vec, .vec, .vec, .any, false, false, false, .zero, 8, .er, .fv 8, [.avx512f], .e2, false, false⟩]

/-- VFNMADD213PD (R471) -/
def vfnmadd213pd : List Row :=
  [⟨.vex, .m0F38, .p66, .w1, .l128, 0xAC, .vec, .vec, .vec, .any, false, false, false, .none, 0, .none, .fixed 1, [.fma], .vex 2, false, false⟩,
   ⟨.vex, .m0F38, .p66, .w1, .l256, 0xAC, .vec, .vec, .vec, .any, false, false, false, .none, 0, .none, .fixed 1, [.fma], .vex 2, false, false⟩,
   ⟨.evex, .m0F38, .p66, .w1, .l128, 0xAC, .vec, .vec, .vec, .any, false, false, false, .zero, 8, .none, .fv 8, [.avx512vl, .avx512f], .e2, false, false⟩,
   ⟨.evex, .m0F38, .p66, .w1, .l256, 0xAC, .vec, .vec, .vec, .any, false, false, false, .zero, 8, .none, .fv 8, [.avx512vl, .avx512f], .e2, false, false⟩,
   ⟨.evex, .m0F38, .p66, .w1, .l512, 0xAC, .vec, .vec, .vec, .any, false, false, false, .zero, 8, .er, .fv 8, [.avx512f], .e2, false, false⟩]

/-- VFNMADD231PD (R472) -/
def vfnmadd231pd : List Row :=
  [⟨.vex, .m0F38, .p66, .w1, .l128, 0xBC, .vec, .vec, .vec, .any, false, false, false, .none, 0, .none, .fixed 1, [.fma], .vex 2, false, false⟩,
   ⟨.vex, .m0F38, .p66, .w1, .l256, 0xBC, .vec, .vec, .vec, .any, false, false, false, .none, 0, .none, .fixed 1, [.fma], .vex 2, false, false⟩,
   ⟨.evex, .m0F38, .p66, .w1, .l128, 0xBC, .vec, .vec, .vec, .any, false, false, false, .zero, 8, .none, .fv 8, [.avx512vl, .avx512f], .e2, false, false⟩,
   ⟨.evex, .m0F38, .p66, .w1, .l256, 0xBC, .vec, .vec, .vec, .any, false, false, false, .zero, 8, .none, .fv 8, [.avx512vl, .avx512f], .e2, false, false⟩,
   ⟨.evex, .m0F38, .p66, .w1, .l512, 0xBC, .vec, .vec, .vec, .any, false, false, false, .zero, 8, .er, .fv 8, [.avx512f], .e2, false, false⟩]

/-- VFNMADD132PS (R473); the 512-bit row needs AVX512F alone (C39) -/
def vfnmadd132ps : List Row :=
  [⟨.vex, .m0F38, .p66, .w0, .l128, 0x9C, .vec, .vec, .vec, .any, false, false, false, .none, 0, .none, .fixed 1, [.fma], .vex 2, false, false⟩,
   ⟨.vex, .m0F38, .p66, .w0, .l256, 0x9C, .vec, .vec, .vec, .any, false, false, false, .none, 0, .none, .fixed 1, [.fma], .vex 2, false, false⟩,
   ⟨.evex, .m0F38, .p66, .w0, .l128, 0x9C, .vec, .vec, .vec, .any, false, false, false, .zero, 4, .none, .fv 4, [.avx512vl, .avx512f], .e2, false, false⟩,
   ⟨.evex, .m0F38, .p66, .w0, .l256, 0x9C, .vec, .vec, .vec, .any, false, false, false, .zero, 4, .none, .fv 4, [.avx512vl, .avx512f], .e2, false, false⟩,
   ⟨.evex, .m0F38, .p66, .w0, .l512, 0x9C, .vec, .vec, .vec, .any, false, false, false, .zero, 4, .er, .fv 4, [.avx512f], .e2, false, false⟩]

/-- VFNMADD213PS (R474) -/
def vfnmadd213ps : List Row :=
  [⟨.vex, .m0F38, .p66, .w0, .l128, 0xAC, .vec, .vec, .vec, .any, false, false, false, .none, 0, .none, .fixed 1, [.fma], .vex 2, false, false⟩,
   ⟨.vex, .m0F38, .p66, .w0, .l256, 0xAC, .vec, .vec, .vec, .any, false, false, false, .none, 0, .none, .fixed 1, [.fma], .vex 2, false, false⟩,
   ⟨.evex, .m0F38, .p66, .w0, .l128, 0xAC, .vec, .vec, .vec, .any, false, false, false, .zero, 4, .none, .fv 4, [.avx512vl, .avx512f], .e2, false, false⟩,
   ⟨.evex, .m0F38, .p66, .w0, .l256, 0xAC, .vec, .vec, .vec, .any, false, false, false, .zero, 4, .none, .fv 4, [.avx512vl, .avx512f], .e2, false, false⟩,
   ⟨.evex, .m0F38, .p66, .w0, .l512, 0xAC, .vec, .vec, .vec, .any, false, false, false, .zero, 4, .er, .fv 4, [.avx512f], .e2, false, false⟩]

/-- VFNMADD231PS (R475) -/
def vfnmadd231ps : List Row :=
  [⟨.vex, .m0F38, .p66, .w0, .l128, 0xBC, .vec, .vec, .vec, .any, false, false, false, .none, 0, .none, .fixed 1, [.fma], .vex 2, false, false⟩,
   ⟨.vex, .m0F38, .p66, .w0, .l256, 0xBC, .vec, .vec, .vec, .any, false, false, false, .none, 0, .none, .fixed 1, [.fma], .vex 2, false, false⟩,
   ⟨.evex, .m0F38, .p66, .w0, .l128, 0xBC, .vec, .vec, .vec, .any, false, false, false, .zero, 4, .none, .fv 4, [.avx512vl, .avx512f], .e2, false, false⟩,
   ⟨.evex, .m0F38, .p66, .w0, .l256, 0xBC, .vec, .vec, .vec, .any, false, false, false, .zero, 4, .none, .fv 4, [.avx512vl, .avx512f], .e2, false, false⟩,
   ⟨.evex, .m0F38, .p66, .w0, .l512, 0xBC, .vec, .vec, .vec, .any, false, false, false, .zero, 4, .er, .fv 4, [.avx512f], .e2, false, false⟩]

/-- VFNMADD132SD (R476) -/
def vfnmadd132sd : List Row :=
  [⟨.vex, .m0F38, .p66, .w1, .any, 0x9D, .vec, .vec, .vec, .any, false, false, false, .none, 0, .none, .fixed 1, [.fma], .vex 3, false, false⟩,
   ⟨.evex, .m0F38, .p66, .w1, .any, 0x9D, .vec, .vec, .vec, .any, false, false, false, .zero, 0, .er, .fixed 8, [.avx512f], .e3, false, false⟩]

/-- VFNMADD213SD (R477) -/
def vfnmadd213sd : List Row :=
  [⟨.vex, .m0F38, .p66, .w1, .any, 0xAD, .vec, .vec, .vec, .any, false, false, false, .none, 0, .none, .fixed 1, [.fma], .vex 3, false, false⟩,
   ⟨.evex, .m0F38, .p66, .w1, .any, 0xAD, .vec, .vec, .vec, .any, false, false, false, .zero, 0, .er, .fixed 8, [.avx512f], .e3, false, false⟩]

/-- VFNMADD231SD (R478) -/
def vfnmadd231sd : List Row :=
  [⟨.vex, .m0F38, .p66, .w1, .any, 0xBD, .vec, .vec, .vec, .any, false, false, false, .none, 0, .none, .fixed 1, [.fma], .vex 3, false, false⟩,
   ⟨.evex, .m0F38, .p66, .w1, .any, 0xBD, .vec, .vec, .vec, .any, false, false, false, .zero, 0, .er, .fixed 8, [.avx512f], .e3, false, false⟩]

/-- VFNMADD132SS (R479) -/
def vfnmadd132ss : List Row :=
  [⟨.vex, .m0F38, .p66, .w0, .any, 0x9D, .vec, .vec, .vec, .any, false, false, false, .none, 0, .none, .fixed 1, [.fma], .vex 3, false, false⟩,
   ⟨.evex, .m0F38, .p66, .w0, .any, 0x9D, .vec, .vec, .vec, .any, false, false, false, .zero, 0, .er, .fixed 4, [.avx512f], .e3, false, false⟩]

/-- VFNMADD213SS (R480) -/
def vfnmadd213ss : List Row :=
  [⟨.vex, .m0F38, .p66, .w0, .any, 0xAD, .vec, .vec, .vec, .any, false, false, false, .none, 0, .none, .fixed 1, [.fma], .vex 3, false, false⟩,
   ⟨.evex, .m0F38, .p66, .w0, .any, 0xAD, .vec, .vec, .vec, .any, false, false, false, .zero, 0, .er, .fixed 4, [.avx512f], .e3, false, false⟩]

/-- VFNMADD231SS (R481) -/
def vfnmadd231ss : List Row :=
  [⟨.vex, .m0F38, .p66, .w0, .any, 0xBD, .vec, .vec, .vec, .any, false, false, false, .none, 0, .none, .fixed 1, [.fma], .vex 3, false, false⟩,
   ⟨.evex, .m0F38, .p66, .w0, .any, 0xBD, .vec, .vec, .vec, .any, false, false, false, .zero, 0, .er, .fixed 4, [.avx512f], .e3, false, false⟩]

/-- VFNMSUB132PD (R482) -/
def vfnmsub132pd : List Row :=
  [⟨.vex, .m0F38, .p66, .w1, .l128, 0x9E, .vec, .vec, .vec, .any, false, false, false, .none, 0, .none, .fixed 1, [.fma], .vex 2, false, false⟩,
   ⟨.vex, .m0F38, .p66, .w1, .l256, 0x9E, .vec, .vec, .vec, .any, false, false, false, .none, 0, .none, .fixed 1, [.fma], .vex 2, false, false⟩,
   ⟨.evex, .m0F38, .p66, .w1, .l128, 0x9E, .vec, .vec, .vec, .any, false, false, false, .zero, 8, .none, .fv 8, [.avx512vl, .avx512f], .e2, false, false⟩,
   ⟨.evex, .m0F38, .p66, .w1, .l256, 0x9E, .vec, .vec, .vec, .any, false, false, false, .zero, 8, .none, .fv 8, [.avx512vl, .avx512f], .e2, false, false⟩,
   ⟨.evex, .m0F38, .p66, .w1, .l512, 0x9E, .vec, .vec, .vec, .any, false, false, false, .zero, 8, .er, .fv 8, [.avx512f], .e2, false, false⟩]

/-- VFNMSUB213PD (R483) -/
def vfnmsub213pd : List Row :=
  [⟨.vex, .m0F38, .p66, .w1, .l128, 0xAE, .vec, .vec, .vec, .any, false, false, false, .none, 0, .none, .fixed 1, [.fma], .vex 2, false, false⟩,
   ⟨.vex, .m0F38, .p66, .w1, .l256, 0xAE, .vec, .vec, .vec, .any, false, false, false, .none, 0, .none, .fixed 1, [.fma], .vex 2, false, false⟩,
   ⟨.evex, .m0F38, .p66, .w1, .l128, 0xAE, .vec, .vec, .vec, .any, false, false, false, .zero, 8, .none, .fv 8, [.avx512vl, .avx512f], .e2, false, false⟩,
   ⟨.evex, .m0F38, .p66, .w1, .l256, 0xAE, .vec, .vec, .vec, .any, false, false, false, .zero, 8, .none, .fv 8, [.avx512vl, .avx512f], .e2, false, false⟩,
   ⟨.evex, .m0F38, .p66, .w1, .l512, 0xAE, .vec, .vec, .vec, .any, false, false, false, .zero, 8, .er, .fv 8, [.avx512f], .e2, false, false⟩]

/-- VFNMSUB231PD (R484) -/
def vfnmsub231pd : List Row :=
  [⟨.vex, .m0F38, .p66, .w1, .l128, 0xBE, .vec, .vec, .vec, .any, false, false, false, .none, 0, .none, .fixed 1, [.fma], .vex 2, false, false⟩,
   ⟨.vex, .m0F38, .p66, .w1, .l256, 0xBE, .vec, .vec, .vec, .any, false, false, false, .none, 0, .none, .fixed 1, [.fma], .vex 2, false, false⟩,
   ⟨.evex, .m0F38, .p66, .w1, .l128, 0xBE, .vec, .vec, .vec, .any, false, false, false, .zero, 8, .none, .fv 8, [.avx512vl, .avx512f], .e2, false, false⟩,
   ⟨.evex, .m0F38, .p66, .w1, .l256, 0xBE, .vec, .vec, .vec, .any, false, false, false, .zero, 8, .none, .fv 8, [.avx512vl, .avx512f], .e2, false, false⟩,
   ⟨.evex, .m0F38, .p66, .w1, .l512, 0xBE, .vec, .vec, .vec, .any, false, false, false, .zero, 8, .er, .fv 8, [.avx512f], .e2, false, false⟩]

/-- VFNMSUB132PS (R485) -/
def vfnmsub132ps : List Row :=
  [⟨.vex, .m0F38, .p66, .w0, .l128, 0x9E, .vec, .vec, .vec, .any, false, false, false, .none, 0, .none, .fixed 1, [.fma], .vex 2, false, false⟩,
   ⟨.vex, .m0F38, .p66, .w0, .l256, 0x9E, .vec, .vec, .vec, .any, false, false, false, .none, 0, .none, .fixed 1, [.fma], .vex 2, false, false⟩,
   ⟨.evex, .m0F38, .p66, .w0, .l128, 0x9E, .vec, .vec, .vec, .any, false, false, false, .zero, 4, .none, .fv 4, [.avx512vl, .avx512f], .e2, false, false⟩,
   ⟨.evex, .m0F38, .p66, .w0, .l256, 0x9E, .vec, .vec, .vec, .any, false, false, false, .zero, 4, .none, .fv 4, [.avx512vl, .avx512f], .e2, false, false⟩,
   ⟨.evex, .m0F38, .p66, .w0, .l512, 0x9E, .vec, .vec, .vec, .any, false, false, false, .zero, 4, .er, .fv 4, [.avx512f], .e2, false, false⟩]

/-- VFNMSUB213PS (R486) -/
def vfnmsub213ps : List Row :=
  [⟨.vex, .m0F38, .p66, .w0, .l128, 0xAE, .vec, .vec, .vec, .any, false, false, false, .none, 0, .none, .fixed 1, [.fma], .vex 2, false, false⟩,
   ⟨.vex, .m0F38, .p66, .w0, .l256, 0xAE, .vec, .vec, .vec, .any, false, false, false, .none, 0, .none, .fixed 1, [.fma], .vex 2, false, false⟩,
   ⟨.evex, .m0F38, .p66, .w0, .l128, 0xAE, .vec, .vec, .vec, .any, false, false, false, .zero, 4, .none, .fv 4, [.avx512vl, .avx512f], .e2, false, false⟩,
   ⟨.evex, .m0F38, .p66, .w0, .l256, 0xAE, .vec, .vec, .vec, .any, false, false, false, .zero, 4, .none, .fv 4, [.avx512vl, .avx512f], .e2, false, false⟩,
   ⟨.evex, .m0F38, .p66, .w0, .l512, 0xAE, .vec, .vec, .vec, .any, false, false, false, .zero, 4, .er, .fv 4, [.avx512f], .e2, false, false⟩]

/-- VFNMSUB231PS (R487) -/
def vfnmsub231ps : List Row :=
  [⟨.vex, .m0F38, .p66, .w0, .l128, 0xBE, .vec, .vec, .vec, .any, false, false, false, .none, 0, .none, .fixed 1, [.fma], .vex 2, false, false⟩,
   ⟨.vex, .m0F38, .p66, .w0, .l256, 0xBE, .vec, .vec, .vec, .any, false, false, false, .none, 0, .none, .fixed 1, [.fma], .vex 2, false, false⟩,
   ⟨.evex, .m0F38, .p66, .w0, .l128, 0xBE, .vec, .vec, .vec, .any, false, false, false, .zero, 4, .none, .fv 4, [.avx512vl, .avx512f], .e2, false, false⟩,
   ⟨.evex, .m0F38, .p66, .w0, .l256, 0xBE, .vec, .vec, .vec, .any, false, false, false, .zero, 4, .none, .fv 4, [.avx512vl, .avx512f], .e2, false, false⟩,
   ⟨.evex, .m0F38, .p66, .w0, .l512, 0xBE, .vec, .vec, .vec, .any, false, false, false, .zero, 4, .er, .fv 4, [.avx512f], .e2, false, false⟩]

/-- VFNMSUB132SD (R488) -/
def vfnmsub132sd : List Row :=
  [⟨.vex, .m0F38, .p66, .w1, .any, 0x9F, .vec, .vec, .vec, .any, false, false, false, .none, 0, .none, .fixed 1, [.fma], .vex 3, false, false⟩,
   ⟨.evex, .m0F38, .p66, .w1, .any, 0x9F, .vec, .vec, .vec, .any, false, false, false, .zero, 0, .er, .fixed 8, [.avx512f], .e3, false, false⟩]

/-- VFNMSUB213SD (R489) -/
def vfnmsub213sd : List Row :=
  [⟨.vex, .m0F38, .p66, .w1, .any, 0xAF, .vec, .vec, .vec, .any, false, false, false, .none, 0, .none, .fixed 1, [.fma], .vex 3, false, false⟩,
   ⟨.evex, .m0F38, .p66, .w1, .any, 0xAF, .vec, .vec, .vec, .any, false, false, false, .zero, 0, .er, .fixed 8, [.avx512f], .e3, false, false⟩]

/-- VFNMSUB231SD (R490) -/
def vfnmsub231sd : List Row :=
  [⟨.vex, .m0F38, .p66, .w1, .any, 0xBF, .vec, .vec, .vec, .any, false, false, false, .none, 0, .none, .fixed 1, [.fma], .vex 3, false, false⟩,
   ⟨.evex, .m0F38, .p66, .w1, .any, 0xBF, .vec, .vec, .vec, .any, false, false, false, .zero, 0, .er, .fixed 8, [.avx512f], .e3, false, false⟩]

/-- VFNMSUB132SS (R491) -/
def vfnmsub132ss : List Row :=
  [⟨.vex, .m0F38, .p66, .w0, .any, 0x9F, .vec, .vec, .vec, .any, false, false, false, .none, 0, .none, .fixed 1, [.fma], .vex 3, false, false⟩,
   ⟨.evex, .m0F38, .p66, .w0, .any, 0x9F, .vec, .vec, .vec, .any, false, false, false, .zero, 0, .er, .fixed 4, [.avx512f], .e3, false, false⟩]

/-- VFNMSUB213SS (R492) -/
def vfnmsub213ss : List Row :=
  [⟨.vex, .m0F38, .p66, .w0, .any, 0xAF, .vec, .vec, .vec, .any, false, false, false, .none, 0, .none, .fixed 1, [.fma], .vex 3, false, false⟩,
   ⟨.evex, .m0F38, .p66, .w0, .any, 0xAF, .vec, .vec, .vec, .any, false, false, false, .zero, 0, .er, .fixed 4, [.avx512f], .e3, false, false⟩]

/-- VFNMSUB231SS (R493) -/
def vfnmsub231ss : List Row :=
  [⟨.vex, .m0F38, .p66, .w0, .any, 0xBF, .vec, .vec, .vec, .any, false, false, false, .none, 0, .none, .fixed 1, [.fma], .vex 3, false, false⟩,
   ⟨.evex, .m0F38, .p66, .w0, .any, 0xBF, .vec, .vec, .vec, .any, false, false, false, .zero, 0, .er, .fixed 4, [.avx512f], .e3, false, false⟩]

end Sys2Proof.Machine.Rows
end

