-- ==== Sys2Proof/Machine/Exec46.lean ====
section
/-! DEFINITION. The meanings of the instructions of spec/46_fma_part2.md (FMA part 2), one definition each: the checks
of `State.run` on the rows of the instruction, then its operation on the row its fields select. -/

namespace Sys2Proof.Machine

/-- VFMSUB132PD (R458). -/
def execVfmsub132pd (o : Operands) (s : State) : Host.Outcome State Fault Refusal :=
  s.run Rows.vfmsub132pd o fun r => s.fmaVec r o f64 .f132 false fun _ => true

/-- VFMSUB213PD (R459). -/
def execVfmsub213pd (o : Operands) (s : State) : Host.Outcome State Fault Refusal :=
  s.run Rows.vfmsub213pd o fun r => s.fmaVec r o f64 .f213 false fun _ => true

/-- VFMSUB231PD (R460). -/
def execVfmsub231pd (o : Operands) (s : State) : Host.Outcome State Fault Refusal :=
  s.run Rows.vfmsub231pd o fun r => s.fmaVec r o f64 .f231 false fun _ => true

/-- VFMSUB132PS (R461). -/
def execVfmsub132ps (o : Operands) (s : State) : Host.Outcome State Fault Refusal :=
  s.run Rows.vfmsub132ps o fun r => s.fmaVec r o f32 .f132 false fun _ => true

/-- VFMSUB213PS (R462). -/
def execVfmsub213ps (o : Operands) (s : State) : Host.Outcome State Fault Refusal :=
  s.run Rows.vfmsub213ps o fun r => s.fmaVec r o f32 .f213 false fun _ => true

/-- VFMSUB231PS (R463). -/
def execVfmsub231ps (o : Operands) (s : State) : Host.Outcome State Fault Refusal :=
  s.run Rows.vfmsub231ps o fun r => s.fmaVec r o f32 .f231 false fun _ => true

/-- VFMSUB132SD (R464). -/
def execVfmsub132sd (o : Operands) (s : State) : Host.Outcome State Fault Refusal :=
  s.run Rows.vfmsub132sd o fun r => s.fmaScalar r o f64 .f132 false true

/-- VFMSUB213SD (R465). -/
def execVfmsub213sd (o : Operands) (s : State) : Host.Outcome State Fault Refusal :=
  s.run Rows.vfmsub213sd o fun r => s.fmaScalar r o f64 .f213 false true

/-- VFMSUB231SD (R466). -/
def execVfmsub231sd (o : Operands) (s : State) : Host.Outcome State Fault Refusal :=
  s.run Rows.vfmsub231sd o fun r => s.fmaScalar r o f64 .f231 false true

/-- VFMSUB132SS (R467). -/
def execVfmsub132ss (o : Operands) (s : State) : Host.Outcome State Fault Refusal :=
  s.run Rows.vfmsub132ss o fun r => s.fmaScalar r o f32 .f132 false true

/-- VFMSUB213SS (R468). -/
def execVfmsub213ss (o : Operands) (s : State) : Host.Outcome State Fault Refusal :=
  s.run Rows.vfmsub213ss o fun r => s.fmaScalar r o f32 .f213 false true

/-- VFMSUB231SS (R469). -/
def execVfmsub231ss (o : Operands) (s : State) : Host.Outcome State Fault Refusal :=
  s.run Rows.vfmsub231ss o fun r => s.fmaScalar r o f32 .f231 false true

/-- VFNMADD132PD (R470). -/
def execVfnmadd132pd (o : Operands) (s : State) : Host.Outcome State Fault Refusal :=
  s.run Rows.vfnmadd132pd o fun r => s.fmaVec r o f64 .f132 true fun _ => false

/-- VFNMADD213PD (R471). -/
def execVfnmadd213pd (o : Operands) (s : State) : Host.Outcome State Fault Refusal :=
  s.run Rows.vfnmadd213pd o fun r => s.fmaVec r o f64 .f213 true fun _ => false

/-- VFNMADD231PD (R472). -/
def execVfnmadd231pd (o : Operands) (s : State) : Host.Outcome State Fault Refusal :=
  s.run Rows.vfnmadd231pd o fun r => s.fmaVec r o f64 .f231 true fun _ => false

/-- VFNMADD132PS (R473). -/
def execVfnmadd132ps (o : Operands) (s : State) : Host.Outcome State Fault Refusal :=
  s.run Rows.vfnmadd132ps o fun r => s.fmaVec r o f32 .f132 true fun _ => false

/-- VFNMADD213PS (R474). -/
def execVfnmadd213ps (o : Operands) (s : State) : Host.Outcome State Fault Refusal :=
  s.run Rows.vfnmadd213ps o fun r => s.fmaVec r o f32 .f213 true fun _ => false

/-- VFNMADD231PS (R475). -/
def execVfnmadd231ps (o : Operands) (s : State) : Host.Outcome State Fault Refusal :=
  s.run Rows.vfnmadd231ps o fun r => s.fmaVec r o f32 .f231 true fun _ => false

/-- VFNMADD132SD (R476). -/
def execVfnmadd132sd (o : Operands) (s : State) : Host.Outcome State Fault Refusal :=
  s.run Rows.vfnmadd132sd o fun r => s.fmaScalar r o f64 .f132 true false

/-- VFNMADD213SD (R477). -/
def execVfnmadd213sd (o : Operands) (s : State) : Host.Outcome State Fault Refusal :=
  s.run Rows.vfnmadd213sd o fun r => s.fmaScalar r o f64 .f213 true false

/-- VFNMADD231SD (R478). -/
def execVfnmadd231sd (o : Operands) (s : State) : Host.Outcome State Fault Refusal :=
  s.run Rows.vfnmadd231sd o fun r => s.fmaScalar r o f64 .f231 true false

/-- VFNMADD132SS (R479). -/
def execVfnmadd132ss (o : Operands) (s : State) : Host.Outcome State Fault Refusal :=
  s.run Rows.vfnmadd132ss o fun r => s.fmaScalar r o f32 .f132 true false

/-- VFNMADD213SS (R480). -/
def execVfnmadd213ss (o : Operands) (s : State) : Host.Outcome State Fault Refusal :=
  s.run Rows.vfnmadd213ss o fun r => s.fmaScalar r o f32 .f213 true false

/-- VFNMADD231SS (R481). -/
def execVfnmadd231ss (o : Operands) (s : State) : Host.Outcome State Fault Refusal :=
  s.run Rows.vfnmadd231ss o fun r => s.fmaScalar r o f32 .f231 true false

/-- VFNMSUB132PD (R482). -/
def execVfnmsub132pd (o : Operands) (s : State) : Host.Outcome State Fault Refusal :=
  s.run Rows.vfnmsub132pd o fun r => s.fmaVec r o f64 .f132 true fun _ => true

/-- VFNMSUB213PD (R483). -/
def execVfnmsub213pd (o : Operands) (s : State) : Host.Outcome State Fault Refusal :=
  s.run Rows.vfnmsub213pd o fun r => s.fmaVec r o f64 .f213 true fun _ => true

/-- VFNMSUB231PD (R484). -/
def execVfnmsub231pd (o : Operands) (s : State) : Host.Outcome State Fault Refusal :=
  s.run Rows.vfnmsub231pd o fun r => s.fmaVec r o f64 .f231 true fun _ => true

/-- VFNMSUB132PS (R485). -/
def execVfnmsub132ps (o : Operands) (s : State) : Host.Outcome State Fault Refusal :=
  s.run Rows.vfnmsub132ps o fun r => s.fmaVec r o f32 .f132 true fun _ => true

/-- VFNMSUB213PS (R486). -/
def execVfnmsub213ps (o : Operands) (s : State) : Host.Outcome State Fault Refusal :=
  s.run Rows.vfnmsub213ps o fun r => s.fmaVec r o f32 .f213 true fun _ => true

/-- VFNMSUB231PS (R487). -/
def execVfnmsub231ps (o : Operands) (s : State) : Host.Outcome State Fault Refusal :=
  s.run Rows.vfnmsub231ps o fun r => s.fmaVec r o f32 .f231 true fun _ => true

/-- VFNMSUB132SD (R488). -/
def execVfnmsub132sd (o : Operands) (s : State) : Host.Outcome State Fault Refusal :=
  s.run Rows.vfnmsub132sd o fun r => s.fmaScalar r o f64 .f132 true true

/-- VFNMSUB213SD (R489). -/
def execVfnmsub213sd (o : Operands) (s : State) : Host.Outcome State Fault Refusal :=
  s.run Rows.vfnmsub213sd o fun r => s.fmaScalar r o f64 .f213 true true

/-- VFNMSUB231SD (R490). -/
def execVfnmsub231sd (o : Operands) (s : State) : Host.Outcome State Fault Refusal :=
  s.run Rows.vfnmsub231sd o fun r => s.fmaScalar r o f64 .f231 true true

/-- VFNMSUB132SS (R491). -/
def execVfnmsub132ss (o : Operands) (s : State) : Host.Outcome State Fault Refusal :=
  s.run Rows.vfnmsub132ss o fun r => s.fmaScalar r o f32 .f132 true true

/-- VFNMSUB213SS (R492). -/
def execVfnmsub213ss (o : Operands) (s : State) : Host.Outcome State Fault Refusal :=
  s.run Rows.vfnmsub213ss o fun r => s.fmaScalar r o f32 .f213 true true

/-- VFNMSUB231SS (R493). -/
def execVfnmsub231ss (o : Operands) (s : State) : Host.Outcome State Fault Refusal :=
  s.run Rows.vfnmsub231ss o fun r => s.fmaScalar r o f32 .f231 true true

end Sys2Proof.Machine
end

