-- ==== Sys2Proof/Machine/GatherScatter.lean ====
section
/-! DEFINITION. Gather and scatter (spec/47_vfpclass_to_insertps.md R505, spec/52_pmuldq_to_vpscatter.md R792,
spec/20_memory.md R92 to R95): element by element, with the partial progress a fault leaves. -/

namespace Sys2Proof.Machine

/-- GatherSubset (R94, U4): whether a gather or scatter that faults completes a given element above the faulting one. It
may depend on the whole state, so equal states repeat. -/
opaque Config.gatherSubset : State → Nat → Bool

/-- Whether a faulting gather whose data is narrower than its indices has already zeroed the unused upper part of its
destination and mask (R92). -/
opaque Config.gatherClearsUpper : State → Bool

/-- The linear-address operand of element `j` of a VSIB operand with indices of width `isize` (R72, R134, R505). -/
def State.vsibAddr (s : State) (m : MemOp) (isize j : Nat) : Word :=
  s.effective m (match m.index with
    | some x => (elem isize j (s.getZ x)).signExtend 64
    | none => 0)

/-- How far a gather or scatter has come: the state with the completed elements' effects, the first fault, whether any
element was completed. -/
structure Progress where
  state : State
  fault : Option Abort
  done : Bool
deriving DecidableEq, Repr

/-- One element: nothing when its mask bit is clear, or when an element below has faulted and the implementation does not
complete it; else `act`, which completes it or faults (R94). DESIGN CHOICE: any element above the faulting one may be completed
(U4), for a scatter also one that overlaps a lower element not yet stored, whose data then overwrites it after a restart
(notes/assumptions/14.md). -/
def gatherStep (s0 : State) (k : KWord) (act : State → Nat → Except Abort State) (p : Progress) (j : Nat) : Progress :=
  if !k.getLsbD j then p
  else if p.fault.isSome && !Config.gatherSubset s0 j then p
  else match act p.state j with
    | .ok t => { p with state := t, done := true }
    | .error a => { p with fault := p.fault <|> some a }

/-- All elements, lowest first. -/
def gatherLoop (s0 : State) (k : KWord) (act : State → Nat → Except Abort State) (n : Nat) : Progress :=
  (List.range n).foldl (gatherStep s0 k act) ⟨s0, none, false⟩

/-- Clear one bit of an opmask register. -/
def State.clearMaskBit (s : State) (aaa : Fin 8) (j : Nat) : State :=
  { s with k := s.k.set aaa.val (s.k.get aaa &&& ~~~(1#64 <<< j)) aaa.isLt }

/-- Write an opmask register named by EVEX.aaa. -/
def State.setMask (s : State) (aaa : Fin 8) (v : KWord) : State := { s with k := s.k.set aaa.val v aaa.isLt }

/-- GATHER (R505): data of `dsize` bits at indices of `isize` bits. -/
def State.gather (s : State) (r : Row) (o : Operands) (dsize isize : Nat) : Except Abort State :=
  match o.rm with
  | .reg _ => .error { exc := .ud }
  | .mem m =>
    let n := r.vl o / max dsize isize
    let act := fun (t : State) j =>
      loading (t.readMem m.seg (s.vsibAddr m isize j) (List.range (dsize / 8)) 1 0) fun v =>
        (t.setZ o.reg (setElem dsize j (elem dsize 0 v) (t.getZ o.reg))).clearMaskBit o.aaa j
    let p := gatherLoop s (s.k.get o.aaa) act n
    let cleared := fun (t : State) => t.setZ o.reg (lowBits (n * dsize) (t.getZ o.reg))
    match p.fault with
    | none => .ok ((cleared p.state).setMask o.aaa 0)
    | some a =>
      let t :=
        if dsize < isize && Config.gatherClearsUpper s then
          (cleared p.state).setMask o.aaa (p.state.k.get o.aaa &&& BitVec.ofNat 64 (2 ^ n - 1))
        else p.state
      .ok (t.raise { a with rf := p.done })

/-- SCATTER (R792): elements of the ModRM.reg vector stored from the lowest on, so that of equal addresses the highest
element stays. -/
def State.scatter (s : State) (r : Row) (o : Operands) (dsize isize : Nat) : Except Abort State :=
  match o.rm with
  | .reg _ => .error { exc := .ud }
  | .mem m =>
    let n := r.vl o / max dsize isize
    let act := fun (t : State) j =>
      (t.writeMem false m.seg (s.vsibAddr m isize j) (List.range (dsize / 8)) 1 0
        ((elem dsize j (s.getZ o.reg)).setWidth 512)).map fun u => u.clearMaskBit o.aaa j
    let p := gatherLoop s (s.k.get o.aaa) act n
    match p.fault with
    | none => .ok (p.state.setMask o.aaa 0)
    | some a => .ok (p.state.raise { a with rf := p.done })

end Sys2Proof.Machine
end

