-- ==== Sys2Proof/Machine/Rows47.lean ====
section
/-! DEFINITION. The rows of spec/opcode_table.json for the instructions of spec/47_vfpclass_to_insertps.md (VFPCLASS to INSERTPS), in the order of the table:
space, map, pp, W, L, opcode, roles of ModRM.reg, vvvv and r/m, mod, VSIB, imm8, r/m is the destination, masking, broadcast
bytes, rounding, tuple, CPUID flags, exception class, alignment, 64-bit mode only. -/

namespace Sys2Proof.Machine.Rows

/-- VFPCLASSPD (R501) -/
def vfpclasspd : List Row :=
  [⟨.evex, .m0F3A, .p66, .w1, .l128, 0x66, .kreg, .none, .vec, .any, false, true, false, .merge, 8, .none, .fv 8, [.avx512vl, .avx512dq], .e4, false, false⟩,
   ⟨.evex, .m0F3A, .p66, .w1, .l256, 0x66, .kreg, .none, .vec, .any, false, true, false, .merge, 8, .none, .fv 8, [.avx512vl, .avx512dq], .e4, false, false⟩,
   ⟨.evex, .m0F3A, .p66, .w1, .l512, 0x66, .kreg, .none, .vec, .any, false, true, false, .merge, 8, .none, .fv 8, [.avx512dq], .e4, false, false⟩]

/-- VFPCLASSPS (R502) -/
def vfpclassps : List Row :=
  [⟨.evex, .m0F3A, .p66, .w0, .l128, 0x66, .kreg, .none, .vec, .any, false, true, false, .merge, 4, .none, .fv 4, [.avx512vl, .avx512dq], .e4, false, false⟩,
   ⟨.evex, .m0F3A, .p66, .w0, .l256, 0x66, .kreg, .none, .vec, .any, false, true, false, .merge, 4, .none, .fv 4, [.avx512vl, .avx512dq], .e4, false, false⟩,
   ⟨.evex, .m0F3A, .p66, .w0, .l512, 0x66, .kreg, .none, .vec, .any, false, true, false, .merge, 4, .none, .fv 4, [.avx512dq], .e4, false, false⟩]

/-- VFPCLASSSD (R503) -/
def vfpclasssd : List Row :=
  [⟨.evex, .m0F3A, .p66, .w1, .any, 0x67, .kreg, .none, .vec, .any, false, true, false, .merge, 0, .none, .fixed 8, [.avx512dq], .e6, false, false⟩]

/-- VFPCLASSSS (R504) -/
def vfpclassss : List Row :=
  [⟨.evex, .m0F3A, .p66, .w0, .any, 0x67, .kreg, .none, .vec, .any, false, true, false, .merge, 0, .none, .fixed 4, [.avx512dq], .e6, false, false⟩]

/-- VPGATHERDD (R506) -/
def vpgatherdd : List Row :=
  [⟨.evex, .m0F38, .p66, .w0, .l128, 0x90, .vec, .none, .vec, .mem, true, false, false, .must, 0, .none, .fixed 4, [.avx512vl, .avx512f], .e12, false, false⟩,
   ⟨.evex, .m0F38, .p66, .w0, .l256, 0x90, .vec, .none, .vec, .mem, true, false, false, .must, 0, .none, .fixed 4, [.avx512vl, .avx512f], .e12, false, false⟩,
   ⟨.evex, .m0F38, .p66, .w0, .l512, 0x90, .vec, .none, .vec, .mem, true, false, false, .must, 0, .none, .fixed 4, [.avx512f], .e12, false, false⟩]

/-- VPGATHERDQ (R507) -/
def vpgatherdq : List Row :=
  [⟨.evex, .m0F38, .p66, .w1, .l128, 0x90, .vec, .none, .vec, .mem, true, false, false, .must, 0, .none, .fixed 8, [.avx512vl, .avx512f], .e12, false, false⟩,
   ⟨.evex, .m0F38, .p66, .w1, .l256, 0x90, .vec, .none, .vec, .mem, true, false, false, .must, 0, .none, .fixed 8, [.avx512vl, .avx512f], .e12, false, false⟩,
   ⟨.evex, .m0F38, .p66, .w1, .l512, 0x90, .vec, .none, .vec, .mem, true, false, false, .must, 0, .none, .fixed 8, [.avx512f], .e12, false, false⟩]

/-- VPGATHERQD (R508) -/
def vpgatherqd : List Row :=
  [⟨.evex, .m0F38, .p66, .w0, .l128, 0x91, .vec, .none, .vec, .mem, true, false, false, .must, 0, .none, .fixed 4, [.avx512vl, .avx512f], .e12, false, false⟩,
   ⟨.evex, .m0F38, .p66, .w0, .l256, 0x91, .vec, .none, .vec, .mem, true, false, false, .must, 0, .none, .fixed 4, [.avx512vl, .avx512f], .e12, false, false⟩,
   ⟨.evex, .m0F38, .p66, .w0, .l512, 0x91, .vec, .none, .vec, .mem, true, false, false, .must, 0, .none, .fixed 4, [.avx512f], .e12, false, false⟩]

/-- VPGATHERQQ (R509) -/
def vpgatherqq : List Row :=
  [⟨.evex, .m0F38, .p66, .w1, .l128, 0x91, .vec, .none, .vec, .mem, true, false, false, .must, 0, .none, .fixed 8, [.avx512vl, .avx512f], .e12, false, false⟩,
   ⟨.evex, .m0F38, .p66, .w1, .l256, 0x91, .vec, .none, .vec, .mem, true, false, false, .must, 0, .none, .fixed 8, [.avx512vl, .avx512f], .e12, false, false⟩,
   ⟨.evex, .m0F38, .p66, .w1, .l512, 0x91, .vec, .none, .vec, .mem, true, false, false, .must, 0, .none, .fixed 8, [.avx512f], .e12, false, false⟩]

/-- VGATHERDPS (R510) -/
def vgatherdps : List Row :=
  [⟨.evex, .m0F38, .p66, .w0, .l128, 0x92, .vec, .none, .vec, .mem, true, false, false, .must, 0, .none, .fixed 4, [.avx512vl, .avx512f], .e12, false, false⟩,
   ⟨.evex, .m0F38, .p66, .w0, .l256, 0x92, .vec, .none, .vec, .mem, true, false, false, .must, 0, .none, .fixed 4, [.avx512vl, .avx512f], .e12, false, false⟩,
   ⟨.evex, .m0F38, .p66, .w0, .l512, 0x92, .vec, .none, .vec, .mem, true, false, false, .must, 0, .none, .fixed 4, [.avx512f], .e12, false, false⟩]

/-- VGATHERDPD (R511) -/
def vgatherdpd : List Row :=
  [⟨.evex, .m0F38, .p66, .w1, .l128, 0x92, .vec, .none, .vec, .mem, true, false, false, .must, 0, .none, .fixed 8, [.avx512vl, .avx512f], .e12, false, false⟩,
   ⟨.evex, .m0F38, .p66, .w1, .l256, 0x92, .vec, .none, .vec, .mem, true, false, false, .must, 0, .none, .fixed 8, [.avx512vl, .avx512f], .e12, false, false⟩,
   ⟨.evex, .m0F38, .p66, .w1, .l512, 0x92, .vec, .none, .vec, .mem, true, false, false, .must, 0, .none, .fixed 8, [.avx512f], .e12, false, false⟩]

/-- VGATHERQPS (R512) -/
def vgatherqps : List Row :=
  [⟨.evex, .m0F38, .p66, .w0, .l128, 0x93, .vec, .none, .vec, .mem, true, false, false, .must, 0, .none, .fixed 4, [.avx512vl, .avx512f], .e12, false, false⟩,
   ⟨.evex, .m0F38, .p66, .w0, .l256, 0x93, .vec, .none, .vec, .mem, true, false, false, .must, 0, .none, .fixed 4, [.avx512vl, .avx512f], .e12, false, false⟩,
   ⟨.evex, .m0F38, .p66, .w0, .l512, 0x93, .vec, .none, .vec, .mem, true, false, false, .must, 0, .none, .fixed 4, [.avx512f], .e12, false, false⟩]

/-- VGATHERQPD (R513) -/
def vgatherqpd : List Row :=
  [⟨.evex, .m0F38, .p66, .w1, .l128, 0x93, .vec, .none, .vec, .mem, true, false, false, .must, 0, .none, .fixed 8, [.avx512vl, .avx512f], .e12, false, false⟩,
   ⟨.evex, .m0F38, .p66, .w1, .l256, 0x93, .vec, .none, .vec, .mem, true, false, false, .must, 0, .none, .fixed 8, [.avx512vl, .avx512f], .e12, false, false⟩,
   ⟨.evex, .m0F38, .p66, .w1, .l512, 0x93, .vec, .none, .vec, .mem, true, false, false, .must, 0, .none, .fixed 8, [.avx512f], .e12, false, false⟩]

/-- VGETEXPPD (R515) -/
def vgetexppd : List Row :=
  [⟨.evex, .m0F38, .p66, .w1, .l128, 0x42, .vec, .none, .vec, .any, false, false, false, .zero, 8, .none, .fv 8, [.avx512vl, .avx512f], .e2, false, false⟩,
   ⟨.evex, .m0F38, .p66, .w1, .l256, 0x42, .vec, .none, .vec, .any, false, false, false, .zero, 8, .none, .fv 8, [.avx512vl, .avx512f], .e2, false, false⟩,
   ⟨.evex, .m0F38, .p66, .w1, .l512, 0x42, .vec, .none, .vec, .any, false, false, false, .zero, 8, .sae, .fv 8, [.avx512f], .e2, false, false⟩]

/-- VGETEXPPS (R516) -/
def vgetexpps : List Row :=
  [⟨.evex, .m0F38, .p66, .w0, .l128, 0x42, .vec, .none, .vec, .any, false, false, false, .zero, 4, .none, .fv 4, [.avx512vl, .avx512f], .e2, false, false⟩,
   ⟨.evex, .m0F38, .p66, .w0, .l256, 0x42, .vec, .none, .vec, .any, false, false, false, .zero, 4, .none, .fv 4, [.avx512vl, .avx512f], .e2, false, false⟩,
   ⟨.evex, .m0F38, .p66, .w0, .l512, 0x42, .vec, .none, .vec, .any, false, false, false, .zero, 4, .sae, .fv 4, [.avx512f], .e2, false, false⟩]

/-- VGETEXPSD (R517) -/
def vgetexpsd : List Row :=
  [⟨.evex, .m0F38, .p66, .w1, .any, 0x43, .vec, .vec, .vec, .any, false, false, false, .zero, 0, .sae, .fixed 8, [.avx512f], .e3, false, false⟩]

/-- VGETEXPSS (R518) -/
def vgetexpss : List Row :=
  [⟨.evex, .m0F38, .p66, .w0, .any, 0x43, .vec, .vec, .vec, .any, false, false, false, .zero, 0, .sae, .fixed 4, [.avx512f], .e3, false, false⟩]

/-- VGETMANTPD (R520) -/
def vgetmantpd : List Row :=
  [⟨.evex, .m0F3A, .p66, .w1, .l128, 0x26, .vec, .none, .vec, .any, false, true, false, .zero, 8, .none, .fv 8, [.avx512vl, .avx512f], .e2, false, false⟩,
   ⟨.evex, .m0F3A, .p66, .w1, .l256, 0x26, .vec, .none, .vec, .any, false, true, false, .zero, 8, .none, .fv 8, [.avx512vl, .avx512f], .e2, false, false⟩,
   ⟨.evex, .m0F3A, .p66, .w1, .l512, 0x26, .vec, .none, .vec, .any, false, true, false, .zero, 8, .sae, .fv 8, [.avx512f], .e2, false, false⟩]

/-- VGETMANTPS (R521) -/
def vgetmantps : List Row :=
  [⟨.evex, .m0F3A, .p66, .w0, .l128, 0x26, .vec, .none, .vec, .any, false, true, false, .zero, 4, .none, .fv 4, [.avx512vl, .avx512f], .e2, false, false⟩,
   ⟨.evex, .m0F3A, .p66, .w0, .l256, 0x26, .vec, .none, .vec, .any, false, true, false, .zero, 4, .none, .fv 4, [.avx512vl, .avx512f], .e2, false, false⟩,
   ⟨.evex, .m0F3A, .p66, .w0, .l512, 0x26, .vec, .none, .vec, .any, false, true, false, .zero, 4, .sae, .fv 4, [.avx512f], .e2, false, false⟩]

/-- VGETMANTSD (R522) -/
def vgetmantsd : List Row :=
  [⟨.evex, .m0F3A, .p66, .w1, .any, 0x27, .vec, .vec, .vec, .any, false, true, false, .zero, 0, .sae, .fixed 8, [.avx512f], .e3, false, false⟩]

/-- VGETMANTSS (R523) -/
def vgetmantss : List Row :=
  [⟨.evex, .m0F3A, .p66, .w0, .any, 0x27, .vec, .vec, .vec, .any, false, true, false, .zero, 0, .sae, .fixed 4, [.avx512f], .e3, false, false⟩]

/-- VINSERTF128 (R524) -/
def vinsertf128 : List Row :=
  [⟨.vex, .m0F3A, .p66, .w0, .l256, 0x18, .vec, .vec, .vec, .any, false, true, false, .none, 0, .none, .fixed 1, [.avx], .vex 6, false, false⟩]

/-- VINSERTF32X4 (R524) -/
def vinsertf32x4 : List Row :=
  [⟨.evex, .m0F3A, .p66, .w0, .l256, 0x18, .vec, .vec, .vec, .any, false, true, false, .zero, 0, .none, .fixed 16, [.avx512vl, .avx512f], .e6nf, false, false⟩,
   ⟨.evex, .m0F3A, .p66, .w0, .l512, 0x18, .vec, .vec, .vec, .any, false, true, false, .zero, 0, .none, .fixed 16, [.avx512f], .e6nf, false, false⟩]

/-- VINSERTF64X2 (R524) -/
def vinsertf64x2 : List Row :=
  [⟨.evex, .m0F3A, .p66, .w1, .l256, 0x18, .vec, .vec, .vec, .any, false, true, false, .zero, 0, .none, .fixed 16, [.avx512vl, .avx512dq], .e6nf, false, false⟩,
   ⟨.evex, .m0F3A, .p66, .w1, .l512, 0x18, .vec, .vec, .vec, .any, false, true, false, .zero, 0, .none, .fixed 16, [.avx512dq], .e6nf, false, false⟩]

/-- VINSERTF32X8 (R524) -/
def vinsertf32x8 : List Row :=
  [⟨.evex, .m0F3A, .p66, .w0, .l512, 0x1A, .vec, .vec, .vec, .any, false, true, false, .zero, 0, .none, .fixed 32, [.avx512dq], .e6nf, false, false⟩]

/-- VINSERTF64X4 (R524) -/
def vinsertf64x4 : List Row :=
  [⟨.evex, .m0F3A, .p66, .w1, .l512, 0x1A, .vec, .vec, .vec, .any, false, true, false, .zero, 0, .none, .fixed 32, [.avx512f], .e6nf, false, false⟩]

/-- VINSERTI128 (R525) -/
def vinserti128 : List Row :=
  [⟨.vex, .m0F3A, .p66, .w0, .l256, 0x38, .vec, .vec, .vec, .any, false, true, false, .none, 0, .none, .fixed 1, [.avx2], .vex 6, false, false⟩]

/-- VINSERTI32X4 (R525) -/
def vinserti32x4 : List Row :=
  [⟨.evex, .m0F3A, .p66, .w0, .l256, 0x38, .vec, .vec, .vec, .any, false, true, false, .zero, 0, .none, .fixed 16, [.avx512vl, .avx512f], .e6nf, false, false⟩,
   ⟨.evex, .m0F3A, .p66, .w0, .l512, 0x38, .vec, .vec, .vec, .any, false, true, false, .zero, 0, .none, .fixed 16, [.avx512f], .e6nf, false, false⟩]

/-- VINSERTI64X2 (R525) -/
def vinserti64x2 : List Row :=
  [⟨.evex, .m0F3A, .p66, .w1, .l256, 0x38, .vec, .vec, .vec, .any, false, true, false, .zero, 0, .none, .fixed 16, [.avx512vl, .avx512dq], .e6nf, false, false⟩,
   ⟨.evex, .m0F3A, .p66, .w1, .l512, 0x38, .vec, .vec, .vec, .any, false, true, false, .zero, 0, .none, .fixed 16, [.avx512dq], .e6nf, false, false⟩]

/-- VINSERTI32X8 (R525) -/
def vinserti32x8 : List Row :=
  [⟨.evex, .m0F3A, .p66, .w0, .l512, 0x3A, .vec, .vec, .vec, .any, false, true, false, .zero, 0, .none, .fixed 32, [.avx512dq], .e6nf, false, false⟩]

/-- VINSERTI64X4 (R525) -/
def vinserti64x4 : List Row :=
  [⟨.evex, .m0F3A, .p66, .w1, .l512, 0x3A, .vec, .vec, .vec, .any, false, true, false, .zero, 0, .none, .fixed 32, [.avx512f], .e6nf, false, false⟩]

/-- INSERTPS (R526) -/
def insertps : List Row :=
  [⟨.legacy, .m0F3A, .p66, .wig, .any, 0x21, .vec, .none, .vec, .any, false, true, false, .none, 0, .none, .fixed 1, [.sse41], .sse 5, false, false⟩]

/-- VINSERTPS (R526) -/
def vinsertps : List Row :=
  [⟨.vex, .m0F3A, .p66, .wig, .l128, 0x21, .vec, .vec, .vec, .any, false, true, false, .none, 0, .none, .fixed 1, [.avx], .vex 5, false, false⟩,
   ⟨.evex, .m0F3A, .p66, .w0, .l128, 0x21, .vec, .vec, .vec, .any, false, true, false, .none, 0, .none, .fixed 4, [.avx512f], .e9nf, false, false⟩]

end Sys2Proof.Machine.Rows
end

