-- ==== Sys2Proof/Machine/Exec47.lean ====
section
/-! DEFINITION. The meanings of the instructions of spec/47_vfpclass_to_insertps.md (VFPCLASS to INSERTPS), one definition each: the checks
of `State.run` on the rows of the instruction, then its operation on the row its fields select. -/

namespace Sys2Proof.Machine

/-- VFPCLASSPD (R501). -/
def execVfpclasspd (o : Operands) (s : State) : Host.Outcome State Fault Refusal :=
  s.run Rows.vfpclasspd o fun r => s.fpClass r o f64 (r.count o 64)

/-- VFPCLASSPS (R502). -/
def execVfpclassps (o : Operands) (s : State) : Host.Outcome State Fault Refusal :=
  s.run Rows.vfpclassps o fun r => s.fpClass r o f32 (r.count o 32)

/-- VFPCLASSSD (R503). -/
def execVfpclasssd (o : Operands) (s : State) : Host.Outcome State Fault Refusal :=
  s.run Rows.vfpclasssd o fun r => s.fpClass r o f64 1

/-- VFPCLASSSS (R504). -/
def execVfpclassss (o : Operands) (s : State) : Host.Outcome State Fault Refusal :=
  s.run Rows.vfpclassss o fun r => s.fpClass r o f32 1

/-- VPGATHERDD (R506). -/
def execVpgatherdd (o : Operands) (s : State) : Host.Outcome State Fault Refusal :=
  s.run Rows.vpgatherdd o fun r => s.gather r o 32 32

/-- VPGATHERDQ (R507). -/
def execVpgatherdq (o : Operands) (s : State) : Host.Outcome State Fault Refusal :=
  s.run Rows.vpgatherdq o fun r => s.gather r o 64 32

/-- VPGATHERQD (R508). -/
def execVpgatherqd (o : Operands) (s : State) : Host.Outcome State Fault Refusal :=
  s.run Rows.vpgatherqd o fun r => s.gather r o 32 64

/-- VPGATHERQQ (R509). -/
def execVpgatherqq (o : Operands) (s : State) : Host.Outcome State Fault Refusal :=
  s.run Rows.vpgatherqq o fun r => s.gather r o 64 64

/-- VGATHERDPS (R510). -/
def execVgatherdps (o : Operands) (s : State) : Host.Outcome State Fault Refusal :=
  s.run Rows.vgatherdps o fun r => s.gather r o 32 32

/-- VGATHERDPD (R511). -/
def execVgatherdpd (o : Operands) (s : State) : Host.Outcome State Fault Refusal :=
  s.run Rows.vgatherdpd o fun r => s.gather r o 64 32

/-- VGATHERQPS (R512). -/
def execVgatherqps (o : Operands) (s : State) : Host.Outcome State Fault Refusal :=
  s.run Rows.vgatherqps o fun r => s.gather r o 32 64

/-- VGATHERQPD (R513). -/
def execVgatherqpd (o : Operands) (s : State) : Host.Outcome State Fault Refusal :=
  s.run Rows.vgatherqpd o fun r => s.gather r o 64 64

/-- VGETEXPPD (R515). -/
def execVgetexppd (o : Operands) (s : State) : Host.Outcome State Fault Refusal :=
  s.run Rows.vgetexppd o fun r => s.fp1 r o f64.getExp

/-- VGETEXPPS (R516). -/
def execVgetexpps (o : Operands) (s : State) : Host.Outcome State Fault Refusal :=
  s.run Rows.vgetexpps o fun r => s.fp1 r o f32.getExp

/-- VGETEXPSD (R517). -/
def execVgetexpsd (o : Operands) (s : State) : Host.Outcome State Fault Refusal :=
  s.run Rows.vgetexpsd o fun r => s.fp1s r o f64.getExp

/-- VGETEXPSS (R518). -/
def execVgetexpss (o : Operands) (s : State) : Host.Outcome State Fault Refusal :=
  s.run Rows.vgetexpss o fun r => s.fp1s r o f32.getExp

/-- VGETMANTPD (R520). -/
def execVgetmantpd (o : Operands) (s : State) : Host.Outcome State Fault Refusal :=
  s.run Rows.vgetmantpd o fun r => s.fp1 r o fun env => f64.getMant env o.imm

/-- VGETMANTPS (R521). -/
def execVgetmantps (o : Operands) (s : State) : Host.Outcome State Fault Refusal :=
  s.run Rows.vgetmantps o fun r => s.fp1 r o fun env => f32.getMant env o.imm

/-- VGETMANTSD (R522). -/
def execVgetmantsd (o : Operands) (s : State) : Host.Outcome State Fault Refusal :=
  s.run Rows.vgetmantsd o fun r => s.fp1s r o fun env => f64.getMant env o.imm

/-- VGETMANTSS (R523). -/
def execVgetmantss (o : Operands) (s : State) : Host.Outcome State Fault Refusal :=
  s.run Rows.vgetmantss o fun r => s.fp1s r o fun env => f32.getMant env o.imm

/-- VINSERTF128 (R524). -/
def execVinsertf128 (o : Operands) (s : State) : Host.Outcome State Fault Refusal :=
  s.run Rows.vinsertf128 o fun r => s.insertBlock r o 64 128

/-- VINSERTF32X4 (R524). -/
def execVinsertf32x4 (o : Operands) (s : State) : Host.Outcome State Fault Refusal :=
  s.run Rows.vinsertf32x4 o fun r => s.insertBlock r o 32 128

/-- VINSERTF64X2 (R524). -/
def execVinsertf64x2 (o : Operands) (s : State) : Host.Outcome State Fault Refusal :=
  s.run Rows.vinsertf64x2 o fun r => s.insertBlock r o 64 128

/-- VINSERTF32X8 (R524). -/
def execVinsertf32x8 (o : Operands) (s : State) : Host.Outcome State Fault Refusal :=
  s.run Rows.vinsertf32x8 o fun r => s.insertBlock r o 32 256

/-- VINSERTF64X4 (R524). -/
def execVinsertf64x4 (o : Operands) (s : State) : Host.Outcome State Fault Refusal :=
  s.run Rows.vinsertf64x4 o fun r => s.insertBlock r o 64 256

/-- VINSERTI128 (R525). -/
def execVinserti128 (o : Operands) (s : State) : Host.Outcome State Fault Refusal :=
  s.run Rows.vinserti128 o fun r => s.insertBlock r o 64 128

/-- VINSERTI32X4 (R525). -/
def execVinserti32x4 (o : Operands) (s : State) : Host.Outcome State Fault Refusal :=
  s.run Rows.vinserti32x4 o fun r => s.insertBlock r o 32 128

/-- VINSERTI64X2 (R525). -/
def execVinserti64x2 (o : Operands) (s : State) : Host.Outcome State Fault Refusal :=
  s.run Rows.vinserti64x2 o fun r => s.insertBlock r o 64 128

/-- VINSERTI32X8 (R525). -/
def execVinserti32x8 (o : Operands) (s : State) : Host.Outcome State Fault Refusal :=
  s.run Rows.vinserti32x8 o fun r => s.insertBlock r o 32 256

/-- VINSERTI64X4 (R525). -/
def execVinserti64x4 (o : Operands) (s : State) : Host.Outcome State Fault Refusal :=
  s.run Rows.vinserti64x4 o fun r => s.insertBlock r o 64 256

/-- INSERTPS (R526). -/
def execInsertps (o : Operands) (s : State) : Host.Outcome State Fault Refusal :=
  s.run Rows.insertps o fun r => s.insertPs r o

/-- VINSERTPS (R526). -/
def execVinsertps (o : Operands) (s : State) : Host.Outcome State Fault Refusal :=
  s.run Rows.vinsertps o fun r => s.insertPs r o

end Sys2Proof.Machine
end

