-- ==== Sys2Proof/Machine/Rows48.lean ====
section
/-! DEFINITION. The rows of spec/opcode_table.json for the instructions of spec/48_maxpd_to_movups.md (MAX to MOVUPS), in the order of the table:
space, map, pp, W, L, opcode, roles of ModRM.reg, vvvv and r/m, mod, VSIB, imm8, r/m is the destination, masking, broadcast
bytes, rounding, tuple, CPUID flags, exception class, alignment, 64-bit mode only. -/

namespace Sys2Proof.Machine.Rows

/-- MAXPD (R541) -/
def maxpd : List Row :=
  [⟨.legacy, .m0F, .p66, .wig, .any, 0x5F, .vec, .none, .vec, .any, false, false, false, .none, 0, .none, .fixed 1, [.sse2], .sse 2, true, false⟩]

/-- VMAXPD (R541) -/
def vmaxpd : List Row :=
  [⟨.vex, .m0F, .p66, .wig, .l128, 0x5F, .vec, .vec, .vec, .any, false, false, false, .none, 0, .none, .fixed 1, [.avx], .vex 2, false, false⟩,
   ⟨.vex, .m0F, .p66, .wig, .l256, 0x5F, .vec, .vec, .vec, .any, false, false, false, .none, 0, .none, .fixed 1, [.avx], .vex 2, false, false⟩,
   ⟨.evex, .m0F, .p66, .w1, .l128, 0x5F, .vec, .vec, .vec, .any, false, false, false, .zero, 8, .none, .fv 8, [.avx512vl, .avx512f], .e2, false, false⟩,
   ⟨.evex, .m0F, .p66, .w1, .l256, 0x5F, .vec, .vec, .vec, .any, false, false, false, .zero, 8, .none, .fv 8, [.avx512vl, .avx512f], .e2, false, false⟩,
   ⟨.evex, .m0F, .p66, .w1, .l512, 0x5F, .vec, .vec, .vec, .any, false, false, false, .zero, 8, .sae, .fv 8, [.avx512f], .e2, false, false⟩]

/-- MAXPS (R542) -/
def maxps : List Row :=
  [⟨.legacy, .m0F, .np, .wig, .any, 0x5F, .vec, .none, .vec, .any, false, false, false, .none, 0, .none, .fixed 1, [.sse], .sse 2, true, false⟩]

/-- VMAXPS (R542) -/
def vmaxps : List Row :=
  [⟨.vex, .m0F, .np, .wig, .l128, 0x5F, .vec, .vec, .vec, .any, false, false, false, .none, 0, .none, .fixed 1, [.avx], .vex 2, false, false⟩,
   ⟨.vex, .m0F, .np, .wig, .l256, 0x5F, .vec, .vec, .vec, .any, false, false, false, .none, 0, .none, .fixed 1, [.avx], .vex 2, false, false⟩,
   ⟨.evex, .m0F, .np, .w0, .l128, 0x5F, .vec, .vec, .vec, .any, false, false, false, .zero, 4, .none, .fv 4, [.avx512vl, .avx512f], .e2, false, false⟩,
   ⟨.evex, .m0F, .np, .w0, .l256, 0x5F, .vec, .vec, .vec, .any, false, false, false, .zero, 4, .none, .fv 4, [.avx512vl, .avx512f], .e2, false, false⟩,
   ⟨.evex, .m0F, .np, .w0, .l512, 0x5F, .vec, .vec, .vec, .any, false, false, false, .zero, 4, .sae, .fv 4, [.avx512f], .e2, false, false⟩]

/-- MAXSD (R543) -/
def maxsd : List Row :=
  [⟨.legacy, .m0F, .pF2, .wig, .any, 0x5F, .vec, .none, .vec, .any, false, false, false, .none, 0, .none, .fixed 1, [.sse2], .sse 3, false, false⟩]

/-- VMAXSD (R543) -/
def vmaxsd : List Row :=
  [⟨.vex, .m0F, .pF2, .wig, .any, 0x5F, .vec, .vec, .vec, .any, false, false, false, .none, 0, .none, .fixed 1, [.avx], .vex 3, false, false⟩,
   ⟨.evex, .m0F, .pF2, .w1, .any, 0x5F, .vec, .vec, .vec, .any, false, false, false, .zero, 0, .sae, .fixed 8, [.avx512f], .e3, false, false⟩]

/-- MAXSS (R544) -/
def maxss : List Row :=
  [⟨.legacy, .m0F, .pF3, .wig, .any, 0x5F, .vec, .none, .vec, .any, false, false, false, .none, 0, .none, .fixed 1, [.sse], .sse 3, false, false⟩]

/-- VMAXSS (R544) -/
def vmaxss : List Row :=
  [⟨.vex, .m0F, .pF3, .wig, .any, 0x5F, .vec, .vec, .vec, .any, false, false, false, .none, 0, .none, .fixed 1, [.avx], .vex 3, false, false⟩,
   ⟨.evex, .m0F, .pF3, .w0, .any, 0x5F, .vec, .vec, .vec, .any, false, false, false, .zero, 0, .sae, .fixed 4, [.avx512f], .e3, false, false⟩]

/-- MINPD (R545) -/
def minpd : List Row :=
  [⟨.legacy, .m0F, .p66, .wig, .any, 0x5D, .vec, .none, .vec, .any, false, false, false, .none, 0, .none, .fixed 1, [.sse2], .sse 2, true, false⟩]

/-- VMINPD (R545) -/
def vminpd : List Row :=
  [⟨.vex, .m0F, .p66, .wig, .l128, 0x5D, .vec, .vec, .vec, .any, false, false, false, .none, 0, .none, .fixed 1, [.avx], .vex 2, false, false⟩,
   ⟨.vex, .m0F, .p66, .wig, .l256, 0x5D, .vec, .vec, .vec, .any, false, false, false, .none, 0, .none, .fixed 1, [.avx], .vex 2, false, false⟩,
   ⟨.evex, .m0F, .p66, .w1, .l128, 0x5D, .vec, .vec, .vec, .any, false, false, false, .zero, 8, .none, .fv 8, [.avx512vl, .avx512f], .e2, false, false⟩,
   ⟨.evex, .m0F, .p66, .w1, .l256, 0x5D, .vec, .vec, .vec, .any, false, false, false, .zero, 8, .none, .fv 8, [.avx512vl, .avx512f], .e2, false, false⟩,
   ⟨.evex, .m0F, .p66, .w1, .l512, 0x5D, .vec, .vec, .vec, .any, false, false, false, .zero, 8, .sae, .fv 8, [.avx512f], .e2, false, false⟩]

/-- MINPS (R546) -/
def minps : List Row :=
  [⟨.legacy, .m0F, .np, .wig, .any, 0x5D, .vec, .none, .vec, .any, false, false, false, .none, 0, .none, .fixed 1, [.sse], .sse 2, true, false⟩]

/-- VMINPS (R546) -/
def vminps : List Row :=
  [⟨.vex, .m0F, .np, .wig, .l128, 0x5D, .vec, .vec, .vec, .any, false, false, false, .none, 0, .none, .fixed 1, [.avx], .vex 2, false, false⟩,
   ⟨.vex, .m0F, .np, .wig, .l256, 0x5D, .vec, .vec, .vec, .any, false, false, false, .none, 0, .none, .fixed 1, [.avx], .vex 2, false, false⟩,
   ⟨.evex, .m0F, .np, .w0, .l128, 0x5D, .vec, .vec, .vec, .any, false, false, false, .zero, 4, .none, .fv 4, [.avx512vl, .avx512f], .e2, false, false⟩,
   ⟨.evex, .m0F, .np, .w0, .l256, 0x5D, .vec, .vec, .vec, .any, false, false, false, .zero, 4, .none, .fv 4, [.avx512vl, .avx512f], .e2, false, false⟩,
   ⟨.evex, .m0F, .np, .w0, .l512, 0x5D, .vec, .vec, .vec, .any, false, false, false, .zero, 4, .sae, .fv 4, [.avx512f], .e2, false, false⟩]

/-- MINSD (R547) -/
def minsd : List Row :=
  [⟨.legacy, .m0F, .pF2, .wig, .any, 0x5D, .vec, .none, .vec, .any, false, false, false, .none, 0, .none, .fixed 1, [.sse2], .sse 3, false, false⟩]

/-- VMINSD (R547) -/
def vminsd : List Row :=
  [⟨.vex, .m0F, .pF2, .wig, .any, 0x5D, .vec, .vec, .vec, .any, false, false, false, .none, 0, .none, .fixed 1, [.avx], .vex 3, false, false⟩,
   ⟨.evex, .m0F, .pF2, .w1, .any, 0x5D, .vec, .vec, .vec, .any, false, false, false, .zero, 0, .sae, .fixed 8, [.avx512f], .e3, false, false⟩]

/-- MINSS (R548) -/
def minss : List Row :=
  [⟨.legacy, .m0F, .pF3, .wig, .any, 0x5D, .vec, .none, .vec, .any, false, false, false, .none, 0, .none, .fixed 1, [.sse], .sse 3, false, false⟩]

/-- VMINSS (R548) -/
def vminss : List Row :=
  [⟨.vex, .m0F, .pF3, .wig, .any, 0x5D, .vec, .vec, .vec, .any, false, false, false, .none, 0, .none, .fixed 1, [.avx], .vex 3, false, false⟩,
   ⟨.evex, .m0F, .pF3, .w0, .any, 0x5D, .vec, .vec, .vec, .any, false, false, false, .zero, 0, .sae, .fixed 4, [.avx512f], .e3, false, false⟩]

/-- MOVAPD (R550) -/
def movapd : List Row :=
  [⟨.legacy, .m0F, .p66, .wig, .any, 0x28, .vec, .none, .vec, .any, false, false, false, .none, 0, .none, .fixed 1, [.sse2], .sse 1, true, false⟩,
   ⟨.legacy, .m0F, .p66, .wig, .any, 0x29, .vec, .none, .vec, .any, false, false, true, .none, 0, .none, .fixed 1, [.sse2], .sse 1, true, false⟩]

/-- VMOVAPD (R550) -/
def vmovapd : List Row :=
  [⟨.vex, .m0F, .p66, .wig, .l128, 0x28, .vec, .none, .vec, .any, false, false, false, .none, 0, .none, .fixed 1, [.avx], .vex 1, true, false⟩,
   ⟨.vex, .m0F, .p66, .wig, .l128, 0x29, .vec, .none, .vec, .any, false, false, true, .none, 0, .none, .fixed 1, [.avx], .vex 1, true, false⟩,
   ⟨.vex, .m0F, .p66, .wig, .l256, 0x28, .vec, .none, .vec, .any, false, false, false, .none, 0, .none, .fixed 1, [.avx], .vex 1, true, false⟩,
   ⟨.vex, .m0F, .p66, .wig, .l256, 0x29, .vec, .none, .vec, .any, false, false, true, .none, 0, .none, .fixed 1, [.avx], .vex 1, true, false⟩,
   ⟨.evex, .m0F, .p66, .w1, .l128, 0x28, .vec, .none, .vec, .any, false, false, false, .zero, 0, .none, .fvm, [.avx512vl, .avx512f], .e1, true, false⟩,
   ⟨.evex, .m0F, .p66, .w1, .l256, 0x28, .vec, .none, .vec, .any, false, false, false, .zero, 0, .none, .fvm, [.avx512vl, .avx512f], .e1, true, false⟩,
   ⟨.evex, .m0F, .p66, .w1, .l512, 0x28, .vec, .none, .vec, .any, false, false, false, .zero, 0, .none, .fvm, [.avx512f], .e1, true, false⟩,
   ⟨.evex, .m0F, .p66, .w1, .l128, 0x29, .vec, .none, .vec, .any, false, false, true, .zero, 0, .none, .fvm, [.avx512vl, .avx512f], .e1, true, false⟩,
   ⟨.evex, .m0F, .p66, .w1, .l256, 0x29, .vec, .none, .vec, .any, false, false, true, .zero, 0, .none, .fvm, [.avx512vl, .avx512f], .e1, true, false⟩,
   ⟨.evex, .m0F, .p66, .w1, .l512, 0x29, .vec, .none, .vec, .any, false, false, true, .zero, 0, .none, .fvm, [.avx512f], .e1, true, false⟩]

/-- MOVAPS (R551) -/
def movaps : List Row :=
  [⟨.legacy, .m0F, .np, .wig, .any, 0x28, .vec, .none, .vec, .any, false, false, false, .none, 0, .none, .fixed 1, [.sse], .sse 1, true, false⟩,
   ⟨.legacy, .m0F, .np, .wig, .any, 0x29, .vec, .none, .vec, .any, false, false, true, .none, 0, .none, .fixed 1, [.sse], .sse 1, true, false⟩]

/-- VMOVAPS (R551) -/
def vmovaps : List Row :=
  [⟨.vex, .m0F, .np, .wig, .l128, 0x28, .vec, .none, .vec, .any, false, false, false, .none, 0, .none, .fixed 1, [.avx], .vex 1, true, false⟩,
   ⟨.vex, .m0F, .np, .wig, .l128, 0x29, .vec, .none, .vec, .any, false, false, true, .none, 0, .none, .fixed 1, [.avx], .vex 1, true, false⟩,
   ⟨.vex, .m0F, .np, .wig, .l256, 0x28, .vec, .none, .vec, .any, false, false, false, .none, 0, .none, .fixed 1, [.avx], .vex 1, true, false⟩,
   ⟨.vex, .m0F, .np, .wig, .l256, 0x29, .vec, .none, .vec, .any, false, false, true, .none, 0, .none, .fixed 1, [.avx], .vex 1, true, false⟩,
   ⟨.evex, .m0F, .np, .w0, .l128, 0x28, .vec, .none, .vec, .any, false, false, false, .zero, 0, .none, .fvm, [.avx512vl, .avx512f], .e1, true, false⟩,
   ⟨.evex, .m0F, .np, .w0, .l256, 0x28, .vec, .none, .vec, .any, false, false, false, .zero, 0, .none, .fvm, [.avx512vl, .avx512f], .e1, true, false⟩,
   ⟨.evex, .m0F, .np, .w0, .l512, 0x28, .vec, .none, .vec, .any, false, false, false, .zero, 0, .none, .fvm, [.avx512f], .e1, true, false⟩,
   ⟨.evex, .m0F, .np, .w0, .l128, 0x29, .vec, .none, .vec, .any, false, false, true, .zero, 0, .none, .fvm, [.avx512vl, .avx512f], .e1, true, false⟩,
   ⟨.evex, .m0F, .np, .w0, .l256, 0x29, .vec, .none, .vec, .any, false, false, true, .zero, 0, .none, .fvm, [.avx512vl, .avx512f], .e1, true, false⟩,
   ⟨.evex, .m0F, .np, .w0, .l512, 0x29, .vec, .none, .vec, .any, false, false, true, .zero, 0, .none, .fvm, [.avx512f], .e1, true, false⟩]

/-- MOVD (R552) -/
def movd : List Row :=
  [⟨.legacy, .m0F, .p66, .w0, .any, 0x6E, .vec, .none, .gpr, .any, false, false, false, .none, 0, .none, .fixed 1, [.sse2], .sse 5, false, false⟩,
   ⟨.legacy, .m0F, .p66, .w0, .any, 0x7E, .vec, .none, .gpr, .any, false, false, true, .none, 0, .none, .fixed 1, [.sse2], .sse 5, false, false⟩]

/-- VMOVD (R552) -/
def vmovd : List Row :=
  [⟨.vex, .m0F, .p66, .w0, .l128, 0x6E, .vec, .none, .gpr, .any, false, false, false, .none, 0, .none, .fixed 1, [.avx], .vex 5, false, false⟩,
   ⟨.evex, .m0F, .p66, .w0, .l128, 0x6E, .vec, .none, .gpr, .any, false, false, false, .none, 0, .none, .fixed 4, [.avx512f], .e9nf, false, false⟩,
   ⟨.vex, .m0F, .p66, .w0, .l128, 0x7E, .vec, .none, .gpr, .any, false, false, true, .none, 0, .none, .fixed 1, [.avx], .vex 5, false, false⟩,
   ⟨.evex, .m0F, .p66, .w0, .l128, 0x7E, .vec, .none, .gpr, .any, false, false, true, .none, 0, .none, .fixed 4, [.avx512f], .e9nf, false, false⟩]

/-- MOVQ (R553, R554) -/
def movq : List Row :=
  [⟨.legacy, .m0F, .p66, .w1, .any, 0x6E, .vec, .none, .gpr, .any, false, false, false, .none, 0, .none, .fixed 1, [.sse2], .sse 5, false, true⟩,
   ⟨.legacy, .m0F, .p66, .w1, .any, 0x7E, .vec, .none, .gpr, .any, false, false, true, .none, 0, .none, .fixed 1, [.sse2], .sse 5, false, true⟩,
   ⟨.legacy, .m0F, .pF3, .wig, .any, 0x7E, .vec, .none, .vec, .any, false, false, false, .none, 0, .none, .fixed 1, [.sse2], .sse 5, false, false⟩,
   ⟨.legacy, .m0F, .p66, .wig, .any, 0xD6, .vec, .none, .vec, .any, false, false, true, .none, 0, .none, .fixed 1, [.sse2], .sse 5, false, false⟩]

/-- VMOVQ (R553, R554) -/
def vmovq : List Row :=
  [⟨.vex, .m0F, .p66, .w1, .l128, 0x6E, .vec, .none, .gpr, .any, false, false, false, .none, 0, .none, .fixed 1, [.avx], .vex 5, false, true⟩,
   ⟨.evex, .m0F, .p66, .w1, .l128, 0x6E, .vec, .none, .gpr, .any, false, false, false, .none, 0, .none, .fixed 8, [.avx512f], .e9nf, false, true⟩,
   ⟨.vex, .m0F, .p66, .w1, .l128, 0x7E, .vec, .none, .gpr, .any, false, false, true, .none, 0, .none, .fixed 1, [.avx], .vex 5, false, true⟩,
   ⟨.evex, .m0F, .p66, .w1, .l128, 0x7E, .vec, .none, .gpr, .any, false, false, true, .none, 0, .none, .fixed 8, [.avx512f], .e9nf, false, true⟩,
   ⟨.vex, .m0F, .pF3, .wig, .l128, 0x7E, .vec, .none, .vec, .any, false, false, false, .none, 0, .none, .fixed 1, [.avx], .vex 5, false, false⟩,
   ⟨.evex, .m0F, .pF3, .w1, .l128, 0x7E, .vec, .none, .vec, .any, false, false, false, .none, 0, .none, .fixed 8, [.avx512f], .e9nf, false, false⟩,
   ⟨.vex, .m0F, .p66, .wig, .l128, 0xD6, .vec, .none, .vec, .any, false, false, true, .none, 0, .none, .fixed 1, [.avx], .vex 5, false, false⟩,
   ⟨.evex, .m0F, .p66, .w1, .l128, 0xD6, .vec, .none, .vec, .any, false, false, true, .none, 0, .none, .fixed 8, [.avx512f], .e9nf, false, false⟩]

/-- MOVDDUP (R555) -/
def movddup : List Row :=
  [⟨.legacy, .m0F, .pF2, .wig, .any, 0x12, .vec, .none, .vec, .any, false, false, false, .none, 0, .none, .fixed 1, [.sse3], .sse 5, false, false⟩]

/-- VMOVDDUP (R555) -/
def vmovddup : List Row :=
  [⟨.vex, .m0F, .pF2, .wig, .l128, 0x12, .vec, .none, .vec, .any, false, false, false, .none, 0, .none, .fixed 1, [.avx], .vex 5, false, false⟩,
   ⟨.vex, .m0F, .pF2, .wig, .l256, 0x12, .vec, .none, .vec, .any, false, false, false, .none, 0, .none, .fixed 1, [.avx], .vex 5, false, false⟩,
   ⟨.evex, .m0F, .pF2, .w1, .l128, 0x12, .vec, .none, .vec, .any, false, false, false, .zero, 0, .none, .dup, [.avx512vl, .avx512f], .e5nf, false, false⟩,
   ⟨.evex, .m0F, .pF2, .w1, .l256, 0x12, .vec, .none, .vec, .any, false, false, false, .zero, 0, .none, .dup, [.avx512vl, .avx512f], .e5nf, false, false⟩,
   ⟨.evex, .m0F, .pF2, .w1, .l512, 0x12, .vec, .none, .vec, .any, false, false, false, .zero, 0, .none, .dup, [.avx512f], .e5nf, false, false⟩]

/-- MOVDQA (R556) -/
def movdqa : List Row :=
  [⟨.legacy, .m0F, .p66, .wig, .any, 0x6F, .vec, .none, .vec, .any, false, false, false, .none, 0, .none, .fixed 1, [.sse2], .sse 1, true, false⟩,
   ⟨.legacy, .m0F, .p66, .wig, .any, 0x7F, .vec, .none, .vec, .any, false, false, true, .none, 0, .none, .fixed 1, [.sse2], .sse 1, true, false⟩]

/-- VMOVDQA (R556) -/
def vmovdqa : List Row :=
  [⟨.vex, .m0F, .p66, .wig, .l128, 0x6F, .vec, .none, .vec, .any, false, false, false, .none, 0, .none, .fixed 1, [.avx], .vex 1, true, false⟩,
   ⟨.vex, .m0F, .p66, .wig, .l128, 0x7F, .vec, .none, .vec, .any, false, false, true, .none, 0, .none, .fixed 1, [.avx], .vex 1, true, false⟩,
   ⟨.vex, .m0F, .p66, .wig, .l256, 0x6F, .vec, .none, .vec, .any, false, false, false, .none, 0, .none, .fixed 1, [.avx], .vex 1, true, false⟩,
   ⟨.vex, .m0F, .p66, .wig, .l256, 0x7F, .vec, .none, .vec, .any, false, false, true, .none, 0, .none, .fixed 1, [.avx], .vex 1, true, false⟩]

/-- VMOVDQA32 (R557) -/
def vmovdqa32 : List Row :=
  [⟨.evex, .m0F, .p66, .w0, .l128, 0x6F, .vec, .none, .vec, .any, false, false, false, .zero, 0, .none, .fvm, [.avx512vl, .avx512f], .e1, true, false⟩,
   ⟨.evex, .m0F, .p66, .w0, .l256, 0x6F, .vec, .none, .vec, .any, false, false, false, .zero, 0, .none, .fvm, [.avx512vl, .avx512f], .e1, true, false⟩,
   ⟨.evex, .m0F, .p66, .w0, .l512, 0x6F, .vec, .none, .vec, .any, false, false, false, .zero, 0, .none, .fvm, [.avx512f], .e1, true, false⟩,
   ⟨.evex, .m0F, .p66, .w0, .l128, 0x7F, .vec, .none, .vec, .any, false, false, true, .zero, 0, .none, .fvm, [.avx512vl, .avx512f], .e1, true, false⟩,
   ⟨.evex, .m0F, .p66, .w0, .l256, 0x7F, .vec, .none, .vec, .any, false, false, true, .zero, 0, .none, .fvm, [.avx512vl, .avx512f], .e1, true, false⟩,
   ⟨.evex, .m0F, .p66, .w0, .l512, 0x7F, .vec, .none, .vec, .any, false, false, true, .zero, 0, .none, .fvm, [.avx512f], .e1, true, false⟩]

/-- VMOVDQA64 (R558) -/
def vmovdqa64 : List Row :=
  [⟨.evex, .m0F, .p66, .w1, .l128, 0x6F, .vec, .none, .vec, .any, false, false, false, .zero, 0, .none, .fvm, [.avx512vl, .avx512f], .e1, true, false⟩,
   ⟨.evex, .m0F, .p66, .w1, .l256, 0x6F, .vec, .none, .vec, .any, false, false, false, .zero, 0, .none, .fvm, [.avx512vl, .avx512f], .e1, true, false⟩,
   ⟨.evex, .m0F, .p66, .w1, .l512, 0x6F, .vec, .none, .vec, .any, false, false, false, .zero, 0, .none, .fvm, [.avx512f], .e1, true, false⟩,
   ⟨.evex, .m0F, .p66, .w1, .l128, 0x7F, .vec, .none, .vec, .any, false, false, true, .zero, 0, .none, .fvm, [.avx512vl, .avx512f], .e1, true, false⟩,
   ⟨.evex, .m0F, .p66, .w1, .l256, 0x7F, .vec, .none, .vec, .any, false, false, true, .zero, 0, .none, .fvm, [.avx512vl, .avx512f], .e1, true, false⟩,
   ⟨.evex, .m0F, .p66, .w1, .l512, 0x7F, .vec, .none, .vec, .any, false, false, true, .zero, 0, .none, .fvm, [.avx512f], .e1, true, false⟩]

/-- MOVDQU (R559) -/
def movdqu : List Row :=
  [⟨.legacy, .m0F, .pF3, .wig, .any, 0x6F, .vec, .none, .vec, .any, false, false, false, .none, 0, .none, .fixed 1, [.sse2], .sse 4, false, false⟩,
   ⟨.legacy, .m0F, .pF3, .wig, .any, 0x7F, .vec, .none, .vec, .any, false, false, true, .none, 0, .none, .fixed 1, [.sse2], .sse 4, false, false⟩]

/-- VMOVDQU (R559) -/
def vmovdqu : List Row :=
  [⟨.vex, .m0F, .pF3, .wig, .l128, 0x6F, .vec, .none, .vec, .any, false, false, false, .none, 0, .none, .fixed 1, [.avx], .vex 4, false, false⟩,
   ⟨.vex, .m0F, .pF3, .wig, .l128, 0x7F, .vec, .none, .vec, .any, false, false, true, .none, 0, .none, .fixed 1, [.avx], .vex 4, false, false⟩,
   ⟨.vex, .m0F, .pF3, .wig, .l256, 0x6F, .vec, .none, .vec, .any, false, false, false, .none, 0, .none, .fixed 1, [.avx], .vex 4, false, false⟩,
   ⟨.vex, .m0F, .pF3, .wig, .l256, 0x7F, .vec, .none, .vec, .any, false, false, true, .none, 0, .none, .fixed 1, [.avx], .vex 4, false, false⟩]

/-- VMOVDQU8 (R560) -/
def vmovdqu8 : List Row :=
  [⟨.evex, .m0F, .pF2, .w0, .l128, 0x6F, .vec, .none, .vec, .any, false, false, false, .zero, 0, .none, .fvm, [.avx512vl, .avx512bw], .e4, false, false⟩,
   ⟨.evex, .m0F, .pF2, .w0, .l256, 0x6F, .vec, .none, .vec, .any, false, false, false, .zero, 0, .none, .fvm, [.avx512vl, .avx512bw], .e4, false, false⟩,
   ⟨.evex, .m0F, .pF2, .w0, .l512, 0x6F, .vec, .none, .vec, .any, false, false, false, .zero, 0, .none, .fvm, [.avx512bw], .e4, false, false⟩,
   ⟨.evex, .m0F, .pF2, .w0, .l128, 0x7F, .vec, .none, .vec, .any, false, false, true, .zero, 0, .none, .fvm, [.avx512vl, .avx512bw], .e4, false, false⟩,
   ⟨.evex, .m0F, .pF2, .w0, .l256, 0x7F, .vec, .none, .vec, .any, false, false, true, .zero, 0, .none, .fvm, [.avx512vl, .avx512bw], .e4, false, false⟩,
   ⟨.evex, .m0F, .pF2, .w0, .l512, 0x7F, .vec, .none, .vec, .any, false, false, true, .zero, 0, .none, .fvm, [.avx512bw], .e4, false, false⟩]

/-- VMOVDQU16 (R561) -/
def vmovdqu16 : List Row :=
  [⟨.evex, .m0F, .pF2, .w1, .l128, 0x6F, .vec, .none, .vec, .any, false, false, false, .zero, 0, .none, .fvm, [.avx512vl, .avx512bw], .e4, false, false⟩,
   ⟨.evex, .m0F, .pF2, .w1, .l256, 0x6F, .vec, .none, .vec, .any, false, false, false, .zero, 0, .none, .fvm, [.avx512vl, .avx512bw], .e4, false, false⟩,
   ⟨.evex, .m0F, .pF2, .w1, .l512, 0x6F, .vec, .none, .vec, .any, false, false, false, .zero, 0, .none, .fvm, [.avx512bw], .e4, false, false⟩,
   ⟨.evex, .m0F, .pF2, .w1, .l128, 0x7F, .vec, .none, .vec, .any, false, false, true, .zero, 0, .none, .fvm, [.avx512vl, .avx512bw], .e4, false, false⟩,
   ⟨.evex, .m0F, .pF2, .w1, .l256, 0x7F, .vec, .none, .vec, .any, false, false, true, .zero, 0, .none, .fvm, [.avx512vl, .avx512bw], .e4, false, false⟩,
   ⟨.evex, .m0F, .pF2, .w1, .l512, 0x7F, .vec, .none, .vec, .any, false, false, true, .zero, 0, .none, .fvm, [.avx512bw], .e4, false, false⟩]

/-- VMOVDQU32 (R562) -/
def vmovdqu32 : List Row :=
  [⟨.evex, .m0F, .pF3, .w0, .l128, 0x6F, .vec, .none, .vec, .any, false, false, false, .zero, 0, .none, .fvm, [.avx512vl, .avx512f], .e4, false, false⟩,
   ⟨.evex, .m0F, .pF3, .w0, .l256, 0x6F, .vec, .none, .vec, .any, false, false, false, .zero, 0, .none, .fvm, [.avx512vl, .avx512f], .e4, false, false⟩,
   ⟨.evex, .m0F, .pF3, .w0, .l512, 0x6F, .vec, .none, .vec, .any, false, false, false, .zero, 0, .none, .fvm, [.avx512f], .e4, false, false⟩,
   ⟨.evex, .m0F, .pF3, .w0, .l128, 0x7F, .vec, .none, .vec, .any, false, false, true, .zero, 0, .none, .fvm, [.avx512vl, .avx512f], .e4, false, false⟩,
   ⟨.evex, .m0F, .pF3, .w0, .l256, 0x7F, .vec, .none, .vec, .any, false, false, true, .zero, 0, .none, .fvm, [.avx512vl, .avx512f], .e4, false, false⟩,
   ⟨.evex, .m0F, .pF3, .w0, .l512, 0x7F, .vec, .none, .vec, .any, false, false, true, .zero, 0, .none, .fvm, [.avx512f], .e4, false, false⟩]

/-- VMOVDQU64 (R563) -/
def vmovdqu64 : List Row :=
  [⟨.evex, .m0F, .pF3, .w1, .l128, 0x6F, .vec, .none, .vec, .any, false, false, false, .zero, 0, .none, .fvm, [.avx512vl, .avx512f], .e4, false, false⟩,
   ⟨.evex, .m0F, .pF3, .w1, .l256, 0x6F, .vec, .none, .vec, .any, false, false, false, .zero, 0, .none, .fvm, [.avx512vl, .avx512f], .e4, false, false⟩,
   ⟨.evex, .m0F, .pF3, .w1, .l512, 0x6F, .vec, .none, .vec, .any, false, false, false, .zero, 0, .none, .fvm, [.avx512f], .e4, false, false⟩,
   ⟨.evex, .m0F, .pF3, .w1, .l128, 0x7F, .vec, .none, .vec, .any, false, false, true, .zero, 0, .none, .fvm, [.avx512vl, .avx512f], .e4, false, false⟩,
   ⟨.evex, .m0F, .pF3, .w1, .l256, 0x7F, .vec, .none, .vec, .any, false, false, true, .zero, 0, .none, .fvm, [.avx512vl, .avx512f], .e4, false, false⟩,
   ⟨.evex, .m0F, .pF3, .w1, .l512, 0x7F, .vec, .none, .vec, .any, false, false, true, .zero, 0, .none, .fvm, [.avx512f], .e4, false, false⟩]

/-- MOVHLPS (R564) -/
def movhlps : List Row :=
  [⟨.legacy, .m0F, .np, .wig, .any, 0x12, .vec, .none, .vec, .reg, false, false, false, .none, 0, .none, .fixed 1, [.sse], .sse 7, false, false⟩]

/-- VMOVHLPS (R564) -/
def vmovhlps : List Row :=
  [⟨.vex, .m0F, .np, .wig, .l128, 0x12, .vec, .vec, .vec, .reg, false, false, false, .none, 0, .none, .fixed 1, [.avx], .vex 7, false, false⟩,
   ⟨.evex, .m0F, .np, .w0, .l128, 0x12, .vec, .vec, .vec, .reg, false, false, false, .none, 0, .none, .fixed 1, [.avx512f], .e7nm, false, false⟩]

/-- MOVHPD (R565) -/
def movhpd : List Row :=
  [⟨.legacy, .m0F, .p66, .wig, .any, 0x16, .vec, .none, .vec, .mem, false, false, false, .none, 0, .none, .fixed 1, [.sse2], .sse 5, false, false⟩,
   ⟨.legacy, .m0F, .p66, .wig, .any, 0x17, .vec, .none, .vec, .mem, false, false, true, .none, 0, .none, .fixed 1, [.sse2], .sse 5, false, false⟩]

/-- VMOVHPD (R565) -/
def vmovhpd : List Row :=
  [⟨.vex, .m0F, .p66, .wig, .l128, 0x16, .vec, .vec, .vec, .mem, false, false, false, .none, 0, .none, .fixed 1, [.avx], .vex 5, false, false⟩,
   ⟨.evex, .m0F, .p66, .w1, .l128, 0x16, .vec, .vec, .vec, .mem, false, false, false, .none, 0, .none, .fixed 8, [.avx512f], .e9nf, false, false⟩,
   ⟨.vex, .m0F, .p66, .wig, .l128, 0x17, .vec, .none, .vec, .mem, false, false, true, .none, 0, .none, .fixed 1, [.avx], .vex 5, false, false⟩,
   ⟨.evex, .m0F, .p66, .w1, .l128, 0x17, .vec, .none, .vec, .mem, false, false, true, .none, 0, .none, .fixed 8, [.avx512f], .e9nf, false, false⟩]

/-- MOVHPS (R566) -/
def movhps : List Row :=
  [⟨.legacy, .m0F, .np, .wig, .any, 0x16, .vec, .none, .vec, .mem, false, false, false, .none, 0, .none, .fixed 1, [.sse], .sse 5, false, false⟩,
   ⟨.legacy, .m0F, .np, .wig, .any, 0x17, .vec, .none, .vec, .mem, false, false, true, .none, 0, .none, .fixed 1, [.sse], .sse 5, false, false⟩]

/-- VMOVHPS (R566) -/
def vmovhps : List Row :=
  [⟨.vex, .m0F, .np, .wig, .l128, 0x16, .vec, .vec, .vec, .mem, false, false, false, .none, 0, .none, .fixed 1, [.avx], .vex 5, false, false⟩,
   ⟨.evex, .m0F, .np, .w0, .l128, 0x16, .vec, .vec, .vec, .mem, false, false, false, .none, 0, .none, .fixed 8, [.avx512f], .e9nf, false, false⟩,
   ⟨.vex, .m0F, .np, .wig, .l128, 0x17, .vec, .none, .vec, .mem, false, false, true, .none, 0, .none, .fixed 1, [.avx], .vex 5, false, false⟩,
   ⟨.evex, .m0F, .np, .w0, .l128, 0x17, .vec, .none, .vec, .mem, false, false, true, .none, 0, .none, .fixed 8, [.avx512f], .e9nf, false, false⟩]

/-- MOVLHPS (R567) -/
def movlhps : List Row :=
  [⟨.legacy, .m0F, .np, .wig, .any, 0x16, .vec, .none, .vec, .reg, false, false, false, .none, 0, .none, .fixed 1, [.sse], .sse 7, false, false⟩]

/-- VMOVLHPS (R567) -/
def vmovlhps : List Row :=
  [⟨.vex, .m0F, .np, .wig, .l128, 0x16, .vec, .vec, .vec, .reg, false, false, false, .none, 0, .none, .fixed 1, [.avx], .vex 7, false, false⟩,
   ⟨.evex, .m0F, .np, .w0, .l128, 0x16, .vec, .vec, .vec, .reg, false, false, false, .none, 0, .none, .fixed 1, [.avx512f], .e7nm, false, false⟩]

/-- MOVLPD (R568) -/
def movlpd : List Row :=
  [⟨.legacy, .m0F, .p66, .wig, .any, 0x12, .vec, .none, .vec, .mem, false, false, false, .none, 0, .none, .fixed 1, [.sse2], .sse 5, false, false⟩,
   ⟨.legacy, .m0F, .p66, .wig, .any, 0x13, .vec, .none, .vec, .mem, false, false, true, .none, 0, .none, .fixed 1, [.sse2], .sse 5, false, false⟩]

/-- VMOVLPD (R568) -/
def vmovlpd : List Row :=
  [⟨.vex, .m0F, .p66, .wig, .l128, 0x12, .vec, .vec, .vec, .mem, false, false, false, .none, 0, .none, .fixed 1, [.avx], .vex 5, false, false⟩,
   ⟨.evex, .m0F, .p66, .w1, .l128, 0x12, .vec, .vec, .vec, .mem, false, false, false, .none, 0, .none, .fixed 8, [.avx512f], .e9nf, false, false⟩,
   ⟨.vex, .m0F, .p66, .wig, .l128, 0x13, .vec, .none, .vec, .mem, false, false, true, .none, 0, .none, .fixed 1, [.avx], .vex 5, false, false⟩,
   ⟨.evex, .m0F, .p66, .w1, .l128, 0x13, .vec, .none, .vec, .mem, false, false, true, .none, 0, .none, .fixed 8, [.avx512f], .e9nf, false, false⟩]

/-- MOVLPS (R569) -/
def movlps : List Row :=
  [⟨.legacy, .m0F, .np, .wig, .any, 0x12, .vec, .none, .vec, .mem, false, false, false, .none, 0, .none, .fixed 1, [.sse], .sse 5, false, false⟩,
   ⟨.legacy, .m0F, .np, .wig, .any, 0x13, .vec, .none, .vec, .mem, false, false, true, .none, 0, .none, .fixed 1, [.sse], .sse 5, false, false⟩]

/-- VMOVLPS (R569) -/
def vmovlps : List Row :=
  [⟨.vex, .m0F, .np, .wig, .l128, 0x12, .vec, .vec, .vec, .mem, false, false, false, .none, 0, .none, .fixed 1, [.avx], .vex 5, false, false⟩,
   ⟨.evex, .m0F, .np, .w0, .l128, 0x12, .vec, .vec, .vec, .mem, false, false, false, .none, 0, .none, .fixed 8, [.avx512f], .e9nf, false, false⟩,
   ⟨.vex, .m0F, .np, .wig, .l128, 0x13, .vec, .none, .vec, .mem, false, false, true, .none, 0, .none, .fixed 1, [.avx], .vex 5, false, false⟩,
   ⟨.evex, .m0F, .np, .w0, .l128, 0x13, .vec, .none, .vec, .mem, false, false, true, .none, 0, .none, .fixed 8, [.avx512f], .e9nf, false, false⟩]

/-- MOVNTDQA (R570) -/
def movntdqa : List Row :=
  [⟨.legacy, .m0F38, .p66, .wig, .any, 0x2A, .vec, .none, .vec, .mem, false, false, false, .none, 0, .none, .fixed 1, [.sse41], .sse 1, true, false⟩]

/-- VMOVNTDQA (R570) -/
def vmovntdqa : List Row :=
  [⟨.vex, .m0F38, .p66, .wig, .l128, 0x2A, .vec, .none, .vec, .mem, false, false, false, .none, 0, .none, .fixed 1, [.avx], .vex 1, true, false⟩,
   ⟨.vex, .m0F38, .p66, .wig, .l256, 0x2A, .vec, .none, .vec, .mem, false, false, false, .none, 0, .none, .fixed 1, [.avx2], .vex 1, true, false⟩,
   ⟨.evex, .m0F38, .p66, .w0, .l128, 0x2A, .vec, .none, .vec, .mem, false, false, false, .none, 0, .none, .fvm, [.avx512vl, .avx512f], .e1nf, true, false⟩,
   ⟨.evex, .m0F38, .p66, .w0, .l256, 0x2A, .vec, .none, .vec, .mem, false, false, false, .none, 0, .none, .fvm, [.avx512vl, .avx512f], .e1nf, true, false⟩,
   ⟨.evex, .m0F38, .p66, .w0, .l512, 0x2A, .vec, .none, .vec, .mem, false, false, false, .none, 0, .none, .fvm, [.avx512f], .e1nf, true, false⟩]

/-- MOVNTDQ (R571) -/
def movntdq : List Row :=
  [⟨.legacy, .m0F, .p66, .wig, .any, 0xE7, .vec, .none, .vec, .mem, false, false, true, .none, 0, .none, .fixed 1, [.sse2], .sse 1, true, false⟩]

/-- VMOVNTDQ (R571) -/
def vmovntdq : List Row :=
  [⟨.vex, .m0F, .p66, .wig, .l128, 0xE7, .vec, .none, .vec, .mem, false, false, true, .none, 0, .none, .fixed 1, [.avx], .vex 1, true, false⟩,
   ⟨.vex, .m0F, .p66, .wig, .l256, 0xE7, .vec, .none, .vec, .mem, false, false, true, .none, 0, .none, .fixed 1, [.avx], .vex 1, true, false⟩,
   ⟨.evex, .m0F, .p66, .w0, .l128, 0xE7, .vec, .none, .vec, .mem, false, false, true, .none, 0, .none, .fvm, [.avx512vl, .avx512f], .e1nf, true, false⟩,
   ⟨.evex, .m0F, .p66, .w0, .l256, 0xE7, .vec, .none, .vec, .mem, false, false, true, .none, 0, .none, .fvm, [.avx512vl, .avx512f], .e1nf, true, false⟩,
   ⟨.evex, .m0F, .p66, .w0, .l512, 0xE7, .vec, .none, .vec, .mem, false, false, true, .none, 0, .none, .fvm, [.avx512f], .e1nf, true, false⟩]

/-- MOVNTPD (R572) -/
def movntpd : List Row :=
  [⟨.legacy, .m0F, .p66, .wig, .any, 0x2B, .vec, .none, .vec, .mem, false, false, true, .none, 0, .none, .fixed 1, [.sse2], .sse 1, true, false⟩]

/-- VMOVNTPD (R572) -/
def vmovntpd : List Row :=
  [⟨.vex, .m0F, .p66, .wig, .l128, 0x2B, .vec, .none, .vec, .mem, false, false, true, .none, 0, .none, .fixed 1, [.avx], .vex 1, true, false⟩,
   ⟨.vex, .m0F, .p66, .wig, .l256, 0x2B, .vec, .none, .vec, .mem, false, false, true, .none, 0, .none, .fixed 1, [.avx], .vex 1, true, false⟩,
   ⟨.evex, .m0F, .p66, .w1, .l128, 0x2B, .vec, .none, .vec, .mem, false, false, true, .none, 0, .none, .fvm, [.avx512vl, .avx512f], .e1nf, true, false⟩,
   ⟨.evex, .m0F, .p66, .w1, .l256, 0x2B, .vec, .none, .vec, .mem, false, false, true, .none, 0, .none, .fvm, [.avx512vl, .avx512f], .e1nf, true, false⟩,
   ⟨.evex, .m0F, .p66, .w1, .l512, 0x2B, .vec, .none, .vec, .mem, false, false, true, .none, 0, .none, .fvm, [.avx512f], .e1nf, true, false⟩]

/-- MOVNTPS (R573) -/
def movntps : List Row :=
  [⟨.legacy, .m0F, .np, .wig, .any, 0x2B, .vec, .none, .vec, .mem, false, false, true, .none, 0, .none, .fixed 1, [.sse], .sse 1, true, false⟩]

/-- VMOVNTPS (R573) -/
def vmovntps : List Row :=
  [⟨.vex, .m0F, .np, .wig, .l128, 0x2B, .vec, .none, .vec, .mem, false, false, true, .none, 0, .none, .fixed 1, [.avx], .vex 1, true, false⟩,
   ⟨.vex, .m0F, .np, .wig, .l256, 0x2B, .vec, .none, .vec, .mem, false, false, true, .none, 0, .none, .fixed 1, [.avx], .vex 1, true, false⟩,
   ⟨.evex, .m0F, .np, .w0, .l128, 0x2B, .vec, .none, .vec, .mem, false, false, true, .none, 0, .none, .fvm, [.avx512vl, .avx512f], .e1nf, true, false⟩,
   ⟨.evex, .m0F, .np, .w0, .l256, 0x2B, .vec, .none, .vec, .mem, false, false, true, .none, 0, .none, .fvm, [.avx512vl, .avx512f], .e1nf, true, false⟩,
   ⟨.evex, .m0F, .np, .w0, .l512, 0x2B, .vec, .none, .vec, .mem, false, false, true, .none, 0, .none, .fvm, [.avx512f], .e1nf, true, false⟩]

/-- MOVSD (R574) -/
def movsd : List Row :=
  [⟨.legacy, .m0F, .pF2, .wig, .any, 0x10, .vec, .none, .vec, .reg, false, false, false, .none, 0, .none, .fixed 1, [.sse2], .sse 5, false, false⟩,
   ⟨.legacy, .m0F, .pF2, .wig, .any, 0x10, .vec, .none, .vec, .mem, false, false, false, .none, 0, .none, .fixed 1, [.sse2], .sse 5, false, false⟩,
   ⟨.legacy, .m0F, .pF2, .wig, .any, 0x11, .vec, .none, .vec, .any, false, false, true, .none, 0, .none, .fixed 1, [.sse2], .sse 5, false, false⟩]

/-- VMOVSD (R574) -/
def vmovsd : List Row :=
  [⟨.vex, .m0F, .pF2, .wig, .any, 0x10, .vec, .vec, .vec, .reg, false, false, false, .none, 0, .none, .fixed 1, [.avx], .vex 5, false, false⟩,
   ⟨.vex, .m0F, .pF2, .wig, .any, 0x10, .vec, .none, .vec, .mem, false, false, false, .none, 0, .none, .fixed 1, [.avx], .vex 5, false, false⟩,
   ⟨.vex, .m0F, .pF2, .wig, .any, 0x11, .vec, .vec, .vec, .reg, false, false, false, .none, 0, .none, .fixed 1, [.avx], .vex 5, false, false⟩,
   ⟨.vex, .m0F, .pF2, .wig, .any, 0x11, .vec, .none, .vec, .mem, false, false, true, .none, 0, .none, .fixed 1, [.avx], .vex 5, false, false⟩,
   ⟨.evex, .m0F, .pF2, .w1, .any, 0x10, .vec, .vec, .vec, .reg, false, false, false, .zero, 0, .none, .fixed 1, [.avx512f], .e10, false, false⟩,
   ⟨.evex, .m0F, .pF2, .w1, .any, 0x10, .vec, .none, .vec, .mem, false, false, false, .zero, 0, .none, .fixed 8, [.avx512f], .e10, false, false⟩,
   ⟨.evex, .m0F, .pF2, .w1, .any, 0x11, .vec, .vec, .vec, .reg, false, false, false, .zero, 0, .none, .fixed 1, [.avx512f], .e10, false, false⟩,
   ⟨.evex, .m0F, .pF2, .w1, .any, 0x11, .vec, .none, .vec, .mem, false, false, true, .merge, 0, .none, .fixed 8, [.avx512f], .e10, false, false⟩]

/-- MOVSHDUP (R575) -/
def movshdup : List Row :=
  [⟨.legacy, .m0F, .pF3, .wig, .any, 0x16, .vec, .none, .vec, .any, false, false, false, .none, 0, .none, .fixed 1, [.sse3], .sse 4, true, false⟩]

/-- VMOVSHDUP (R575) -/
def vmovshdup : List Row :=
  [⟨.vex, .m0F, .pF3, .wig, .l128, 0x16, .vec, .none, .vec, .any, false, false, false, .none, 0, .none, .fixed 1, [.avx], .vex 4, false, false⟩,
   ⟨.vex, .m0F, .pF3, .wig, .l256, 0x16, .vec, .none, .vec, .any, false, false, false, .none, 0, .none, .fixed 1, [.avx], .vex 4, false, false⟩,
   ⟨.evex, .m0F, .pF3, .w0, .l128, 0x16, .vec, .none, .vec, .any, false, false, false, .zero, 0, .none, .fvm, [.avx512vl, .avx512f], .e4nf, false, false⟩,
   ⟨.evex, .m0F, .pF3, .w0, .l256, 0x16, .vec, .none, .vec, .any, false, false, false, .zero, 0, .none, .fvm, [.avx512vl, .avx512f], .e4nf, false, false⟩,
   ⟨.evex, .m0F, .pF3, .w0, .l512, 0x16, .vec, .none, .vec, .any, false, false, false, .zero, 0, .none, .fvm, [.avx512f], .e4nf, false, false⟩]

/-- MOVSLDUP (R576) -/
def movsldup : List Row :=
  [⟨.legacy, .m0F, .pF3, .wig, .any, 0x12, .vec, .none, .vec, .any, false, false, false, .none, 0, .none, .fixed 1, [.sse3], .sse 4, true, false⟩]

/-- VMOVSLDUP (R576) -/
def vmovsldup : List Row :=
  [⟨.vex, .m0F, .pF3, .wig, .l128, 0x12, .vec, .none, .vec, .any, false, false, false, .none, 0, .none, .fixed 1, [.avx], .vex 4, false, false⟩,
   ⟨.vex, .m0F, .pF3, .wig, .l256, 0x12, .vec, .none, .vec, .any, false, false, false, .none, 0, .none, .fixed 1, [.avx], .vex 4, false, false⟩,
   ⟨.evex, .m0F, .pF3, .w0, .l128, 0x12, .vec, .none, .vec, .any, false, false, false, .zero, 0, .none, .fvm, [.avx512vl, .avx512f], .e4nf, false, false⟩,
   ⟨.evex, .m0F, .pF3, .w0, .l256, 0x12, .vec, .none, .vec, .any, false, false, false, .zero, 0, .none, .fvm, [.avx512vl, .avx512f], .e4nf, false, false⟩,
   ⟨.evex, .m0F, .pF3, .w0, .l512, 0x12, .vec, .none, .vec, .any, false, false, false, .zero, 0, .none, .fvm, [.avx512f], .e4nf, false, false⟩]

/-- MOVSS (R577) -/
def movss : List Row :=
  [⟨.legacy, .m0F, .pF3, .wig, .any, 0x10, .vec, .none, .vec, .reg, false, false, false, .none, 0, .none, .fixed 1, [.sse], .sse 5, false, false⟩,
   ⟨.legacy, .m0F, .pF3, .wig, .any, 0x10, .vec, .none, .vec, .mem, false, false, false, .none, 0, .none, .fixed 1, [.sse], .sse 5, false, false⟩,
   ⟨.legacy, .m0F, .pF3, .wig, .any, 0x11, .vec, .none, .vec, .any, false, false, true, .none, 0, .none, .fixed 1, [.sse], .sse 5, false, false⟩]

/-- VMOVSS (R577) -/
def vmovss : List Row :=
  [⟨.vex, .m0F, .pF3, .wig, .any, 0x10, .vec, .vec, .vec, .reg, false, false, false, .none, 0, .none, .fixed 1, [.avx], .vex 5, false, false⟩,
   ⟨.vex, .m0F, .pF3, .wig, .any, 0x10, .vec, .none, .vec, .mem, false, false, false, .none, 0, .none, .fixed 1, [.avx], .vex 5, false, false⟩,
   ⟨.vex, .m0F, .pF3, .wig, .any, 0x11, .vec, .vec, .vec, .reg, false, false, false, .none, 0, .none, .fixed 1, [.avx], .vex 5, false, false⟩,
   ⟨.vex, .m0F, .pF3, .wig, .any, 0x11, .vec, .none, .vec, .mem, false, false, true, .none, 0, .none, .fixed 1, [.avx], .vex 5, false, false⟩,
   ⟨.evex, .m0F, .pF3, .w0, .any, 0x10, .vec, .vec, .vec, .reg, false, false, false, .zero, 0, .none, .fixed 1, [.avx512f], .e10, false, false⟩,
   ⟨.evex, .m0F, .pF3, .w0, .any, 0x10, .vec, .none, .vec, .mem, false, false, false, .zero, 0, .none, .fixed 4, [.avx512f], .e10, false, false⟩,
   ⟨.evex, .m0F, .pF3, .w0, .any, 0x11, .vec, .vec, .vec, .reg, false, false, false, .zero, 0, .none, .fixed 1, [.avx512f], .e10, false, false⟩,
   ⟨.evex, .m0F, .pF3, .w0, .any, 0x11, .vec, .none, .vec, .mem, false, false, true, .merge, 0, .none, .fixed 4, [.avx512f], .e10, false, false⟩]

/-- MOVUPD (R578) -/
def movupd : List Row :=
  [⟨.legacy, .m0F, .p66, .wig, .any, 0x10, .vec, .none, .vec, .any, false, false, false, .none, 0, .none, .fixed 1, [.sse2], .sse 4, false, false⟩,
   ⟨.legacy, .m0F, .p66, .wig, .any, 0x11, .vec, .none, .vec, .any, false, false, true, .none, 0, .none, .fixed 1, [.sse2], .sse 4, false, false⟩]

/-- VMOVUPD (R578) -/
def vmovupd : List Row :=
  [⟨.vex, .m0F, .p66, .wig, .l128, 0x10, .vec, .none, .vec, .any, false, false, false, .none, 0, .none, .fixed 1, [.avx], .vex 4, false, false⟩,
   ⟨.vex, .m0F, .p66, .wig, .l128, 0x11, .vec, .none, .vec, .any, false, false, true, .none, 0, .none, .fixed 1, [.avx], .vex 4, false, false⟩,
   ⟨.vex, .m0F, .p66, .wig, .l256, 0x10, .vec, .none, .vec, .any, false, false, false, .none, 0, .none, .fixed 1, [.avx], .vex 4, false, false⟩,
   ⟨.vex, .m0F, .p66, .wig, .l256, 0x11, .vec, .none, .vec, .any, false, false, true, .none, 0, .none, .fixed 1, [.avx], .vex 4, false, false⟩,
   ⟨.evex, .m0F, .p66, .w1, .l128, 0x10, .vec, .none, .vec, .any, false, false, false, .zero, 0, .none, .fvm, [.avx512vl, .avx512f], .e4, false, false⟩,
   ⟨.evex, .m0F, .p66, .w1, .l128, 0x11, .vec, .none, .vec, .any, false, false, true, .zero, 0, .none, .fvm, [.avx512vl, .avx512f], .e4, false, false⟩,
   ⟨.evex, .m0F, .p66, .w1, .l256, 0x10, .vec, .none, .vec, .any, false, false, false, .zero, 0, .none, .fvm, [.avx512vl, .avx512f], .e4, false, false⟩,
   ⟨.evex, .m0F, .p66, .w1, .l256, 0x11, .vec, .none, .vec, .any, false, false, true, .zero, 0, .none, .fvm, [.avx512vl, .avx512f], .e4, false, false⟩,
   ⟨.evex, .m0F, .p66, .w1, .l512, 0x10, .vec, .none, .vec, .any, false, false, false, .zero, 0, .none, .fvm, [.avx512f], .e4, false, false⟩,
   ⟨.evex, .m0F, .p66, .w1, .l512, 0x11, .vec, .none, .vec, .any, false, false, true, .zero, 0, .none, .fvm, [.avx512f], .e4, false, false⟩]

/-- MOVUPS (R579) -/
def movups : List Row :=
  [⟨.legacy, .m0F, .np, .wig, .any, 0x10, .vec, .none, .vec, .any, false, false, false, .none, 0, .none, .fixed 1, [.sse], .sse 4, false, false⟩,
   ⟨.legacy, .m0F, .np, .wig, .any, 0x11, .vec, .none, .vec, .any, false, false, true, .none, 0, .none, .fixed 1, [.sse], .sse 4, false, false⟩]

/-- VMOVUPS (R579) -/
def vmovups : List Row :=
  [⟨.vex, .m0F, .np, .wig, .l128, 0x10, .vec, .none, .vec, .any, false, false, false, .none, 0, .none, .fixed 1, [.avx], .vex 4, false, false⟩,
   ⟨.vex, .m0F, .np, .wig, .l128, 0x11, .vec, .none, .vec, .any, false, false, true, .none, 0, .none, .fixed 1, [.avx], .vex 4, false, false⟩,
   ⟨.vex, .m0F, .np, .wig, .l256, 0x10, .vec, .none, .vec, .any, false, false, false, .none, 0, .none, .fixed 1, [.avx], .vex 4, false, false⟩,
   ⟨.vex, .m0F, .np, .wig, .l256, 0x11, .vec, .none, .vec, .any, false, false, true, .none, 0, .none, .fixed 1, [.avx], .vex 4, false, false⟩,
   ⟨.evex, .m0F, .np, .w0, .l128, 0x10, .vec, .none, .vec, .any, false, false, false, .zero, 0, .none, .fvm, [.avx512vl, .avx512f], .e4, false, false⟩,
   ⟨.evex, .m0F, .np, .w0, .l256, 0x10, .vec, .none, .vec, .any, false, false, false, .zero, 0, .none, .fvm, [.avx512vl, .avx512f], .e4, false, false⟩,
   ⟨.evex, .m0F, .np, .w0, .l512, 0x10, .vec, .none, .vec, .any, false, false, false, .zero, 0, .none, .fvm, [.avx512f], .e4, false, false⟩,
   ⟨.evex, .m0F, .np, .w0, .l128, 0x11, .vec, .none, .vec, .any, false, false, true, .zero, 0, .none, .fvm, [.avx512vl, .avx512f], .e4, false, false⟩,
   ⟨.evex, .m0F, .np, .w0, .l256, 0x11, .vec, .none, .vec, .any, false, false, true, .zero, 0, .none, .fvm, [.avx512vl, .avx512f], .e4, false, false⟩,
   ⟨.evex, .m0F, .np, .w0, .l512, 0x11, .vec, .none, .vec, .any, false, false, true, .zero, 0, .none, .fvm, [.avx512f], .e4, false, false⟩]

end Sys2Proof.Machine.Rows
end

