-- ==== Sys2Proof/Machine/Exec48.lean ====
section
/-! DEFINITION. The meanings of the instructions of spec/48_maxpd_to_movups.md (MAX to MOVUPS), one definition each: the checks
of `State.run` on the rows of the instruction, then its operation on the row its fields select. -/

namespace Sys2Proof.Machine

/-- MAXPD (R541). -/
def execMaxpd (o : Operands) (s : State) : Host.Outcome State Fault Refusal :=
  s.run Rows.maxpd o fun r => s.fp2 r o (f64.minMax true)

/-- VMAXPD (R541). -/
def execVmaxpd (o : Operands) (s : State) : Host.Outcome State Fault Refusal :=
  s.run Rows.vmaxpd o fun r => s.fp2 r o (f64.minMax true)

/-- MAXPS (R542). -/
def execMaxps (o : Operands) (s : State) : Host.Outcome State Fault Refusal :=
  s.run Rows.maxps o fun r => s.fp2 r o (f32.minMax true)

/-- VMAXPS (R542). -/
def execVmaxps (o : Operands) (s : State) : Host.Outcome State Fault Refusal :=
  s.run Rows.vmaxps o fun r => s.fp2 r o (f32.minMax true)

/-- MAXSD (R543). -/
def execMaxsd (o : Operands) (s : State) : Host.Outcome State Fault Refusal :=
  s.run Rows.maxsd o fun r => s.fp2s r o (f64.minMax true)

/-- VMAXSD (R543). -/
def execVmaxsd (o : Operands) (s : State) : Host.Outcome State Fault Refusal :=
  s.run Rows.vmaxsd o fun r => s.fp2s r o (f64.minMax true)

/-- MAXSS (R544). -/
def execMaxss (o : Operands) (s : State) : Host.Outcome State Fault Refusal :=
  s.run Rows.maxss o fun r => s.fp2s r o (f32.minMax true)

/-- VMAXSS (R544). -/
def execVmaxss (o : Operands) (s : State) : Host.Outcome State Fault Refusal :=
  s.run Rows.vmaxss o fun r => s.fp2s r o (f32.minMax true)

/-- MINPD (R545). -/
def execMinpd (o : Operands) (s : State) : Host.Outcome State Fault Refusal :=
  s.run Rows.minpd o fun r => s.fp2 r o (f64.minMax false)

/-- VMINPD (R545). -/
def execVminpd (o : Operands) (s : State) : Host.Outcome State Fault Refusal :=
  s.run Rows.vminpd o fun r => s.fp2 r o (f64.minMax false)

/-- MINPS (R546). -/
def execMinps (o : Operands) (s : State) : Host.Outcome State Fault Refusal :=
  s.run Rows.minps o fun r => s.fp2 r o (f32.minMax false)

/-- VMINPS (R546). -/
def execVminps (o : Operands) (s : State) : Host.Outcome State Fault Refusal :=
  s.run Rows.vminps o fun r => s.fp2 r o (f32.minMax false)

/-- MINSD (R547). -/
def execMinsd (o : Operands) (s : State) : Host.Outcome State Fault Refusal :=
  s.run Rows.minsd o fun r => s.fp2s r o (f64.minMax false)

/-- VMINSD (R547). -/
def execVminsd (o : Operands) (s : State) : Host.Outcome State Fault Refusal :=
  s.run Rows.vminsd o fun r => s.fp2s r o (f64.minMax false)

/-- MINSS (R548). -/
def execMinss (o : Operands) (s : State) : Host.Outcome State Fault Refusal :=
  s.run Rows.minss o fun r => s.fp2s r o (f32.minMax false)

/-- VMINSS (R548). -/
def execVminss (o : Operands) (s : State) : Host.Outcome State Fault Refusal :=
  s.run Rows.vminss o fun r => s.fp2s r o (f32.minMax false)

/-- MOVAPD (R550). -/
def execMovapd (o : Operands) (s : State) : Host.Outcome State Fault Refusal :=
  s.run Rows.movapd o fun r => s.moveFull r o false 64

/-- VMOVAPD (R550). -/
def execVmovapd (o : Operands) (s : State) : Host.Outcome State Fault Refusal :=
  s.run Rows.vmovapd o fun r => s.moveFull r o false 64

/-- MOVAPS (R551). -/
def execMovaps (o : Operands) (s : State) : Host.Outcome State Fault Refusal :=
  s.run Rows.movaps o fun r => s.moveFull r o false 32

/-- VMOVAPS (R551). -/
def execVmovaps (o : Operands) (s : State) : Host.Outcome State Fault Refusal :=
  s.run Rows.vmovaps o fun r => s.moveFull r o false 32

/-- MOVD (R552). -/
def execMovd (o : Operands) (s : State) : Host.Outcome State Fault Refusal :=
  s.run Rows.movd o fun r => s.moveLow r o 32

/-- VMOVD (R552). -/
def execVmovd (o : Operands) (s : State) : Host.Outcome State Fault Refusal :=
  s.run Rows.vmovd o fun r => s.moveLow r o 32

/-- MOVQ (R553, R554). -/
def execMovq (o : Operands) (s : State) : Host.Outcome State Fault Refusal :=
  s.run Rows.movq o fun r => s.moveLow r o 64

/-- VMOVQ (R553, R554). -/
def execVmovq (o : Operands) (s : State) : Host.Outcome State Fault Refusal :=
  s.run Rows.vmovq o fun r => s.moveLow r o 64

/-- MOVDDUP (R555). -/
def execMovddup (o : Operands) (s : State) : Host.Outcome State Fault Refusal :=
  s.run Rows.movddup o fun r => s.moveDup r o

/-- VMOVDDUP (R555). -/
def execVmovddup (o : Operands) (s : State) : Host.Outcome State Fault Refusal :=
  s.run Rows.vmovddup o fun r => s.moveDup r o

/-- MOVDQA (R556). -/
def execMovdqa (o : Operands) (s : State) : Host.Outcome State Fault Refusal :=
  s.run Rows.movdqa o fun r => s.moveFull r o false 64

/-- VMOVDQA (R556). -/
def execVmovdqa (o : Operands) (s : State) : Host.Outcome State Fault Refusal :=
  s.run Rows.vmovdqa o fun r => s.moveFull r o false 64

/-- VMOVDQA32 (R557). -/
def execVmovdqa32 (o : Operands) (s : State) : Host.Outcome State Fault Refusal :=
  s.run Rows.vmovdqa32 o fun r => s.moveFull r o false 32

/-- VMOVDQA64 (R558). -/
def execVmovdqa64 (o : Operands) (s : State) : Host.Outcome State Fault Refusal :=
  s.run Rows.vmovdqa64 o fun r => s.moveFull r o false 64

/-- MOVDQU (R559). -/
def execMovdqu (o : Operands) (s : State) : Host.Outcome State Fault Refusal :=
  s.run Rows.movdqu o fun r => s.moveFull r o false 64

/-- VMOVDQU (R559). -/
def execVmovdqu (o : Operands) (s : State) : Host.Outcome State Fault Refusal :=
  s.run Rows.vmovdqu o fun r => s.moveFull r o false 64

/-- VMOVDQU8 (R560). -/
def execVmovdqu8 (o : Operands) (s : State) : Host.Outcome State Fault Refusal :=
  s.run Rows.vmovdqu8 o fun r => s.moveFull r o false 8

/-- VMOVDQU16 (R561). -/
def execVmovdqu16 (o : Operands) (s : State) : Host.Outcome State Fault Refusal :=
  s.run Rows.vmovdqu16 o fun r => s.moveFull r o false 16

/-- VMOVDQU32 (R562). -/
def execVmovdqu32 (o : Operands) (s : State) : Host.Outcome State Fault Refusal :=
  s.run Rows.vmovdqu32 o fun r => s.moveFull r o false 32

/-- VMOVDQU64 (R563). -/
def execVmovdqu64 (o : Operands) (s : State) : Host.Outcome State Fault Refusal :=
  s.run Rows.vmovdqu64 o fun r => s.moveFull r o false 64

/-- MOVHLPS (R564). -/
def execMovhlps (o : Operands) (s : State) : Host.Outcome State Fault Refusal :=
  s.run Rows.movhlps o fun r => s.vec2 r o 64 fun a b j => if j = 0 then elem 64 1 b else elem 64 1 a

/-- VMOVHLPS (R564). -/
def execVmovhlps (o : Operands) (s : State) : Host.Outcome State Fault Refusal :=
  s.run Rows.vmovhlps o fun r => s.vec2 r o 64 fun a b j => if j = 0 then elem 64 1 b else elem 64 1 a

/-- MOVHPD (R565). -/
def execMovhpd (o : Operands) (s : State) : Host.Outcome State Fault Refusal :=
  s.run Rows.movhpd o fun r => s.moveHalf r o true

/-- VMOVHPD (R565). -/
def execVmovhpd (o : Operands) (s : State) : Host.Outcome State Fault Refusal :=
  s.run Rows.vmovhpd o fun r => s.moveHalf r o true

/-- MOVHPS (R566). -/
def execMovhps (o : Operands) (s : State) : Host.Outcome State Fault Refusal :=
  s.run Rows.movhps o fun r => s.moveHalf r o true

/-- VMOVHPS (R566). -/
def execVmovhps (o : Operands) (s : State) : Host.Outcome State Fault Refusal :=
  s.run Rows.vmovhps o fun r => s.moveHalf r o true

/-- MOVLHPS (R567). -/
def execMovlhps (o : Operands) (s : State) : Host.Outcome State Fault Refusal :=
  s.run Rows.movlhps o fun r => s.vec2 r o 64 fun a b j => if j = 0 then elem 64 0 a else elem 64 0 b

/-- VMOVLHPS (R567). -/
def execVmovlhps (o : Operands) (s : State) : Host.Outcome State Fault Refusal :=
  s.run Rows.vmovlhps o fun r => s.vec2 r o 64 fun a b j => if j = 0 then elem 64 0 a else elem 64 0 b

/-- MOVLPD (R568). -/
def execMovlpd (o : Operands) (s : State) : Host.Outcome State Fault Refusal :=
  s.run Rows.movlpd o fun r => s.moveHalf r o false

/-- VMOVLPD (R568). -/
def execVmovlpd (o : Operands) (s : State) : Host.Outcome State Fault Refusal :=
  s.run Rows.vmovlpd o fun r => s.moveHalf r o false

/-- MOVLPS (R569). -/
def execMovlps (o : Operands) (s : State) : Host.Outcome State Fault Refusal :=
  s.run Rows.movlps o fun r => s.moveHalf r o false

/-- VMOVLPS (R569). -/
def execVmovlps (o : Operands) (s : State) : Host.Outcome State Fault Refusal :=
  s.run Rows.vmovlps o fun r => s.moveHalf r o false

/-- MOVNTDQA (R570). -/
def execMovntdqa (o : Operands) (s : State) : Host.Outcome State Fault Refusal :=
  s.run Rows.movntdqa o fun r => s.moveFull r o false 64

/-- VMOVNTDQA (R570). -/
def execVmovntdqa (o : Operands) (s : State) : Host.Outcome State Fault Refusal :=
  s.run Rows.vmovntdqa o fun r => s.moveFull r o false 64

/-- MOVNTDQ (R571). -/
def execMovntdq (o : Operands) (s : State) : Host.Outcome State Fault Refusal :=
  s.run Rows.movntdq o fun r => s.moveFull r o true 64

/-- VMOVNTDQ (R571). -/
def execVmovntdq (o : Operands) (s : State) : Host.Outcome State Fault Refusal :=
  s.run Rows.vmovntdq o fun r => s.moveFull r o true 64

/-- MOVNTPD (R572). -/
def execMovntpd (o : Operands) (s : State) : Host.Outcome State Fault Refusal :=
  s.run Rows.movntpd o fun r => s.moveFull r o true 64

/-- VMOVNTPD (R572). -/
def execVmovntpd (o : Operands) (s : State) : Host.Outcome State Fault Refusal :=
  s.run Rows.vmovntpd o fun r => s.moveFull r o true 64

/-- MOVNTPS (R573). -/
def execMovntps (o : Operands) (s : State) : Host.Outcome State Fault Refusal :=
  s.run Rows.movntps o fun r => s.moveFull r o true 32

/-- VMOVNTPS (R573). -/
def execVmovntps (o : Operands) (s : State) : Host.Outcome State Fault Refusal :=
  s.run Rows.vmovntps o fun r => s.moveFull r o true 32

/-- MOVSD (R574). -/
def execMovsd (o : Operands) (s : State) : Host.Outcome State Fault Refusal :=
  s.run Rows.movsd o fun r => s.moveScalar r o 64

/-- VMOVSD (R574). -/
def execVmovsd (o : Operands) (s : State) : Host.Outcome State Fault Refusal :=
  s.run Rows.vmovsd o fun r => s.moveScalar r o 64

/-- MOVSHDUP (R575). -/
def execMovshdup (o : Operands) (s : State) : Host.Outcome State Fault Refusal :=
  s.run Rows.movshdup o fun r => s.vec1 r o 32 fun b j => elem 32 (j / 2 * 2 + 1) b

/-- VMOVSHDUP (R575). -/
def execVmovshdup (o : Operands) (s : State) : Host.Outcome State Fault Refusal :=
  s.run Rows.vmovshdup o fun r => s.vec1 r o 32 fun b j => elem 32 (j / 2 * 2 + 1) b

/-- MOVSLDUP (R576). -/
def execMovsldup (o : Operands) (s : State) : Host.Outcome State Fault Refusal :=
  s.run Rows.movsldup o fun r => s.vec1 r o 32 fun b j => elem 32 (j / 2 * 2) b

/-- VMOVSLDUP (R576). -/
def execVmovsldup (o : Operands) (s : State) : Host.Outcome State Fault Refusal :=
  s.run Rows.vmovsldup o fun r => s.vec1 r o 32 fun b j => elem 32 (j / 2 * 2) b

/-- MOVSS (R577). -/
def execMovss (o : Operands) (s : State) : Host.Outcome State Fault Refusal :=
  s.run Rows.movss o fun r => s.moveScalar r o 32

/-- VMOVSS (R577). -/
def execVmovss (o : Operands) (s : State) : Host.Outcome State Fault Refusal :=
  s.run Rows.vmovss o fun r => s.moveScalar r o 32

/-- MOVUPD (R578). -/
def execMovupd (o : Operands) (s : State) : Host.Outcome State Fault Refusal :=
  s.run Rows.movupd o fun r => s.moveFull r o false 64

/-- VMOVUPD (R578). -/
def execVmovupd (o : Operands) (s : State) : Host.Outcome State Fault Refusal :=
  s.run Rows.vmovupd o fun r => s.moveFull r o false 64

/-- MOVUPS (R579). -/
def execMovups (o : Operands) (s : State) : Host.Outcome State Fault Refusal :=
  s.run Rows.movups o fun r => s.moveFull r o false 32

/-- VMOVUPS (R579). -/
def execVmovups (o : Operands) (s : State) : Host.Outcome State Fault Refusal :=
  s.run Rows.vmovups o fun r => s.moveFull r o false 32

end Sys2Proof.Machine
end

