-- ==== Sys2Proof/Machine/Rows49.lean ====
section
/-! DEFINITION. The rows of spec/opcode_table.json for the instructions of spec/49_psadbw_to_vpconflict.md (PSADBW to VPCONFLICT), in the order of the table:
space, map, pp, W, L, opcode, roles of ModRM.reg, vvvv and r/m, mod, VSIB, imm8, r/m is the destination, masking, broadcast
bytes, rounding, tuple, CPUID flags, exception class, alignment, 64-bit mode only. -/

namespace Sys2Proof.Machine.Rows

/-- PSADBW (R602) -/
def psadbw : List Row :=
  [⟨.legacy, .m0F, .p66, .wig, .any, 0xF6, .vec, .none, .vec, .any, false, false, false, .none, 0, .none, .fixed 1, [.sse2], .sse 4, true, false⟩]

/-- VPSADBW (R602) -/
def vpsadbw : List Row :=
  [⟨.vex, .m0F, .p66, .wig, .l128, 0xF6, .vec, .vec, .vec, .any, false, false, false, .none, 0, .none, .fixed 1, [.avx], .vex 4, false, false⟩,
   ⟨.vex, .m0F, .p66, .wig, .l256, 0xF6, .vec, .vec, .vec, .any, false, false, false, .none, 0, .none, .fixed 1, [.avx2], .vex 4, false, false⟩,
   ⟨.evex, .m0F, .p66, .wig, .l128, 0xF6, .vec, .vec, .vec, .any, false, false, false, .none, 0, .none, .fvm, [.avx512vl, .avx512bw], .e4nf, false, false⟩,
   ⟨.evex, .m0F, .p66, .wig, .l256, 0xF6, .vec, .vec, .vec, .any, false, false, false, .none, 0, .none, .fvm, [.avx512vl, .avx512bw], .e4nf, false, false⟩,
   ⟨.evex, .m0F, .p66, .wig, .l512, 0xF6, .vec, .vec, .vec, .any, false, false, false, .none, 0, .none, .fvm, [.avx512bw], .e4nf, false, false⟩]

/-- MULPD (R603) -/
def mulpd : List Row :=
  [⟨.legacy, .m0F, .p66, .wig, .any, 0x59, .vec, .none, .vec, .any, false, false, false, .none, 0, .none, .fixed 1, [.sse2], .sse 2, true, false⟩]

/-- VMULPD (R603) -/
def vmulpd : List Row :=
  [⟨.vex, .m0F, .p66, .wig, .l128, 0x59, .vec, .vec, .vec, .any, false, false, false, .none, 0, .none, .fixed 1, [.avx], .vex 2, false, false⟩,
   ⟨.vex, .m0F, .p66, .wig, .l256, 0x59, .vec, .vec, .vec, .any, false, false, false, .none, 0, .none, .fixed 1, [.avx], .vex 2, false, false⟩,
   ⟨.evex, .m0F, .p66, .w1, .l128, 0x59, .vec, .vec, .vec, .any, false, false, false, .zero, 8, .none, .fv 8, [.avx512vl, .avx512f], .e2, false, false⟩,
   ⟨.evex, .m0F, .p66, .w1, .l256, 0x59, .vec, .vec, .vec, .any, false, false, false, .zero, 8, .none, .fv 8, [.avx512vl, .avx512f], .e2, false, false⟩,
   ⟨.evex, .m0F, .p66, .w1, .l512, 0x59, .vec, .vec, .vec, .any, false, false, false, .zero, 8, .er, .fv 8, [.avx512f], .e2, false, false⟩]

/-- MULPS (R604) -/
def mulps : List Row :=
  [⟨.legacy, .m0F, .np, .wig, .any, 0x59, .vec, .none, .vec, .any, false, false, false, .none, 0, .none, .fixed 1, [.sse], .sse 2, true, false⟩]

/-- VMULPS (R604) -/
def vmulps : List Row :=
  [⟨.vex, .m0F, .np, .wig, .l128, 0x59, .vec, .vec, .vec, .any, false, false, false, .none, 0, .none, .fixed 1, [.avx], .vex 2, false, false⟩,
   ⟨.vex, .m0F, .np, .wig, .l256, 0x59, .vec, .vec, .vec, .any, false, false, false, .none, 0, .none, .fixed 1, [.avx], .vex 2, false, false⟩,
   ⟨.evex, .m0F, .np, .w0, .l128, 0x59, .vec, .vec, .vec, .any, false, false, false, .zero, 4, .none, .fv 4, [.avx512vl, .avx512f], .e2, false, false⟩,
   ⟨.evex, .m0F, .np, .w0, .l256, 0x59, .vec, .vec, .vec, .any, false, false, false, .zero, 4, .none, .fv 4, [.avx512vl, .avx512f], .e2, false, false⟩,
   ⟨.evex, .m0F, .np, .w0, .l512, 0x59, .vec, .vec, .vec, .any, false, false, false, .zero, 4, .er, .fv 4, [.avx512f], .e2, false, false⟩]

/-- MULSD (R605) -/
def mulsd : List Row :=
  [⟨.legacy, .m0F, .pF2, .wig, .any, 0x59, .vec, .none, .vec, .any, false, false, false, .none, 0, .none, .fixed 1, [.sse2], .sse 3, false, false⟩]

/-- VMULSD (R605) -/
def vmulsd : List Row :=
  [⟨.vex, .m0F, .pF2, .wig, .any, 0x59, .vec, .vec, .vec, .any, false, false, false, .none, 0, .none, .fixed 1, [.avx], .vex 3, false, false⟩,
   ⟨.evex, .m0F, .pF2, .w1, .any, 0x59, .vec, .vec, .vec, .any, false, false, false, .zero, 0, .er, .fixed 8, [.avx512f], .e3, false, false⟩]

/-- MULSS (R606) -/
def mulss : List Row :=
  [⟨.legacy, .m0F, .pF3, .wig, .any, 0x59, .vec, .none, .vec, .any, false, false, false, .none, 0, .none, .fixed 1, [.sse], .sse 3, false, false⟩]

/-- VMULSS (R606) -/
def vmulss : List Row :=
  [⟨.vex, .m0F, .pF3, .wig, .any, 0x59, .vec, .vec, .vec, .any, false, false, false, .none, 0, .none, .fixed 1, [.avx], .vex 3, false, false⟩,
   ⟨.evex, .m0F, .pF3, .w0, .any, 0x59, .vec, .vec, .vec, .any, false, false, false, .zero, 0, .er, .fixed 4, [.avx512f], .e3, false, false⟩]

/-- ORPD (R607) -/
def orpd : List Row :=
  [⟨.legacy, .m0F, .p66, .wig, .any, 0x56, .vec, .none, .vec, .any, false, false, false, .none, 0, .none, .fixed 1, [.sse2], .sse 4, true, false⟩]

/-- VORPD (R607) -/
def vorpd : List Row :=
  [⟨.vex, .m0F, .p66, .wig, .l128, 0x56, .vec, .vec, .vec, .any, false, false, false, .none, 0, .none, .fixed 1, [.avx], .vex 4, false, false⟩,
   ⟨.vex, .m0F, .p66, .wig, .l256, 0x56, .vec, .vec, .vec, .any, false, false, false, .none, 0, .none, .fixed 1, [.avx], .vex 4, false, false⟩,
   ⟨.evex, .m0F, .p66, .w1, .l128, 0x56, .vec, .vec, .vec, .any, false, false, false, .zero, 8, .none, .fv 8, [.avx512vl, .avx512dq], .e4, false, false⟩,
   ⟨.evex, .m0F, .p66, .w1, .l256, 0x56, .vec, .vec, .vec, .any, false, false, false, .zero, 8, .none, .fv 8, [.avx512vl, .avx512dq], .e4, false, false⟩,
   ⟨.evex, .m0F, .p66, .w1, .l512, 0x56, .vec, .vec, .vec, .any, false, false, false, .zero, 8, .none, .fv 8, [.avx512dq], .e4, false, false⟩]

/-- ORPS (R608) -/
def orps : List Row :=
  [⟨.legacy, .m0F, .np, .wig, .any, 0x56, .vec, .none, .vec, .any, false, false, false, .none, 0, .none, .fixed 1, [.sse], .sse 4, true, false⟩]

/-- VORPS (R608) -/
def vorps : List Row :=
  [⟨.vex, .m0F, .np, .wig, .l128, 0x56, .vec, .vec, .vec, .any, false, false, false, .none, 0, .none, .fixed 1, [.avx], .vex 4, false, false⟩,
   ⟨.vex, .m0F, .np, .wig, .l256, 0x56, .vec, .vec, .vec, .any, false, false, false, .none, 0, .none, .fixed 1, [.avx], .vex 4, false, false⟩,
   ⟨.evex, .m0F, .np, .w0, .l128, 0x56, .vec, .vec, .vec, .any, false, false, false, .zero, 4, .none, .fv 4, [.avx512vl, .avx512dq], .e4, false, false⟩,
   ⟨.evex, .m0F, .np, .w0, .l256, 0x56, .vec, .vec, .vec, .any, false, false, false, .zero, 4, .none, .fv 4, [.avx512vl, .avx512dq], .e4, false, false⟩,
   ⟨.evex, .m0F, .np, .w0, .l512, 0x56, .vec, .vec, .vec, .any, false, false, false, .zero, 4, .none, .fv 4, [.avx512dq], .e4, false, false⟩]

/-- PABSB (R609) -/
def pabsb : List Row :=
  [⟨.legacy, .m0F38, .p66, .wig, .any, 0x1C, .vec, .none, .vec, .any, false, false, false, .none, 0, .none, .fixed 1, [.ssse3], .sse 4, true, false⟩]

/-- VPABSB (R609) -/
def vpabsb : List Row :=
  [⟨.vex, .m0F38, .p66, .wig, .l128, 0x1C, .vec, .none, .vec, .any, false, false, false, .none, 0, .none, .fixed 1, [.avx], .vex 4, false, false⟩,
   ⟨.vex, .m0F38, .p66, .wig, .l256, 0x1C, .vec, .none, .vec, .any, false, false, false, .none, 0, .none, .fixed 1, [.avx2], .vex 4, false, false⟩,
   ⟨.evex, .m0F38, .p66, .wig, .l128, 0x1C, .vec, .none, .vec, .any, false, false, false, .zero, 0, .none, .fvm, [.avx512vl, .avx512bw], .e4, false, false⟩,
   ⟨.evex, .m0F38, .p66, .wig, .l256, 0x1C, .vec, .none, .vec, .any, false, false, false, .zero, 0, .none, .fvm, [.avx512vl, .avx512bw], .e4, false, false⟩,
   ⟨.evex, .m0F38, .p66, .wig, .l512, 0x1C, .vec, .none, .vec, .any, false, false, false, .zero, 0, .none, .fvm, [.avx512bw], .e4, false, false⟩]

/-- PABSW (R610) -/
def pabsw : List Row :=
  [⟨.legacy, .m0F38, .p66, .wig, .any, 0x1D, .vec, .none, .vec, .any, false, false, false, .none, 0, .none, .fixed 1, [.ssse3], .sse 4, true, false⟩]

/-- VPABSW (R610) -/
def vpabsw : List Row :=
  [⟨.vex, .m0F38, .p66, .wig, .l128, 0x1D, .vec, .none, .vec, .any, false, false, false, .none, 0, .none, .fixed 1, [.avx], .vex 4, false, false⟩,
   ⟨.vex, .m0F38, .p66, .wig, .l256, 0x1D, .vec, .none, .vec, .any, false, false, false, .none, 0, .none, .fixed 1, [.avx2], .vex 4, false, false⟩,
   ⟨.evex, .m0F38, .p66, .wig, .l128, 0x1D, .vec, .none, .vec, .any, false, false, false, .zero, 0, .none, .fvm, [.avx512vl, .avx512bw], .e4, false, false⟩,
   ⟨.evex, .m0F38, .p66, .wig, .l256, 0x1D, .vec, .none, .vec, .any, false, false, false, .zero, 0, .none, .fvm, [.avx512vl, .avx512bw], .e4, false, false⟩,
   ⟨.evex, .m0F38, .p66, .wig, .l512, 0x1D, .vec, .none, .vec, .any, false, false, false, .zero, 0, .none, .fvm, [.avx512bw], .e4, false, false⟩]

/-- PABSD (R611) -/
def pabsd : List Row :=
  [⟨.legacy, .m0F38, .p66, .wig, .any, 0x1E, .vec, .none, .vec, .any, false, false, false, .none, 0, .none, .fixed 1, [.ssse3], .sse 4, true, false⟩]

/-- VPABSD (R611) -/
def vpabsd : List Row :=
  [⟨.vex, .m0F38, .p66, .wig, .l128, 0x1E, .vec, .none, .vec, .any, false, false, false, .none, 0, .none, .fixed 1, [.avx], .vex 4, false, false⟩,
   ⟨.vex, .m0F38, .p66, .wig, .l256, 0x1E, .vec, .none, .vec, .any, false, false, false, .none, 0, .none, .fixed 1, [.avx2], .vex 4, false, false⟩,
   ⟨.evex, .m0F38, .p66, .w0, .l128, 0x1E, .vec, .none, .vec, .any, false, false, false, .zero, 4, .none, .fv 4, [.avx512vl, .avx512f], .e4, false, false⟩,
   ⟨.evex, .m0F38, .p66, .w0, .l256, 0x1E, .vec, .none, .vec, .any, false, false, false, .zero, 4, .none, .fv 4, [.avx512vl, .avx512f], .e4, false, false⟩,
   ⟨.evex, .m0F38, .p66, .w0, .l512, 0x1E, .vec, .none, .vec, .any, false, false, false, .zero, 4, .none, .fv 4, [.avx512f], .e4, false, false⟩]

/-- VPABSQ (R612) -/
def vpabsq : List Row :=
  [⟨.evex, .m0F38, .p66, .w1, .l128, 0x1F, .vec, .none, .vec, .any, false, false, false, .zero, 8, .none, .fv 8, [.avx512vl, .avx512f], .e4, false, false⟩,
   ⟨.evex, .m0F38, .p66, .w1, .l256, 0x1F, .vec, .none, .vec, .any, false, false, false, .zero, 8, .none, .fv 8, [.avx512vl, .avx512f], .e4, false, false⟩,
   ⟨.evex, .m0F38, .p66, .w1, .l512, 0x1F, .vec, .none, .vec, .any, false, false, false, .zero, 8, .none, .fv 8, [.avx512f], .e4, false, false⟩]

/-- PACKSSWB (R614) -/
def packsswb : List Row :=
  [⟨.legacy, .m0F, .p66, .wig, .any, 0x63, .vec, .none, .vec, .any, false, false, false, .none, 0, .none, .fixed 1, [.sse2], .sse 4, true, false⟩]

/-- VPACKSSWB (R614) -/
def vpacksswb : List Row :=
  [⟨.vex, .m0F, .p66, .wig, .l128, 0x63, .vec, .vec, .vec, .any, false, false, false, .none, 0, .none, .fixed 1, [.avx], .vex 4, false, false⟩,
   ⟨.vex, .m0F, .p66, .wig, .l256, 0x63, .vec, .vec, .vec, .any, false, false, false, .none, 0, .none, .fixed 1, [.avx2], .vex 4, false, false⟩,
   ⟨.evex, .m0F, .p66, .wig, .l128, 0x63, .vec, .vec, .vec, .any, false, false, false, .zero, 0, .none, .fvm, [.avx512vl, .avx512bw], .e4nf, false, false⟩,
   ⟨.evex, .m0F, .p66, .wig, .l256, 0x63, .vec, .vec, .vec, .any, false, false, false, .zero, 0, .none, .fvm, [.avx512vl, .avx512bw], .e4nf, false, false⟩,
   ⟨.evex, .m0F, .p66, .wig, .l512, 0x63, .vec, .vec, .vec, .any, false, false, false, .zero, 0, .none, .fvm, [.avx512bw], .e4nf, false, false⟩]

/-- PACKSSDW (R615) -/
def packssdw : List Row :=
  [⟨.legacy, .m0F, .p66, .wig, .any, 0x6B, .vec, .none, .vec, .any, false, false, false, .none, 0, .none, .fixed 1, [.sse2], .sse 4, true, false⟩]

/-- VPACKSSDW (R615) -/
def vpackssdw : List Row :=
  [⟨.vex, .m0F, .p66, .wig, .l128, 0x6B, .vec, .vec, .vec, .any, false, false, false, .none, 0, .none, .fixed 1, [.avx], .vex 4, false, false⟩,
   ⟨.vex, .m0F, .p66, .wig, .l256, 0x6B, .vec, .vec, .vec, .any, false, false, false, .none, 0, .none, .fixed 1, [.avx2], .vex 4, false, false⟩,
   ⟨.evex, .m0F, .p66, .w0, .l128, 0x6B, .vec, .vec, .vec, .any, false, false, false, .zero, 4, .none, .fv 4, [.avx512vl, .avx512bw], .e4nf, false, false⟩,
   ⟨.evex, .m0F, .p66, .w0, .l256, 0x6B, .vec, .vec, .vec, .any, false, false, false, .zero, 4, .none, .fv 4, [.avx512vl, .avx512bw], .e4nf, false, false⟩,
   ⟨.evex, .m0F, .p66, .w0, .l512, 0x6B, .vec, .vec, .vec, .any, false, false, false, .zero, 4, .none, .fv 4, [.avx512bw], .e4nf, false, false⟩]

/-- PACKUSDW (R616) -/
def packusdw : List Row :=
  [⟨.legacy, .m0F38, .p66, .wig, .any, 0x2B, .vec, .none, .vec, .any, false, false, false, .none, 0, .none, .fixed 1, [.sse41], .sse 4, true, false⟩]

/-- VPACKUSDW (R616) -/
def vpackusdw : List Row :=
  [⟨.vex, .m0F38, .p66, .wig, .l128, 0x2B, .vec, .vec, .vec, .any, false, false, false, .none, 0, .none, .fixed 1, [.avx], .vex 4, false, false⟩,
   ⟨.vex, .m0F38, .p66, .wig, .l256, 0x2B, .vec, .vec, .vec, .any, false, false, false, .none, 0, .none, .fixed 1, [.avx2], .vex 4, false, false⟩,
   ⟨.evex, .m0F38, .p66, .w0, .l128, 0x2B, .vec, .vec, .vec, .any, false, false, false, .zero, 4, .none, .fv 4, [.avx512vl, .avx512bw], .e4nf, false, false⟩,
   ⟨.evex, .m0F38, .p66, .w0, .l256, 0x2B, .vec, .vec, .vec, .any, false, false, false, .zero, 4, .none, .fv 4, [.avx512vl, .avx512bw], .e4nf, false, false⟩,
   ⟨.evex, .m0F38, .p66, .w0, .l512, 0x2B, .vec, .vec, .vec, .any, false, false, false, .zero, 4, .none, .fv 4, [.avx512bw], .e4nf, false, false⟩]

/-- PACKUSWB (R617) -/
def packuswb : List Row :=
  [⟨.legacy, .m0F, .p66, .wig, .any, 0x67, .vec, .none, .vec, .any, false, false, false, .none, 0, .none, .fixed 1, [.sse2], .sse 4, true, false⟩]

/-- VPACKUSWB (R617) -/
def vpackuswb : List Row :=
  [⟨.vex, .m0F, .p66, .wig, .l128, 0x67, .vec, .vec, .vec, .any, false, false, false, .none, 0, .none, .fixed 1, [.avx], .vex 4, false, false⟩,
   ⟨.vex, .m0F, .p66, .wig, .l256, 0x67, .vec, .vec, .vec, .any, false, false, false, .none, 0, .none, .fixed 1, [.avx2], .vex 4, false, false⟩,
   ⟨.evex, .m0F, .p66, .wig, .l128, 0x67, .vec, .vec, .vec, .any, false, false, false, .zero, 0, .none, .fvm, [.avx512vl, .avx512bw], .e4nf, false, false⟩,
   ⟨.evex, .m0F, .p66, .wig, .l256, 0x67, .vec, .vec, .vec, .any, false, false, false, .zero, 0, .none, .fvm, [.avx512vl, .avx512bw], .e4nf, false, false⟩,
   ⟨.evex, .m0F, .p66, .wig, .l512, 0x67, .vec, .vec, .vec, .any, false, false, false, .zero, 0, .none, .fvm, [.avx512bw], .e4nf, false, false⟩]

/-- PADDB (R618) -/
def paddb : List Row :=
  [⟨.legacy, .m0F, .p66, .wig, .any, 0xFC, .vec, .none, .vec, .any, false, false, false, .none, 0, .none, .fixed 1, [.sse2], .sse 4, true, false⟩]

/-- VPADDB (R618) -/
def vpaddb : List Row :=
  [⟨.vex, .m0F, .p66, .wig, .l128, 0xFC, .vec, .vec, .vec, .any, false, false, false, .none, 0, .none, .fixed 1, [.avx], .vex 4, false, false⟩,
   ⟨.vex, .m0F, .p66, .wig, .l256, 0xFC, .vec, .vec, .vec, .any, false, false, false, .none, 0, .none, .fixed 1, [.avx2], .vex 4, false, false⟩,
   ⟨.evex, .m0F, .p66, .wig, .l128, 0xFC, .vec, .vec, .vec, .any, false, false, false, .zero, 0, .none, .fvm, [.avx512vl, .avx512bw], .e4, false, false⟩,
   ⟨.evex, .m0F, .p66, .wig, .l256, 0xFC, .vec, .vec, .vec, .any, false, false, false, .zero, 0, .none, .fvm, [.avx512vl, .avx512bw], .e4, false, false⟩,
   ⟨.evex, .m0F, .p66, .wig, .l512, 0xFC, .vec, .vec, .vec, .any, false, false, false, .zero, 0, .none, .fvm, [.avx512bw], .e4, false, false⟩]

/-- PADDW (R619) -/
def paddw : List Row :=
  [⟨.legacy, .m0F, .p66, .wig, .any, 0xFD, .vec, .none, .vec, .any, false, false, false, .none, 0, .none, .fixed 1, [.sse2], .sse 4, true, false⟩]

/-- VPADDW (R619) -/
def vpaddw : List Row :=
  [⟨.vex, .m0F, .p66, .wig, .l128, 0xFD, .vec, .vec, .vec, .any, false, false, false, .none, 0, .none, .fixed 1, [.avx], .vex 4, false, false⟩,
   ⟨.vex, .m0F, .p66, .wig, .l256, 0xFD, .vec, .vec, .vec, .any, false, false, false, .none, 0, .none, .fixed 1, [.avx2], .vex 4, false, false⟩,
   ⟨.evex, .m0F, .p66, .wig, .l128, 0xFD, .vec, .vec, .vec, .any, false, false, false, .zero, 0, .none, .fvm, [.avx512vl, .avx512bw], .e4, false, false⟩,
   ⟨.evex, .m0F, .p66, .wig, .l256, 0xFD, .vec, .vec, .vec, .any, false, false, false, .zero, 0, .none, .fvm, [.avx512vl, .avx512bw], .e4, false, false⟩,
   ⟨.evex, .m0F, .p66, .wig, .l512, 0xFD, .vec, .vec, .vec, .any, false, false, false, .zero, 0, .none, .fvm, [.avx512bw], .e4, false, false⟩]

/-- PADDD (R620) -/
def paddd : List Row :=
  [⟨.legacy, .m0F, .p66, .wig, .any, 0xFE, .vec, .none, .vec, .any, false, false, false, .none, 0, .none, .fixed 1, [.sse2], .sse 4, true, false⟩]

/-- VPADDD (R620) -/
def vpaddd : List Row :=
  [⟨.vex, .m0F, .p66, .wig, .l128, 0xFE, .vec, .vec, .vec, .any, false, false, false, .none, 0, .none, .fixed 1, [.avx], .vex 4, false, false⟩,
   ⟨.vex, .m0F, .p66, .wig, .l256, 0xFE, .vec, .vec, .vec, .any, false, false, false, .none, 0, .none, .fixed 1, [.avx2], .vex 4, false, false⟩,
   ⟨.evex, .m0F, .p66, .w0, .l128, 0xFE, .vec, .vec, .vec, .any, false, false, false, .zero, 4, .none, .fv 4, [.avx512vl, .avx512f], .e4, false, false⟩,
   ⟨.evex, .m0F, .p66, .w0, .l256, 0xFE, .vec, .vec, .vec, .any, false, false, false, .zero, 4, .none, .fv 4, [.avx512vl, .avx512f], .e4, false, false⟩,
   ⟨.evex, .m0F, .p66, .w0, .l512, 0xFE, .vec, .vec, .vec, .any, false, false, false, .zero, 4, .none, .fv 4, [.avx512f], .e4, false, false⟩]

/-- PADDQ (R621) -/
def paddq : List Row :=
  [⟨.legacy, .m0F, .p66, .wig, .any, 0xD4, .vec, .none, .vec, .any, false, false, false, .none, 0, .none, .fixed 1, [.sse2], .sse 4, true, false⟩]

/-- VPADDQ (R621) -/
def vpaddq : List Row :=
  [⟨.vex, .m0F, .p66, .wig, .l128, 0xD4, .vec, .vec, .vec, .any, false, false, false, .none, 0, .none, .fixed 1, [.avx], .vex 4, false, false⟩,
   ⟨.vex, .m0F, .p66, .wig, .l256, 0xD4, .vec, .vec, .vec, .any, false, false, false, .none, 0, .none, .fixed 1, [.avx2], .vex 4, false, false⟩,
   ⟨.evex, .m0F, .p66, .w1, .l128, 0xD4, .vec, .vec, .vec, .any, false, false, false, .zero, 8, .none, .fv 8, [.avx512vl, .avx512f], .e4, false, false⟩,
   ⟨.evex, .m0F, .p66, .w1, .l256, 0xD4, .vec, .vec, .vec, .any, false, false, false, .zero, 8, .none, .fv 8, [.avx512vl, .avx512f], .e4, false, false⟩,
   ⟨.evex, .m0F, .p66, .w1, .l512, 0xD4, .vec, .vec, .vec, .any, false, false, false, .zero, 8, .none, .fv 8, [.avx512f], .e4, false, false⟩]

/-- PADDSB (R622) -/
def paddsb : List Row :=
  [⟨.legacy, .m0F, .p66, .wig, .any, 0xEC, .vec, .none, .vec, .any, false, false, false, .none, 0, .none, .fixed 1, [.sse2], .sse 4, true, false⟩]

/-- VPADDSB (R622) -/
def vpaddsb : List Row :=
  [⟨.vex, .m0F, .p66, .wig, .l128, 0xEC, .vec, .vec, .vec, .any, false, false, false, .none, 0, .none, .fixed 1, [.avx], .vex 4, false, false⟩,
   ⟨.vex, .m0F, .p66, .wig, .l256, 0xEC, .vec, .vec, .vec, .any, false, false, false, .none, 0, .none, .fixed 1, [.avx2], .vex 4, false, false⟩,
   ⟨.evex, .m0F, .p66, .wig, .l128, 0xEC, .vec, .vec, .vec, .any, false, false, false, .zero, 0, .none, .fvm, [.avx512vl, .avx512bw], .e4, false, false⟩,
   ⟨.evex, .m0F, .p66, .wig, .l256, 0xEC, .vec, .vec, .vec, .any, false, false, false, .zero, 0, .none, .fvm, [.avx512vl, .avx512bw], .e4, false, false⟩,
   ⟨.evex, .m0F, .p66, .wig, .l512, 0xEC, .vec, .vec, .vec, .any, false, false, false, .zero, 0, .none, .fvm, [.avx512bw], .e4, false, false⟩]

/-- PADDSW (R623) -/
def paddsw : List Row :=
  [⟨.legacy, .m0F, .p66, .wig, .any, 0xED, .vec, .none, .vec, .any, false, false, false, .none, 0, .none, .fixed 1, [.sse2], .sse 4, true, false⟩]

/-- VPADDSW (R623) -/
def vpaddsw : List Row :=
  [⟨.vex, .m0F, .p66, .wig, .l128, 0xED, .vec, .vec, .vec, .any, false, false, false, .none, 0, .none, .fixed 1, [.avx], .vex 4, false, false⟩,
   ⟨.vex, .m0F, .p66, .wig, .l256, 0xED, .vec, .vec, .vec, .any, false, false, false, .none, 0, .none, .fixed 1, [.avx2], .vex 4, false, false⟩,
   ⟨.evex, .m0F, .p66, .wig, .l128, 0xED, .vec, .vec, .vec, .any, false, false, false, .zero, 0, .none, .fvm, [.avx512vl, .avx512bw], .e4, false, false⟩,
   ⟨.evex, .m0F, .p66, .wig, .l256, 0xED, .vec, .vec, .vec, .any, false, false, false, .zero, 0, .none, .fvm, [.avx512vl, .avx512bw], .e4, false, false⟩,
   ⟨.evex, .m0F, .p66, .wig, .l512, 0xED, .vec, .vec, .vec, .any, false, false, false, .zero, 0, .none, .fvm, [.avx512bw], .e4, false, false⟩]

/-- PADDUSB (R624) -/
def paddusb : List Row :=
  [⟨.legacy, .m0F, .p66, .wig, .any, 0xDC, .vec, .none, .vec, .any, false, false, false, .none, 0, .none, .fixed 1, [.sse2], .sse 4, true, false⟩]

/-- VPADDUSB (R624) -/
def vpaddusb : List Row :=
  [⟨.vex, .m0F, .p66, .wig, .l128, 0xDC, .vec, .vec, .vec, .any, false, false, false, .none, 0, .none, .fixed 1, [.avx], .vex 4, false, false⟩,
   ⟨.vex, .m0F, .p66, .wig, .l256, 0xDC, .vec, .vec, .vec, .any, false, false, false, .none, 0, .none, .fixed 1, [.avx2], .vex 4, false, false⟩,
   ⟨.evex, .m0F, .p66, .wig, .l128, 0xDC, .vec, .vec, .vec, .any, false, false, false, .zero, 0, .none, .fvm, [.avx512vl, .avx512bw], .e4, false, false⟩,
   ⟨.evex, .m0F, .p66, .wig, .l256, 0xDC, .vec, .vec, .vec, .any, false, false, false, .zero, 0, .none, .fvm, [.avx512vl, .avx512bw], .e4, false, false⟩,
   ⟨.evex, .m0F, .p66, .wig, .l512, 0xDC, .vec, .vec, .vec, .any, false, false, false, .zero, 0, .none, .fvm, [.avx512bw], .e4, false, false⟩]

/-- PADDUSW (R625) -/
def paddusw : List Row :=
  [⟨.legacy, .m0F, .p66, .wig, .any, 0xDD, .vec, .none, .vec, .any, false, false, false, .none, 0, .none, .fixed 1, [.sse2], .sse 4, true, false⟩]

/-- VPADDUSW (R625) -/
def vpaddusw : List Row :=
  [⟨.vex, .m0F, .p66, .wig, .l128, 0xDD, .vec, .vec, .vec, .any, false, false, false, .none, 0, .none, .fixed 1, [.avx], .vex 4, false, false⟩,
   ⟨.vex, .m0F, .p66, .wig, .l256, 0xDD, .vec, .vec, .vec, .any, false, false, false, .none, 0, .none, .fixed 1, [.avx2], .vex 4, false, false⟩,
   ⟨.evex, .m0F, .p66, .wig, .l128, 0xDD, .vec, .vec, .vec, .any, false, false, false, .zero, 0, .none, .fvm, [.avx512vl, .avx512bw], .e4, false, false⟩,
   ⟨.evex, .m0F, .p66, .wig, .l256, 0xDD, .vec, .vec, .vec, .any, false, false, false, .zero, 0, .none, .fvm, [.avx512vl, .avx512bw], .e4, false, false⟩,
   ⟨.evex, .m0F, .p66, .wig, .l512, 0xDD, .vec, .vec, .vec, .any, false, false, false, .zero, 0, .none, .fvm, [.avx512bw], .e4, false, false⟩]

/-- PALIGNR (R626) -/
def palignr : List Row :=
  [⟨.legacy, .m0F3A, .p66, .wig, .any, 0x0F, .vec, .none, .vec, .any, false, true, false, .none, 0, .none, .fixed 1, [.ssse3], .sse 4, true, false⟩]

/-- VPALIGNR (R626) -/
def vpalignr : List Row :=
  [⟨.vex, .m0F3A, .p66, .wig, .l128, 0x0F, .vec, .vec, .vec, .any, false, true, false, .none, 0, .none, .fixed 1, [.avx], .vex 4, false, false⟩,
   ⟨.vex, .m0F3A, .p66, .wig, .l256, 0x0F, .vec, .vec, .vec, .any, false, true, false, .none, 0, .none, .fixed 1, [.avx2], .vex 4, false, false⟩,
   ⟨.evex, .m0F3A, .p66, .wig, .l128, 0x0F, .vec, .vec, .vec, .any, false, true, false, .zero, 0, .none, .fvm, [.avx512vl, .avx512bw], .e4nf, false, false⟩,
   ⟨.evex, .m0F3A, .p66, .wig, .l256, 0x0F, .vec, .vec, .vec, .any, false, true, false, .zero, 0, .none, .fvm, [.avx512vl, .avx512bw], .e4nf, false, false⟩,
   ⟨.evex, .m0F3A, .p66, .wig, .l512, 0x0F, .vec, .vec, .vec, .any, false, true, false, .zero, 0, .none, .fvm, [.avx512bw], .e4nf, false, false⟩]

/-- PAND (R627) -/
def pand : List Row :=
  [⟨.legacy, .m0F, .p66, .wig, .any, 0xDB, .vec, .none, .vec, .any, false, false, false, .none, 0, .none, .fixed 1, [.sse2], .sse 4, true, false⟩]

/-- VPAND (R627) -/
def vpand : List Row :=
  [⟨.vex, .m0F, .p66, .wig, .l128, 0xDB, .vec, .vec, .vec, .any, false, false, false, .none, 0, .none, .fixed 1, [.avx], .vex 4, false, false⟩,
   ⟨.vex, .m0F, .p66, .wig, .l256, 0xDB, .vec, .vec, .vec, .any, false, false, false, .none, 0, .none, .fixed 1, [.avx2], .vex 4, false, false⟩]

/-- VPANDD (R628) -/
def vpandd : List Row :=
  [⟨.evex, .m0F, .p66, .w0, .l128, 0xDB, .vec, .vec, .vec, .any, false, false, false, .zero, 4, .none, .fv 4, [.avx512vl, .avx512f], .e4, false, false⟩,
   ⟨.evex, .m0F, .p66, .w0, .l256, 0xDB, .vec, .vec, .vec, .any, false, false, false, .zero, 4, .none, .fv 4, [.avx512vl, .avx512f], .e4, false, false⟩,
   ⟨.evex, .m0F, .p66, .w0, .l512, 0xDB, .vec, .vec, .vec, .any, false, false, false, .zero, 4, .none, .fv 4, [.avx512f], .e4, false, false⟩]

/-- VPANDQ (R629) -/
def vpandq : List Row :=
  [⟨.evex, .m0F, .p66, .w1, .l128, 0xDB, .vec, .vec, .vec, .any, false, false, false, .zero, 8, .none, .fv 8, [.avx512vl, .avx512f], .e4, false, false⟩,
   ⟨.evex, .m0F, .p66, .w1, .l256, 0xDB, .vec, .vec, .vec, .any, false, false, false, .zero, 8, .none, .fv 8, [.avx512vl, .avx512f], .e4, false, false⟩,
   ⟨.evex, .m0F, .p66, .w1, .l512, 0xDB, .vec, .vec, .vec, .any, false, false, false, .zero, 8, .none, .fv 8, [.avx512f], .e4, false, false⟩]

/-- PANDN (R630) -/
def pandn : List Row :=
  [⟨.legacy, .m0F, .p66, .wig, .any, 0xDF, .vec, .none, .vec, .any, false, false, false, .none, 0, .none, .fixed 1, [.sse2], .sse 4, true, false⟩]

/-- VPANDN (R630) -/
def vpandn : List Row :=
  [⟨.vex, .m0F, .p66, .wig, .l128, 0xDF, .vec, .vec, .vec, .any, false, false, false, .none, 0, .none, .fixed 1, [.avx], .vex 4, false, false⟩,
   ⟨.vex, .m0F, .p66, .wig, .l256, 0xDF, .vec, .vec, .vec, .any, false, false, false, .none, 0, .none, .fixed 1, [.avx2], .vex 4, false, false⟩]

/-- VPANDND (R631) -/
def vpandnd : List Row :=
  [⟨.evex, .m0F, .p66, .w0, .l128, 0xDF, .vec, .vec, .vec, .any, false, false, false, .zero, 4, .none, .fv 4, [.avx512vl, .avx512f], .e4, false, false⟩,
   ⟨.evex, .m0F, .p66, .w0, .l256, 0xDF, .vec, .vec, .vec, .any, false, false, false, .zero, 4, .none, .fv 4, [.avx512vl, .avx512f], .e4, false, false⟩,
   ⟨.evex, .m0F, .p66, .w0, .l512, 0xDF, .vec, .vec, .vec, .any, false, false, false, .zero, 4, .none, .fv 4, [.avx512f], .e4, false, false⟩]

/-- VPANDNQ (R632) -/
def vpandnq : List Row :=
  [⟨.evex, .m0F, .p66, .w1, .l128, 0xDF, .vec, .vec, .vec, .any, false, false, false, .zero, 8, .none, .fv 8, [.avx512vl, .avx512f], .e4, false, false⟩,
   ⟨.evex, .m0F, .p66, .w1, .l256, 0xDF, .vec, .vec, .vec, .any, false, false, false, .zero, 8, .none, .fv 8, [.avx512vl, .avx512f], .e4, false, false⟩,
   ⟨.evex, .m0F, .p66, .w1, .l512, 0xDF, .vec, .vec, .vec, .any, false, false, false, .zero, 8, .none, .fv 8, [.avx512f], .e4, false, false⟩]

/-- PAVGB (R633) -/
def pavgb : List Row :=
  [⟨.legacy, .m0F, .p66, .wig, .any, 0xE0, .vec, .none, .vec, .any, false, false, false, .none, 0, .none, .fixed 1, [.sse2], .sse 4, true, false⟩]

/-- VPAVGB (R633) -/
def vpavgb : List Row :=
  [⟨.vex, .m0F, .p66, .wig, .l128, 0xE0, .vec, .vec, .vec, .any, false, false, false, .none, 0, .none, .fixed 1, [.avx], .vex 4, false, false⟩,
   ⟨.vex, .m0F, .p66, .wig, .l256, 0xE0, .vec, .vec, .vec, .any, false, false, false, .none, 0, .none, .fixed 1, [.avx2], .vex 4, false, false⟩,
   ⟨.evex, .m0F, .p66, .wig, .l128, 0xE0, .vec, .vec, .vec, .any, false, false, false, .zero, 0, .none, .fvm, [.avx512vl, .avx512bw], .e4, false, false⟩,
   ⟨.evex, .m0F, .p66, .wig, .l256, 0xE0, .vec, .vec, .vec, .any, false, false, false, .zero, 0, .none, .fvm, [.avx512vl, .avx512bw], .e4, false, false⟩,
   ⟨.evex, .m0F, .p66, .wig, .l512, 0xE0, .vec, .vec, .vec, .any, false, false, false, .zero, 0, .none, .fvm, [.avx512bw], .e4, false, false⟩]

/-- PAVGW (R634) -/
def pavgw : List Row :=
  [⟨.legacy, .m0F, .p66, .wig, .any, 0xE3, .vec, .none, .vec, .any, false, false, false, .none, 0, .none, .fixed 1, [.sse2], .sse 4, true, false⟩]

/-- VPAVGW (R634) -/
def vpavgw : List Row :=
  [⟨.vex, .m0F, .p66, .wig, .l128, 0xE3, .vec, .vec, .vec, .any, false, false, false, .none, 0, .none, .fixed 1, [.avx], .vex 4, false, false⟩,
   ⟨.vex, .m0F, .p66, .wig, .l256, 0xE3, .vec, .vec, .vec, .any, false, false, false, .none, 0, .none, .fixed 1, [.avx2], .vex 4, false, false⟩,
   ⟨.evex, .m0F, .p66, .wig, .l128, 0xE3, .vec, .vec, .vec, .any, false, false, false, .zero, 0, .none, .fvm, [.avx512vl, .avx512bw], .e4, false, false⟩,
   ⟨.evex, .m0F, .p66, .wig, .l256, 0xE3, .vec, .vec, .vec, .any, false, false, false, .zero, 0, .none, .fvm, [.avx512vl, .avx512bw], .e4, false, false⟩,
   ⟨.evex, .m0F, .p66, .wig, .l512, 0xE3, .vec, .vec, .vec, .any, false, false, false, .zero, 0, .none, .fvm, [.avx512bw], .e4, false, false⟩]

/-- VPBROADCASTMB2Q (R635) -/
def vpbroadcastmb2q : List Row :=
  [⟨.evex, .m0F38, .pF3, .w1, .l128, 0x2A, .vec, .none, .kreg, .reg, false, false, false, .none, 0, .none, .fixed 1, [.avx512vl, .avx512cd], .e6nf, false, false⟩,
   ⟨.evex, .m0F38, .pF3, .w1, .l256, 0x2A, .vec, .none, .kreg, .reg, false, false, false, .none, 0, .none, .fixed 1, [.avx512vl, .avx512cd], .e6nf, false, false⟩,
   ⟨.evex, .m0F38, .pF3, .w1, .l512, 0x2A, .vec, .none, .kreg, .reg, false, false, false, .none, 0, .none, .fixed 1, [.avx512cd], .e6nf, false, false⟩]

/-- VPBROADCASTMW2D (R636) -/
def vpbroadcastmw2d : List Row :=
  [⟨.evex, .m0F38, .pF3, .w0, .l128, 0x3A, .vec, .none, .kreg, .reg, false, false, false, .none, 0, .none, .fixed 1, [.avx512vl, .avx512cd], .e6nf, false, false⟩,
   ⟨.evex, .m0F38, .pF3, .w0, .l256, 0x3A, .vec, .none, .kreg, .reg, false, false, false, .none, 0, .none, .fixed 1, [.avx512vl, .avx512cd], .e6nf, false, false⟩,
   ⟨.evex, .m0F38, .pF3, .w0, .l512, 0x3A, .vec, .none, .kreg, .reg, false, false, false, .none, 0, .none, .fixed 1, [.avx512cd], .e6nf, false, false⟩]

/-- PCMPEQB (R638) -/
def pcmpeqb : List Row :=
  [⟨.legacy, .m0F, .p66, .wig, .any, 0x74, .vec, .none, .vec, .any, false, false, false, .none, 0, .none, .fixed 1, [.sse2], .sse 4, true, false⟩]

/-- VPCMPEQB (R638) -/
def vpcmpeqb : List Row :=
  [⟨.vex, .m0F, .p66, .wig, .l128, 0x74, .vec, .vec, .vec, .any, false, false, false, .none, 0, .none, .fixed 1, [.avx], .vex 4, false, false⟩,
   ⟨.vex, .m0F, .p66, .wig, .l256, 0x74, .vec, .vec, .vec, .any, false, false, false, .none, 0, .none, .fixed 1, [.avx2], .vex 4, false, false⟩,
   ⟨.evex, .m0F, .p66, .wig, .l128, 0x74, .kreg, .vec, .vec, .any, false, false, false, .merge, 0, .none, .fvm, [.avx512vl, .avx512bw], .e4, false, false⟩,
   ⟨.evex, .m0F, .p66, .wig, .l256, 0x74, .kreg, .vec, .vec, .any, false, false, false, .merge, 0, .none, .fvm, [.avx512vl, .avx512bw], .e4, false, false⟩,
   ⟨.evex, .m0F, .p66, .wig, .l512, 0x74, .kreg, .vec, .vec, .any, false, false, false, .merge, 0, .none, .fvm, [.avx512bw], .e4, false, false⟩]

/-- PCMPEQW (R639) -/
def pcmpeqw : List Row :=
  [⟨.legacy, .m0F, .p66, .wig, .any, 0x75, .vec, .none, .vec, .any, false, false, false, .none, 0, .none, .fixed 1, [.sse2], .sse 4, true, false⟩]

/-- VPCMPEQW (R639) -/
def vpcmpeqw : List Row :=
  [⟨.vex, .m0F, .p66, .wig, .l128, 0x75, .vec, .vec, .vec, .any, false, false, false, .none, 0, .none, .fixed 1, [.avx], .vex 4, false, false⟩,
   ⟨.vex, .m0F, .p66, .wig, .l256, 0x75, .vec, .vec, .vec, .any, false, false, false, .none, 0, .none, .fixed 1, [.avx2], .vex 4, false, false⟩,
   ⟨.evex, .m0F, .p66, .wig, .l128, 0x75, .kreg, .vec, .vec, .any, false, false, false, .merge, 0, .none, .fvm, [.avx512vl, .avx512bw], .e4, false, false⟩,
   ⟨.evex, .m0F, .p66, .wig, .l256, 0x75, .kreg, .vec, .vec, .any, false, false, false, .merge, 0, .none, .fvm, [.avx512vl, .avx512bw], .e4, false, false⟩,
   ⟨.evex, .m0F, .p66, .wig, .l512, 0x75, .kreg, .vec, .vec, .any, false, false, false, .merge, 0, .none, .fvm, [.avx512bw], .e4, false, false⟩]

/-- PCMPEQD (R640) -/
def pcmpeqd : List Row :=
  [⟨.legacy, .m0F, .p66, .wig, .any, 0x76, .vec, .none, .vec, .any, false, false, false, .none, 0, .none, .fixed 1, [.sse2], .sse 4, true, false⟩]

/-- VPCMPEQD (R640) -/
def vpcmpeqd : List Row :=
  [⟨.vex, .m0F, .p66, .wig, .l128, 0x76, .vec, .vec, .vec, .any, false, false, false, .none, 0, .none, .fixed 1, [.avx], .vex 4, false, false⟩,
   ⟨.vex, .m0F, .p66, .wig, .l256, 0x76, .vec, .vec, .vec, .any, false, false, false, .none, 0, .none, .fixed 1, [.avx2], .vex 4, false, false⟩,
   ⟨.evex, .m0F, .p66, .w0, .l128, 0x76, .kreg, .vec, .vec, .any, false, false, false, .merge, 4, .none, .fv 4, [.avx512vl, .avx512f], .e4, false, false⟩,
   ⟨.evex, .m0F, .p66, .w0, .l256, 0x76, .kreg, .vec, .vec, .any, false, false, false, .merge, 4, .none, .fv 4, [.avx512vl, .avx512f], .e4, false, false⟩,
   ⟨.evex, .m0F, .p66, .w0, .l512, 0x76, .kreg, .vec, .vec, .any, false, false, false, .merge, 4, .none, .fv 4, [.avx512f], .e4, false, false⟩]

/-- PCMPEQQ (R641) -/
def pcmpeqq : List Row :=
  [⟨.legacy, .m0F38, .p66, .wig, .any, 0x29, .vec, .none, .vec, .any, false, false, false, .none, 0, .none, .fixed 1, [.sse41], .sse 4, true, false⟩]

/-- VPCMPEQQ (R641) -/
def vpcmpeqq : List Row :=
  [⟨.vex, .m0F38, .p66, .wig, .l128, 0x29, .vec, .vec, .vec, .any, false, false, false, .none, 0, .none, .fixed 1, [.avx], .vex 4, false, false⟩,
   ⟨.vex, .m0F38, .p66, .wig, .l256, 0x29, .vec, .vec, .vec, .any, false, false, false, .none, 0, .none, .fixed 1, [.avx2], .vex 4, false, false⟩,
   ⟨.evex, .m0F38, .p66, .w1, .l128, 0x29, .kreg, .vec, .vec, .any, false, false, false, .merge, 8, .none, .fv 8, [.avx512vl, .avx512f], .e4, false, false⟩,
   ⟨.evex, .m0F38, .p66, .w1, .l256, 0x29, .kreg, .vec, .vec, .any, false, false, false, .merge, 8, .none, .fv 8, [.avx512vl, .avx512f], .e4, false, false⟩,
   ⟨.evex, .m0F38, .p66, .w1, .l512, 0x29, .kreg, .vec, .vec, .any, false, false, false, .merge, 8, .none, .fv 8, [.avx512f], .e4, false, false⟩]

/-- PCMPGTB (R642) -/
def pcmpgtb : List Row :=
  [⟨.legacy, .m0F, .p66, .wig, .any, 0x64, .vec, .none, .vec, .any, false, false, false, .none, 0, .none, .fixed 1, [.sse2], .sse 4, true, false⟩]

/-- VPCMPGTB (R642) -/
def vpcmpgtb : List Row :=
  [⟨.vex, .m0F, .p66, .wig, .l128, 0x64, .vec, .vec, .vec, .any, false, false, false, .none, 0, .none, .fixed 1, [.avx], .vex 4, false, false⟩,
   ⟨.vex, .m0F, .p66, .wig, .l256, 0x64, .vec, .vec, .vec, .any, false, false, false, .none, 0, .none, .fixed 1, [.avx2], .vex 4, false, false⟩,
   ⟨.evex, .m0F, .p66, .wig, .l128, 0x64, .kreg, .vec, .vec, .any, false, false, false, .merge, 0, .none, .fvm, [.avx512vl, .avx512bw], .e4, false, false⟩,
   ⟨.evex, .m0F, .p66, .wig, .l256, 0x64, .kreg, .vec, .vec, .any, false, false, false, .merge, 0, .none, .fvm, [.avx512vl, .avx512bw], .e4, false, false⟩,
   ⟨.evex, .m0F, .p66, .wig, .l512, 0x64, .kreg, .vec, .vec, .any, false, false, false, .merge, 0, .none, .fvm, [.avx512bw], .e4, false, false⟩]

/-- PCMPGTW (R643) -/
def pcmpgtw : List Row :=
  [⟨.legacy, .m0F, .p66, .wig, .any, 0x65, .vec, .none, .vec, .any, false, false, false, .none, 0, .none, .fixed 1, [.sse2], .sse 4, true, false⟩]

/-- VPCMPGTW (R643) -/
def vpcmpgtw : List Row :=
  [⟨.vex, .m0F, .p66, .wig, .l128, 0x65, .vec, .vec, .vec, .any, false, false, false, .none, 0, .none, .fixed 1, [.avx], .vex 4, false, false⟩,
   ⟨.vex, .m0F, .p66, .wig, .l256, 0x65, .vec, .vec, .vec, .any, false, false, false, .none, 0, .none, .fixed 1, [.avx2], .vex 4, false, false⟩,
   ⟨.evex, .m0F, .p66, .wig, .l128, 0x65, .kreg, .vec, .vec, .any, false, false, false, .merge, 0, .none, .fvm, [.avx512vl, .avx512bw], .e4, false, false⟩,
   ⟨.evex, .m0F, .p66, .wig, .l256, 0x65, .kreg, .vec, .vec, .any, false, false, false, .merge, 0, .none, .fvm, [.avx512vl, .avx512bw], .e4, false, false⟩,
   ⟨.evex, .m0F, .p66, .wig, .l512, 0x65, .kreg, .vec, .vec, .any, false, false, false, .merge, 0, .none, .fvm, [.avx512bw], .e4, false, false⟩]

/-- PCMPGTD (R644) -/
def pcmpgtd : List Row :=
  [⟨.legacy, .m0F, .p66, .wig, .any, 0x66, .vec, .none, .vec, .any, false, false, false, .none, 0, .none, .fixed 1, [.sse2], .sse 4, true, false⟩]

/-- VPCMPGTD (R644) -/
def vpcmpgtd : List Row :=
  [⟨.vex, .m0F, .p66, .wig, .l128, 0x66, .vec, .vec, .vec, .any, false, false, false, .none, 0, .none, .fixed 1, [.avx], .vex 4, false, false⟩,
   ⟨.vex, .m0F, .p66, .wig, .l256, 0x66, .vec, .vec, .vec, .any, false, false, false, .none, 0, .none, .fixed 1, [.avx2], .vex 4, false, false⟩,
   ⟨.evex, .m0F, .p66, .w0, .l128, 0x66, .kreg, .vec, .vec, .any, false, false, false, .merge, 4, .none, .fv 4, [.avx512vl, .avx512f], .e4, false, false⟩,
   ⟨.evex, .m0F, .p66, .w0, .l256, 0x66, .kreg, .vec, .vec, .any, false, false, false, .merge, 4, .none, .fv 4, [.avx512vl, .avx512f], .e4, false, false⟩,
   ⟨.evex, .m0F, .p66, .w0, .l512, 0x66, .kreg, .vec, .vec, .any, false, false, false, .merge, 4, .none, .fv 4, [.avx512f], .e4, false, false⟩]

/-- PCMPGTQ (R645) -/
def pcmpgtq : List Row :=
  [⟨.legacy, .m0F38, .p66, .wig, .any, 0x37, .vec, .none, .vec, .any, false, false, false, .none, 0, .none, .fixed 1, [.sse42], .sse 4, true, false⟩]

/-- VPCMPGTQ (R645) -/
def vpcmpgtq : List Row :=
  [⟨.vex, .m0F38, .p66, .wig, .l128, 0x37, .vec, .vec, .vec, .any, false, false, false, .none, 0, .none, .fixed 1, [.avx], .vex 4, false, false⟩,
   ⟨.vex, .m0F38, .p66, .wig, .l256, 0x37, .vec, .vec, .vec, .any, false, false, false, .none, 0, .none, .fixed 1, [.avx2], .vex 4, false, false⟩,
   ⟨.evex, .m0F38, .p66, .w1, .l128, 0x37, .kreg, .vec, .vec, .any, false, false, false, .merge, 8, .none, .fv 8, [.avx512vl, .avx512f], .e4, false, false⟩,
   ⟨.evex, .m0F38, .p66, .w1, .l256, 0x37, .kreg, .vec, .vec, .any, false, false, false, .merge, 8, .none, .fv 8, [.avx512vl, .avx512f], .e4, false, false⟩,
   ⟨.evex, .m0F38, .p66, .w1, .l512, 0x37, .kreg, .vec, .vec, .any, false, false, false, .merge, 8, .none, .fv 8, [.avx512f], .e4, false, false⟩]

/-- VPCMPB (R647) -/
def vpcmpb : List Row :=
  [⟨.evex, .m0F3A, .p66, .w0, .l128, 0x3F, .kreg, .vec, .vec, .any, false, true, false, .merge, 0, .none, .fvm, [.avx512vl, .avx512bw], .e4, false, false⟩,
   ⟨.evex, .m0F3A, .p66, .w0, .l256, 0x3F, .kreg, .vec, .vec, .any, false, true, false, .merge, 0, .none, .fvm, [.avx512vl, .avx512bw], .e4, false, false⟩,
   ⟨.evex, .m0F3A, .p66, .w0, .l512, 0x3F, .kreg, .vec, .vec, .any, false, true, false, .merge, 0, .none, .fvm, [.avx512bw], .e4, false, false⟩]

/-- VPCMPUB (R648) -/
def vpcmpub : List Row :=
  [⟨.evex, .m0F3A, .p66, .w0, .l128, 0x3E, .kreg, .vec, .vec, .any, false, true, false, .merge, 0, .none, .fvm, [.avx512vl, .avx512bw], .e4, false, false⟩,
   ⟨.evex, .m0F3A, .p66, .w0, .l256, 0x3E, .kreg, .vec, .vec, .any, false, true, false, .merge, 0, .none, .fvm, [.avx512vl, .avx512bw], .e4, false, false⟩,
   ⟨.evex, .m0F3A, .p66, .w0, .l512, 0x3E, .kreg, .vec, .vec, .any, false, true, false, .merge, 0, .none, .fvm, [.avx512bw], .e4, false, false⟩]

/-- VPCMPD (R649) -/
def vpcmpd : List Row :=
  [⟨.evex, .m0F3A, .p66, .w0, .l128, 0x1F, .kreg, .vec, .vec, .any, false, true, false, .merge, 4, .none, .fv 4, [.avx512vl, .avx512f], .e4, false, false⟩,
   ⟨.evex, .m0F3A, .p66, .w0, .l256, 0x1F, .kreg, .vec, .vec, .any, false, true, false, .merge, 4, .none, .fv 4, [.avx512vl, .avx512f], .e4, false, false⟩,
   ⟨.evex, .m0F3A, .p66, .w0, .l512, 0x1F, .kreg, .vec, .vec, .any, false, true, false, .merge, 4, .none, .fv 4, [.avx512f], .e4, false, false⟩]

/-- VPCMPUD (R650) -/
def vpcmpud : List Row :=
  [⟨.evex, .m0F3A, .p66, .w0, .l128, 0x1E, .kreg, .vec, .vec, .any, false, true, false, .merge, 4, .none, .fv 4, [.avx512vl, .avx512f], .e4, false, false⟩,
   ⟨.evex, .m0F3A, .p66, .w0, .l256, 0x1E, .kreg, .vec, .vec, .any, false, true, false, .merge, 4, .none, .fv 4, [.avx512vl, .avx512f], .e4, false, false⟩,
   ⟨.evex, .m0F3A, .p66, .w0, .l512, 0x1E, .kreg, .vec, .vec, .any, false, true, false, .merge, 4, .none, .fv 4, [.avx512f], .e4, false, false⟩]

/-- VPCMPQ (R651) -/
def vpcmpq : List Row :=
  [⟨.evex, .m0F3A, .p66, .w1, .l128, 0x1F, .kreg, .vec, .vec, .any, false, true, false, .merge, 8, .none, .fv 8, [.avx512vl, .avx512f], .e4, false, false⟩,
   ⟨.evex, .m0F3A, .p66, .w1, .l256, 0x1F, .kreg, .vec, .vec, .any, false, true, false, .merge, 8, .none, .fv 8, [.avx512vl, .avx512f], .e4, false, false⟩,
   ⟨.evex, .m0F3A, .p66, .w1, .l512, 0x1F, .kreg, .vec, .vec, .any, false, true, false, .merge, 8, .none, .fv 8, [.avx512f], .e4, false, false⟩]

/-- VPCMPUQ (R652) -/
def vpcmpuq : List Row :=
  [⟨.evex, .m0F3A, .p66, .w1, .l128, 0x1E, .kreg, .vec, .vec, .any, false, true, false, .merge, 8, .none, .fv 8, [.avx512vl, .avx512f], .e4, false, false⟩,
   ⟨.evex, .m0F3A, .p66, .w1, .l256, 0x1E, .kreg, .vec, .vec, .any, false, true, false, .merge, 8, .none, .fv 8, [.avx512vl, .avx512f], .e4, false, false⟩,
   ⟨.evex, .m0F3A, .p66, .w1, .l512, 0x1E, .kreg, .vec, .vec, .any, false, true, false, .merge, 8, .none, .fv 8, [.avx512f], .e4, false, false⟩]

/-- VPCMPW (R653) -/
def vpcmpw : List Row :=
  [⟨.evex, .m0F3A, .p66, .w1, .l128, 0x3F, .kreg, .vec, .vec, .any, false, true, false, .merge, 0, .none, .fvm, [.avx512vl, .avx512bw], .e4, false, false⟩,
   ⟨.evex, .m0F3A, .p66, .w1, .l256, 0x3F, .kreg, .vec, .vec, .any, false, true, false, .merge, 0, .none, .fvm, [.avx512vl, .avx512bw], .e4, false, false⟩,
   ⟨.evex, .m0F3A, .p66, .w1, .l512, 0x3F, .kreg, .vec, .vec, .any, false, true, false, .merge, 0, .none, .fvm, [.avx512bw], .e4, false, false⟩]

/-- VPCMPUW (R654) -/
def vpcmpuw : List Row :=
  [⟨.evex, .m0F3A, .p66, .w1, .l128, 0x3E, .kreg, .vec, .vec, .any, false, true, false, .merge, 0, .none, .fvm, [.avx512vl, .avx512bw], .e4, false, false⟩,
   ⟨.evex, .m0F3A, .p66, .w1, .l256, 0x3E, .kreg, .vec, .vec, .any, false, true, false, .merge, 0, .none, .fvm, [.avx512vl, .avx512bw], .e4, false, false⟩,
   ⟨.evex, .m0F3A, .p66, .w1, .l512, 0x3E, .kreg, .vec, .vec, .any, false, true, false, .merge, 0, .none, .fvm, [.avx512bw], .e4, false, false⟩]

/-- VPCOMPRESSD (R655) -/
def vpcompressd : List Row :=
  [⟨.evex, .m0F38, .p66, .w0, .l128, 0x8B, .vec, .none, .vec, .any, false, false, true, .zero, 0, .none, .fixed 4, [.avx512vl, .avx512f], .e4, false, false⟩,
   ⟨.evex, .m0F38, .p66, .w0, .l256, 0x8B, .vec, .none, .vec, .any, false, false, true, .zero, 0, .none, .fixed 4, [.avx512vl, .avx512f], .e4, false, false⟩,
   ⟨.evex, .m0F38, .p66, .w0, .l512, 0x8B, .vec, .none, .vec, .any, false, false, true, .zero, 0, .none, .fixed 4, [.avx512f], .e4, false, false⟩]

/-- VPCOMPRESSQ (R656) -/
def vpcompressq : List Row :=
  [⟨.evex, .m0F38, .p66, .w1, .l128, 0x8B, .vec, .none, .vec, .any, false, false, true, .zero, 0, .none, .fixed 8, [.avx512vl, .avx512f], .e4, false, false⟩,
   ⟨.evex, .m0F38, .p66, .w1, .l256, 0x8B, .vec, .none, .vec, .any, false, false, true, .zero, 0, .none, .fixed 8, [.avx512vl, .avx512f], .e4, false, false⟩,
   ⟨.evex, .m0F38, .p66, .w1, .l512, 0x8B, .vec, .none, .vec, .any, false, false, true, .zero, 0, .none, .fixed 8, [.avx512f], .e4, false, false⟩]

/-- VPCONFLICTD (R657) -/
def vpconflictd : List Row :=
  [⟨.evex, .m0F38, .p66, .w0, .l128, 0xC4, .vec, .none, .vec, .any, false, false, false, .zero, 4, .none, .fv 4, [.avx512vl, .avx512cd], .e4, false, false⟩,
   ⟨.evex, .m0F38, .p66, .w0, .l256, 0xC4, .vec, .none, .vec, .any, false, false, false, .zero, 4, .none, .fv 4, [.avx512vl, .avx512cd], .e4, false, false⟩,
   ⟨.evex, .m0F38, .p66, .w0, .l512, 0xC4, .vec, .none, .vec, .any, false, false, false, .zero, 4, .none, .fv 4, [.avx512cd], .e4, false, false⟩]

/-- VPCONFLICTQ (R658) -/
def vpconflictq : List Row :=
  [⟨.evex, .m0F38, .p66, .w1, .l128, 0xC4, .vec, .none, .vec, .any, false, false, false, .zero, 8, .none, .fv 8, [.avx512vl, .avx512cd], .e4, false, false⟩,
   ⟨.evex, .m0F38, .p66, .w1, .l256, 0xC4, .vec, .none, .vec, .any, false, false, false, .zero, 8, .none, .fv 8, [.avx512vl, .avx512cd], .e4, false, false⟩,
   ⟨.evex, .m0F38, .p66, .w1, .l512, 0xC4, .vec, .none, .vec, .any, false, false, false, .zero, 8, .none, .fv 8, [.avx512cd], .e4, false, false⟩]

end Sys2Proof.Machine.Rows
end

