-- ==== Sys2Proof/Machine/Exec49.lean ====
section
/-! DEFINITION. The meanings of the instructions of spec/49_psadbw_to_vpconflict.md (PSADBW to VPCONFLICT), one definition each: the checks
of `State.run` on the rows of the instruction, then its operation on the row its fields select. -/

namespace Sys2Proof.Machine

/-- PSADBW (R602). -/
def execPsadbw (o : Operands) (s : State) : Host.Outcome State Fault Refusal :=
  s.run Rows.psadbw o fun r => s.vec2 r o 64 sumAbsDiff

/-- VPSADBW (R602). -/
def execVpsadbw (o : Operands) (s : State) : Host.Outcome State Fault Refusal :=
  s.run Rows.vpsadbw o fun r => s.vec2 r o 64 sumAbsDiff

/-- MULPD (R603). -/
def execMulpd (o : Operands) (s : State) : Host.Outcome State Fault Refusal :=
  s.run Rows.mulpd o fun r => s.fp2 r o f64.mul

/-- VMULPD (R603). -/
def execVmulpd (o : Operands) (s : State) : Host.Outcome State Fault Refusal :=
  s.run Rows.vmulpd o fun r => s.fp2 r o f64.mul

/-- MULPS (R604). -/
def execMulps (o : Operands) (s : State) : Host.Outcome State Fault Refusal :=
  s.run Rows.mulps o fun r => s.fp2 r o f32.mul

/-- VMULPS (R604). -/
def execVmulps (o : Operands) (s : State) : Host.Outcome State Fault Refusal :=
  s.run Rows.vmulps o fun r => s.fp2 r o f32.mul

/-- MULSD (R605). -/
def execMulsd (o : Operands) (s : State) : Host.Outcome State Fault Refusal :=
  s.run Rows.mulsd o fun r => s.fp2s r o f64.mul

/-- VMULSD (R605). -/
def execVmulsd (o : Operands) (s : State) : Host.Outcome State Fault Refusal :=
  s.run Rows.vmulsd o fun r => s.fp2s r o f64.mul

/-- MULSS (R606). -/
def execMulss (o : Operands) (s : State) : Host.Outcome State Fault Refusal :=
  s.run Rows.mulss o fun r => s.fp2s r o f32.mul

/-- VMULSS (R606). -/
def execVmulss (o : Operands) (s : State) : Host.Outcome State Fault Refusal :=
  s.run Rows.vmulss o fun r => s.fp2s r o f32.mul

/-- ORPD (R607). -/
def execOrpd (o : Operands) (s : State) : Host.Outcome State Fault Refusal :=
  s.run Rows.orpd o fun r => s.map2 r o 64 fun a b => a ||| b

/-- VORPD (R607). -/
def execVorpd (o : Operands) (s : State) : Host.Outcome State Fault Refusal :=
  s.run Rows.vorpd o fun r => s.map2 r o 64 fun a b => a ||| b

/-- ORPS (R608). -/
def execOrps (o : Operands) (s : State) : Host.Outcome State Fault Refusal :=
  s.run Rows.orps o fun r => s.map2 r o 32 fun a b => a ||| b

/-- VORPS (R608). -/
def execVorps (o : Operands) (s : State) : Host.Outcome State Fault Refusal :=
  s.run Rows.vorps o fun r => s.map2 r o 32 fun a b => a ||| b

/-- PABSB (R609). -/
def execPabsb (o : Operands) (s : State) : Host.Outcome State Fault Refusal :=
  s.run Rows.pabsb o fun r => s.map1 r o 8 absBits

/-- VPABSB (R609). -/
def execVpabsb (o : Operands) (s : State) : Host.Outcome State Fault Refusal :=
  s.run Rows.vpabsb o fun r => s.map1 r o 8 absBits

/-- PABSW (R610). -/
def execPabsw (o : Operands) (s : State) : Host.Outcome State Fault Refusal :=
  s.run Rows.pabsw o fun r => s.map1 r o 16 absBits

/-- VPABSW (R610). -/
def execVpabsw (o : Operands) (s : State) : Host.Outcome State Fault Refusal :=
  s.run Rows.vpabsw o fun r => s.map1 r o 16 absBits

/-- PABSD (R611). -/
def execPabsd (o : Operands) (s : State) : Host.Outcome State Fault Refusal :=
  s.run Rows.pabsd o fun r => s.map1 r o 32 absBits

/-- VPABSD (R611). -/
def execVpabsd (o : Operands) (s : State) : Host.Outcome State Fault Refusal :=
  s.run Rows.vpabsd o fun r => s.map1 r o 32 absBits

/-- VPABSQ (R612). -/
def execVpabsq (o : Operands) (s : State) : Host.Outcome State Fault Refusal :=
  s.run Rows.vpabsq o fun r => s.map1 r o 64 absBits

/-- PACKSSWB (R614). -/
def execPacksswb (o : Operands) (s : State) : Host.Outcome State Fault Refusal :=
  s.run Rows.packsswb o fun r => s.vec2 r o 8 (packLanes 16 fun x => satS 8 x.toInt)

/-- VPACKSSWB (R614). -/
def execVpacksswb (o : Operands) (s : State) : Host.Outcome State Fault Refusal :=
  s.run Rows.vpacksswb o fun r => s.vec2 r o 8 (packLanes 16 fun x => satS 8 x.toInt)

/-- PACKSSDW (R615). -/
def execPackssdw (o : Operands) (s : State) : Host.Outcome State Fault Refusal :=
  s.run Rows.packssdw o fun r => s.vec2 r o 16 (packLanes 32 fun x => satS 16 x.toInt)

/-- VPACKSSDW (R615). -/
def execVpackssdw (o : Operands) (s : State) : Host.Outcome State Fault Refusal :=
  s.run Rows.vpackssdw o fun r => s.vec2 r o 16 (packLanes 32 fun x => satS 16 x.toInt)

/-- PACKUSDW (R616). -/
def execPackusdw (o : Operands) (s : State) : Host.Outcome State Fault Refusal :=
  s.run Rows.packusdw o fun r => s.vec2 r o 16 (packLanes 32 fun x => satU 16 x.toInt)

/-- VPACKUSDW (R616). -/
def execVpackusdw (o : Operands) (s : State) : Host.Outcome State Fault Refusal :=
  s.run Rows.vpackusdw o fun r => s.vec2 r o 16 (packLanes 32 fun x => satU 16 x.toInt)

/-- PACKUSWB (R617). -/
def execPackuswb (o : Operands) (s : State) : Host.Outcome State Fault Refusal :=
  s.run Rows.packuswb o fun r => s.vec2 r o 8 (packLanes 16 fun x => satU 8 x.toInt)

/-- VPACKUSWB (R617). -/
def execVpackuswb (o : Operands) (s : State) : Host.Outcome State Fault Refusal :=
  s.run Rows.vpackuswb o fun r => s.vec2 r o 8 (packLanes 16 fun x => satU 8 x.toInt)

/-- PADDB (R618). -/
def execPaddb (o : Operands) (s : State) : Host.Outcome State Fault Refusal :=
  s.run Rows.paddb o fun r => s.map2 r o 8 fun a b => a + b

/-- VPADDB (R618). -/
def execVpaddb (o : Operands) (s : State) : Host.Outcome State Fault Refusal :=
  s.run Rows.vpaddb o fun r => s.map2 r o 8 fun a b => a + b

/-- PADDW (R619). -/
def execPaddw (o : Operands) (s : State) : Host.Outcome State Fault Refusal :=
  s.run Rows.paddw o fun r => s.map2 r o 16 fun a b => a + b

/-- VPADDW (R619). -/
def execVpaddw (o : Operands) (s : State) : Host.Outcome State Fault Refusal :=
  s.run Rows.vpaddw o fun r => s.map2 r o 16 fun a b => a + b

/-- PADDD (R620). -/
def execPaddd (o : Operands) (s : State) : Host.Outcome State Fault Refusal :=
  s.run Rows.paddd o fun r => s.map2 r o 32 fun a b => a + b

/-- VPADDD (R620). -/
def execVpaddd (o : Operands) (s : State) : Host.Outcome State Fault Refusal :=
  s.run Rows.vpaddd o fun r => s.map2 r o 32 fun a b => a + b

/-- PADDQ (R621). -/
def execPaddq (o : Operands) (s : State) : Host.Outcome State Fault Refusal :=
  s.run Rows.paddq o fun r => s.map2 r o 64 fun a b => a + b

/-- VPADDQ (R621). -/
def execVpaddq (o : Operands) (s : State) : Host.Outcome State Fault Refusal :=
  s.run Rows.vpaddq o fun r => s.map2 r o 64 fun a b => a + b

/-- PADDSB (R622). -/
def execPaddsb (o : Operands) (s : State) : Host.Outcome State Fault Refusal :=
  s.run Rows.paddsb o fun r => s.map2 r o 8 fun a b => satS 8 (a.toInt + b.toInt)

/-- VPADDSB (R622). -/
def execVpaddsb (o : Operands) (s : State) : Host.Outcome State Fault Refusal :=
  s.run Rows.vpaddsb o fun r => s.map2 r o 8 fun a b => satS 8 (a.toInt + b.toInt)

/-- PADDSW (R623). -/
def execPaddsw (o : Operands) (s : State) : Host.Outcome State Fault Refusal :=
  s.run Rows.paddsw o fun r => s.map2 r o 16 fun a b => satS 16 (a.toInt + b.toInt)

/-- VPADDSW (R623). -/
def execVpaddsw (o : Operands) (s : State) : Host.Outcome State Fault Refusal :=
  s.run Rows.vpaddsw o fun r => s.map2 r o 16 fun a b => satS 16 (a.toInt + b.toInt)

/-- PADDUSB (R624). -/
def execPaddusb (o : Operands) (s : State) : Host.Outcome State Fault Refusal :=
  s.run Rows.paddusb o fun r => s.map2 r o 8 fun a b => satU 8 ((a.toNat : Int) + b.toNat)

/-- VPADDUSB (R624). -/
def execVpaddusb (o : Operands) (s : State) : Host.Outcome State Fault Refusal :=
  s.run Rows.vpaddusb o fun r => s.map2 r o 8 fun a b => satU 8 ((a.toNat : Int) + b.toNat)

/-- PADDUSW (R625). -/
def execPaddusw (o : Operands) (s : State) : Host.Outcome State Fault Refusal :=
  s.run Rows.paddusw o fun r => s.map2 r o 16 fun a b => satU 16 ((a.toNat : Int) + b.toNat)

/-- VPADDUSW (R625). -/
def execVpaddusw (o : Operands) (s : State) : Host.Outcome State Fault Refusal :=
  s.run Rows.vpaddusw o fun r => s.map2 r o 16 fun a b => satU 16 ((a.toNat : Int) + b.toNat)

/-- PALIGNR (R626). -/
def execPalignr (o : Operands) (s : State) : Host.Outcome State Fault Refusal :=
  s.run Rows.palignr o fun r => s.vec2 r o 8 (alignBytes o.imm)

/-- VPALIGNR (R626). -/
def execVpalignr (o : Operands) (s : State) : Host.Outcome State Fault Refusal :=
  s.run Rows.vpalignr o fun r => s.vec2 r o 8 (alignBytes o.imm)

/-- PAND (R627). -/
def execPand (o : Operands) (s : State) : Host.Outcome State Fault Refusal :=
  s.run Rows.pand o fun r => s.map2 r o 64 fun a b => a &&& b

/-- VPAND (R627). -/
def execVpand (o : Operands) (s : State) : Host.Outcome State Fault Refusal :=
  s.run Rows.vpand o fun r => s.map2 r o 64 fun a b => a &&& b

/-- VPANDD (R628). -/
def execVpandd (o : Operands) (s : State) : Host.Outcome State Fault Refusal :=
  s.run Rows.vpandd o fun r => s.map2 r o 32 fun a b => a &&& b

/-- VPANDQ (R629). -/
def execVpandq (o : Operands) (s : State) : Host.Outcome State Fault Refusal :=
  s.run Rows.vpandq o fun r => s.map2 r o 64 fun a b => a &&& b

/-- PANDN (R630). -/
def execPandn (o : Operands) (s : State) : Host.Outcome State Fault Refusal :=
  s.run Rows.pandn o fun r => s.map2 r o 64 fun a b => ~~~a &&& b

/-- VPANDN (R630). -/
def execVpandn (o : Operands) (s : State) : Host.Outcome State Fault Refusal :=
  s.run Rows.vpandn o fun r => s.map2 r o 64 fun a b => ~~~a &&& b

/-- VPANDND (R631). -/
def execVpandnd (o : Operands) (s : State) : Host.Outcome State Fault Refusal :=
  s.run Rows.vpandnd o fun r => s.map2 r o 32 fun a b => ~~~a &&& b

/-- VPANDNQ (R632). -/
def execVpandnq (o : Operands) (s : State) : Host.Outcome State Fault Refusal :=
  s.run Rows.vpandnq o fun r => s.map2 r o 64 fun a b => ~~~a &&& b

/-- PAVGB (R633). -/
def execPavgb (o : Operands) (s : State) : Host.Outcome State Fault Refusal :=
  s.run Rows.pavgb o fun r => s.map2 r o 8 avg

/-- VPAVGB (R633). -/
def execVpavgb (o : Operands) (s : State) : Host.Outcome State Fault Refusal :=
  s.run Rows.vpavgb o fun r => s.map2 r o 8 avg

/-- PAVGW (R634). -/
def execPavgw (o : Operands) (s : State) : Host.Outcome State Fault Refusal :=
  s.run Rows.pavgw o fun r => s.map2 r o 16 avg

/-- VPAVGW (R634). -/
def execVpavgw (o : Operands) (s : State) : Host.Outcome State Fault Refusal :=
  s.run Rows.vpavgw o fun r => s.map2 r o 16 avg

/-- VPBROADCASTMB2Q (R635). -/
def execVpbroadcastmb2q (o : Operands) (s : State) : Host.Outcome State Fault Refusal :=
  s.run Rows.vpbroadcastmb2q o fun r => s.fromMask r o 64 fun k _ => k &&& 0xFF

/-- VPBROADCASTMW2D (R636). -/
def execVpbroadcastmw2d (o : Operands) (s : State) : Host.Outcome State Fault Refusal :=
  s.run Rows.vpbroadcastmw2d o fun r => s.fromMask r o 32 fun k _ => k.setWidth 32 &&& 0xFFFF

/-- PCMPEQB (R638). -/
def execPcmpeqb (o : Operands) (s : State) : Host.Outcome State Fault Refusal :=
  s.run Rows.pcmpeqb o fun r => s.compareVec r o 8 fun a b => a == b

/-- VPCMPEQB (R638). -/
def execVpcmpeqb (o : Operands) (s : State) : Host.Outcome State Fault Refusal :=
  s.run Rows.vpcmpeqb o fun r => s.compareVec r o 8 fun a b => a == b

/-- PCMPEQW (R639). -/
def execPcmpeqw (o : Operands) (s : State) : Host.Outcome State Fault Refusal :=
  s.run Rows.pcmpeqw o fun r => s.compareVec r o 16 fun a b => a == b

/-- VPCMPEQW (R639). -/
def execVpcmpeqw (o : Operands) (s : State) : Host.Outcome State Fault Refusal :=
  s.run Rows.vpcmpeqw o fun r => s.compareVec r o 16 fun a b => a == b

/-- PCMPEQD (R640). -/
def execPcmpeqd (o : Operands) (s : State) : Host.Outcome State Fault Refusal :=
  s.run Rows.pcmpeqd o fun r => s.compareVec r o 32 fun a b => a == b

/-- VPCMPEQD (R640). -/
def execVpcmpeqd (o : Operands) (s : State) : Host.Outcome State Fault Refusal :=
  s.run Rows.vpcmpeqd o fun r => s.compareVec r o 32 fun a b => a == b

/-- PCMPEQQ (R641). -/
def execPcmpeqq (o : Operands) (s : State) : Host.Outcome State Fault Refusal :=
  s.run Rows.pcmpeqq o fun r => s.compareVec r o 64 fun a b => a == b

/-- VPCMPEQQ (R641). -/
def execVpcmpeqq (o : Operands) (s : State) : Host.Outcome State Fault Refusal :=
  s.run Rows.vpcmpeqq o fun r => s.compareVec r o 64 fun a b => a == b

/-- PCMPGTB (R642). -/
def execPcmpgtb (o : Operands) (s : State) : Host.Outcome State Fault Refusal :=
  s.run Rows.pcmpgtb o fun r => s.compareVec r o 8 fun a b => b.slt a

/-- VPCMPGTB (R642). -/
def execVpcmpgtb (o : Operands) (s : State) : Host.Outcome State Fault Refusal :=
  s.run Rows.vpcmpgtb o fun r => s.compareVec r o 8 fun a b => b.slt a

/-- PCMPGTW (R643). -/
def execPcmpgtw (o : Operands) (s : State) : Host.Outcome State Fault Refusal :=
  s.run Rows.pcmpgtw o fun r => s.compareVec r o 16 fun a b => b.slt a

/-- VPCMPGTW (R643). -/
def execVpcmpgtw (o : Operands) (s : State) : Host.Outcome State Fault Refusal :=
  s.run Rows.vpcmpgtw o fun r => s.compareVec r o 16 fun a b => b.slt a

/-- PCMPGTD (R644). -/
def execPcmpgtd (o : Operands) (s : State) : Host.Outcome State Fault Refusal :=
  s.run Rows.pcmpgtd o fun r => s.compareVec r o 32 fun a b => b.slt a

/-- VPCMPGTD (R644). -/
def execVpcmpgtd (o : Operands) (s : State) : Host.Outcome State Fault Refusal :=
  s.run Rows.vpcmpgtd o fun r => s.compareVec r o 32 fun a b => b.slt a

/-- PCMPGTQ (R645). -/
def execPcmpgtq (o : Operands) (s : State) : Host.Outcome State Fault Refusal :=
  s.run Rows.pcmpgtq o fun r => s.compareVec r o 64 fun a b => b.slt a

/-- VPCMPGTQ (R645). -/
def execVpcmpgtq (o : Operands) (s : State) : Host.Outcome State Fault Refusal :=
  s.run Rows.vpcmpgtq o fun r => s.compareVec r o 64 fun a b => b.slt a

/-- VPCMPB (R647). -/
def execVpcmpb (o : Operands) (s : State) : Host.Outcome State Fault Refusal :=
  s.run Rows.vpcmpb o fun r => s.compareVec r o 8 (cmpPred true o.imm)

/-- VPCMPUB (R648). -/
def execVpcmpub (o : Operands) (s : State) : Host.Outcome State Fault Refusal :=
  s.run Rows.vpcmpub o fun r => s.compareVec r o 8 (cmpPred false o.imm)

/-- VPCMPD (R649). -/
def execVpcmpd (o : Operands) (s : State) : Host.Outcome State Fault Refusal :=
  s.run Rows.vpcmpd o fun r => s.compareVec r o 32 (cmpPred true o.imm)

/-- VPCMPUD (R650). -/
def execVpcmpud (o : Operands) (s : State) : Host.Outcome State Fault Refusal :=
  s.run Rows.vpcmpud o fun r => s.compareVec r o 32 (cmpPred false o.imm)

/-- VPCMPQ (R651). -/
def execVpcmpq (o : Operands) (s : State) : Host.Outcome State Fault Refusal :=
  s.run Rows.vpcmpq o fun r => s.compareVec r o 64 (cmpPred true o.imm)

/-- VPCMPUQ (R652). -/
def execVpcmpuq (o : Operands) (s : State) : Host.Outcome State Fault Refusal :=
  s.run Rows.vpcmpuq o fun r => s.compareVec r o 64 (cmpPred false o.imm)

/-- VPCMPW (R653). -/
def execVpcmpw (o : Operands) (s : State) : Host.Outcome State Fault Refusal :=
  s.run Rows.vpcmpw o fun r => s.compareVec r o 16 (cmpPred true o.imm)

/-- VPCMPUW (R654). -/
def execVpcmpuw (o : Operands) (s : State) : Host.Outcome State Fault Refusal :=
  s.run Rows.vpcmpuw o fun r => s.compareVec r o 16 (cmpPred false o.imm)

/-- VPCOMPRESSD (R655). -/
def execVpcompressd (o : Operands) (s : State) : Host.Outcome State Fault Refusal :=
  s.run Rows.vpcompressd o fun r => s.compress r o 32

/-- VPCOMPRESSQ (R656). -/
def execVpcompressq (o : Operands) (s : State) : Host.Outcome State Fault Refusal :=
  s.run Rows.vpcompressq o fun r => s.compress r o 64

/-- VPCONFLICTD (R657). -/
def execVpconflictd (o : Operands) (s : State) : Host.Outcome State Fault Refusal :=
  s.run Rows.vpconflictd o fun r => s.conflicts r o 32

/-- VPCONFLICTQ (R658). -/
def execVpconflictq (o : Operands) (s : State) : Host.Outcome State Fault Refusal :=
  s.run Rows.vpconflictq o fun r => s.conflicts r o 64

end Sys2Proof.Machine
end

