-- ==== Sys2Proof/Machine/Rows50.lean ====
section
/-! DEFINITION. The rows of spec/opcode_table.json for the instructions of spec/50_vpermb_to_pminuq.md (VPERM to PMIN), in the order of the table:
space, map, pp, W, L, opcode, roles of ModRM.reg, vvvv and r/m, mod, VSIB, imm8, r/m is the destination, masking, broadcast
bytes, rounding, tuple, CPUID flags, exception class, alignment, 64-bit mode only. -/

namespace Sys2Proof.Machine.Rows

/-- VPERMB (R670) -/
def vpermb : List Row :=
  [⟨.evex, .m0F38, .p66, .w0, .l128, 0x8D, .vec, .vec, .vec, .any, false, false, false, .zero, 0, .none, .fvm, [.avx512vl, .avx512vbmi], .e4nf, false, false⟩,
   ⟨.evex, .m0F38, .p66, .w0, .l256, 0x8D, .vec, .vec, .vec, .any, false, false, false, .zero, 0, .none, .fvm, [.avx512vl, .avx512vbmi], .e4nf, false, false⟩,
   ⟨.evex, .m0F38, .p66, .w0, .l512, 0x8D, .vec, .vec, .vec, .any, false, false, false, .zero, 0, .none, .fvm, [.avx512vbmi], .e4nf, false, false⟩]

/-- VPERMD (R671) -/
def vpermd : List Row :=
  [⟨.vex, .m0F38, .p66, .w0, .l256, 0x36, .vec, .vec, .vec, .any, false, false, false, .none, 0, .none, .fixed 1, [.avx2], .vex 4, false, false⟩,
   ⟨.evex, .m0F38, .p66, .w0, .l256, 0x36, .vec, .vec, .vec, .any, false, false, false, .zero, 4, .none, .fv 4, [.avx512vl, .avx512f], .e4nf, false, false⟩,
   ⟨.evex, .m0F38, .p66, .w0, .l512, 0x36, .vec, .vec, .vec, .any, false, false, false, .zero, 4, .none, .fv 4, [.avx512f], .e4nf, false, false⟩]

/-- VPERMW (R672) -/
def vpermw : List Row :=
  [⟨.evex, .m0F38, .p66, .w1, .l128, 0x8D, .vec, .vec, .vec, .any, false, false, false, .zero, 0, .none, .fvm, [.avx512vl, .avx512bw], .e4nf, false, false⟩,
   ⟨.evex, .m0F38, .p66, .w1, .l256, 0x8D, .vec, .vec, .vec, .any, false, false, false, .zero, 0, .none, .fvm, [.avx512vl, .avx512bw], .e4nf, false, false⟩,
   ⟨.evex, .m0F38, .p66, .w1, .l512, 0x8D, .vec, .vec, .vec, .any, false, false, false, .zero, 0, .none, .fvm, [.avx512bw], .e4nf, false, false⟩]

/-- VPERMI2B (R674) -/
def vpermi2b : List Row :=
  [⟨.evex, .m0F38, .p66, .w0, .l128, 0x75, .vec, .vec, .vec, .any, false, false, false, .zero, 0, .none, .fvm, [.avx512vl, .avx512vbmi], .e4nf, false, false⟩,
   ⟨.evex, .m0F38, .p66, .w0, .l256, 0x75, .vec, .vec, .vec, .any, false, false, false, .zero, 0, .none, .fvm, [.avx512vl, .avx512vbmi], .e4nf, false, false⟩,
   ⟨.evex, .m0F38, .p66, .w0, .l512, 0x75, .vec, .vec, .vec, .any, false, false, false, .zero, 0, .none, .fvm, [.avx512vbmi], .e4nf, false, false⟩]

/-- VPERMI2W (R675) -/
def vpermi2w : List Row :=
  [⟨.evex, .m0F38, .p66, .w1, .l128, 0x75, .vec, .vec, .vec, .any, false, false, false, .zero, 0, .none, .fvm, [.avx512vl, .avx512bw], .e4nf, false, false⟩,
   ⟨.evex, .m0F38, .p66, .w1, .l256, 0x75, .vec, .vec, .vec, .any, false, false, false, .zero, 0, .none, .fvm, [.avx512vl, .avx512bw], .e4nf, false, false⟩,
   ⟨.evex, .m0F38, .p66, .w1, .l512, 0x75, .vec, .vec, .vec, .any, false, false, false, .zero, 0, .none, .fvm, [.avx512bw], .e4nf, false, false⟩]

/-- VPERMI2D (R676) -/
def vpermi2d : List Row :=
  [⟨.evex, .m0F38, .p66, .w0, .l128, 0x76, .vec, .vec, .vec, .any, false, false, false, .zero, 4, .none, .fv 4, [.avx512vl, .avx512f], .e4nf, false, false⟩,
   ⟨.evex, .m0F38, .p66, .w0, .l256, 0x76, .vec, .vec, .vec, .any, false, false, false, .zero, 4, .none, .fv 4, [.avx512vl, .avx512f], .e4nf, false, false⟩,
   ⟨.evex, .m0F38, .p66, .w0, .l512, 0x76, .vec, .vec, .vec, .any, false, false, false, .zero, 4, .none, .fv 4, [.avx512f], .e4nf, false, false⟩]

/-- VPERMI2Q (R677) -/
def vpermi2q : List Row :=
  [⟨.evex, .m0F38, .p66, .w1, .l128, 0x76, .vec, .vec, .vec, .any, false, false, false, .zero, 8, .none, .fv 8, [.avx512vl, .avx512f], .e4nf, false, false⟩,
   ⟨.evex, .m0F38, .p66, .w1, .l256, 0x76, .vec, .vec, .vec, .any, false, false, false, .zero, 8, .none, .fv 8, [.avx512vl, .avx512f], .e4nf, false, false⟩,
   ⟨.evex, .m0F38, .p66, .w1, .l512, 0x76, .vec, .vec, .vec, .any, false, false, false, .zero, 8, .none, .fv 8, [.avx512f], .e4nf, false, false⟩]

/-- VPERMI2PS (R678) -/
def vpermi2ps : List Row :=
  [⟨.evex, .m0F38, .p66, .w0, .l128, 0x77, .vec, .vec, .vec, .any, false, false, false, .zero, 4, .none, .fv 4, [.avx512vl, .avx512f], .e4nf, false, false⟩,
   ⟨.evex, .m0F38, .p66, .w0, .l256, 0x77, .vec, .vec, .vec, .any, false, false, false, .zero, 4, .none, .fv 4, [.avx512vl, .avx512f], .e4nf, false, false⟩,
   ⟨.evex, .m0F38, .p66, .w0, .l512, 0x77, .vec, .vec, .vec, .any, false, false, false, .zero, 4, .none, .fv 4, [.avx512f], .e4nf, false, false⟩]

/-- VPERMI2PD (R679) -/
def vpermi2pd : List Row :=
  [⟨.evex, .m0F38, .p66, .w1, .l128, 0x77, .vec, .vec, .vec, .any, false, false, false, .zero, 8, .none, .fv 8, [.avx512vl, .avx512f], .e4nf, false, false⟩,
   ⟨.evex, .m0F38, .p66, .w1, .l256, 0x77, .vec, .vec, .vec, .any, false, false, false, .zero, 8, .none, .fv 8, [.avx512vl, .avx512f], .e4nf, false, false⟩,
   ⟨.evex, .m0F38, .p66, .w1, .l512, 0x77, .vec, .vec, .vec, .any, false, false, false, .zero, 8, .none, .fv 8, [.avx512f], .e4nf, false, false⟩]

/-- VPERMT2B (R680) -/
def vpermt2b : List Row :=
  [⟨.evex, .m0F38, .p66, .w0, .l128, 0x7D, .vec, .vec, .vec, .any, false, false, false, .zero, 0, .none, .fvm, [.avx512vl, .avx512vbmi], .e4nf, false, false⟩,
   ⟨.evex, .m0F38, .p66, .w0, .l256, 0x7D, .vec, .vec, .vec, .any, false, false, false, .zero, 0, .none, .fvm, [.avx512vl, .avx512vbmi], .e4nf, false, false⟩,
   ⟨.evex, .m0F38, .p66, .w0, .l512, 0x7D, .vec, .vec, .vec, .any, false, false, false, .zero, 0, .none, .fvm, [.avx512vbmi], .e4nf, false, false⟩]

/-- VPERMT2W (R681) -/
def vpermt2w : List Row :=
  [⟨.evex, .m0F38, .p66, .w1, .l128, 0x7D, .vec, .vec, .vec, .any, false, false, false, .zero, 0, .none, .fvm, [.avx512vl, .avx512bw], .e4nf, false, false⟩,
   ⟨.evex, .m0F38, .p66, .w1, .l256, 0x7D, .vec, .vec, .vec, .any, false, false, false, .zero, 0, .none, .fvm, [.avx512vl, .avx512bw], .e4nf, false, false⟩,
   ⟨.evex, .m0F38, .p66, .w1, .l512, 0x7D, .vec, .vec, .vec, .any, false, false, false, .zero, 0, .none, .fvm, [.avx512bw], .e4nf, false, false⟩]

/-- VPERMT2D (R682) -/
def vpermt2d : List Row :=
  [⟨.evex, .m0F38, .p66, .w0, .l128, 0x7E, .vec, .vec, .vec, .any, false, false, false, .zero, 4, .none, .fv 4, [.avx512vl, .avx512f], .e4nf, false, false⟩,
   ⟨.evex, .m0F38, .p66, .w0, .l256, 0x7E, .vec, .vec, .vec, .any, false, false, false, .zero, 4, .none, .fv 4, [.avx512vl, .avx512f], .e4nf, false, false⟩,
   ⟨.evex, .m0F38, .p66, .w0, .l512, 0x7E, .vec, .vec, .vec, .any, false, false, false, .zero, 4, .none, .fv 4, [.avx512f], .e4nf, false, false⟩]

/-- VPERMT2Q (R683) -/
def vpermt2q : List Row :=
  [⟨.evex, .m0F38, .p66, .w1, .l128, 0x7E, .vec, .vec, .vec, .any, false, false, false, .zero, 8, .none, .fv 8, [.avx512vl, .avx512f], .e4nf, false, false⟩,
   ⟨.evex, .m0F38, .p66, .w1, .l256, 0x7E, .vec, .vec, .vec, .any, false, false, false, .zero, 8, .none, .fv 8, [.avx512vl, .avx512f], .e4nf, false, false⟩,
   ⟨.evex, .m0F38, .p66, .w1, .l512, 0x7E, .vec, .vec, .vec, .any, false, false, false, .zero, 8, .none, .fv 8, [.avx512f], .e4nf, false, false⟩]

/-- VPERMT2PS (R684) -/
def vpermt2ps : List Row :=
  [⟨.evex, .m0F38, .p66, .w0, .l128, 0x7F, .vec, .vec, .vec, .any, false, false, false, .zero, 4, .none, .fv 4, [.avx512vl, .avx512f], .e4nf, false, false⟩,
   ⟨.evex, .m0F38, .p66, .w0, .l256, 0x7F, .vec, .vec, .vec, .any, false, false, false, .zero, 4, .none, .fv 4, [.avx512vl, .avx512f], .e4nf, false, false⟩,
   ⟨.evex, .m0F38, .p66, .w0, .l512, 0x7F, .vec, .vec, .vec, .any, false, false, false, .zero, 4, .none, .fv 4, [.avx512f], .e4nf, false, false⟩]

/-- VPERMT2PD (R685) -/
def vpermt2pd : List Row :=
  [⟨.evex, .m0F38, .p66, .w1, .l128, 0x7F, .vec, .vec, .vec, .any, false, false, false, .zero, 8, .none, .fv 8, [.avx512vl, .avx512f], .e4nf, false, false⟩,
   ⟨.evex, .m0F38, .p66, .w1, .l256, 0x7F, .vec, .vec, .vec, .any, false, false, false, .zero, 8, .none, .fv 8, [.avx512vl, .avx512f], .e4nf, false, false⟩,
   ⟨.evex, .m0F38, .p66, .w1, .l512, 0x7F, .vec, .vec, .vec, .any, false, false, false, .zero, 8, .none, .fv 8, [.avx512f], .e4nf, false, false⟩]

/-- VPERMILPD (R686) -/
def vpermilpd : List Row :=
  [⟨.vex, .m0F38, .p66, .w0, .l128, 0x0D, .vec, .vec, .vec, .any, false, false, false, .none, 0, .none, .fixed 1, [.avx], .vex 4, false, false⟩,
   ⟨.vex, .m0F38, .p66, .w0, .l256, 0x0D, .vec, .vec, .vec, .any, false, false, false, .none, 0, .none, .fixed 1, [.avx], .vex 4, false, false⟩,
   ⟨.evex, .m0F38, .p66, .w1, .l128, 0x0D, .vec, .vec, .vec, .any, false, false, false, .zero, 8, .none, .fv 8, [.avx512vl, .avx512f], .e4nf, false, false⟩,
   ⟨.evex, .m0F38, .p66, .w1, .l256, 0x0D, .vec, .vec, .vec, .any, false, false, false, .zero, 8, .none, .fv 8, [.avx512vl, .avx512f], .e4nf, false, false⟩,
   ⟨.evex, .m0F38, .p66, .w1, .l512, 0x0D, .vec, .vec, .vec, .any, false, false, false, .zero, 8, .none, .fv 8, [.avx512f], .e4nf, false, false⟩,
   ⟨.vex, .m0F3A, .p66, .w0, .l128, 0x05, .vec, .none, .vec, .any, false, true, false, .none, 0, .none, .fixed 1, [.avx], .vex 4, false, false⟩,
   ⟨.vex, .m0F3A, .p66, .w0, .l256, 0x05, .vec, .none, .vec, .any, false, true, false, .none, 0, .none, .fixed 1, [.avx], .vex 4, false, false⟩,
   ⟨.evex, .m0F3A, .p66, .w1, .l128, 0x05, .vec, .none, .vec, .any, false, true, false, .zero, 8, .none, .fv 8, [.avx512vl, .avx512f], .e4nf, false, false⟩,
   ⟨.evex, .m0F3A, .p66, .w1, .l256, 0x05, .vec, .none, .vec, .any, false, true, false, .zero, 8, .none, .fv 8, [.avx512vl, .avx512f], .e4nf, false, false⟩,
   ⟨.evex, .m0F3A, .p66, .w1, .l512, 0x05, .vec, .none, .vec, .any, false, true, false, .zero, 8, .none, .fv 8, [.avx512f], .e4nf, false, false⟩]

/-- VPERMILPS (R687) -/
def vpermilps : List Row :=
  [⟨.vex, .m0F38, .p66, .w0, .l128, 0x0C, .vec, .vec, .vec, .any, false, false, false, .none, 0, .none, .fixed 1, [.avx], .vex 4, false, false⟩,
   ⟨.vex, .m0F3A, .p66, .w0, .l128, 0x04, .vec, .none, .vec, .any, false, true, false, .none, 0, .none, .fixed 1, [.avx], .vex 4, false, false⟩,
   ⟨.vex, .m0F38, .p66, .w0, .l256, 0x0C, .vec, .vec, .vec, .any, false, false, false, .none, 0, .none, .fixed 1, [.avx], .vex 4, false, false⟩,
   ⟨.vex, .m0F3A, .p66, .w0, .l256, 0x04, .vec, .none, .vec, .any, false, true, false, .none, 0, .none, .fixed 1, [.avx], .vex 4, false, false⟩,
   ⟨.evex, .m0F38, .p66, .w0, .l128, 0x0C, .vec, .vec, .vec, .any, false, false, false, .zero, 4, .none, .fv 4, [.avx512vl, .avx512f], .e4nf, false, false⟩,
   ⟨.evex, .m0F38, .p66, .w0, .l256, 0x0C, .vec, .vec, .vec, .any, false, false, false, .zero, 4, .none, .fv 4, [.avx512vl, .avx512f], .e4nf, false, false⟩,
   ⟨.evex, .m0F38, .p66, .w0, .l512, 0x0C, .vec, .vec, .vec, .any, false, false, false, .zero, 4, .none, .fv 4, [.avx512f], .e4nf, false, false⟩,
   ⟨.evex, .m0F3A, .p66, .w0, .l128, 0x04, .vec, .none, .vec, .any, false, true, false, .zero, 4, .none, .fv 4, [.avx512vl, .avx512f], .e4nf, false, false⟩,
   ⟨.evex, .m0F3A, .p66, .w0, .l256, 0x04, .vec, .none, .vec, .any, false, true, false, .zero, 4, .none, .fv 4, [.avx512vl, .avx512f], .e4nf, false, false⟩,
   ⟨.evex, .m0F3A, .p66, .w0, .l512, 0x04, .vec, .none, .vec, .any, false, true, false, .zero, 4, .none, .fv 4, [.avx512f], .e4nf, false, false⟩]

/-- VPERMPD (R688) -/
def vpermpd : List Row :=
  [⟨.vex, .m0F3A, .p66, .w1, .l256, 0x01, .vec, .none, .vec, .any, false, true, false, .none, 0, .none, .fixed 1, [.avx2], .vex 4, false, false⟩,
   ⟨.evex, .m0F3A, .p66, .w1, .l256, 0x01, .vec, .none, .vec, .any, false, true, false, .zero, 8, .none, .fv 8, [.avx512vl, .avx512f], .e4nf, false, false⟩,
   ⟨.evex, .m0F3A, .p66, .w1, .l512, 0x01, .vec, .none, .vec, .any, false, true, false, .zero, 8, .none, .fv 8, [.avx512f], .e4nf, false, false⟩,
   ⟨.evex, .m0F38, .p66, .w1, .l256, 0x16, .vec, .vec, .vec, .any, false, false, false, .zero, 8, .none, .fv 8, [.avx512vl, .avx512f], .e4nf, false, false⟩,
   ⟨.evex, .m0F38, .p66, .w1, .l512, 0x16, .vec, .vec, .vec, .any, false, false, false, .zero, 8, .none, .fv 8, [.avx512f], .e4nf, false, false⟩]

/-- VPERMPS (R689) -/
def vpermps : List Row :=
  [⟨.vex, .m0F38, .p66, .w0, .l256, 0x16, .vec, .vec, .vec, .any, false, false, false, .none, 0, .none, .fixed 1, [.avx2], .vex 4, false, false⟩,
   ⟨.evex, .m0F38, .p66, .w0, .l256, 0x16, .vec, .vec, .vec, .any, false, false, false, .zero, 4, .none, .fv 4, [.avx512vl, .avx512f], .e4nf, false, false⟩,
   ⟨.evex, .m0F38, .p66, .w0, .l512, 0x16, .vec, .vec, .vec, .any, false, false, false, .zero, 4, .none, .fv 4, [.avx512f], .e4nf, false, false⟩]

/-- VPERMQ (R690) -/
def vpermq : List Row :=
  [⟨.vex, .m0F3A, .p66, .w1, .l256, 0x00, .vec, .none, .vec, .any, false, true, false, .none, 0, .none, .fixed 1, [.avx2], .vex 4, false, false⟩,
   ⟨.evex, .m0F3A, .p66, .w1, .l256, 0x00, .vec, .none, .vec, .any, false, true, false, .zero, 8, .none, .fv 8, [.avx512vl, .avx512f], .e4nf, false, false⟩,
   ⟨.evex, .m0F3A, .p66, .w1, .l512, 0x00, .vec, .none, .vec, .any, false, true, false, .zero, 8, .none, .fv 8, [.avx512f], .e4nf, false, false⟩,
   ⟨.evex, .m0F38, .p66, .w1, .l256, 0x36, .vec, .vec, .vec, .any, false, false, false, .zero, 8, .none, .fv 8, [.avx512vl, .avx512f], .e4nf, false, false⟩,
   ⟨.evex, .m0F38, .p66, .w1, .l512, 0x36, .vec, .vec, .vec, .any, false, false, false, .zero, 8, .none, .fv 8, [.avx512f], .e4nf, false, false⟩]

/-- VPEXPANDD (R691) -/
def vpexpandd : List Row :=
  [⟨.evex, .m0F38, .p66, .w0, .l128, 0x89, .vec, .none, .vec, .any, false, false, false, .zero, 0, .none, .fixed 4, [.avx512vl, .avx512f], .e4, false, false⟩,
   ⟨.evex, .m0F38, .p66, .w0, .l256, 0x89, .vec, .none, .vec, .any, false, false, false, .zero, 0, .none, .fixed 4, [.avx512vl, .avx512f], .e4, false, false⟩,
   ⟨.evex, .m0F38, .p66, .w0, .l512, 0x89, .vec, .none, .vec, .any, false, false, false, .zero, 0, .none, .fixed 4, [.avx512f], .e4, false, false⟩]

/-- VPEXPANDQ (R692) -/
def vpexpandq : List Row :=
  [⟨.evex, .m0F38, .p66, .w1, .l128, 0x89, .vec, .none, .vec, .any, false, false, false, .zero, 0, .none, .fixed 8, [.avx512vl, .avx512f], .e4, false, false⟩,
   ⟨.evex, .m0F38, .p66, .w1, .l256, 0x89, .vec, .none, .vec, .any, false, false, false, .zero, 0, .none, .fixed 8, [.avx512vl, .avx512f], .e4, false, false⟩,
   ⟨.evex, .m0F38, .p66, .w1, .l512, 0x89, .vec, .none, .vec, .any, false, false, false, .zero, 0, .none, .fixed 8, [.avx512f], .e4, false, false⟩]

/-- PEXTRB (R693) -/
def pextrb : List Row :=
  [⟨.legacy, .m0F3A, .p66, .wig, .any, 0x14, .vec, .none, .gpr, .any, false, true, true, .none, 0, .none, .fixed 1, [.sse41], .sse 5, false, false⟩]

/-- VPEXTRB (R693) -/
def vpextrb : List Row :=
  [⟨.vex, .m0F3A, .p66, .wig, .l128, 0x14, .vec, .none, .gpr, .any, false, true, true, .none, 0, .none, .fixed 1, [.avx], .vex 5, false, false⟩,
   ⟨.evex, .m0F3A, .p66, .wig, .l128, 0x14, .vec, .none, .gpr, .any, false, true, true, .none, 0, .none, .fixed 1, [.avx512bw], .e9nf, false, false⟩]

/-- PEXTRW (R694) -/
def pextrw : List Row :=
  [⟨.legacy, .m0F, .p66, .wig, .any, 0xC5, .gpr, .none, .vec, .reg, false, true, false, .none, 0, .none, .fixed 1, [.sse2], .sse 5, false, false⟩,
   ⟨.legacy, .m0F3A, .p66, .wig, .any, 0x15, .vec, .none, .gpr, .any, false, true, true, .none, 0, .none, .fixed 1, [.sse41], .sse 5, false, false⟩]

/-- VPEXTRW (R694) -/
def vpextrw : List Row :=
  [⟨.vex, .m0F, .p66, .wig, .l128, 0xC5, .gpr, .none, .vec, .reg, false, true, false, .none, 0, .none, .fixed 1, [.avx], .vex 5, false, false⟩,
   ⟨.vex, .m0F3A, .p66, .wig, .l128, 0x15, .vec, .none, .gpr, .any, false, true, true, .none, 0, .none, .fixed 1, [.avx], .vex 5, false, false⟩,
   ⟨.evex, .m0F, .p66, .wig, .l128, 0xC5, .gpr, .none, .vec, .reg, false, true, false, .none, 0, .none, .fixed 1, [.avx512bw], .e9nf, false, false⟩,
   ⟨.evex, .m0F3A, .p66, .wig, .l128, 0x15, .vec, .none, .gpr, .any, false, true, true, .none, 0, .none, .fixed 2, [.avx512bw], .e9nf, false, false⟩]

/-- PEXTRD (R695) -/
def pextrd : List Row :=
  [⟨.legacy, .m0F3A, .p66, .w0, .any, 0x16, .vec, .none, .gpr, .any, false, true, true, .none, 0, .none, .fixed 1, [.sse41], .sse 5, false, false⟩]

/-- VPEXTRD (R695) -/
def vpextrd : List Row :=
  [⟨.vex, .m0F3A, .p66, .w0, .l128, 0x16, .vec, .none, .gpr, .any, false, true, true, .none, 0, .none, .fixed 1, [.avx], .vex 5, false, false⟩,
   ⟨.evex, .m0F3A, .p66, .w0, .l128, 0x16, .vec, .none, .gpr, .any, false, true, true, .none, 0, .none, .fixed 4, [.avx512dq], .e9nf, false, false⟩]

/-- PEXTRQ (R696) -/
def pextrq : List Row :=
  [⟨.legacy, .m0F3A, .p66, .w1, .any, 0x16, .vec, .none, .gpr, .any, false, true, true, .none, 0, .none, .fixed 1, [.sse41], .sse 5, false, true⟩]

/-- VPEXTRQ (R696) -/
def vpextrq : List Row :=
  [⟨.vex, .m0F3A, .p66, .w1, .l128, 0x16, .vec, .none, .gpr, .any, false, true, true, .none, 0, .none, .fixed 1, [.avx], .vex 5, false, true⟩,
   ⟨.evex, .m0F3A, .p66, .w1, .l128, 0x16, .vec, .none, .gpr, .any, false, true, true, .none, 0, .none, .fixed 8, [.avx512dq], .e9nf, false, true⟩]

/-- VPLZCNTD (R697) -/
def vplzcntd : List Row :=
  [⟨.evex, .m0F38, .p66, .w0, .l128, 0x44, .vec, .none, .vec, .any, false, false, false, .zero, 4, .none, .fv 4, [.avx512vl, .avx512cd], .e4, false, false⟩,
   ⟨.evex, .m0F38, .p66, .w0, .l256, 0x44, .vec, .none, .vec, .any, false, false, false, .zero, 4, .none, .fv 4, [.avx512vl, .avx512cd], .e4, false, false⟩,
   ⟨.evex, .m0F38, .p66, .w0, .l512, 0x44, .vec, .none, .vec, .any, false, false, false, .zero, 4, .none, .fv 4, [.avx512cd], .e4, false, false⟩]

/-- VPLZCNTQ (R698) -/
def vplzcntq : List Row :=
  [⟨.evex, .m0F38, .p66, .w1, .l128, 0x44, .vec, .none, .vec, .any, false, false, false, .zero, 8, .none, .fv 8, [.avx512vl, .avx512cd], .e4, false, false⟩,
   ⟨.evex, .m0F38, .p66, .w1, .l256, 0x44, .vec, .none, .vec, .any, false, false, false, .zero, 8, .none, .fv 8, [.avx512vl, .avx512cd], .e4, false, false⟩,
   ⟨.evex, .m0F38, .p66, .w1, .l512, 0x44, .vec, .none, .vec, .any, false, false, false, .zero, 8, .none, .fv 8, [.avx512cd], .e4, false, false⟩]

/-- PMADDUBSW (R699) -/
def pmaddubsw : List Row :=
  [⟨.legacy, .m0F38, .p66, .wig, .any, 0x04, .vec, .none, .vec, .any, false, false, false, .none, 0, .none, .fixed 1, [.ssse3], .sse 4, true, false⟩]

/-- VPMADDUBSW (R699) -/
def vpmaddubsw : List Row :=
  [⟨.vex, .m0F38, .p66, .wig, .l128, 0x04, .vec, .vec, .vec, .any, false, false, false, .none, 0, .none, .fixed 1, [.avx], .vex 4, false, false⟩,
   ⟨.vex, .m0F38, .p66, .wig, .l256, 0x04, .vec, .vec, .vec, .any, false, false, false, .none, 0, .none, .fixed 1, [.avx2], .vex 4, false, false⟩,
   ⟨.evex, .m0F38, .p66, .wig, .l128, 0x04, .vec, .vec, .vec, .any, false, false, false, .zero, 0, .none, .fvm, [.avx512vl, .avx512bw], .e4nf, false, false⟩,
   ⟨.evex, .m0F38, .p66, .wig, .l256, 0x04, .vec, .vec, .vec, .any, false, false, false, .zero, 0, .none, .fvm, [.avx512vl, .avx512bw], .e4nf, false, false⟩,
   ⟨.evex, .m0F38, .p66, .wig, .l512, 0x04, .vec, .vec, .vec, .any, false, false, false, .zero, 0, .none, .fvm, [.avx512bw], .e4nf, false, false⟩]

/-- PMADDWD (R700) -/
def pmaddwd : List Row :=
  [⟨.legacy, .m0F, .p66, .wig, .any, 0xF5, .vec, .none, .vec, .any, false, false, false, .none, 0, .none, .fixed 1, [.sse2], .sse 4, true, false⟩]

/-- VPMADDWD (R700) -/
def vpmaddwd : List Row :=
  [⟨.vex, .m0F, .p66, .wig, .l128, 0xF5, .vec, .vec, .vec, .any, false, false, false, .none, 0, .none, .fixed 1, [.avx], .vex 4, false, false⟩,
   ⟨.vex, .m0F, .p66, .wig, .l256, 0xF5, .vec, .vec, .vec, .any, false, false, false, .none, 0, .none, .fixed 1, [.avx2], .vex 4, false, false⟩,
   ⟨.evex, .m0F, .p66, .wig, .l128, 0xF5, .vec, .vec, .vec, .any, false, false, false, .zero, 0, .none, .fvm, [.avx512vl, .avx512bw], .e4nf, false, false⟩,
   ⟨.evex, .m0F, .p66, .wig, .l256, 0xF5, .vec, .vec, .vec, .any, false, false, false, .zero, 0, .none, .fvm, [.avx512vl, .avx512bw], .e4nf, false, false⟩,
   ⟨.evex, .m0F, .p66, .wig, .l512, 0xF5, .vec, .vec, .vec, .any, false, false, false, .zero, 0, .none, .fvm, [.avx512bw], .e4nf, false, false⟩]

/-- PINSRB (R701) -/
def pinsrb : List Row :=
  [⟨.legacy, .m0F3A, .p66, .wig, .any, 0x20, .vec, .none, .gpr, .any, false, true, false, .none, 0, .none, .fixed 1, [.sse41], .sse 5, false, false⟩]

/-- VPINSRB (R701) -/
def vpinsrb : List Row :=
  [⟨.vex, .m0F3A, .p66, .wig, .l128, 0x20, .vec, .vec, .gpr, .any, false, true, false, .none, 0, .none, .fixed 1, [.avx], .vex 5, false, false⟩,
   ⟨.evex, .m0F3A, .p66, .wig, .l128, 0x20, .vec, .vec, .gpr, .any, false, true, false, .none, 0, .none, .fixed 1, [.avx512bw], .e9nf, false, false⟩]

/-- PINSRW (R702) -/
def pinsrw : List Row :=
  [⟨.legacy, .m0F, .p66, .wig, .any, 0xC4, .vec, .none, .gpr, .any, false, true, false, .none, 0, .none, .fixed 1, [.sse2], .sse 5, false, false⟩]

/-- VPINSRW (R702) -/
def vpinsrw : List Row :=
  [⟨.vex, .m0F, .p66, .wig, .l128, 0xC4, .vec, .vec, .gpr, .any, false, true, false, .none, 0, .none, .fixed 1, [.avx], .vex 5, false, false⟩,
   ⟨.evex, .m0F, .p66, .wig, .l128, 0xC4, .vec, .vec, .gpr, .any, false, true, false, .none, 0, .none, .fixed 2, [.avx512bw], .e9nf, false, false⟩]

/-- PINSRD (R703) -/
def pinsrd : List Row :=
  [⟨.legacy, .m0F3A, .p66, .w0, .any, 0x22, .vec, .none, .gpr, .any, false, true, false, .none, 0, .none, .fixed 1, [.sse41], .sse 5, false, false⟩]

/-- VPINSRD (R703) -/
def vpinsrd : List Row :=
  [⟨.vex, .m0F3A, .p66, .w0, .l128, 0x22, .vec, .vec, .gpr, .any, false, true, false, .none, 0, .none, .fixed 1, [.avx], .vex 5, false, false⟩,
   ⟨.evex, .m0F3A, .p66, .w0, .l128, 0x22, .vec, .vec, .gpr, .any, false, true, false, .none, 0, .none, .fixed 4, [.avx512dq], .e9nf, false, false⟩]

/-- PINSRQ (R704) -/
def pinsrq : List Row :=
  [⟨.legacy, .m0F3A, .p66, .w1, .any, 0x22, .vec, .none, .gpr, .any, false, true, false, .none, 0, .none, .fixed 1, [.sse41], .sse 5, false, true⟩]

/-- VPINSRQ (R704) -/
def vpinsrq : List Row :=
  [⟨.vex, .m0F3A, .p66, .w1, .l128, 0x22, .vec, .vec, .gpr, .any, false, true, false, .none, 0, .none, .fixed 1, [.avx], .vex 5, false, true⟩,
   ⟨.evex, .m0F3A, .p66, .w1, .l128, 0x22, .vec, .vec, .gpr, .any, false, true, false, .none, 0, .none, .fixed 8, [.avx512dq], .e9nf, false, true⟩]

/-- VPMADD52LUQ (R705) -/
def vpmadd52luq : List Row :=
  [⟨.evex, .m0F38, .p66, .w1, .l128, 0xB4, .vec, .vec, .vec, .any, false, false, false, .zero, 8, .none, .fv 8, [.avx512ifma, .avx512vl], .e4, false, false⟩,
   ⟨.evex, .m0F38, .p66, .w1, .l256, 0xB4, .vec, .vec, .vec, .any, false, false, false, .zero, 8, .none, .fv 8, [.avx512ifma, .avx512vl], .e4, false, false⟩,
   ⟨.evex, .m0F38, .p66, .w1, .l512, 0xB4, .vec, .vec, .vec, .any, false, false, false, .zero, 8, .none, .fv 8, [.avx512ifma], .e4, false, false⟩]

/-- VPMADD52HUQ (R706) -/
def vpmadd52huq : List Row :=
  [⟨.evex, .m0F38, .p66, .w1, .l128, 0xB5, .vec, .vec, .vec, .any, false, false, false, .zero, 8, .none, .fv 8, [.avx512ifma, .avx512vl], .e4, false, false⟩,
   ⟨.evex, .m0F38, .p66, .w1, .l256, 0xB5, .vec, .vec, .vec, .any, false, false, false, .zero, 8, .none, .fv 8, [.avx512ifma, .avx512vl], .e4, false, false⟩,
   ⟨.evex, .m0F38, .p66, .w1, .l512, 0xB5, .vec, .vec, .vec, .any, false, false, false, .zero, 8, .none, .fv 8, [.avx512ifma], .e4, false, false⟩]

/-- PMAXSB (R707) -/
def pmaxsb : List Row :=
  [⟨.legacy, .m0F38, .p66, .wig, .any, 0x3C, .vec, .none, .vec, .any, false, false, false, .none, 0, .none, .fixed 1, [.sse41], .sse 4, true, false⟩]

/-- VPMAXSB (R707) -/
def vpmaxsb : List Row :=
  [⟨.vex, .m0F38, .p66, .wig, .l128, 0x3C, .vec, .vec, .vec, .any, false, false, false, .none, 0, .none, .fixed 1, [.avx], .vex 4, false, false⟩,
   ⟨.vex, .m0F38, .p66, .wig, .l256, 0x3C, .vec, .vec, .vec, .any, false, false, false, .none, 0, .none, .fixed 1, [.avx2], .vex 4, false, false⟩,
   ⟨.evex, .m0F38, .p66, .wig, .l128, 0x3C, .vec, .vec, .vec, .any, false, false, false, .zero, 0, .none, .fvm, [.avx512vl, .avx512bw], .e4, false, false⟩,
   ⟨.evex, .m0F38, .p66, .wig, .l256, 0x3C, .vec, .vec, .vec, .any, false, false, false, .zero, 0, .none, .fvm, [.avx512vl, .avx512bw], .e4, false, false⟩,
   ⟨.evex, .m0F38, .p66, .wig, .l512, 0x3C, .vec, .vec, .vec, .any, false, false, false, .zero, 0, .none, .fvm, [.avx512bw], .e4, false, false⟩]

/-- PMAXSW (R708) -/
def pmaxsw : List Row :=
  [⟨.legacy, .m0F, .p66, .wig, .any, 0xEE, .vec, .none, .vec, .any, false, false, false, .none, 0, .none, .fixed 1, [.sse2], .sse 4, true, false⟩]

/-- VPMAXSW (R708) -/
def vpmaxsw : List Row :=
  [⟨.vex, .m0F, .p66, .wig, .l128, 0xEE, .vec, .vec, .vec, .any, false, false, false, .none, 0, .none, .fixed 1, [.avx], .vex 4, false, false⟩,
   ⟨.vex, .m0F, .p66, .wig, .l256, 0xEE, .vec, .vec, .vec, .any, false, false, false, .none, 0, .none, .fixed 1, [.avx2], .vex 4, false, false⟩,
   ⟨.evex, .m0F, .p66, .wig, .l128, 0xEE, .vec, .vec, .vec, .any, false, false, false, .zero, 0, .none, .fvm, [.avx512vl, .avx512bw], .e4, false, false⟩,
   ⟨.evex, .m0F, .p66, .wig, .l256, 0xEE, .vec, .vec, .vec, .any, false, false, false, .zero, 0, .none, .fvm, [.avx512vl, .avx512bw], .e4, false, false⟩,
   ⟨.evex, .m0F, .p66, .wig, .l512, 0xEE, .vec, .vec, .vec, .any, false, false, false, .zero, 0, .none, .fvm, [.avx512bw], .e4, false, false⟩]

/-- PMAXSD (R709) -/
def pmaxsd : List Row :=
  [⟨.legacy, .m0F38, .p66, .wig, .any, 0x3D, .vec, .none, .vec, .any, false, false, false, .none, 0, .none, .fixed 1, [.sse41], .sse 4, true, false⟩]

/-- VPMAXSD (R709) -/
def vpmaxsd : List Row :=
  [⟨.vex, .m0F38, .p66, .wig, .l128, 0x3D, .vec, .vec, .vec, .any, false, false, false, .none, 0, .none, .fixed 1, [.avx], .vex 4, false, false⟩,
   ⟨.vex, .m0F38, .p66, .wig, .l256, 0x3D, .vec, .vec, .vec, .any, false, false, false, .none, 0, .none, .fixed 1, [.avx2], .vex 4, false, false⟩,
   ⟨.evex, .m0F38, .p66, .w0, .l128, 0x3D, .vec, .vec, .vec, .any, false, false, false, .zero, 4, .none, .fv 4, [.avx512vl, .avx512f], .e4, false, false⟩,
   ⟨.evex, .m0F38, .p66, .w0, .l256, 0x3D, .vec, .vec, .vec, .any, false, false, false, .zero, 4, .none, .fv 4, [.avx512vl, .avx512f], .e4, false, false⟩,
   ⟨.evex, .m0F38, .p66, .w0, .l512, 0x3D, .vec, .vec, .vec, .any, false, false, false, .zero, 4, .none, .fv 4, [.avx512f], .e4, false, false⟩]

/-- VPMAXSQ (R710) -/
def vpmaxsq : List Row :=
  [⟨.evex, .m0F38, .p66, .w1, .l128, 0x3D, .vec, .vec, .vec, .any, false, false, false, .zero, 8, .none, .fv 8, [.avx512vl, .avx512f], .e4, false, false⟩,
   ⟨.evex, .m0F38, .p66, .w1, .l256, 0x3D, .vec, .vec, .vec, .any, false, false, false, .zero, 8, .none, .fv 8, [.avx512vl, .avx512f], .e4, false, false⟩,
   ⟨.evex, .m0F38, .p66, .w1, .l512, 0x3D, .vec, .vec, .vec, .any, false, false, false, .zero, 8, .none, .fv 8, [.avx512f], .e4, false, false⟩]

/-- PMAXUB (R711) -/
def pmaxub : List Row :=
  [⟨.legacy, .m0F, .p66, .wig, .any, 0xDE, .vec, .none, .vec, .any, false, false, false, .none, 0, .none, .fixed 1, [.sse2], .sse 4, true, false⟩]

/-- VPMAXUB (R711) -/
def vpmaxub : List Row :=
  [⟨.vex, .m0F, .p66, .wig, .l128, 0xDE, .vec, .vec, .vec, .any, false, false, false, .none, 0, .none, .fixed 1, [.avx], .vex 4, false, false⟩,
   ⟨.vex, .m0F, .p66, .wig, .l256, 0xDE, .vec, .vec, .vec, .any, false, false, false, .none, 0, .none, .fixed 1, [.avx2], .vex 4, false, false⟩,
   ⟨.evex, .m0F, .p66, .wig, .l128, 0xDE, .vec, .vec, .vec, .any, false, false, false, .zero, 0, .none, .fvm, [.avx512vl, .avx512bw], .e4, false, false⟩,
   ⟨.evex, .m0F, .p66, .wig, .l256, 0xDE, .vec, .vec, .vec, .any, false, false, false, .zero, 0, .none, .fvm, [.avx512vl, .avx512bw], .e4, false, false⟩,
   ⟨.evex, .m0F, .p66, .wig, .l512, 0xDE, .vec, .vec, .vec, .any, false, false, false, .zero, 0, .none, .fvm, [.avx512bw], .e4, false, false⟩]

/-- PMAXUW (R712) -/
def pmaxuw : List Row :=
  [⟨.legacy, .m0F38, .p66, .wig, .any, 0x3E, .vec, .none, .vec, .any, false, false, false, .none, 0, .none, .fixed 1, [.sse41], .sse 4, true, false⟩]

/-- VPMAXUW (R712) -/
def vpmaxuw : List Row :=
  [⟨.vex, .m0F38, .p66, .wig, .l128, 0x3E, .vec, .vec, .vec, .any, false, false, false, .none, 0, .none, .fixed 1, [.avx], .vex 4, false, false⟩,
   ⟨.vex, .m0F38, .p66, .wig, .l256, 0x3E, .vec, .vec, .vec, .any, false, false, false, .none, 0, .none, .fixed 1, [.avx2], .vex 4, false, false⟩,
   ⟨.evex, .m0F38, .p66, .wig, .l128, 0x3E, .vec, .vec, .vec, .any, false, false, false, .zero, 0, .none, .fvm, [.avx512vl, .avx512bw], .e4, false, false⟩,
   ⟨.evex, .m0F38, .p66, .wig, .l256, 0x3E, .vec, .vec, .vec, .any, false, false, false, .zero, 0, .none, .fvm, [.avx512vl, .avx512bw], .e4, false, false⟩,
   ⟨.evex, .m0F38, .p66, .wig, .l512, 0x3E, .vec, .vec, .vec, .any, false, false, false, .zero, 0, .none, .fvm, [.avx512bw], .e4, false, false⟩]

/-- PMAXUD (R713) -/
def pmaxud : List Row :=
  [⟨.legacy, .m0F38, .p66, .wig, .any, 0x3F, .vec, .none, .vec, .any, false, false, false, .none, 0, .none, .fixed 1, [.sse41], .sse 4, true, false⟩]

/-- VPMAXUD (R713) -/
def vpmaxud : List Row :=
  [⟨.vex, .m0F38, .p66, .wig, .l128, 0x3F, .vec, .vec, .vec, .any, false, false, false, .none, 0, .none, .fixed 1, [.avx], .vex 4, false, false⟩,
   ⟨.vex, .m0F38, .p66, .wig, .l256, 0x3F, .vec, .vec, .vec, .any, false, false, false, .none, 0, .none, .fixed 1, [.avx2], .vex 4, false, false⟩,
   ⟨.evex, .m0F38, .p66, .w0, .l128, 0x3F, .vec, .vec, .vec, .any, false, false, false, .zero, 4, .none, .fv 4, [.avx512vl, .avx512f], .e4, false, false⟩,
   ⟨.evex, .m0F38, .p66, .w0, .l256, 0x3F, .vec, .vec, .vec, .any, false, false, false, .zero, 4, .none, .fv 4, [.avx512vl, .avx512f], .e4, false, false⟩,
   ⟨.evex, .m0F38, .p66, .w0, .l512, 0x3F, .vec, .vec, .vec, .any, false, false, false, .zero, 4, .none, .fv 4, [.avx512f], .e4, false, false⟩]

/-- VPMAXUQ (R714) -/
def vpmaxuq : List Row :=
  [⟨.evex, .m0F38, .p66, .w1, .l128, 0x3F, .vec, .vec, .vec, .any, false, false, false, .zero, 8, .none, .fv 8, [.avx512vl, .avx512f], .e4, false, false⟩,
   ⟨.evex, .m0F38, .p66, .w1, .l256, 0x3F, .vec, .vec, .vec, .any, false, false, false, .zero, 8, .none, .fv 8, [.avx512vl, .avx512f], .e4, false, false⟩,
   ⟨.evex, .m0F38, .p66, .w1, .l512, 0x3F, .vec, .vec, .vec, .any, false, false, false, .zero, 8, .none, .fv 8, [.avx512f], .e4, false, false⟩]

/-- PMINSB (R715) -/
def pminsb : List Row :=
  [⟨.legacy, .m0F38, .p66, .wig, .any, 0x38, .vec, .none, .vec, .any, false, false, false, .none, 0, .none, .fixed 1, [.sse41], .sse 4, true, false⟩]

/-- VPMINSB (R715) -/
def vpminsb : List Row :=
  [⟨.vex, .m0F38, .p66, .wig, .l128, 0x38, .vec, .vec, .vec, .any, false, false, false, .none, 0, .none, .fixed 1, [.avx], .vex 4, false, false⟩,
   ⟨.vex, .m0F38, .p66, .wig, .l256, 0x38, .vec, .vec, .vec, .any, false, false, false, .none, 0, .none, .fixed 1, [.avx2], .vex 4, false, false⟩,
   ⟨.evex, .m0F38, .p66, .wig, .l128, 0x38, .vec, .vec, .vec, .any, false, false, false, .zero, 0, .none, .fvm, [.avx512vl, .avx512bw], .e4, false, false⟩,
   ⟨.evex, .m0F38, .p66, .wig, .l256, 0x38, .vec, .vec, .vec, .any, false, false, false, .zero, 0, .none, .fvm, [.avx512vl, .avx512bw], .e4, false, false⟩,
   ⟨.evex, .m0F38, .p66, .wig, .l512, 0x38, .vec, .vec, .vec, .any, false, false, false, .zero, 0, .none, .fvm, [.avx512bw], .e4, false, false⟩]

/-- PMINSW (R716) -/
def pminsw : List Row :=
  [⟨.legacy, .m0F, .p66, .wig, .any, 0xEA, .vec, .none, .vec, .any, false, false, false, .none, 0, .none, .fixed 1, [.sse2], .sse 4, true, false⟩]

/-- VPMINSW (R716) -/
def vpminsw : List Row :=
  [⟨.vex, .m0F, .p66, .wig, .l128, 0xEA, .vec, .vec, .vec, .any, false, false, false, .none, 0, .none, .fixed 1, [.avx], .vex 4, false, false⟩,
   ⟨.vex, .m0F, .p66, .wig, .l256, 0xEA, .vec, .vec, .vec, .any, false, false, false, .none, 0, .none, .fixed 1, [.avx2], .vex 4, false, false⟩,
   ⟨.evex, .m0F, .p66, .wig, .l128, 0xEA, .vec, .vec, .vec, .any, false, false, false, .zero, 0, .none, .fvm, [.avx512vl, .avx512bw], .e4, false, false⟩,
   ⟨.evex, .m0F, .p66, .wig, .l256, 0xEA, .vec, .vec, .vec, .any, false, false, false, .zero, 0, .none, .fvm, [.avx512vl, .avx512bw], .e4, false, false⟩,
   ⟨.evex, .m0F, .p66, .wig, .l512, 0xEA, .vec, .vec, .vec, .any, false, false, false, .zero, 0, .none, .fvm, [.avx512bw], .e4, false, false⟩]

/-- PMINSD (R717) -/
def pminsd : List Row :=
  [⟨.legacy, .m0F38, .p66, .wig, .any, 0x39, .vec, .none, .vec, .any, false, false, false, .none, 0, .none, .fixed 1, [.sse41], .sse 4, true, false⟩]

/-- VPMINSD (R717) -/
def vpminsd : List Row :=
  [⟨.vex, .m0F38, .p66, .wig, .l128, 0x39, .vec, .vec, .vec, .any, false, false, false, .none, 0, .none, .fixed 1, [.avx], .vex 4, false, false⟩,
   ⟨.vex, .m0F38, .p66, .wig, .l256, 0x39, .vec, .vec, .vec, .any, false, false, false, .none, 0, .none, .fixed 1, [.avx2], .vex 4, false, false⟩,
   ⟨.evex, .m0F38, .p66, .w0, .l128, 0x39, .vec, .vec, .vec, .any, false, false, false, .zero, 4, .none, .fv 4, [.avx512vl, .avx512f], .e4, false, false⟩,
   ⟨.evex, .m0F38, .p66, .w0, .l256, 0x39, .vec, .vec, .vec, .any, false, false, false, .zero, 4, .none, .fv 4, [.avx512vl, .avx512f], .e4, false, false⟩,
   ⟨.evex, .m0F38, .p66, .w0, .l512, 0x39, .vec, .vec, .vec, .any, false, false, false, .zero, 4, .none, .fv 4, [.avx512f], .e4, false, false⟩]

/-- VPMINSQ (R718) -/
def vpminsq : List Row :=
  [⟨.evex, .m0F38, .p66, .w1, .l128, 0x39, .vec, .vec, .vec, .any, false, false, false, .zero, 8, .none, .fv 8, [.avx512vl, .avx512f], .e4, false, false⟩,
   ⟨.evex, .m0F38, .p66, .w1, .l256, 0x39, .vec, .vec, .vec, .any, false, false, false, .zero, 8, .none, .fv 8, [.avx512vl, .avx512f], .e4, false, false⟩,
   ⟨.evex, .m0F38, .p66, .w1, .l512, 0x39, .vec, .vec, .vec, .any, false, false, false, .zero, 8, .none, .fv 8, [.avx512f], .e4, false, false⟩]

/-- PMINUB (R719) -/
def pminub : List Row :=
  [⟨.legacy, .m0F, .p66, .wig, .any, 0xDA, .vec, .none, .vec, .any, false, false, false, .none, 0, .none, .fixed 1, [.sse2], .sse 4, true, false⟩]

/-- VPMINUB (R719) -/
def vpminub : List Row :=
  [⟨.vex, .m0F, .p66, .wig, .l128, 0xDA, .vec, .vec, .vec, .any, false, false, false, .none, 0, .none, .fixed 1, [.avx], .vex 4, false, false⟩,
   ⟨.vex, .m0F, .p66, .wig, .l256, 0xDA, .vec, .vec, .vec, .any, false, false, false, .none, 0, .none, .fixed 1, [.avx2], .vex 4, false, false⟩,
   ⟨.evex, .m0F, .p66, .wig, .l128, 0xDA, .vec, .vec, .vec, .any, false, false, false, .zero, 0, .none, .fvm, [.avx512vl, .avx512bw], .e4, false, false⟩,
   ⟨.evex, .m0F, .p66, .wig, .l256, 0xDA, .vec, .vec, .vec, .any, false, false, false, .zero, 0, .none, .fvm, [.avx512vl, .avx512bw], .e4, false, false⟩,
   ⟨.evex, .m0F, .p66, .wig, .l512, 0xDA, .vec, .vec, .vec, .any, false, false, false, .zero, 0, .none, .fvm, [.avx512bw], .e4, false, false⟩]

/-- PMINUW (R720) -/
def pminuw : List Row :=
  [⟨.legacy, .m0F38, .p66, .wig, .any, 0x3A, .vec, .none, .vec, .any, false, false, false, .none, 0, .none, .fixed 1, [.sse41], .sse 4, true, false⟩]

/-- VPMINUW (R720) -/
def vpminuw : List Row :=
  [⟨.vex, .m0F38, .p66, .wig, .l128, 0x3A, .vec, .vec, .vec, .any, false, false, false, .none, 0, .none, .fixed 1, [.avx], .vex 4, false, false⟩,
   ⟨.vex, .m0F38, .p66, .wig, .l256, 0x3A, .vec, .vec, .vec, .any, false, false, false, .none, 0, .none, .fixed 1, [.avx2], .vex 4, false, false⟩,
   ⟨.evex, .m0F38, .p66, .wig, .l128, 0x3A, .vec, .vec, .vec, .any, false, false, false, .zero, 0, .none, .fvm, [.avx512vl, .avx512bw], .e4, false, false⟩,
   ⟨.evex, .m0F38, .p66, .wig, .l256, 0x3A, .vec, .vec, .vec, .any, false, false, false, .zero, 0, .none, .fvm, [.avx512vl, .avx512bw], .e4, false, false⟩,
   ⟨.evex, .m0F38, .p66, .wig, .l512, 0x3A, .vec, .vec, .vec, .any, false, false, false, .zero, 0, .none, .fvm, [.avx512bw], .e4, false, false⟩]

/-- PMINUD (R721) -/
def pminud : List Row :=
  [⟨.legacy, .m0F38, .p66, .wig, .any, 0x3B, .vec, .none, .vec, .any, false, false, false, .none, 0, .none, .fixed 1, [.sse41], .sse 4, true, false⟩]

/-- VPMINUD (R721) -/
def vpminud : List Row :=
  [⟨.vex, .m0F38, .p66, .wig, .l128, 0x3B, .vec, .vec, .vec, .any, false, false, false, .none, 0, .none, .fixed 1, [.avx], .vex 4, false, false⟩,
   ⟨.vex, .m0F38, .p66, .wig, .l256, 0x3B, .vec, .vec, .vec, .any, false, false, false, .none, 0, .none, .fixed 1, [.avx2], .vex 4, false, false⟩,
   ⟨.evex, .m0F38, .p66, .w0, .l128, 0x3B, .vec, .vec, .vec, .any, false, false, false, .zero, 4, .none, .fv 4, [.avx512vl, .avx512f], .e4, false, false⟩,
   ⟨.evex, .m0F38, .p66, .w0, .l256, 0x3B, .vec, .vec, .vec, .any, false, false, false, .zero, 4, .none, .fv 4, [.avx512vl, .avx512f], .e4, false, false⟩,
   ⟨.evex, .m0F38, .p66, .w0, .l512, 0x3B, .vec, .vec, .vec, .any, false, false, false, .zero, 4, .none, .fv 4, [.avx512f], .e4, false, false⟩]

/-- VPMINUQ (R722) -/
def vpminuq : List Row :=
  [⟨.evex, .m0F38, .p66, .w1, .l128, 0x3B, .vec, .vec, .vec, .any, false, false, false, .zero, 8, .none, .fv 8, [.avx512vl, .avx512f], .e4, false, false⟩,
   ⟨.evex, .m0F38, .p66, .w1, .l256, 0x3B, .vec, .vec, .vec, .any, false, false, false, .zero, 8, .none, .fv 8, [.avx512vl, .avx512f], .e4, false, false⟩,
   ⟨.evex, .m0F38, .p66, .w1, .l512, 0x3B, .vec, .vec, .vec, .any, false, false, false, .zero, 8, .none, .fv 8, [.avx512f], .e4, false, false⟩]

end Sys2Proof.Machine.Rows
end

