-- ==== Sys2Proof/Machine/Exec50.lean ====
section
/-! DEFINITION. The meanings of the instructions of spec/50_vpermb_to_pminuq.md (VPERM to PMIN), one definition each: the checks
of `State.run` on the rows of the instruction, then its operation on the row its fields select. -/

namespace Sys2Proof.Machine

/-- VPERMB (R670). -/
def execVpermb (o : Operands) (s : State) : Host.Outcome State Fault Refusal :=
  s.run Rows.vpermb o fun r => s.vec2 r o 8 (permute 8 (r.count o 8))

/-- VPERMD (R671). -/
def execVpermd (o : Operands) (s : State) : Host.Outcome State Fault Refusal :=
  s.run Rows.vpermd o fun r => s.vec2 r o 32 (permute 32 (r.count o 32))

/-- VPERMW (R672). -/
def execVpermw (o : Operands) (s : State) : Host.Outcome State Fault Refusal :=
  s.run Rows.vpermw o fun r => s.vec2 r o 16 (permute 16 (r.count o 16))

/-- VPERMI2B (R674). -/
def execVpermi2b (o : Operands) (s : State) : Host.Outcome State Fault Refusal :=
  s.run Rows.vpermi2b o fun r => s.vec3 r o 8 fun d a b => permute2 8 (r.count o 8) d a b

/-- VPERMI2W (R675). -/
def execVpermi2w (o : Operands) (s : State) : Host.Outcome State Fault Refusal :=
  s.run Rows.vpermi2w o fun r => s.vec3 r o 16 fun d a b => permute2 16 (r.count o 16) d a b

/-- VPERMI2D (R676). -/
def execVpermi2d (o : Operands) (s : State) : Host.Outcome State Fault Refusal :=
  s.run Rows.vpermi2d o fun r => s.vec3 r o 32 fun d a b => permute2 32 (r.count o 32) d a b

/-- VPERMI2Q (R677). -/
def execVpermi2q (o : Operands) (s : State) : Host.Outcome State Fault Refusal :=
  s.run Rows.vpermi2q o fun r => s.vec3 r o 64 fun d a b => permute2 64 (r.count o 64) d a b

/-- VPERMI2PS (R678). -/
def execVpermi2ps (o : Operands) (s : State) : Host.Outcome State Fault Refusal :=
  s.run Rows.vpermi2ps o fun r => s.vec3 r o 32 fun d a b => permute2 32 (r.count o 32) d a b

/-- VPERMI2PD (R679). -/
def execVpermi2pd (o : Operands) (s : State) : Host.Outcome State Fault Refusal :=
  s.run Rows.vpermi2pd o fun r => s.vec3 r o 64 fun d a b => permute2 64 (r.count o 64) d a b

/-- VPERMT2B (R680). -/
def execVpermt2b (o : Operands) (s : State) : Host.Outcome State Fault Refusal :=
  s.run Rows.vpermt2b o fun r => s.vec3 r o 8 fun d a b => permute2 8 (r.count o 8) a d b

/-- VPERMT2W (R681). -/
def execVpermt2w (o : Operands) (s : State) : Host.Outcome State Fault Refusal :=
  s.run Rows.vpermt2w o fun r => s.vec3 r o 16 fun d a b => permute2 16 (r.count o 16) a d b

/-- VPERMT2D (R682). -/
def execVpermt2d (o : Operands) (s : State) : Host.Outcome State Fault Refusal :=
  s.run Rows.vpermt2d o fun r => s.vec3 r o 32 fun d a b => permute2 32 (r.count o 32) a d b

/-- VPERMT2Q (R683). -/
def execVpermt2q (o : Operands) (s : State) : Host.Outcome State Fault Refusal :=
  s.run Rows.vpermt2q o fun r => s.vec3 r o 64 fun d a b => permute2 64 (r.count o 64) a d b

/-- VPERMT2PS (R684). -/
def execVpermt2ps (o : Operands) (s : State) : Host.Outcome State Fault Refusal :=
  s.run Rows.vpermt2ps o fun r => s.vec3 r o 32 fun d a b => permute2 32 (r.count o 32) a d b

/-- VPERMT2PD (R685). -/
def execVpermt2pd (o : Operands) (s : State) : Host.Outcome State Fault Refusal :=
  s.run Rows.vpermt2pd o fun r => s.vec3 r o 64 fun d a b => permute2 64 (r.count o 64) a d b

/-- VPERMILPD (R686). -/
def execVpermilpd (o : Operands) (s : State) : Host.Outcome State Fault Refusal :=
  s.run Rows.vpermilpd o fun r => if r.imm then s.vec1 r o 64 (permilPdImm o.imm) else s.vec2 r o 64 permilPdVar

/-- VPERMILPS (R687). -/
def execVpermilps (o : Operands) (s : State) : Host.Outcome State Fault Refusal :=
  s.run Rows.vpermilps o fun r => if r.imm then s.vec1 r o 32 (shuffleDwords o.imm) else s.vec2 r o 32 permilPsVar

/-- VPERMPD (R688). -/
def execVpermpd (o : Operands) (s : State) : Host.Outcome State Fault Refusal :=
  s.run Rows.vpermpd o fun r => if r.imm then s.vec1 r o 64 (permuteHalves o.imm) else s.vec2 r o 64 (permute 64 (r.count o 64))

/-- VPERMPS (R689). -/
def execVpermps (o : Operands) (s : State) : Host.Outcome State Fault Refusal :=
  s.run Rows.vpermps o fun r => s.vec2 r o 32 (permute 32 (r.count o 32))

/-- VPERMQ (R690). -/
def execVpermq (o : Operands) (s : State) : Host.Outcome State Fault Refusal :=
  s.run Rows.vpermq o fun r => if r.imm then s.vec1 r o 64 (permuteHalves o.imm) else s.vec2 r o 64 (permute 64 (r.count o 64))

/-- VPEXPANDD (R691). -/
def execVpexpandd (o : Operands) (s : State) : Host.Outcome State Fault Refusal :=
  s.run Rows.vpexpandd o fun r => s.expand r o 32

/-- VPEXPANDQ (R692). -/
def execVpexpandq (o : Operands) (s : State) : Host.Outcome State Fault Refusal :=
  s.run Rows.vpexpandq o fun r => s.expand r o 64

/-- PEXTRB (R693). -/
def execPextrb (o : Operands) (s : State) : Host.Outcome State Fault Refusal :=
  s.run Rows.pextrb o fun r => s.extractElem r o 8

/-- VPEXTRB (R693). -/
def execVpextrb (o : Operands) (s : State) : Host.Outcome State Fault Refusal :=
  s.run Rows.vpextrb o fun r => s.extractElem r o 8

/-- PEXTRW (R694). -/
def execPextrw (o : Operands) (s : State) : Host.Outcome State Fault Refusal :=
  s.run Rows.pextrw o fun r => s.extractElem r o 16

/-- VPEXTRW (R694). -/
def execVpextrw (o : Operands) (s : State) : Host.Outcome State Fault Refusal :=
  s.run Rows.vpextrw o fun r => s.extractElem r o 16

/-- PEXTRD (R695). -/
def execPextrd (o : Operands) (s : State) : Host.Outcome State Fault Refusal :=
  s.run Rows.pextrd o fun r => s.extractElem r o 32

/-- VPEXTRD (R695). -/
def execVpextrd (o : Operands) (s : State) : Host.Outcome State Fault Refusal :=
  s.run Rows.vpextrd o fun r => s.extractElem r o 32

/-- PEXTRQ (R696). -/
def execPextrq (o : Operands) (s : State) : Host.Outcome State Fault Refusal :=
  s.run Rows.pextrq o fun r => s.extractElem r o 64

/-- VPEXTRQ (R696). -/
def execVpextrq (o : Operands) (s : State) : Host.Outcome State Fault Refusal :=
  s.run Rows.vpextrq o fun r => s.extractElem r o 64

/-- VPLZCNTD (R697). -/
def execVplzcntd (o : Operands) (s : State) : Host.Outcome State Fault Refusal :=
  s.run Rows.vplzcntd o fun r => s.map1 r o 32 lzcnt

/-- VPLZCNTQ (R698). -/
def execVplzcntq (o : Operands) (s : State) : Host.Outcome State Fault Refusal :=
  s.run Rows.vplzcntq o fun r => s.map1 r o 64 lzcnt

/-- PMADDUBSW (R699). -/
def execPmaddubsw (o : Operands) (s : State) : Host.Outcome State Fault Refusal :=
  s.run Rows.pmaddubsw o fun r => s.vec2 r o 16 maddUbs

/-- VPMADDUBSW (R699). -/
def execVpmaddubsw (o : Operands) (s : State) : Host.Outcome State Fault Refusal :=
  s.run Rows.vpmaddubsw o fun r => s.vec2 r o 16 maddUbs

/-- PMADDWD (R700). -/
def execPmaddwd (o : Operands) (s : State) : Host.Outcome State Fault Refusal :=
  s.run Rows.pmaddwd o fun r => s.vec2 r o 32 maddWd

/-- VPMADDWD (R700). -/
def execVpmaddwd (o : Operands) (s : State) : Host.Outcome State Fault Refusal :=
  s.run Rows.vpmaddwd o fun r => s.vec2 r o 32 maddWd

/-- PINSRB (R701). -/
def execPinsrb (o : Operands) (s : State) : Host.Outcome State Fault Refusal :=
  s.run Rows.pinsrb o fun r => s.insertElem r o 8

/-- VPINSRB (R701). -/
def execVpinsrb (o : Operands) (s : State) : Host.Outcome State Fault Refusal :=
  s.run Rows.vpinsrb o fun r => s.insertElem r o 8

/-- PINSRW (R702). -/
def execPinsrw (o : Operands) (s : State) : Host.Outcome State Fault Refusal :=
  s.run Rows.pinsrw o fun r => s.insertElem r o 16

/-- VPINSRW (R702). -/
def execVpinsrw (o : Operands) (s : State) : Host.Outcome State Fault Refusal :=
  s.run Rows.vpinsrw o fun r => s.insertElem r o 16

/-- PINSRD (R703). -/
def execPinsrd (o : Operands) (s : State) : Host.Outcome State Fault Refusal :=
  s.run Rows.pinsrd o fun r => s.insertElem r o 32

/-- VPINSRD (R703). -/
def execVpinsrd (o : Operands) (s : State) : Host.Outcome State Fault Refusal :=
  s.run Rows.vpinsrd o fun r => s.insertElem r o 32

/-- PINSRQ (R704). -/
def execPinsrq (o : Operands) (s : State) : Host.Outcome State Fault Refusal :=
  s.run Rows.pinsrq o fun r => s.insertElem r o 64

/-- VPINSRQ (R704). -/
def execVpinsrq (o : Operands) (s : State) : Host.Outcome State Fault Refusal :=
  s.run Rows.vpinsrq o fun r => s.insertElem r o 64

/-- VPMADD52LUQ (R705). -/
def execVpmadd52luq (o : Operands) (s : State) : Host.Outcome State Fault Refusal :=
  s.run Rows.vpmadd52luq o fun r => s.vec3 r o 64 fun d a b j => madd52 false (elem 64 j d) (elem 64 j a) (elem 64 j b)

/-- VPMADD52HUQ (R706). -/
def execVpmadd52huq (o : Operands) (s : State) : Host.Outcome State Fault Refusal :=
  s.run Rows.vpmadd52huq o fun r => s.vec3 r o 64 fun d a b j => madd52 true (elem 64 j d) (elem 64 j a) (elem 64 j b)

/-- PMAXSB (R707). -/
def execPmaxsb (o : Operands) (s : State) : Host.Outcome State Fault Refusal :=
  s.run Rows.pmaxsb o fun r => s.map2 r o 8 maxS

/-- VPMAXSB (R707). -/
def execVpmaxsb (o : Operands) (s : State) : Host.Outcome State Fault Refusal :=
  s.run Rows.vpmaxsb o fun r => s.map2 r o 8 maxS

/-- PMAXSW (R708). -/
def execPmaxsw (o : Operands) (s : State) : Host.Outcome State Fault Refusal :=
  s.run Rows.pmaxsw o fun r => s.map2 r o 16 maxS

/-- VPMAXSW (R708). -/
def execVpmaxsw (o : Operands) (s : State) : Host.Outcome State Fault Refusal :=
  s.run Rows.vpmaxsw o fun r => s.map2 r o 16 maxS

/-- PMAXSD (R709). -/
def execPmaxsd (o : Operands) (s : State) : Host.Outcome State Fault Refusal :=
  s.run Rows.pmaxsd o fun r => s.map2 r o 32 maxS

/-- VPMAXSD (R709). -/
def execVpmaxsd (o : Operands) (s : State) : Host.Outcome State Fault Refusal :=
  s.run Rows.vpmaxsd o fun r => s.map2 r o 32 maxS

/-- VPMAXSQ (R710). -/
def execVpmaxsq (o : Operands) (s : State) : Host.Outcome State Fault Refusal :=
  s.run Rows.vpmaxsq o fun r => s.map2 r o 64 maxS

/-- PMAXUB (R711). -/
def execPmaxub (o : Operands) (s : State) : Host.Outcome State Fault Refusal :=
  s.run Rows.pmaxub o fun r => s.map2 r o 8 maxU

/-- VPMAXUB (R711). -/
def execVpmaxub (o : Operands) (s : State) : Host.Outcome State Fault Refusal :=
  s.run Rows.vpmaxub o fun r => s.map2 r o 8 maxU

/-- PMAXUW (R712). -/
def execPmaxuw (o : Operands) (s : State) : Host.Outcome State Fault Refusal :=
  s.run Rows.pmaxuw o fun r => s.map2 r o 16 maxU

/-- VPMAXUW (R712). -/
def execVpmaxuw (o : Operands) (s : State) : Host.Outcome State Fault Refusal :=
  s.run Rows.vpmaxuw o fun r => s.map2 r o 16 maxU

/-- PMAXUD (R713). -/
def execPmaxud (o : Operands) (s : State) : Host.Outcome State Fault Refusal :=
  s.run Rows.pmaxud o fun r => s.map2 r o 32 maxU

/-- VPMAXUD (R713). -/
def execVpmaxud (o : Operands) (s : State) : Host.Outcome State Fault Refusal :=
  s.run Rows.vpmaxud o fun r => s.map2 r o 32 maxU

/-- VPMAXUQ (R714). -/
def execVpmaxuq (o : Operands) (s : State) : Host.Outcome State Fault Refusal :=
  s.run Rows.vpmaxuq o fun r => s.map2 r o 64 maxU

/-- PMINSB (R715). -/
def execPminsb (o : Operands) (s : State) : Host.Outcome State Fault Refusal :=
  s.run Rows.pminsb o fun r => s.map2 r o 8 minS

/-- VPMINSB (R715). -/
def execVpminsb (o : Operands) (s : State) : Host.Outcome State Fault Refusal :=
  s.run Rows.vpminsb o fun r => s.map2 r o 8 minS

/-- PMINSW (R716). -/
def execPminsw (o : Operands) (s : State) : Host.Outcome State Fault Refusal :=
  s.run Rows.pminsw o fun r => s.map2 r o 16 minS

/-- VPMINSW (R716). -/
def execVpminsw (o : Operands) (s : State) : Host.Outcome State Fault Refusal :=
  s.run Rows.vpminsw o fun r => s.map2 r o 16 minS

/-- PMINSD (R717). -/
def execPminsd (o : Operands) (s : State) : Host.Outcome State Fault Refusal :=
  s.run Rows.pminsd o fun r => s.map2 r o 32 minS

/-- VPMINSD (R717). -/
def execVpminsd (o : Operands) (s : State) : Host.Outcome State Fault Refusal :=
  s.run Rows.vpminsd o fun r => s.map2 r o 32 minS

/-- VPMINSQ (R718). -/
def execVpminsq (o : Operands) (s : State) : Host.Outcome State Fault Refusal :=
  s.run Rows.vpminsq o fun r => s.map2 r o 64 minS

/-- PMINUB (R719). -/
def execPminub (o : Operands) (s : State) : Host.Outcome State Fault Refusal :=
  s.run Rows.pminub o fun r => s.map2 r o 8 minU

/-- VPMINUB (R719). -/
def execVpminub (o : Operands) (s : State) : Host.Outcome State Fault Refusal :=
  s.run Rows.vpminub o fun r => s.map2 r o 8 minU

/-- PMINUW (R720). -/
def execPminuw (o : Operands) (s : State) : Host.Outcome State Fault Refusal :=
  s.run Rows.pminuw o fun r => s.map2 r o 16 minU

/-- VPMINUW (R720). -/
def execVpminuw (o : Operands) (s : State) : Host.Outcome State Fault Refusal :=
  s.run Rows.vpminuw o fun r => s.map2 r o 16 minU

/-- PMINUD (R721). -/
def execPminud (o : Operands) (s : State) : Host.Outcome State Fault Refusal :=
  s.run Rows.pminud o fun r => s.map2 r o 32 minU

/-- VPMINUD (R721). -/
def execVpminud (o : Operands) (s : State) : Host.Outcome State Fault Refusal :=
  s.run Rows.vpminud o fun r => s.map2 r o 32 minU

/-- VPMINUQ (R722). -/
def execVpminuq (o : Operands) (s : State) : Host.Outcome State Fault Refusal :=
  s.run Rows.vpminuq o fun r => s.map2 r o 64 minU

end Sys2Proof.Machine
end

