-- ==== Sys2Proof/Machine/Rows51.lean ====
section
/-! DEFINITION. The rows of spec/opcode_table.json for the instructions of spec/51_vpmovm2b_to_pmovzx.md (VPMOV to PMOVZX), in the order of the table:
space, map, pp, W, L, opcode, roles of ModRM.reg, vvvv and r/m, mod, VSIB, imm8, r/m is the destination, masking, broadcast
bytes, rounding, tuple, CPUID flags, exception class, alignment, 64-bit mode only. -/

namespace Sys2Proof.Machine.Rows

/-- VPMOVM2B (R730) -/
def vpmovm2b : List Row :=
  [⟨.evex, .m0F38, .pF3, .w0, .l128, 0x28, .vec, .none, .kreg, .reg, false, false, false, .none, 0, .none, .fixed 1, [.avx512vl, .avx512bw], .e7nm, false, false⟩,
   ⟨.evex, .m0F38, .pF3, .w0, .l256, 0x28, .vec, .none, .kreg, .reg, false, false, false, .none, 0, .none, .fixed 1, [.avx512vl, .avx512bw], .e7nm, false, false⟩,
   ⟨.evex, .m0F38, .pF3, .w0, .l512, 0x28, .vec, .none, .kreg, .reg, false, false, false, .none, 0, .none, .fixed 1, [.avx512bw], .e7nm, false, false⟩]

/-- VPMOVM2W (R731) -/
def vpmovm2w : List Row :=
  [⟨.evex, .m0F38, .pF3, .w1, .l128, 0x28, .vec, .none, .kreg, .reg, false, false, false, .none, 0, .none, .fixed 1, [.avx512vl, .avx512bw], .e7nm, false, false⟩,
   ⟨.evex, .m0F38, .pF3, .w1, .l256, 0x28, .vec, .none, .kreg, .reg, false, false, false, .none, 0, .none, .fixed 1, [.avx512vl, .avx512bw], .e7nm, false, false⟩,
   ⟨.evex, .m0F38, .pF3, .w1, .l512, 0x28, .vec, .none, .kreg, .reg, false, false, false, .none, 0, .none, .fixed 1, [.avx512bw], .e7nm, false, false⟩]

/-- VPMOVM2D (R732) -/
def vpmovm2d : List Row :=
  [⟨.evex, .m0F38, .pF3, .w0, .l128, 0x38, .vec, .none, .kreg, .reg, false, false, false, .none, 0, .none, .fixed 1, [.avx512vl, .avx512dq], .e7nm, false, false⟩,
   ⟨.evex, .m0F38, .pF3, .w0, .l256, 0x38, .vec, .none, .kreg, .reg, false, false, false, .none, 0, .none, .fixed 1, [.avx512vl, .avx512dq], .e7nm, false, false⟩,
   ⟨.evex, .m0F38, .pF3, .w0, .l512, 0x38, .vec, .none, .kreg, .reg, false, false, false, .none, 0, .none, .fixed 1, [.avx512dq], .e7nm, false, false⟩]

/-- VPMOVM2Q (R733) -/
def vpmovm2q : List Row :=
  [⟨.evex, .m0F38, .pF3, .w1, .l128, 0x38, .vec, .none, .kreg, .reg, false, false, false, .none, 0, .none, .fixed 1, [.avx512vl, .avx512dq], .e7nm, false, false⟩,
   ⟨.evex, .m0F38, .pF3, .w1, .l256, 0x38, .vec, .none, .kreg, .reg, false, false, false, .none, 0, .none, .fixed 1, [.avx512vl, .avx512dq], .e7nm, false, false⟩,
   ⟨.evex, .m0F38, .pF3, .w1, .l512, 0x38, .vec, .none, .kreg, .reg, false, false, false, .none, 0, .none, .fixed 1, [.avx512dq], .e7nm, false, false⟩]

/-- VPMOVB2M (R734) -/
def vpmovb2m : List Row :=
  [⟨.evex, .m0F38, .pF3, .w0, .l128, 0x29, .kreg, .none, .vec, .reg, false, false, false, .none, 0, .none, .fixed 1, [.avx512vl, .avx512bw], .e7nm, false, false⟩,
   ⟨.evex, .m0F38, .pF3, .w0, .l256, 0x29, .kreg, .none, .vec, .reg, false, false, false, .none, 0, .none, .fixed 1, [.avx512vl, .avx512bw], .e7nm, false, false⟩,
   ⟨.evex, .m0F38, .pF3, .w0, .l512, 0x29, .kreg, .none, .vec, .reg, false, false, false, .none, 0, .none, .fixed 1, [.avx512bw], .e7nm, false, false⟩]

/-- VPMOVW2M (R735) -/
def vpmovw2m : List Row :=
  [⟨.evex, .m0F38, .pF3, .w1, .l128, 0x29, .kreg, .none, .vec, .reg, false, false, false, .none, 0, .none, .fixed 1, [.avx512vl, .avx512bw], .e7nm, false, false⟩,
   ⟨.evex, .m0F38, .pF3, .w1, .l256, 0x29, .kreg, .none, .vec, .reg, false, false, false, .none, 0, .none, .fixed 1, [.avx512vl, .avx512bw], .e7nm, false, false⟩,
   ⟨.evex, .m0F38, .pF3, .w1, .l512, 0x29, .kreg, .none, .vec, .reg, false, false, false, .none, 0, .none, .fixed 1, [.avx512bw], .e7nm, false, false⟩]

/-- VPMOVD2M (R736) -/
def vpmovd2m : List Row :=
  [⟨.evex, .m0F38, .pF3, .w0, .l128, 0x39, .kreg, .none, .vec, .reg, false, false, false, .none, 0, .none, .fixed 1, [.avx512vl, .avx512dq], .e7nm, false, false⟩,
   ⟨.evex, .m0F38, .pF3, .w0, .l256, 0x39, .kreg, .none, .vec, .reg, false, false, false, .none, 0, .none, .fixed 1, [.avx512vl, .avx512dq], .e7nm, false, false⟩,
   ⟨.evex, .m0F38, .pF3, .w0, .l512, 0x39, .kreg, .none, .vec, .reg, false, false, false, .none, 0, .none, .fixed 1, [.avx512dq], .e7nm, false, false⟩]

/-- VPMOVQ2M (R737) -/
def vpmovq2m : List Row :=
  [⟨.evex, .m0F38, .pF3, .w1, .l128, 0x39, .kreg, .none, .vec, .reg, false, false, false, .none, 0, .none, .fixed 1, [.avx512vl, .avx512dq], .e7nm, false, false⟩,
   ⟨.evex, .m0F38, .pF3, .w1, .l256, 0x39, .kreg, .none, .vec, .reg, false, false, false, .none, 0, .none, .fixed 1, [.avx512vl, .avx512dq], .e7nm, false, false⟩,
   ⟨.evex, .m0F38, .pF3, .w1, .l512, 0x39, .kreg, .none, .vec, .reg, false, false, false, .none, 0, .none, .fixed 1, [.avx512dq], .e7nm, false, false⟩]

/-- VPMOVQB (R740) -/
def vpmovqb : List Row :=
  [⟨.evex, .m0F38, .pF3, .w0, .l128, 0x32, .vec, .none, .vec, .any, false, false, true, .zero, 0, .none, .ovm, [.avx512vl, .avx512f], .e6, false, false⟩,
   ⟨.evex, .m0F38, .pF3, .w0, .l256, 0x32, .vec, .none, .vec, .any, false, false, true, .zero, 0, .none, .ovm, [.avx512vl, .avx512f], .e6, false, false⟩,
   ⟨.evex, .m0F38, .pF3, .w0, .l512, 0x32, .vec, .none, .vec, .any, false, false, true, .zero, 0, .none, .ovm, [.avx512f], .e6, false, false⟩]

/-- VPMOVSQB (R741) -/
def vpmovsqb : List Row :=
  [⟨.evex, .m0F38, .pF3, .w0, .l128, 0x22, .vec, .none, .vec, .any, false, false, true, .zero, 0, .none, .ovm, [.avx512vl, .avx512f], .e6, false, false⟩,
   ⟨.evex, .m0F38, .pF3, .w0, .l256, 0x22, .vec, .none, .vec, .any, false, false, true, .zero, 0, .none, .ovm, [.avx512vl, .avx512f], .e6, false, false⟩,
   ⟨.evex, .m0F38, .pF3, .w0, .l512, 0x22, .vec, .none, .vec, .any, false, false, true, .zero, 0, .none, .ovm, [.avx512f], .e6, false, false⟩]

/-- VPMOVUSQB (R742) -/
def vpmovusqb : List Row :=
  [⟨.evex, .m0F38, .pF3, .w0, .l128, 0x12, .vec, .none, .vec, .any, false, false, true, .zero, 0, .none, .ovm, [.avx512vl, .avx512f], .e6, false, false⟩,
   ⟨.evex, .m0F38, .pF3, .w0, .l256, 0x12, .vec, .none, .vec, .any, false, false, true, .zero, 0, .none, .ovm, [.avx512vl, .avx512f], .e6, false, false⟩,
   ⟨.evex, .m0F38, .pF3, .w0, .l512, 0x12, .vec, .none, .vec, .any, false, false, true, .zero, 0, .none, .ovm, [.avx512f], .e6, false, false⟩]

/-- VPMOVQW (R743) -/
def vpmovqw : List Row :=
  [⟨.evex, .m0F38, .pF3, .w0, .l128, 0x34, .vec, .none, .vec, .any, false, false, true, .zero, 0, .none, .qvm, [.avx512vl, .avx512f], .e6, false, false⟩,
   ⟨.evex, .m0F38, .pF3, .w0, .l256, 0x34, .vec, .none, .vec, .any, false, false, true, .zero, 0, .none, .qvm, [.avx512vl, .avx512f], .e6, false, false⟩,
   ⟨.evex, .m0F38, .pF3, .w0, .l512, 0x34, .vec, .none, .vec, .any, false, false, true, .zero, 0, .none, .qvm, [.avx512f], .e6, false, false⟩]

/-- VPMOVSQW (R744) -/
def vpmovsqw : List Row :=
  [⟨.evex, .m0F38, .pF3, .w0, .l128, 0x24, .vec, .none, .vec, .any, false, false, true, .zero, 0, .none, .qvm, [.avx512vl, .avx512f], .e6, false, false⟩,
   ⟨.evex, .m0F38, .pF3, .w0, .l256, 0x24, .vec, .none, .vec, .any, false, false, true, .zero, 0, .none, .qvm, [.avx512vl, .avx512f], .e6, false, false⟩,
   ⟨.evex, .m0F38, .pF3, .w0, .l512, 0x24, .vec, .none, .vec, .any, false, false, true, .zero, 0, .none, .qvm, [.avx512f], .e6, false, false⟩]

/-- VPMOVUSQW (R745) -/
def vpmovusqw : List Row :=
  [⟨.evex, .m0F38, .pF3, .w0, .l128, 0x14, .vec, .none, .vec, .any, false, false, true, .zero, 0, .none, .qvm, [.avx512vl, .avx512f], .e6, false, false⟩,
   ⟨.evex, .m0F38, .pF3, .w0, .l256, 0x14, .vec, .none, .vec, .any, false, false, true, .zero, 0, .none, .qvm, [.avx512vl, .avx512f], .e6, false, false⟩,
   ⟨.evex, .m0F38, .pF3, .w0, .l512, 0x14, .vec, .none, .vec, .any, false, false, true, .zero, 0, .none, .qvm, [.avx512f], .e6, false, false⟩]

/-- VPMOVQD (R746) -/
def vpmovqd : List Row :=
  [⟨.evex, .m0F38, .pF3, .w0, .l128, 0x35, .vec, .none, .vec, .any, false, false, true, .zero, 0, .none, .hvm, [.avx512vl, .avx512f], .e6, false, false⟩,
   ⟨.evex, .m0F38, .pF3, .w0, .l256, 0x35, .vec, .none, .vec, .any, false, false, true, .zero, 0, .none, .hvm, [.avx512vl, .avx512f], .e6, false, false⟩,
   ⟨.evex, .m0F38, .pF3, .w0, .l512, 0x35, .vec, .none, .vec, .any, false, false, true, .zero, 0, .none, .hvm, [.avx512f], .e6, false, false⟩]

/-- VPMOVSQD (R747) -/
def vpmovsqd : List Row :=
  [⟨.evex, .m0F38, .pF3, .w0, .l128, 0x25, .vec, .none, .vec, .any, false, false, true, .zero, 0, .none, .hvm, [.avx512vl, .avx512f], .e6, false, false⟩,
   ⟨.evex, .m0F38, .pF3, .w0, .l256, 0x25, .vec, .none, .vec, .any, false, false, true, .zero, 0, .none, .hvm, [.avx512vl, .avx512f], .e6, false, false⟩,
   ⟨.evex, .m0F38, .pF3, .w0, .l512, 0x25, .vec, .none, .vec, .any, false, false, true, .zero, 0, .none, .hvm, [.avx512f], .e6, false, false⟩]

/-- VPMOVUSQD (R748) -/
def vpmovusqd : List Row :=
  [⟨.evex, .m0F38, .pF3, .w0, .l128, 0x15, .vec, .none, .vec, .any, false, false, true, .zero, 0, .none, .hvm, [.avx512vl, .avx512f], .e6, false, false⟩,
   ⟨.evex, .m0F38, .pF3, .w0, .l256, 0x15, .vec, .none, .vec, .any, false, false, true, .zero, 0, .none, .hvm, [.avx512vl, .avx512f], .e6, false, false⟩,
   ⟨.evex, .m0F38, .pF3, .w0, .l512, 0x15, .vec, .none, .vec, .any, false, false, true, .zero, 0, .none, .hvm, [.avx512f], .e6, false, false⟩]

/-- VPMOVDB (R749) -/
def vpmovdb : List Row :=
  [⟨.evex, .m0F38, .pF3, .w0, .l128, 0x31, .vec, .none, .vec, .any, false, false, true, .zero, 0, .none, .qvm, [.avx512vl, .avx512f], .e6, false, false⟩,
   ⟨.evex, .m0F38, .pF3, .w0, .l256, 0x31, .vec, .none, .vec, .any, false, false, true, .zero, 0, .none, .qvm, [.avx512vl, .avx512f], .e6, false, false⟩,
   ⟨.evex, .m0F38, .pF3, .w0, .l512, 0x31, .vec, .none, .vec, .any, false, false, true, .zero, 0, .none, .qvm, [.avx512f], .e6, false, false⟩]

/-- VPMOVSDB (R750) -/
def vpmovsdb : List Row :=
  [⟨.evex, .m0F38, .pF3, .w0, .l128, 0x21, .vec, .none, .vec, .any, false, false, true, .zero, 0, .none, .qvm, [.avx512vl, .avx512f], .e6, false, false⟩,
   ⟨.evex, .m0F38, .pF3, .w0, .l256, 0x21, .vec, .none, .vec, .any, false, false, true, .zero, 0, .none, .qvm, [.avx512vl, .avx512f], .e6, false, false⟩,
   ⟨.evex, .m0F38, .pF3, .w0, .l512, 0x21, .vec, .none, .vec, .any, false, false, true, .zero, 0, .none, .qvm, [.avx512f], .e6, false, false⟩]

/-- VPMOVUSDB (R751) -/
def vpmovusdb : List Row :=
  [⟨.evex, .m0F38, .pF3, .w0, .l128, 0x11, .vec, .none, .vec, .any, false, false, true, .zero, 0, .none, .qvm, [.avx512vl, .avx512f], .e6, false, false⟩,
   ⟨.evex, .m0F38, .pF3, .w0, .l256, 0x11, .vec, .none, .vec, .any, false, false, true, .zero, 0, .none, .qvm, [.avx512vl, .avx512f], .e6, false, false⟩,
   ⟨.evex, .m0F38, .pF3, .w0, .l512, 0x11, .vec, .none, .vec, .any, false, false, true, .zero, 0, .none, .qvm, [.avx512f], .e6, false, false⟩]

/-- VPMOVDW (R752) -/
def vpmovdw : List Row :=
  [⟨.evex, .m0F38, .pF3, .w0, .l128, 0x33, .vec, .none, .vec, .any, false, false, true, .zero, 0, .none, .hvm, [.avx512vl, .avx512f], .e6, false, false⟩,
   ⟨.evex, .m0F38, .pF3, .w0, .l256, 0x33, .vec, .none, .vec, .any, false, false, true, .zero, 0, .none, .hvm, [.avx512vl, .avx512f], .e6, false, false⟩,
   ⟨.evex, .m0F38, .pF3, .w0, .l512, 0x33, .vec, .none, .vec, .any, false, false, true, .zero, 0, .none, .hvm, [.avx512f], .e6, false, false⟩]

/-- VPMOVSDW (R753) -/
def vpmovsdw : List Row :=
  [⟨.evex, .m0F38, .pF3, .w0, .l128, 0x23, .vec, .none, .vec, .any, false, false, true, .zero, 0, .none, .hvm, [.avx512vl, .avx512f], .e6, false, false⟩,
   ⟨.evex, .m0F38, .pF3, .w0, .l256, 0x23, .vec, .none, .vec, .any, false, false, true, .zero, 0, .none, .hvm, [.avx512vl, .avx512f], .e6, false, false⟩,
   ⟨.evex, .m0F38, .pF3, .w0, .l512, 0x23, .vec, .none, .vec, .any, false, false, true, .zero, 0, .none, .hvm, [.avx512f], .e6, false, false⟩]

/-- VPMOVUSDW (R754) -/
def vpmovusdw : List Row :=
  [⟨.evex, .m0F38, .pF3, .w0, .l128, 0x13, .vec, .none, .vec, .any, false, false, true, .zero, 0, .none, .hvm, [.avx512vl, .avx512f], .e6, false, false⟩,
   ⟨.evex, .m0F38, .pF3, .w0, .l256, 0x13, .vec, .none, .vec, .any, false, false, true, .zero, 0, .none, .hvm, [.avx512vl, .avx512f], .e6, false, false⟩,
   ⟨.evex, .m0F38, .pF3, .w0, .l512, 0x13, .vec, .none, .vec, .any, false, false, true, .zero, 0, .none, .hvm, [.avx512f], .e6, false, false⟩]

/-- VPMOVWB (R755) -/
def vpmovwb : List Row :=
  [⟨.evex, .m0F38, .pF3, .w0, .l128, 0x30, .vec, .none, .vec, .any, false, false, true, .zero, 0, .none, .hvm, [.avx512vl, .avx512bw], .e6nf, false, false⟩,
   ⟨.evex, .m0F38, .pF3, .w0, .l256, 0x30, .vec, .none, .vec, .any, false, false, true, .zero, 0, .none, .hvm, [.avx512vl, .avx512bw], .e6nf, false, false⟩,
   ⟨.evex, .m0F38, .pF3, .w0, .l512, 0x30, .vec, .none, .vec, .any, false, false, true, .zero, 0, .none, .hvm, [.avx512bw], .e6nf, false, false⟩]

/-- VPMOVSWB (R756) -/
def vpmovswb : List Row :=
  [⟨.evex, .m0F38, .pF3, .w0, .l128, 0x20, .vec, .none, .vec, .any, false, false, true, .zero, 0, .none, .hvm, [.avx512vl, .avx512bw], .e6nf, false, false⟩,
   ⟨.evex, .m0F38, .pF3, .w0, .l256, 0x20, .vec, .none, .vec, .any, false, false, true, .zero, 0, .none, .hvm, [.avx512vl, .avx512bw], .e6nf, false, false⟩,
   ⟨.evex, .m0F38, .pF3, .w0, .l512, 0x20, .vec, .none, .vec, .any, false, false, true, .zero, 0, .none, .hvm, [.avx512bw], .e6nf, false, false⟩]

/-- VPMOVUSWB (R757) -/
def vpmovuswb : List Row :=
  [⟨.evex, .m0F38, .pF3, .w0, .l128, 0x10, .vec, .none, .vec, .any, false, false, true, .zero, 0, .none, .hvm, [.avx512vl, .avx512bw], .e6nf, false, false⟩,
   ⟨.evex, .m0F38, .pF3, .w0, .l256, 0x10, .vec, .none, .vec, .any, false, false, true, .zero, 0, .none, .hvm, [.avx512vl, .avx512bw], .e6nf, false, false⟩,
   ⟨.evex, .m0F38, .pF3, .w0, .l512, 0x10, .vec, .none, .vec, .any, false, false, true, .zero, 0, .none, .hvm, [.avx512bw], .e6nf, false, false⟩]

/-- PMOVSXBW (R759) -/
def pmovsxbw : List Row :=
  [⟨.legacy, .m0F38, .p66, .wig, .any, 0x20, .vec, .none, .vec, .any, false, false, false, .none, 0, .none, .fixed 1, [.sse41], .sse 5, false, false⟩]

/-- VPMOVSXBW (R759) -/
def vpmovsxbw : List Row :=
  [⟨.vex, .m0F38, .p66, .wig, .l128, 0x20, .vec, .none, .vec, .any, false, false, false, .none, 0, .none, .fixed 1, [.avx], .vex 5, false, false⟩,
   ⟨.vex, .m0F38, .p66, .wig, .l256, 0x20, .vec, .none, .vec, .any, false, false, false, .none, 0, .none, .fixed 1, [.avx2], .vex 5, false, false⟩,
   ⟨.evex, .m0F38, .p66, .wig, .l128, 0x20, .vec, .none, .vec, .any, false, false, false, .zero, 0, .none, .hvm, [.avx512vl, .avx512bw], .e5, false, false⟩,
   ⟨.evex, .m0F38, .p66, .wig, .l256, 0x20, .vec, .none, .vec, .any, false, false, false, .zero, 0, .none, .hvm, [.avx512vl, .avx512bw], .e5, false, false⟩,
   ⟨.evex, .m0F38, .p66, .wig, .l512, 0x20, .vec, .none, .vec, .any, false, false, false, .zero, 0, .none, .hvm, [.avx512bw], .e5, false, false⟩]

/-- PMOVSXBD (R760) -/
def pmovsxbd : List Row :=
  [⟨.legacy, .m0F38, .p66, .wig, .any, 0x21, .vec, .none, .vec, .any, false, false, false, .none, 0, .none, .fixed 1, [.sse41], .sse 5, false, false⟩]

/-- VPMOVSXBD (R760) -/
def vpmovsxbd : List Row :=
  [⟨.vex, .m0F38, .p66, .wig, .l128, 0x21, .vec, .none, .vec, .any, false, false, false, .none, 0, .none, .fixed 1, [.avx], .vex 5, false, false⟩,
   ⟨.vex, .m0F38, .p66, .wig, .l256, 0x21, .vec, .none, .vec, .any, false, false, false, .none, 0, .none, .fixed 1, [.avx2], .vex 5, false, false⟩,
   ⟨.evex, .m0F38, .p66, .wig, .l128, 0x21, .vec, .none, .vec, .any, false, false, false, .zero, 0, .none, .qvm, [.avx512vl, .avx512f], .e5, false, false⟩,
   ⟨.evex, .m0F38, .p66, .wig, .l256, 0x21, .vec, .none, .vec, .any, false, false, false, .zero, 0, .none, .qvm, [.avx512vl, .avx512f], .e5, false, false⟩,
   ⟨.evex, .m0F38, .p66, .wig, .l512, 0x21, .vec, .none, .vec, .any, false, false, false, .zero, 0, .none, .qvm, [.avx512f], .e5, false, false⟩]

/-- PMOVSXBQ (R761) -/
def pmovsxbq : List Row :=
  [⟨.legacy, .m0F38, .p66, .wig, .any, 0x22, .vec, .none, .vec, .any, false, false, false, .none, 0, .none, .fixed 1, [.sse41], .sse 5, false, false⟩]

/-- VPMOVSXBQ (R761) -/
def vpmovsxbq : List Row :=
  [⟨.vex, .m0F38, .p66, .wig, .l128, 0x22, .vec, .none, .vec, .any, false, false, false, .none, 0, .none, .fixed 1, [.avx], .vex 5, false, false⟩,
   ⟨.vex, .m0F38, .p66, .wig, .l256, 0x22, .vec, .none, .vec, .any, false, false, false, .none, 0, .none, .fixed 1, [.avx2], .vex 5, false, false⟩,
   ⟨.evex, .m0F38, .p66, .wig, .l128, 0x22, .vec, .none, .vec, .any, false, false, false, .zero, 0, .none, .ovm, [.avx512vl, .avx512f], .e5, false, false⟩,
   ⟨.evex, .m0F38, .p66, .wig, .l256, 0x22, .vec, .none, .vec, .any, false, false, false, .zero, 0, .none, .ovm, [.avx512vl, .avx512f], .e5, false, false⟩,
   ⟨.evex, .m0F38, .p66, .wig, .l512, 0x22, .vec, .none, .vec, .any, false, false, false, .zero, 0, .none, .ovm, [.avx512f], .e5, false, false⟩]

/-- PMOVSXWD (R762) -/
def pmovsxwd : List Row :=
  [⟨.legacy, .m0F38, .p66, .wig, .any, 0x23, .vec, .none, .vec, .any, false, false, false, .none, 0, .none, .fixed 1, [.sse41], .sse 5, false, false⟩]

/-- VPMOVSXWD (R762) -/
def vpmovsxwd : List Row :=
  [⟨.vex, .m0F38, .p66, .wig, .l128, 0x23, .vec, .none, .vec, .any, false, false, false, .none, 0, .none, .fixed 1, [.avx], .vex 5, false, false⟩,
   ⟨.vex, .m0F38, .p66, .wig, .l256, 0x23, .vec, .none, .vec, .any, false, false, false, .none, 0, .none, .fixed 1, [.avx2], .vex 5, false, false⟩,
   ⟨.evex, .m0F38, .p66, .wig, .l128, 0x23, .vec, .none, .vec, .any, false, false, false, .zero, 0, .none, .hvm, [.avx512vl, .avx512f], .e5, false, false⟩,
   ⟨.evex, .m0F38, .p66, .wig, .l256, 0x23, .vec, .none, .vec, .any, false, false, false, .zero, 0, .none, .hvm, [.avx512vl, .avx512f], .e5, false, false⟩,
   ⟨.evex, .m0F38, .p66, .wig, .l512, 0x23, .vec, .none, .vec, .any, false, false, false, .zero, 0, .none, .hvm, [.avx512f], .e5, false, false⟩]

/-- PMOVSXWQ (R763) -/
def pmovsxwq : List Row :=
  [⟨.legacy, .m0F38, .p66, .wig, .any, 0x24, .vec, .none, .vec, .any, false, false, false, .none, 0, .none, .fixed 1, [.sse41], .sse 5, false, false⟩]

/-- VPMOVSXWQ (R763) -/
def vpmovsxwq : List Row :=
  [⟨.vex, .m0F38, .p66, .wig, .l128, 0x24, .vec, .none, .vec, .any, false, false, false, .none, 0, .none, .fixed 1, [.avx], .vex 5, false, false⟩,
   ⟨.vex, .m0F38, .p66, .wig, .l256, 0x24, .vec, .none, .vec, .any, false, false, false, .none, 0, .none, .fixed 1, [.avx2], .vex 5, false, false⟩,
   ⟨.evex, .m0F38, .p66, .wig, .l128, 0x24, .vec, .none, .vec, .any, false, false, false, .zero, 0, .none, .qvm, [.avx512vl, .avx512f], .e5, false, false⟩,
   ⟨.evex, .m0F38, .p66, .wig, .l256, 0x24, .vec, .none, .vec, .any, false, false, false, .zero, 0, .none, .qvm, [.avx512vl, .avx512f], .e5, false, false⟩,
   ⟨.evex, .m0F38, .p66, .wig, .l512, 0x24, .vec, .none, .vec, .any, false, false, false, .zero, 0, .none, .qvm, [.avx512f], .e5, false, false⟩]

/-- PMOVSXDQ (R764) -/
def pmovsxdq : List Row :=
  [⟨.legacy, .m0F38, .p66, .wig, .any, 0x25, .vec, .none, .vec, .any, false, false, false, .none, 0, .none, .fixed 1, [.sse41], .sse 5, false, false⟩]

/-- VPMOVSXDQ (R764) -/
def vpmovsxdq : List Row :=
  [⟨.vex, .m0F38, .p66, .wig, .l128, 0x25, .vec, .none, .vec, .any, false, false, false, .none, 0, .none, .fixed 1, [.avx], .vex 5, false, false⟩,
   ⟨.vex, .m0F38, .p66, .wig, .l256, 0x25, .vec, .none, .vec, .any, false, false, false, .none, 0, .none, .fixed 1, [.avx2], .vex 5, false, false⟩,
   ⟨.evex, .m0F38, .p66, .w0, .l128, 0x25, .vec, .none, .vec, .any, false, false, false, .zero, 0, .none, .hvm, [.avx512vl, .avx512f], .e5, false, false⟩,
   ⟨.evex, .m0F38, .p66, .w0, .l256, 0x25, .vec, .none, .vec, .any, false, false, false, .zero, 0, .none, .hvm, [.avx512vl, .avx512f], .e5, false, false⟩,
   ⟨.evex, .m0F38, .p66, .w0, .l512, 0x25, .vec, .none, .vec, .any, false, false, false, .zero, 0, .none, .hvm, [.avx512f], .e5, false, false⟩]

/-- PMOVZXBW (R765) -/
def pmovzxbw : List Row :=
  [⟨.legacy, .m0F38, .p66, .wig, .any, 0x30, .vec, .none, .vec, .any, false, false, false, .none, 0, .none, .fixed 1, [.sse41], .sse 5, false, false⟩]

/-- VPMOVZXBW (R765) -/
def vpmovzxbw : List Row :=
  [⟨.vex, .m0F38, .p66, .wig, .l128, 0x30, .vec, .none, .vec, .any, false, false, false, .none, 0, .none, .fixed 1, [.avx], .vex 5, false, false⟩,
   ⟨.vex, .m0F38, .p66, .wig, .l256, 0x30, .vec, .none, .vec, .any, false, false, false, .none, 0, .none, .fixed 1, [.avx2], .vex 5, false, false⟩,
   ⟨.evex, .m0F38, .p66, .wig, .l128, 0x30, .vec, .none, .vec, .any, false, false, false, .zero, 0, .none, .hvm, [.avx512vl, .avx512bw], .e5, false, false⟩,
   ⟨.evex, .m0F38, .p66, .wig, .l256, 0x30, .vec, .none, .vec, .any, false, false, false, .zero, 0, .none, .hvm, [.avx512vl, .avx512bw], .e5, false, false⟩,
   ⟨.evex, .m0F38, .p66, .wig, .l512, 0x30, .vec, .none, .vec, .any, false, false, false, .zero, 0, .none, .hvm, [.avx512bw], .e5, false, false⟩]

/-- PMOVZXBD (R766) -/
def pmovzxbd : List Row :=
  [⟨.legacy, .m0F38, .p66, .wig, .any, 0x31, .vec, .none, .vec, .any, false, false, false, .none, 0, .none, .fixed 1, [.sse41], .sse 5, false, false⟩]

/-- VPMOVZXBD (R766) -/
def vpmovzxbd : List Row :=
  [⟨.vex, .m0F38, .p66, .wig, .l128, 0x31, .vec, .none, .vec, .any, false, false, false, .none, 0, .none, .fixed 1, [.avx], .vex 5, false, false⟩,
   ⟨.vex, .m0F38, .p66, .wig, .l256, 0x31, .vec, .none, .vec, .any, false, false, false, .none, 0, .none, .fixed 1, [.avx2], .vex 5, false, false⟩,
   ⟨.evex, .m0F38, .p66, .wig, .l128, 0x31, .vec, .none, .vec, .any, false, false, false, .zero, 0, .none, .qvm, [.avx512vl, .avx512f], .e5, false, false⟩,
   ⟨.evex, .m0F38, .p66, .wig, .l256, 0x31, .vec, .none, .vec, .any, false, false, false, .zero, 0, .none, .qvm, [.avx512vl, .avx512f], .e5, false, false⟩,
   ⟨.evex, .m0F38, .p66, .wig, .l512, 0x31, .vec, .none, .vec, .any, false, false, false, .zero, 0, .none, .qvm, [.avx512f], .e5, false, false⟩]

/-- PMOVZXBQ (R767) -/
def pmovzxbq : List Row :=
  [⟨.legacy, .m0F38, .p66, .wig, .any, 0x32, .vec, .none, .vec, .any, false, false, false, .none, 0, .none, .fixed 1, [.sse41], .sse 5, false, false⟩]

/-- VPMOVZXBQ (R767) -/
def vpmovzxbq : List Row :=
  [⟨.vex, .m0F38, .p66, .wig, .l128, 0x32, .vec, .none, .vec, .any, false, false, false, .none, 0, .none, .fixed 1, [.avx], .vex 5, false, false⟩,
   ⟨.vex, .m0F38, .p66, .wig, .l256, 0x32, .vec, .none, .vec, .any, false, false, false, .none, 0, .none, .fixed 1, [.avx2], .vex 5, false, false⟩,
   ⟨.evex, .m0F38, .p66, .wig, .l128, 0x32, .vec, .none, .vec, .any, false, false, false, .zero, 0, .none, .ovm, [.avx512vl, .avx512f], .e5, false, false⟩,
   ⟨.evex, .m0F38, .p66, .wig, .l256, 0x32, .vec, .none, .vec, .any, false, false, false, .zero, 0, .none, .ovm, [.avx512vl, .avx512f], .e5, false, false⟩,
   ⟨.evex, .m0F38, .p66, .wig, .l512, 0x32, .vec, .none, .vec, .any, false, false, false, .zero, 0, .none, .ovm, [.avx512f], .e5, false, false⟩]

/-- PMOVZXWD (R768) -/
def pmovzxwd : List Row :=
  [⟨.legacy, .m0F38, .p66, .wig, .any, 0x33, .vec, .none, .vec, .any, false, false, false, .none, 0, .none, .fixed 1, [.sse41], .sse 5, false, false⟩]

/-- VPMOVZXWD (R768) -/
def vpmovzxwd : List Row :=
  [⟨.vex, .m0F38, .p66, .wig, .l128, 0x33, .vec, .none, .vec, .any, false, false, false, .none, 0, .none, .fixed 1, [.avx], .vex 5, false, false⟩,
   ⟨.vex, .m0F38, .p66, .wig, .l256, 0x33, .vec, .none, .vec, .any, false, false, false, .none, 0, .none, .fixed 1, [.avx2], .vex 5, false, false⟩,
   ⟨.evex, .m0F38, .p66, .wig, .l128, 0x33, .vec, .none, .vec, .any, false, false, false, .zero, 0, .none, .hvm, [.avx512vl, .avx512f], .e5, false, false⟩,
   ⟨.evex, .m0F38, .p66, .wig, .l256, 0x33, .vec, .none, .vec, .any, false, false, false, .zero, 0, .none, .hvm, [.avx512vl, .avx512f], .e5, false, false⟩,
   ⟨.evex, .m0F38, .p66, .wig, .l512, 0x33, .vec, .none, .vec, .any, false, false, false, .zero, 0, .none, .hvm, [.avx512f], .e5, false, false⟩]

/-- PMOVZXWQ (R769) -/
def pmovzxwq : List Row :=
  [⟨.legacy, .m0F38, .p66, .wig, .any, 0x34, .vec, .none, .vec, .any, false, false, false, .none, 0, .none, .fixed 1, [.sse41], .sse 5, false, false⟩]

/-- VPMOVZXWQ (R769) -/
def vpmovzxwq : List Row :=
  [⟨.vex, .m0F38, .p66, .wig, .l128, 0x34, .vec, .none, .vec, .any, false, false, false, .none, 0, .none, .fixed 1, [.avx], .vex 5, false, false⟩,
   ⟨.vex, .m0F38, .p66, .wig, .l256, 0x34, .vec, .none, .vec, .any, false, false, false, .none, 0, .none, .fixed 1, [.avx2], .vex 5, false, false⟩,
   ⟨.evex, .m0F38, .p66, .wig, .l128, 0x34, .vec, .none, .vec, .any, false, false, false, .zero, 0, .none, .qvm, [.avx512vl, .avx512f], .e5, false, false⟩,
   ⟨.evex, .m0F38, .p66, .wig, .l256, 0x34, .vec, .none, .vec, .any, false, false, false, .zero, 0, .none, .qvm, [.avx512vl, .avx512f], .e5, false, false⟩,
   ⟨.evex, .m0F38, .p66, .wig, .l512, 0x34, .vec, .none, .vec, .any, false, false, false, .zero, 0, .none, .qvm, [.avx512f], .e5, false, false⟩]

/-- PMOVZXDQ (R770) -/
def pmovzxdq : List Row :=
  [⟨.legacy, .m0F38, .p66, .wig, .any, 0x35, .vec, .none, .vec, .any, false, false, false, .none, 0, .none, .fixed 1, [.sse41], .sse 5, false, false⟩]

/-- VPMOVZXDQ (R770) -/
def vpmovzxdq : List Row :=
  [⟨.vex, .m0F38, .p66, .wig, .l128, 0x35, .vec, .none, .vec, .any, false, false, false, .none, 0, .none, .fixed 1, [.avx], .vex 5, false, false⟩,
   ⟨.vex, .m0F38, .p66, .wig, .l256, 0x35, .vec, .none, .vec, .any, false, false, false, .none, 0, .none, .fixed 1, [.avx2], .vex 5, false, false⟩,
   ⟨.evex, .m0F38, .p66, .w0, .l128, 0x35, .vec, .none, .vec, .any, false, false, false, .zero, 0, .none, .hvm, [.avx512vl, .avx512f], .e5, false, false⟩,
   ⟨.evex, .m0F38, .p66, .w0, .l256, 0x35, .vec, .none, .vec, .any, false, false, false, .zero, 0, .none, .hvm, [.avx512vl, .avx512f], .e5, false, false⟩,
   ⟨.evex, .m0F38, .p66, .w0, .l512, 0x35, .vec, .none, .vec, .any, false, false, false, .zero, 0, .none, .hvm, [.avx512f], .e5, false, false⟩]

end Sys2Proof.Machine.Rows
end

