-- ==== Sys2Proof/Machine/Exec51.lean ====
section
/-! DEFINITION. The meanings of the instructions of spec/51_vpmovm2b_to_pmovzx.md (VPMOV to PMOVZX), one definition each: the checks
of `State.run` on the rows of the instruction, then its operation on the row its fields select. -/

namespace Sys2Proof.Machine

/-- VPMOVM2B (R730). -/
def execVpmovm2b (o : Operands) (s : State) : Host.Outcome State Fault Refusal :=
  s.run Rows.vpmovm2b o fun r => s.fromMask r o 8 fun k j => boolMask 8 (k.getLsbD j)

/-- VPMOVM2W (R731). -/
def execVpmovm2w (o : Operands) (s : State) : Host.Outcome State Fault Refusal :=
  s.run Rows.vpmovm2w o fun r => s.fromMask r o 16 fun k j => boolMask 16 (k.getLsbD j)

/-- VPMOVM2D (R732). -/
def execVpmovm2d (o : Operands) (s : State) : Host.Outcome State Fault Refusal :=
  s.run Rows.vpmovm2d o fun r => s.fromMask r o 32 fun k j => boolMask 32 (k.getLsbD j)

/-- VPMOVM2Q (R733). -/
def execVpmovm2q (o : Operands) (s : State) : Host.Outcome State Fault Refusal :=
  s.run Rows.vpmovm2q o fun r => s.fromMask r o 64 fun k j => boolMask 64 (k.getLsbD j)

/-- VPMOVB2M (R734). -/
def execVpmovb2m (o : Operands) (s : State) : Host.Outcome State Fault Refusal :=
  s.run Rows.vpmovb2m o fun r => s.toMask r o 8

/-- VPMOVW2M (R735). -/
def execVpmovw2m (o : Operands) (s : State) : Host.Outcome State Fault Refusal :=
  s.run Rows.vpmovw2m o fun r => s.toMask r o 16

/-- VPMOVD2M (R736). -/
def execVpmovd2m (o : Operands) (s : State) : Host.Outcome State Fault Refusal :=
  s.run Rows.vpmovd2m o fun r => s.toMask r o 32

/-- VPMOVQ2M (R737). -/
def execVpmovq2m (o : Operands) (s : State) : Host.Outcome State Fault Refusal :=
  s.run Rows.vpmovq2m o fun r => s.toMask r o 64

/-- VPMOVQB (R740). -/
def execVpmovqb (o : Operands) (s : State) : Host.Outcome State Fault Refusal :=
  s.run Rows.vpmovqb o fun r => s.downConvert r o 64 8 fun x => x.setWidth 8

/-- VPMOVSQB (R741). -/
def execVpmovsqb (o : Operands) (s : State) : Host.Outcome State Fault Refusal :=
  s.run Rows.vpmovsqb o fun r => s.downConvert r o 64 8 fun x => satS 8 x.toInt

/-- VPMOVUSQB (R742). -/
def execVpmovusqb (o : Operands) (s : State) : Host.Outcome State Fault Refusal :=
  s.run Rows.vpmovusqb o fun r => s.downConvert r o 64 8 fun x => satU 8 x.toNat

/-- VPMOVQW (R743). -/
def execVpmovqw (o : Operands) (s : State) : Host.Outcome State Fault Refusal :=
  s.run Rows.vpmovqw o fun r => s.downConvert r o 64 16 fun x => x.setWidth 16

/-- VPMOVSQW (R744). -/
def execVpmovsqw (o : Operands) (s : State) : Host.Outcome State Fault Refusal :=
  s.run Rows.vpmovsqw o fun r => s.downConvert r o 64 16 fun x => satS 16 x.toInt

/-- VPMOVUSQW (R745). -/
def execVpmovusqw (o : Operands) (s : State) : Host.Outcome State Fault Refusal :=
  s.run Rows.vpmovusqw o fun r => s.downConvert r o 64 16 fun x => satU 16 x.toNat

/-- VPMOVQD (R746). -/
def execVpmovqd (o : Operands) (s : State) : Host.Outcome State Fault Refusal :=
  s.run Rows.vpmovqd o fun r => s.downConvert r o 64 32 fun x => x.setWidth 32

/-- VPMOVSQD (R747). -/
def execVpmovsqd (o : Operands) (s : State) : Host.Outcome State Fault Refusal :=
  s.run Rows.vpmovsqd o fun r => s.downConvert r o 64 32 fun x => satS 32 x.toInt

/-- VPMOVUSQD (R748). -/
def execVpmovusqd (o : Operands) (s : State) : Host.Outcome State Fault Refusal :=
  s.run Rows.vpmovusqd o fun r => s.downConvert r o 64 32 fun x => satU 32 x.toNat

/-- VPMOVDB (R749). -/
def execVpmovdb (o : Operands) (s : State) : Host.Outcome State Fault Refusal :=
  s.run Rows.vpmovdb o fun r => s.downConvert r o 32 8 fun x => x.setWidth 8

/-- VPMOVSDB (R750). -/
def execVpmovsdb (o : Operands) (s : State) : Host.Outcome State Fault Refusal :=
  s.run Rows.vpmovsdb o fun r => s.downConvert r o 32 8 fun x => satS 8 x.toInt

/-- VPMOVUSDB (R751). -/
def execVpmovusdb (o : Operands) (s : State) : Host.Outcome State Fault Refusal :=
  s.run Rows.vpmovusdb o fun r => s.downConvert r o 32 8 fun x => satU 8 x.toNat

/-- VPMOVDW (R752). -/
def execVpmovdw (o : Operands) (s : State) : Host.Outcome State Fault Refusal :=
  s.run Rows.vpmovdw o fun r => s.downConvert r o 32 16 fun x => x.setWidth 16

/-- VPMOVSDW (R753). -/
def execVpmovsdw (o : Operands) (s : State) : Host.Outcome State Fault Refusal :=
  s.run Rows.vpmovsdw o fun r => s.downConvert r o 32 16 fun x => satS 16 x.toInt

/-- VPMOVUSDW (R754). -/
def execVpmovusdw (o : Operands) (s : State) : Host.Outcome State Fault Refusal :=
  s.run Rows.vpmovusdw o fun r => s.downConvert r o 32 16 fun x => satU 16 x.toNat

/-- VPMOVWB (R755). -/
def execVpmovwb (o : Operands) (s : State) : Host.Outcome State Fault Refusal :=
  s.run Rows.vpmovwb o fun r => s.downConvert r o 16 8 fun x => x.setWidth 8

/-- VPMOVSWB (R756). -/
def execVpmovswb (o : Operands) (s : State) : Host.Outcome State Fault Refusal :=
  s.run Rows.vpmovswb o fun r => s.downConvert r o 16 8 fun x => satS 8 x.toInt

/-- VPMOVUSWB (R757). -/
def execVpmovuswb (o : Operands) (s : State) : Host.Outcome State Fault Refusal :=
  s.run Rows.vpmovuswb o fun r => s.downConvert r o 16 8 fun x => satU 8 x.toNat

/-- PMOVSXBW (R759). -/
def execPmovsxbw (o : Operands) (s : State) : Host.Outcome State Fault Refusal :=
  s.run Rows.pmovsxbw o fun r => s.widen r o 8 16 fun x => x.signExtend 16

/-- VPMOVSXBW (R759). -/
def execVpmovsxbw (o : Operands) (s : State) : Host.Outcome State Fault Refusal :=
  s.run Rows.vpmovsxbw o fun r => s.widen r o 8 16 fun x => x.signExtend 16

/-- PMOVSXBD (R760). -/
def execPmovsxbd (o : Operands) (s : State) : Host.Outcome State Fault Refusal :=
  s.run Rows.pmovsxbd o fun r => s.widen r o 8 32 fun x => x.signExtend 32

/-- VPMOVSXBD (R760). -/
def execVpmovsxbd (o : Operands) (s : State) : Host.Outcome State Fault Refusal :=
  s.run Rows.vpmovsxbd o fun r => s.widen r o 8 32 fun x => x.signExtend 32

/-- PMOVSXBQ (R761). -/
def execPmovsxbq (o : Operands) (s : State) : Host.Outcome State Fault Refusal :=
  s.run Rows.pmovsxbq o fun r => s.widen r o 8 64 fun x => x.signExtend 64

/-- VPMOVSXBQ (R761). -/
def execVpmovsxbq (o : Operands) (s : State) : Host.Outcome State Fault Refusal :=
  s.run Rows.vpmovsxbq o fun r => s.widen r o 8 64 fun x => x.signExtend 64

/-- PMOVSXWD (R762). -/
def execPmovsxwd (o : Operands) (s : State) : Host.Outcome State Fault Refusal :=
  s.run Rows.pmovsxwd o fun r => s.widen r o 16 32 fun x => x.signExtend 32

/-- VPMOVSXWD (R762). -/
def execVpmovsxwd (o : Operands) (s : State) : Host.Outcome State Fault Refusal :=
  s.run Rows.vpmovsxwd o fun r => s.widen r o 16 32 fun x => x.signExtend 32

/-- PMOVSXWQ (R763). -/
def execPmovsxwq (o : Operands) (s : State) : Host.Outcome State Fault Refusal :=
  s.run Rows.pmovsxwq o fun r => s.widen r o 16 64 fun x => x.signExtend 64

/-- VPMOVSXWQ (R763). -/
def execVpmovsxwq (o : Operands) (s : State) : Host.Outcome State Fault Refusal :=
  s.run Rows.vpmovsxwq o fun r => s.widen r o 16 64 fun x => x.signExtend 64

/-- PMOVSXDQ (R764). -/
def execPmovsxdq (o : Operands) (s : State) : Host.Outcome State Fault Refusal :=
  s.run Rows.pmovsxdq o fun r => s.widen r o 32 64 fun x => x.signExtend 64

/-- VPMOVSXDQ (R764). -/
def execVpmovsxdq (o : Operands) (s : State) : Host.Outcome State Fault Refusal :=
  s.run Rows.vpmovsxdq o fun r => s.widen r o 32 64 fun x => x.signExtend 64

/-- PMOVZXBW (R765). -/
def execPmovzxbw (o : Operands) (s : State) : Host.Outcome State Fault Refusal :=
  s.run Rows.pmovzxbw o fun r => s.widen r o 8 16 fun x => x.setWidth 16

/-- VPMOVZXBW (R765). -/
def execVpmovzxbw (o : Operands) (s : State) : Host.Outcome State Fault Refusal :=
  s.run Rows.vpmovzxbw o fun r => s.widen r o 8 16 fun x => x.setWidth 16

/-- PMOVZXBD (R766). -/
def execPmovzxbd (o : Operands) (s : State) : Host.Outcome State Fault Refusal :=
  s.run Rows.pmovzxbd o fun r => s.widen r o 8 32 fun x => x.setWidth 32

/-- VPMOVZXBD (R766). -/
def execVpmovzxbd (o : Operands) (s : State) : Host.Outcome State Fault Refusal :=
  s.run Rows.vpmovzxbd o fun r => s.widen r o 8 32 fun x => x.setWidth 32

/-- PMOVZXBQ (R767). -/
def execPmovzxbq (o : Operands) (s : State) : Host.Outcome State Fault Refusal :=
  s.run Rows.pmovzxbq o fun r => s.widen r o 8 64 fun x => x.setWidth 64

/-- VPMOVZXBQ (R767). -/
def execVpmovzxbq (o : Operands) (s : State) : Host.Outcome State Fault Refusal :=
  s.run Rows.vpmovzxbq o fun r => s.widen r o 8 64 fun x => x.setWidth 64

/-- PMOVZXWD (R768). -/
def execPmovzxwd (o : Operands) (s : State) : Host.Outcome State Fault Refusal :=
  s.run Rows.pmovzxwd o fun r => s.widen r o 16 32 fun x => x.setWidth 32

/-- VPMOVZXWD (R768). -/
def execVpmovzxwd (o : Operands) (s : State) : Host.Outcome State Fault Refusal :=
  s.run Rows.vpmovzxwd o fun r => s.widen r o 16 32 fun x => x.setWidth 32

/-- PMOVZXWQ (R769). -/
def execPmovzxwq (o : Operands) (s : State) : Host.Outcome State Fault Refusal :=
  s.run Rows.pmovzxwq o fun r => s.widen r o 16 64 fun x => x.setWidth 64

/-- VPMOVZXWQ (R769). -/
def execVpmovzxwq (o : Operands) (s : State) : Host.Outcome State Fault Refusal :=
  s.run Rows.vpmovzxwq o fun r => s.widen r o 16 64 fun x => x.setWidth 64

/-- PMOVZXDQ (R770). -/
def execPmovzxdq (o : Operands) (s : State) : Host.Outcome State Fault Refusal :=
  s.run Rows.pmovzxdq o fun r => s.widen r o 32 64 fun x => x.setWidth 64

/-- VPMOVZXDQ (R770). -/
def execVpmovzxdq (o : Operands) (s : State) : Host.Outcome State Fault Refusal :=
  s.run Rows.vpmovzxdq o fun r => s.widen r o 32 64 fun x => x.setWidth 64

end Sys2Proof.Machine
end

