-- ==== Sys2Proof/Machine/Rows52.lean ====
section
/-! DEFINITION. The rows of spec/opcode_table.json for the instructions of spec/52_pmuldq_to_vpscatter.md (PMUL to VPSCATTER), in the order of the table:
space, map, pp, W, L, opcode, roles of ModRM.reg, vvvv and r/m, mod, VSIB, imm8, r/m is the destination, masking, broadcast
bytes, rounding, tuple, CPUID flags, exception class, alignment, 64-bit mode only. -/

namespace Sys2Proof.Machine.Rows

/-- PMULDQ (R771) -/
def pmuldq : List Row :=
  [⟨.legacy, .m0F38, .p66, .wig, .any, 0x28, .vec, .none, .vec, .any, false, false, false, .none, 0, .none, .fixed 1, [.sse41], .sse 4, true, false⟩]

/-- VPMULDQ (R771) -/
def vpmuldq : List Row :=
  [⟨.vex, .m0F38, .p66, .wig, .l128, 0x28, .vec, .vec, .vec, .any, false, false, false, .none, 0, .none, .fixed 1, [.avx], .vex 4, false, false⟩,
   ⟨.vex, .m0F38, .p66, .wig, .l256, 0x28, .vec, .vec, .vec, .any, false, false, false, .none, 0, .none, .fixed 1, [.avx2], .vex 4, false, false⟩,
   ⟨.evex, .m0F38, .p66, .w1, .l128, 0x28, .vec, .vec, .vec, .any, false, false, false, .zero, 8, .none, .fv 8, [.avx512vl, .avx512f], .e4, false, false⟩,
   ⟨.evex, .m0F38, .p66, .w1, .l256, 0x28, .vec, .vec, .vec, .any, false, false, false, .zero, 8, .none, .fv 8, [.avx512vl, .avx512f], .e4, false, false⟩,
   ⟨.evex, .m0F38, .p66, .w1, .l512, 0x28, .vec, .vec, .vec, .any, false, false, false, .zero, 8, .none, .fv 8, [.avx512f], .e4, false, false⟩]

/-- PMULHRSW (R772) -/
def pmulhrsw : List Row :=
  [⟨.legacy, .m0F38, .p66, .wig, .any, 0x0B, .vec, .none, .vec, .any, false, false, false, .none, 0, .none, .fixed 1, [.ssse3], .sse 4, true, false⟩]

/-- VPMULHRSW (R772) -/
def vpmulhrsw : List Row :=
  [⟨.vex, .m0F38, .p66, .wig, .l128, 0x0B, .vec, .vec, .vec, .any, false, false, false, .none, 0, .none, .fixed 1, [.avx], .vex 4, false, false⟩,
   ⟨.vex, .m0F38, .p66, .wig, .l256, 0x0B, .vec, .vec, .vec, .any, false, false, false, .none, 0, .none, .fixed 1, [.avx2], .vex 4, false, false⟩,
   ⟨.evex, .m0F38, .p66, .wig, .l128, 0x0B, .vec, .vec, .vec, .any, false, false, false, .zero, 0, .none, .fvm, [.avx512vl, .avx512bw], .e4, false, false⟩,
   ⟨.evex, .m0F38, .p66, .wig, .l256, 0x0B, .vec, .vec, .vec, .any, false, false, false, .zero, 0, .none, .fvm, [.avx512vl, .avx512bw], .e4, false, false⟩,
   ⟨.evex, .m0F38, .p66, .wig, .l512, 0x0B, .vec, .vec, .vec, .any, false, false, false, .zero, 0, .none, .fvm, [.avx512bw], .e4, false, false⟩]

/-- PMULHUW (R773) -/
def pmulhuw : List Row :=
  [⟨.legacy, .m0F, .p66, .wig, .any, 0xE4, .vec, .none, .vec, .any, false, false, false, .none, 0, .none, .fixed 1, [.sse2], .sse 4, true, false⟩]

/-- VPMULHUW (R773) -/
def vpmulhuw : List Row :=
  [⟨.vex, .m0F, .p66, .wig, .l128, 0xE4, .vec, .vec, .vec, .any, false, false, false, .none, 0, .none, .fixed 1, [.avx], .vex 4, false, false⟩,
   ⟨.vex, .m0F, .p66, .wig, .l256, 0xE4, .vec, .vec, .vec, .any, false, false, false, .none, 0, .none, .fixed 1, [.avx2], .vex 4, false, false⟩,
   ⟨.evex, .m0F, .p66, .wig, .l128, 0xE4, .vec, .vec, .vec, .any, false, false, false, .zero, 0, .none, .fvm, [.avx512vl, .avx512bw], .e4, false, false⟩,
   ⟨.evex, .m0F, .p66, .wig, .l256, 0xE4, .vec, .vec, .vec, .any, false, false, false, .zero, 0, .none, .fvm, [.avx512vl, .avx512bw], .e4, false, false⟩,
   ⟨.evex, .m0F, .p66, .wig, .l512, 0xE4, .vec, .vec, .vec, .any, false, false, false, .zero, 0, .none, .fvm, [.avx512bw], .e4, false, false⟩]

/-- PMULHW (R774) -/
def pmulhw : List Row :=
  [⟨.legacy, .m0F, .p66, .wig, .any, 0xE5, .vec, .none, .vec, .any, false, false, false, .none, 0, .none, .fixed 1, [.sse2], .sse 4, true, false⟩]

/-- VPMULHW (R774) -/
def vpmulhw : List Row :=
  [⟨.vex, .m0F, .p66, .wig, .l128, 0xE5, .vec, .vec, .vec, .any, false, false, false, .none, 0, .none, .fixed 1, [.avx], .vex 4, false, false⟩,
   ⟨.vex, .m0F, .p66, .wig, .l256, 0xE5, .vec, .vec, .vec, .any, false, false, false, .none, 0, .none, .fixed 1, [.avx2], .vex 4, false, false⟩,
   ⟨.evex, .m0F, .p66, .wig, .l128, 0xE5, .vec, .vec, .vec, .any, false, false, false, .zero, 0, .none, .fvm, [.avx512vl, .avx512bw], .e4, false, false⟩,
   ⟨.evex, .m0F, .p66, .wig, .l256, 0xE5, .vec, .vec, .vec, .any, false, false, false, .zero, 0, .none, .fvm, [.avx512vl, .avx512bw], .e4, false, false⟩,
   ⟨.evex, .m0F, .p66, .wig, .l512, 0xE5, .vec, .vec, .vec, .any, false, false, false, .zero, 0, .none, .fvm, [.avx512bw], .e4, false, false⟩]

/-- PMULLD (R775) -/
def pmulld : List Row :=
  [⟨.legacy, .m0F38, .p66, .wig, .any, 0x40, .vec, .none, .vec, .any, false, false, false, .none, 0, .none, .fixed 1, [.sse41], .sse 4, true, false⟩]

/-- VPMULLD (R775) -/
def vpmulld : List Row :=
  [⟨.vex, .m0F38, .p66, .wig, .l128, 0x40, .vec, .vec, .vec, .any, false, false, false, .none, 0, .none, .fixed 1, [.avx], .vex 4, false, false⟩,
   ⟨.vex, .m0F38, .p66, .wig, .l256, 0x40, .vec, .vec, .vec, .any, false, false, false, .none, 0, .none, .fixed 1, [.avx2], .vex 4, false, false⟩,
   ⟨.evex, .m0F38, .p66, .w0, .l128, 0x40, .vec, .vec, .vec, .any, false, false, false, .zero, 4, .none, .fv 4, [.avx512vl, .avx512f], .e4, false, false⟩,
   ⟨.evex, .m0F38, .p66, .w0, .l256, 0x40, .vec, .vec, .vec, .any, false, false, false, .zero, 4, .none, .fv 4, [.avx512vl, .avx512f], .e4, false, false⟩,
   ⟨.evex, .m0F38, .p66, .w0, .l512, 0x40, .vec, .vec, .vec, .any, false, false, false, .zero, 4, .none, .fv 4, [.avx512f], .e4, false, false⟩]

/-- VPMULLQ (R776) -/
def vpmullq : List Row :=
  [⟨.evex, .m0F38, .p66, .w1, .l128, 0x40, .vec, .vec, .vec, .any, false, false, false, .zero, 8, .none, .fv 8, [.avx512vl, .avx512dq], .e4, false, false⟩,
   ⟨.evex, .m0F38, .p66, .w1, .l256, 0x40, .vec, .vec, .vec, .any, false, false, false, .zero, 8, .none, .fv 8, [.avx512vl, .avx512dq], .e4, false, false⟩,
   ⟨.evex, .m0F38, .p66, .w1, .l512, 0x40, .vec, .vec, .vec, .any, false, false, false, .zero, 8, .none, .fv 8, [.avx512dq], .e4, false, false⟩]

/-- PMULLW (R777) -/
def pmullw : List Row :=
  [⟨.legacy, .m0F, .p66, .wig, .any, 0xD5, .vec, .none, .vec, .any, false, false, false, .none, 0, .none, .fixed 1, [.sse2], .sse 4, true, false⟩]

/-- VPMULLW (R777) -/
def vpmullw : List Row :=
  [⟨.vex, .m0F, .p66, .wig, .l128, 0xD5, .vec, .vec, .vec, .any, false, false, false, .none, 0, .none, .fixed 1, [.avx], .vex 4, false, false⟩,
   ⟨.vex, .m0F, .p66, .wig, .l256, 0xD5, .vec, .vec, .vec, .any, false, false, false, .none, 0, .none, .fixed 1, [.avx2], .vex 4, false, false⟩,
   ⟨.evex, .m0F, .p66, .wig, .l128, 0xD5, .vec, .vec, .vec, .any, false, false, false, .zero, 0, .none, .fvm, [.avx512vl, .avx512bw], .e4, false, false⟩,
   ⟨.evex, .m0F, .p66, .wig, .l256, 0xD5, .vec, .vec, .vec, .any, false, false, false, .zero, 0, .none, .fvm, [.avx512vl, .avx512bw], .e4, false, false⟩,
   ⟨.evex, .m0F, .p66, .wig, .l512, 0xD5, .vec, .vec, .vec, .any, false, false, false, .zero, 0, .none, .fvm, [.avx512bw], .e4, false, false⟩]

/-- VPMULTISHIFTQB (R778) -/
def vpmultishiftqb : List Row :=
  [⟨.evex, .m0F38, .p66, .w1, .l128, 0x83, .vec, .vec, .vec, .any, false, false, false, .zero, 8, .none, .fv 8, [.avx512vbmi, .avx512vl], .e4nf, false, false⟩,
   ⟨.evex, .m0F38, .p66, .w1, .l256, 0x83, .vec, .vec, .vec, .any, false, false, false, .zero, 8, .none, .fv 8, [.avx512vbmi, .avx512vl], .e4nf, false, false⟩,
   ⟨.evex, .m0F38, .p66, .w1, .l512, 0x83, .vec, .vec, .vec, .any, false, false, false, .zero, 8, .none, .fv 8, [.avx512vbmi], .e4nf, false, false⟩]

/-- PMULUDQ (R779) -/
def pmuludq : List Row :=
  [⟨.legacy, .m0F, .p66, .wig, .any, 0xF4, .vec, .none, .vec, .any, false, false, false, .none, 0, .none, .fixed 1, [.sse41], .sse 4, true, false⟩]

/-- VPMULUDQ (R779) -/
def vpmuludq : List Row :=
  [⟨.vex, .m0F, .p66, .wig, .l128, 0xF4, .vec, .vec, .vec, .any, false, false, false, .none, 0, .none, .fixed 1, [.avx], .vex 4, false, false⟩,
   ⟨.vex, .m0F, .p66, .wig, .l256, 0xF4, .vec, .vec, .vec, .any, false, false, false, .none, 0, .none, .fixed 1, [.avx2], .vex 4, false, false⟩,
   ⟨.evex, .m0F, .p66, .w1, .l128, 0xF4, .vec, .vec, .vec, .any, false, false, false, .zero, 8, .none, .fv 8, [.avx512vl, .avx512f], .e4, false, false⟩,
   ⟨.evex, .m0F, .p66, .w1, .l256, 0xF4, .vec, .vec, .vec, .any, false, false, false, .zero, 8, .none, .fv 8, [.avx512vl, .avx512f], .e4, false, false⟩,
   ⟨.evex, .m0F, .p66, .w1, .l512, 0xF4, .vec, .vec, .vec, .any, false, false, false, .zero, 8, .none, .fv 8, [.avx512f], .e4, false, false⟩]

/-- POR (R780) -/
def por : List Row :=
  [⟨.legacy, .m0F, .p66, .wig, .any, 0xEB, .vec, .none, .vec, .any, false, false, false, .none, 0, .none, .fixed 1, [.sse2], .sse 4, true, false⟩]

/-- VPOR (R780) -/
def vpor : List Row :=
  [⟨.vex, .m0F, .p66, .wig, .l128, 0xEB, .vec, .vec, .vec, .any, false, false, false, .none, 0, .none, .fixed 1, [.avx], .vex 4, false, false⟩,
   ⟨.vex, .m0F, .p66, .wig, .l256, 0xEB, .vec, .vec, .vec, .any, false, false, false, .none, 0, .none, .fixed 1, [.avx2], .vex 4, false, false⟩]

/-- VPORD (R781) -/
def vpord : List Row :=
  [⟨.evex, .m0F, .p66, .w0, .l128, 0xEB, .vec, .vec, .vec, .any, false, false, false, .zero, 4, .none, .fv 4, [.avx512vl, .avx512f], .e4, false, false⟩,
   ⟨.evex, .m0F, .p66, .w0, .l256, 0xEB, .vec, .vec, .vec, .any, false, false, false, .zero, 4, .none, .fv 4, [.avx512vl, .avx512f], .e4, false, false⟩,
   ⟨.evex, .m0F, .p66, .w0, .l512, 0xEB, .vec, .vec, .vec, .any, false, false, false, .zero, 4, .none, .fv 4, [.avx512f], .e4, false, false⟩]

/-- VPORQ (R782) -/
def vporq : List Row :=
  [⟨.evex, .m0F, .p66, .w1, .l128, 0xEB, .vec, .vec, .vec, .any, false, false, false, .zero, 8, .none, .fv 8, [.avx512vl, .avx512f], .e4, false, false⟩,
   ⟨.evex, .m0F, .p66, .w1, .l256, 0xEB, .vec, .vec, .vec, .any, false, false, false, .zero, 8, .none, .fv 8, [.avx512vl, .avx512f], .e4, false, false⟩,
   ⟨.evex, .m0F, .p66, .w1, .l512, 0xEB, .vec, .vec, .vec, .any, false, false, false, .zero, 8, .none, .fv 8, [.avx512f], .e4, false, false⟩]

/-- VPROLD (R784) -/
def vprold : List Row :=
  [⟨.evex, .m0F, .p66, .w0, .l128, 0x72, (.ext 1), .vec, .vec, .any, false, true, false, .zero, 4, .none, .fv 4, [.avx512vl, .avx512f], .e4, false, false⟩,
   ⟨.evex, .m0F, .p66, .w0, .l256, 0x72, (.ext 1), .vec, .vec, .any, false, true, false, .zero, 4, .none, .fv 4, [.avx512vl, .avx512f], .e4, false, false⟩,
   ⟨.evex, .m0F, .p66, .w0, .l512, 0x72, (.ext 1), .vec, .vec, .any, false, true, false, .zero, 4, .none, .fv 4, [.avx512f], .e4, false, false⟩]

/-- VPROLVD (R785) -/
def vprolvd : List Row :=
  [⟨.evex, .m0F38, .p66, .w0, .l128, 0x15, .vec, .vec, .vec, .any, false, false, false, .zero, 4, .none, .fv 4, [.avx512vl, .avx512f], .e4, false, false⟩,
   ⟨.evex, .m0F38, .p66, .w0, .l256, 0x15, .vec, .vec, .vec, .any, false, false, false, .zero, 4, .none, .fv 4, [.avx512vl, .avx512f], .e4, false, false⟩,
   ⟨.evex, .m0F38, .p66, .w0, .l512, 0x15, .vec, .vec, .vec, .any, false, false, false, .zero, 4, .none, .fv 4, [.avx512f], .e4, false, false⟩]

/-- VPROLQ (R786) -/
def vprolq : List Row :=
  [⟨.evex, .m0F, .p66, .w1, .l128, 0x72, (.ext 1), .vec, .vec, .any, false, true, false, .zero, 8, .none, .fv 8, [.avx512vl, .avx512f], .e4, false, false⟩,
   ⟨.evex, .m0F, .p66, .w1, .l256, 0x72, (.ext 1), .vec, .vec, .any, false, true, false, .zero, 8, .none, .fv 8, [.avx512vl, .avx512f], .e4, false, false⟩,
   ⟨.evex, .m0F, .p66, .w1, .l512, 0x72, (.ext 1), .vec, .vec, .any, false, true, false, .zero, 8, .none, .fv 8, [.avx512f], .e4, false, false⟩]

/-- VPROLVQ (R787) -/
def vprolvq : List Row :=
  [⟨.evex, .m0F38, .p66, .w1, .l128, 0x15, .vec, .vec, .vec, .any, false, false, false, .zero, 8, .none, .fv 8, [.avx512vl, .avx512f], .e4, false, false⟩,
   ⟨.evex, .m0F38, .p66, .w1, .l256, 0x15, .vec, .vec, .vec, .any, false, false, false, .zero, 8, .none, .fv 8, [.avx512vl, .avx512f], .e4, false, false⟩,
   ⟨.evex, .m0F38, .p66, .w1, .l512, 0x15, .vec, .vec, .vec, .any, false, false, false, .zero, 8, .none, .fv 8, [.avx512f], .e4, false, false⟩]

/-- VPRORD (R788) -/
def vprord : List Row :=
  [⟨.evex, .m0F, .p66, .w0, .l128, 0x72, (.ext 0), .vec, .vec, .any, false, true, false, .zero, 4, .none, .fv 4, [.avx512vl, .avx512f], .e4, false, false⟩,
   ⟨.evex, .m0F, .p66, .w0, .l256, 0x72, (.ext 0), .vec, .vec, .any, false, true, false, .zero, 4, .none, .fv 4, [.avx512vl, .avx512f], .e4, false, false⟩,
   ⟨.evex, .m0F, .p66, .w0, .l512, 0x72, (.ext 0), .vec, .vec, .any, false, true, false, .zero, 4, .none, .fv 4, [.avx512f], .e4, false, false⟩]

/-- VPRORVD (R789) -/
def vprorvd : List Row :=
  [⟨.evex, .m0F38, .p66, .w0, .l128, 0x14, .vec, .vec, .vec, .any, false, false, false, .zero, 4, .none, .fv 4, [.avx512vl, .avx512f], .e4, false, false⟩,
   ⟨.evex, .m0F38, .p66, .w0, .l256, 0x14, .vec, .vec, .vec, .any, false, false, false, .zero, 4, .none, .fv 4, [.avx512vl, .avx512f], .e4, false, false⟩,
   ⟨.evex, .m0F38, .p66, .w0, .l512, 0x14, .vec, .vec, .vec, .any, false, false, false, .zero, 4, .none, .fv 4, [.avx512f], .e4, false, false⟩]

/-- VPRORQ (R790) -/
def vprorq : List Row :=
  [⟨.evex, .m0F, .p66, .w1, .l128, 0x72, (.ext 0), .vec, .vec, .any, false, true, false, .zero, 8, .none, .fv 8, [.avx512vl, .avx512f], .e4, false, false⟩,
   ⟨.evex, .m0F, .p66, .w1, .l256, 0x72, (.ext 0), .vec, .vec, .any, false, true, false, .zero, 8, .none, .fv 8, [.avx512vl, .avx512f], .e4, false, false⟩,
   ⟨.evex, .m0F, .p66, .w1, .l512, 0x72, (.ext 0), .vec, .vec, .any, false, true, false, .zero, 8, .none, .fv 8, [.avx512f], .e4, false, false⟩]

/-- VPRORVQ (R791) -/
def vprorvq : List Row :=
  [⟨.evex, .m0F38, .p66, .w1, .l128, 0x14, .vec, .vec, .vec, .any, false, false, false, .zero, 8, .none, .fv 8, [.avx512vl, .avx512f], .e4, false, false⟩,
   ⟨.evex, .m0F38, .p66, .w1, .l256, 0x14, .vec, .vec, .vec, .any, false, false, false, .zero, 8, .none, .fv 8, [.avx512vl, .avx512f], .e4, false, false⟩,
   ⟨.evex, .m0F38, .p66, .w1, .l512, 0x14, .vec, .vec, .vec, .any, false, false, false, .zero, 8, .none, .fv 8, [.avx512f], .e4, false, false⟩]

/-- VPSCATTERDD (R793) -/
def vpscatterdd : List Row :=
  [⟨.evex, .m0F38, .p66, .w0, .l128, 0xA0, .vec, .none, .vec, .mem, true, false, true, .must, 0, .none, .fixed 4, [.avx512vl, .avx512f], .e12, false, false⟩,
   ⟨.evex, .m0F38, .p66, .w0, .l256, 0xA0, .vec, .none, .vec, .mem, true, false, true, .must, 0, .none, .fixed 4, [.avx512vl, .avx512f], .e12, false, false⟩,
   ⟨.evex, .m0F38, .p66, .w0, .l512, 0xA0, .vec, .none, .vec, .mem, true, false, true, .must, 0, .none, .fixed 4, [.avx512f], .e12, false, false⟩]

/-- VPSCATTERDQ (R794) -/
def vpscatterdq : List Row :=
  [⟨.evex, .m0F38, .p66, .w1, .l128, 0xA0, .vec, .none, .vec, .mem, true, false, true, .must, 0, .none, .fixed 8, [.avx512vl, .avx512f], .e12, false, false⟩,
   ⟨.evex, .m0F38, .p66, .w1, .l256, 0xA0, .vec, .none, .vec, .mem, true, false, true, .must, 0, .none, .fixed 8, [.avx512vl, .avx512f], .e12, false, false⟩,
   ⟨.evex, .m0F38, .p66, .w1, .l512, 0xA0, .vec, .none, .vec, .mem, true, false, true, .must, 0, .none, .fixed 8, [.avx512f], .e12, false, false⟩]

/-- VPSCATTERQD (R795) -/
def vpscatterqd : List Row :=
  [⟨.evex, .m0F38, .p66, .w0, .l128, 0xA1, .vec, .none, .vec, .mem, true, false, true, .must, 0, .none, .fixed 4, [.avx512vl, .avx512f], .e12, false, false⟩,
   ⟨.evex, .m0F38, .p66, .w0, .l256, 0xA1, .vec, .none, .vec, .mem, true, false, true, .must, 0, .none, .fixed 4, [.avx512vl, .avx512f], .e12, false, false⟩,
   ⟨.evex, .m0F38, .p66, .w0, .l512, 0xA1, .vec, .none, .vec, .mem, true, false, true, .must, 0, .none, .fixed 4, [.avx512f], .e12, false, false⟩]

/-- VPSCATTERQQ (R796) -/
def vpscatterqq : List Row :=
  [⟨.evex, .m0F38, .p66, .w1, .l128, 0xA1, .vec, .none, .vec, .mem, true, false, true, .must, 0, .none, .fixed 8, [.avx512vl, .avx512f], .e12, false, false⟩,
   ⟨.evex, .m0F38, .p66, .w1, .l256, 0xA1, .vec, .none, .vec, .mem, true, false, true, .must, 0, .none, .fixed 8, [.avx512vl, .avx512f], .e12, false, false⟩,
   ⟨.evex, .m0F38, .p66, .w1, .l512, 0xA1, .vec, .none, .vec, .mem, true, false, true, .must, 0, .none, .fixed 8, [.avx512f], .e12, false, false⟩]

end Sys2Proof.Machine.Rows
end

