-- ==== Sys2Proof/Machine/Exec52.lean ====
section
/-! DEFINITION. The meanings of the instructions of spec/52_pmuldq_to_vpscatter.md (PMUL to VPSCATTER), one definition each: the checks
of `State.run` on the rows of the instruction, then its operation on the row its fields select. -/

namespace Sys2Proof.Machine

/-- PMULDQ (R771). -/
def execPmuldq (o : Operands) (s : State) : Host.Outcome State Fault Refusal :=
  s.run Rows.pmuldq o fun r => s.map2 r o 64 mulLowS

/-- VPMULDQ (R771). -/
def execVpmuldq (o : Operands) (s : State) : Host.Outcome State Fault Refusal :=
  s.run Rows.vpmuldq o fun r => s.map2 r o 64 mulLowS

/-- PMULHRSW (R772). -/
def execPmulhrsw (o : Operands) (s : State) : Host.Outcome State Fault Refusal :=
  s.run Rows.pmulhrsw o fun r => s.map2 r o 16 mulHrs

/-- VPMULHRSW (R772). -/
def execVpmulhrsw (o : Operands) (s : State) : Host.Outcome State Fault Refusal :=
  s.run Rows.vpmulhrsw o fun r => s.map2 r o 16 mulHrs

/-- PMULHUW (R773). -/
def execPmulhuw (o : Operands) (s : State) : Host.Outcome State Fault Refusal :=
  s.run Rows.pmulhuw o fun r => s.map2 r o 16 mulHighU

/-- VPMULHUW (R773). -/
def execVpmulhuw (o : Operands) (s : State) : Host.Outcome State Fault Refusal :=
  s.run Rows.vpmulhuw o fun r => s.map2 r o 16 mulHighU

/-- PMULHW (R774). -/
def execPmulhw (o : Operands) (s : State) : Host.Outcome State Fault Refusal :=
  s.run Rows.pmulhw o fun r => s.map2 r o 16 mulHighS

/-- VPMULHW (R774). -/
def execVpmulhw (o : Operands) (s : State) : Host.Outcome State Fault Refusal :=
  s.run Rows.vpmulhw o fun r => s.map2 r o 16 mulHighS

/-- PMULLD (R775). -/
def execPmulld (o : Operands) (s : State) : Host.Outcome State Fault Refusal :=
  s.run Rows.pmulld o fun r => s.map2 r o 32 fun a b => a * b

/-- VPMULLD (R775). -/
def execVpmulld (o : Operands) (s : State) : Host.Outcome State Fault Refusal :=
  s.run Rows.vpmulld o fun r => s.map2 r o 32 fun a b => a * b

/-- VPMULLQ (R776). -/
def execVpmullq (o : Operands) (s : State) : Host.Outcome State Fault Refusal :=
  s.run Rows.vpmullq o fun r => s.map2 r o 64 fun a b => a * b

/-- PMULLW (R777). -/
def execPmullw (o : Operands) (s : State) : Host.Outcome State Fault Refusal :=
  s.run Rows.pmullw o fun r => s.map2 r o 16 fun a b => a * b

/-- VPMULLW (R777). -/
def execVpmullw (o : Operands) (s : State) : Host.Outcome State Fault Refusal :=
  s.run Rows.vpmullw o fun r => s.map2 r o 16 fun a b => a * b

/-- VPMULTISHIFTQB (R778). -/
def execVpmultishiftqb (o : Operands) (s : State) : Host.Outcome State Fault Refusal :=
  s.run Rows.vpmultishiftqb o fun r => s.vec2 r o 8 multishift

/-- PMULUDQ (R779). -/
def execPmuludq (o : Operands) (s : State) : Host.Outcome State Fault Refusal :=
  s.run Rows.pmuludq o fun r => s.map2 r o 64 mulLowU

/-- VPMULUDQ (R779). -/
def execVpmuludq (o : Operands) (s : State) : Host.Outcome State Fault Refusal :=
  s.run Rows.vpmuludq o fun r => s.map2 r o 64 mulLowU

/-- POR (R780). -/
def execPor (o : Operands) (s : State) : Host.Outcome State Fault Refusal :=
  s.run Rows.por o fun r => s.map2 r o 64 fun a b => a ||| b

/-- VPOR (R780). -/
def execVpor (o : Operands) (s : State) : Host.Outcome State Fault Refusal :=
  s.run Rows.vpor o fun r => s.map2 r o 64 fun a b => a ||| b

/-- VPORD (R781). -/
def execVpord (o : Operands) (s : State) : Host.Outcome State Fault Refusal :=
  s.run Rows.vpord o fun r => s.map2 r o 32 fun a b => a ||| b

/-- VPORQ (R782). -/
def execVporq (o : Operands) (s : State) : Host.Outcome State Fault Refusal :=
  s.run Rows.vporq o fun r => s.map2 r o 64 fun a b => a ||| b

/-- VPROLD (R784). -/
def execVprold (o : Operands) (s : State) : Host.Outcome State Fault Refusal :=
  s.run Rows.vprold o fun r => s.shiftAll r o 32 rol

/-- VPROLVD (R785). -/
def execVprolvd (o : Operands) (s : State) : Host.Outcome State Fault Refusal :=
  s.run Rows.vprolvd o fun r => s.shiftEach r o 32 rol

/-- VPROLQ (R786). -/
def execVprolq (o : Operands) (s : State) : Host.Outcome State Fault Refusal :=
  s.run Rows.vprolq o fun r => s.shiftAll r o 64 rol

/-- VPROLVQ (R787). -/
def execVprolvq (o : Operands) (s : State) : Host.Outcome State Fault Refusal :=
  s.run Rows.vprolvq o fun r => s.shiftEach r o 64 rol

/-- VPRORD (R788). -/
def execVprord (o : Operands) (s : State) : Host.Outcome State Fault Refusal :=
  s.run Rows.vprord o fun r => s.shiftAll r o 32 ror

/-- VPRORVD (R789). -/
def execVprorvd (o : Operands) (s : State) : Host.Outcome State Fault Refusal :=
  s.run Rows.vprorvd o fun r => s.shiftEach r o 32 ror

/-- VPRORQ (R790). -/
def execVprorq (o : Operands) (s : State) : Host.Outcome State Fault Refusal :=
  s.run Rows.vprorq o fun r => s.shiftAll r o 64 ror

/-- VPRORVQ (R791). -/
def execVprorvq (o : Operands) (s : State) : Host.Outcome State Fault Refusal :=
  s.run Rows.vprorvq o fun r => s.shiftEach r o 64 ror

/-- VPSCATTERDD (R793). -/
def execVpscatterdd (o : Operands) (s : State) : Host.Outcome State Fault Refusal :=
  s.run Rows.vpscatterdd o fun r => s.scatter r o 32 32

/-- VPSCATTERDQ (R794). -/
def execVpscatterdq (o : Operands) (s : State) : Host.Outcome State Fault Refusal :=
  s.run Rows.vpscatterdq o fun r => s.scatter r o 64 32

/-- VPSCATTERQD (R795). -/
def execVpscatterqd (o : Operands) (s : State) : Host.Outcome State Fault Refusal :=
  s.run Rows.vpscatterqd o fun r => s.scatter r o 32 64

/-- VPSCATTERQQ (R796). -/
def execVpscatterqq (o : Operands) (s : State) : Host.Outcome State Fault Refusal :=
  s.run Rows.vpscatterqq o fun r => s.scatter r o 64 64

end Sys2Proof.Machine
end

