-- ==== Sys2Proof/Machine/Rows53.lean ====
section
/-! DEFINITION. The rows of spec/opcode_table.json for the instructions of spec/53_pshufb_to_vpsrlvq.md (PSHUF to VPSRLV), in the order of the table:
space, map, pp, W, L, opcode, roles of ModRM.reg, vvvv and r/m, mod, VSIB, imm8, r/m is the destination, masking, broadcast
bytes, rounding, tuple, CPUID flags, exception class, alignment, 64-bit mode only. -/

namespace Sys2Proof.Machine.Rows

/-- PSHUFB (R800) -/
def pshufb : List Row :=
  [⟨.legacy, .m0F38, .p66, .wig, .any, 0x00, .vec, .none, .vec, .any, false, false, false, .none, 0, .none, .fixed 1, [.ssse3], .sse 4, true, false⟩]

/-- VPSHUFB (R800) -/
def vpshufb : List Row :=
  [⟨.vex, .m0F38, .p66, .wig, .l128, 0x00, .vec, .vec, .vec, .any, false, false, false, .none, 0, .none, .fixed 1, [.avx], .vex 4, false, false⟩,
   ⟨.vex, .m0F38, .p66, .wig, .l256, 0x00, .vec, .vec, .vec, .any, false, false, false, .none, 0, .none, .fixed 1, [.avx2], .vex 4, false, false⟩,
   ⟨.evex, .m0F38, .p66, .wig, .l128, 0x00, .vec, .vec, .vec, .any, false, false, false, .zero, 0, .none, .fvm, [.avx512vl, .avx512bw], .e4nf, false, false⟩,
   ⟨.evex, .m0F38, .p66, .wig, .l256, 0x00, .vec, .vec, .vec, .any, false, false, false, .zero, 0, .none, .fvm, [.avx512vl, .avx512bw], .e4nf, false, false⟩,
   ⟨.evex, .m0F38, .p66, .wig, .l512, 0x00, .vec, .vec, .vec, .any, false, false, false, .zero, 0, .none, .fvm, [.avx512bw], .e4nf, false, false⟩]

/-- PSHUFHW (R801) -/
def pshufhw : List Row :=
  [⟨.legacy, .m0F, .pF3, .wig, .any, 0x70, .vec, .none, .vec, .any, false, true, false, .none, 0, .none, .fixed 1, [.sse2], .sse 4, true, false⟩]

/-- VPSHUFHW (R801) -/
def vpshufhw : List Row :=
  [⟨.vex, .m0F, .pF3, .wig, .l128, 0x70, .vec, .none, .vec, .any, false, true, false, .none, 0, .none, .fixed 1, [.avx], .vex 4, false, false⟩,
   ⟨.vex, .m0F, .pF3, .wig, .l256, 0x70, .vec, .none, .vec, .any, false, true, false, .none, 0, .none, .fixed 1, [.avx2], .vex 4, false, false⟩,
   ⟨.evex, .m0F, .pF3, .wig, .l128, 0x70, .vec, .none, .vec, .any, false, true, false, .zero, 0, .none, .fvm, [.avx512vl, .avx512bw], .e4nf, false, false⟩,
   ⟨.evex, .m0F, .pF3, .wig, .l256, 0x70, .vec, .none, .vec, .any, false, true, false, .zero, 0, .none, .fvm, [.avx512vl, .avx512bw], .e4nf, false, false⟩,
   ⟨.evex, .m0F, .pF3, .wig, .l512, 0x70, .vec, .none, .vec, .any, false, true, false, .zero, 0, .none, .fvm, [.avx512bw], .e4nf, false, false⟩]

/-- PSHUFLW (R802) -/
def pshuflw : List Row :=
  [⟨.legacy, .m0F, .pF2, .wig, .any, 0x70, .vec, .none, .vec, .any, false, true, false, .none, 0, .none, .fixed 1, [.sse2], .sse 4, true, false⟩]

/-- VPSHUFLW (R802) -/
def vpshuflw : List Row :=
  [⟨.vex, .m0F, .pF2, .wig, .l128, 0x70, .vec, .none, .vec, .any, false, true, false, .none, 0, .none, .fixed 1, [.avx], .vex 4, false, false⟩,
   ⟨.vex, .m0F, .pF2, .wig, .l256, 0x70, .vec, .none, .vec, .any, false, true, false, .none, 0, .none, .fixed 1, [.avx2], .vex 4, false, false⟩,
   ⟨.evex, .m0F, .pF2, .wig, .l128, 0x70, .vec, .none, .vec, .any, false, true, false, .zero, 0, .none, .fvm, [.avx512vl, .avx512bw], .e4nf, false, false⟩,
   ⟨.evex, .m0F, .pF2, .wig, .l256, 0x70, .vec, .none, .vec, .any, false, true, false, .zero, 0, .none, .fvm, [.avx512vl, .avx512bw], .e4nf, false, false⟩,
   ⟨.evex, .m0F, .pF2, .wig, .l512, 0x70, .vec, .none, .vec, .any, false, true, false, .zero, 0, .none, .fvm, [.avx512bw], .e4nf, false, false⟩]

/-- PSHUFD (R803) -/
def pshufd : List Row :=
  [⟨.legacy, .m0F, .p66, .wig, .any, 0x70, .vec, .none, .vec, .any, false, true, false, .none, 0, .none, .fixed 1, [.sse2], .sse 4, true, false⟩]

/-- VPSHUFD (R803) -/
def vpshufd : List Row :=
  [⟨.vex, .m0F, .p66, .wig, .l128, 0x70, .vec, .none, .vec, .any, false, true, false, .none, 0, .none, .fixed 1, [.avx], .vex 4, false, false⟩,
   ⟨.vex, .m0F, .p66, .wig, .l256, 0x70, .vec, .none, .vec, .any, false, true, false, .none, 0, .none, .fixed 1, [.avx2], .vex 4, false, false⟩,
   ⟨.evex, .m0F, .p66, .w0, .l128, 0x70, .vec, .none, .vec, .any, false, true, false, .zero, 4, .none, .fv 4, [.avx512vl, .avx512f], .e4nf, false, false⟩,
   ⟨.evex, .m0F, .p66, .w0, .l256, 0x70, .vec, .none, .vec, .any, false, true, false, .zero, 4, .none, .fv 4, [.avx512vl, .avx512f], .e4nf, false, false⟩,
   ⟨.evex, .m0F, .p66, .w0, .l512, 0x70, .vec, .none, .vec, .any, false, true, false, .zero, 4, .none, .fv 4, [.avx512f], .e4nf, false, false⟩]

/-- PSLLDQ (R804) -/
def pslldq : List Row :=
  [⟨.legacy, .m0F, .p66, .wig, .any, 0x73, (.ext 7), .none, .vec, .reg, false, true, false, .none, 0, .none, .fixed 1, [.sse2], .sse 7, false, false⟩]

/-- VPSLLDQ (R804) -/
def vpslldq : List Row :=
  [⟨.vex, .m0F, .p66, .wig, .l128, 0x73, (.ext 7), .vec, .vec, .reg, false, true, false, .none, 0, .none, .fixed 1, [.avx], .vex 7, false, false⟩,
   ⟨.vex, .m0F, .p66, .wig, .l256, 0x73, (.ext 7), .vec, .vec, .reg, false, true, false, .none, 0, .none, .fixed 1, [.avx2], .vex 7, false, false⟩,
   ⟨.evex, .m0F, .p66, .wig, .l128, 0x73, (.ext 7), .vec, .vec, .any, false, true, false, .none, 0, .none, .fvm, [.avx512vl, .avx512bw], .e4nf, false, false⟩,
   ⟨.evex, .m0F, .p66, .wig, .l256, 0x73, (.ext 7), .vec, .vec, .any, false, true, false, .none, 0, .none, .fvm, [.avx512vl, .avx512bw], .e4nf, false, false⟩,
   ⟨.evex, .m0F, .p66, .wig, .l512, 0x73, (.ext 7), .vec, .vec, .any, false, true, false, .none, 0, .none, .fvm, [.avx512bw], .e4nf, false, false⟩]

/-- PSLLW (R806) -/
def psllw : List Row :=
  [⟨.legacy, .m0F, .p66, .wig, .any, 0xF1, .vec, .none, .vec, .any, false, false, false, .none, 0, .none, .fixed 1, [.sse2], .sse 4, true, false⟩,
   ⟨.legacy, .m0F, .p66, .wig, .any, 0x71, (.ext 6), .none, .vec, .reg, false, true, false, .none, 0, .none, .fixed 1, [.sse2], .sse 7, false, false⟩]

/-- VPSLLW (R806) -/
def vpsllw : List Row :=
  [⟨.vex, .m0F, .p66, .wig, .l128, 0xF1, .vec, .vec, .vec, .any, false, false, false, .none, 0, .none, .fixed 1, [.avx], .vex 4, false, false⟩,
   ⟨.vex, .m0F, .p66, .wig, .l128, 0x71, (.ext 6), .vec, .vec, .reg, false, true, false, .none, 0, .none, .fixed 1, [.avx], .vex 7, false, false⟩,
   ⟨.vex, .m0F, .p66, .wig, .l256, 0xF1, .vec, .vec, .vec, .any, false, false, false, .none, 0, .none, .fixed 1, [.avx2], .vex 4, false, false⟩,
   ⟨.vex, .m0F, .p66, .wig, .l256, 0x71, (.ext 6), .vec, .vec, .reg, false, true, false, .none, 0, .none, .fixed 1, [.avx2], .vex 7, false, false⟩,
   ⟨.evex, .m0F, .p66, .wig, .l128, 0xF1, .vec, .vec, .vec, .any, false, false, false, .zero, 0, .none, .m128, [.avx512vl, .avx512bw], .e4nf, false, false⟩,
   ⟨.evex, .m0F, .p66, .wig, .l256, 0xF1, .vec, .vec, .vec, .any, false, false, false, .zero, 0, .none, .m128, [.avx512vl, .avx512bw], .e4nf, false, false⟩,
   ⟨.evex, .m0F, .p66, .wig, .l512, 0xF1, .vec, .vec, .vec, .any, false, false, false, .zero, 0, .none, .m128, [.avx512bw], .e4nf, false, false⟩,
   ⟨.evex, .m0F, .p66, .wig, .l128, 0x71, (.ext 6), .vec, .vec, .any, false, true, false, .zero, 0, .none, .fvm, [.avx512vl, .avx512bw], .e4nf, false, false⟩,
   ⟨.evex, .m0F, .p66, .wig, .l256, 0x71, (.ext 6), .vec, .vec, .any, false, true, false, .zero, 0, .none, .fvm, [.avx512vl, .avx512bw], .e4nf, false, false⟩,
   ⟨.evex, .m0F, .p66, .wig, .l512, 0x71, (.ext 6), .vec, .vec, .any, false, true, false, .zero, 0, .none, .fvm, [.avx512bw], .e4nf, false, false⟩]

/-- PSLLD (R807) -/
def pslld : List Row :=
  [⟨.legacy, .m0F, .p66, .wig, .any, 0x72, (.ext 6), .none, .vec, .reg, false, true, false, .none, 0, .none, .fixed 1, [.sse2], .sse 7, false, false⟩,
   ⟨.legacy, .m0F, .p66, .wig, .any, 0xF2, .vec, .none, .vec, .any, false, false, false, .none, 0, .none, .fixed 1, [.sse2], .sse 4, true, false⟩]

/-- VPSLLD (R807) -/
def vpslld : List Row :=
  [⟨.vex, .m0F, .p66, .wig, .l128, 0xF2, .vec, .vec, .vec, .any, false, false, false, .none, 0, .none, .fixed 1, [.avx], .vex 4, false, false⟩,
   ⟨.vex, .m0F, .p66, .wig, .l128, 0x72, (.ext 6), .vec, .vec, .reg, false, true, false, .none, 0, .none, .fixed 1, [.avx], .vex 7, false, false⟩,
   ⟨.vex, .m0F, .p66, .wig, .l256, 0xF2, .vec, .vec, .vec, .any, false, false, false, .none, 0, .none, .fixed 1, [.avx2], .vex 4, false, false⟩,
   ⟨.vex, .m0F, .p66, .wig, .l256, 0x72, (.ext 6), .vec, .vec, .reg, false, true, false, .none, 0, .none, .fixed 1, [.avx2], .vex 7, false, false⟩,
   ⟨.evex, .m0F, .p66, .w0, .l128, 0xF2, .vec, .vec, .vec, .any, false, false, false, .zero, 0, .none, .m128, [.avx512vl, .avx512f], .e4nf, false, false⟩,
   ⟨.evex, .m0F, .p66, .w0, .l256, 0xF2, .vec, .vec, .vec, .any, false, false, false, .zero, 0, .none, .m128, [.avx512vl, .avx512f], .e4nf, false, false⟩,
   ⟨.evex, .m0F, .p66, .w0, .l512, 0xF2, .vec, .vec, .vec, .any, false, false, false, .zero, 0, .none, .m128, [.avx512f], .e4nf, false, false⟩,
   ⟨.evex, .m0F, .p66, .w0, .l128, 0x72, (.ext 6), .vec, .vec, .any, false, true, false, .zero, 4, .none, .fv 4, [.avx512vl, .avx512f], .e4, false, false⟩,
   ⟨.evex, .m0F, .p66, .w0, .l256, 0x72, (.ext 6), .vec, .vec, .any, false, true, false, .zero, 4, .none, .fv 4, [.avx512vl, .avx512f], .e4, false, false⟩,
   ⟨.evex, .m0F, .p66, .w0, .l512, 0x72, (.ext 6), .vec, .vec, .any, false, true, false, .zero, 4, .none, .fv 4, [.avx512f], .e4, false, false⟩]

/-- PSLLQ (R808) -/
def psllq : List Row :=
  [⟨.legacy, .m0F, .p66, .wig, .any, 0x73, (.ext 6), .none, .vec, .reg, false, true, false, .none, 0, .none, .fixed 1, [.sse2], .sse 7, false, false⟩,
   ⟨.legacy, .m0F, .p66, .wig, .any, 0xF3, .vec, .none, .vec, .any, false, false, false, .none, 0, .none, .fixed 1, [.sse2], .sse 4, true, false⟩]

/-- VPSLLQ (R808) -/
def vpsllq : List Row :=
  [⟨.vex, .m0F, .p66, .wig, .l128, 0xF3, .vec, .vec, .vec, .any, false, false, false, .none, 0, .none, .fixed 1, [.avx], .vex 4, false, false⟩,
   ⟨.vex, .m0F, .p66, .wig, .l128, 0x73, (.ext 6), .vec, .vec, .reg, false, true, false, .none, 0, .none, .fixed 1, [.avx], .vex 7, false, false⟩,
   ⟨.vex, .m0F, .p66, .wig, .l256, 0xF3, .vec, .vec, .vec, .any, false, false, false, .none, 0, .none, .fixed 1, [.avx2], .vex 4, false, false⟩,
   ⟨.vex, .m0F, .p66, .wig, .l256, 0x73, (.ext 6), .vec, .vec, .reg, false, true, false, .none, 0, .none, .fixed 1, [.avx2], .vex 7, false, false⟩,
   ⟨.evex, .m0F, .p66, .w1, .l128, 0xF3, .vec, .vec, .vec, .any, false, false, false, .zero, 0, .none, .m128, [.avx512vl, .avx512f], .e4nf, false, false⟩,
   ⟨.evex, .m0F, .p66, .w1, .l256, 0xF3, .vec, .vec, .vec, .any, false, false, false, .zero, 0, .none, .m128, [.avx512vl, .avx512f], .e4nf, false, false⟩,
   ⟨.evex, .m0F, .p66, .w1, .l512, 0xF3, .vec, .vec, .vec, .any, false, false, false, .zero, 0, .none, .m128, [.avx512f], .e4nf, false, false⟩,
   ⟨.evex, .m0F, .p66, .w1, .l128, 0x73, (.ext 6), .vec, .vec, .any, false, true, false, .zero, 8, .none, .fv 8, [.avx512vl, .avx512f], .e4, false, false⟩,
   ⟨.evex, .m0F, .p66, .w1, .l256, 0x73, (.ext 6), .vec, .vec, .any, false, true, false, .zero, 8, .none, .fv 8, [.avx512vl, .avx512f], .e4, false, false⟩,
   ⟨.evex, .m0F, .p66, .w1, .l512, 0x73, (.ext 6), .vec, .vec, .any, false, true, false, .zero, 8, .none, .fv 8, [.avx512f], .e4, false, false⟩]

/-- PSRAW (R809) -/
def psraw : List Row :=
  [⟨.legacy, .m0F, .p66, .wig, .any, 0xE1, .vec, .none, .vec, .any, false, false, false, .none, 0, .none, .fixed 1, [.sse2], .sse 4, true, false⟩,
   ⟨.legacy, .m0F, .p66, .wig, .any, 0x71, (.ext 4), .none, .vec, .reg, false, true, false, .none, 0, .none, .fixed 1, [.sse2], .sse 7, false, false⟩]

/-- VPSRAW (R809) -/
def vpsraw : List Row :=
  [⟨.vex, .m0F, .p66, .wig, .l128, 0xE1, .vec, .vec, .vec, .any, false, false, false, .none, 0, .none, .fixed 1, [.avx], .vex 4, false, false⟩,
   ⟨.vex, .m0F, .p66, .wig, .l128, 0x71, (.ext 4), .vec, .vec, .reg, false, true, false, .none, 0, .none, .fixed 1, [.avx], .vex 7, false, false⟩,
   ⟨.vex, .m0F, .p66, .wig, .l256, 0xE1, .vec, .vec, .vec, .any, false, false, false, .none, 0, .none, .fixed 1, [.avx2], .vex 4, false, false⟩,
   ⟨.vex, .m0F, .p66, .wig, .l256, 0x71, (.ext 4), .vec, .vec, .reg, false, true, false, .none, 0, .none, .fixed 1, [.avx2], .vex 7, false, false⟩,
   ⟨.evex, .m0F, .p66, .wig, .l128, 0xE1, .vec, .vec, .vec, .any, false, false, false, .zero, 0, .none, .m128, [.avx512vl, .avx512bw], .e4nf, false, false⟩,
   ⟨.evex, .m0F, .p66, .wig, .l256, 0xE1, .vec, .vec, .vec, .any, false, false, false, .zero, 0, .none, .m128, [.avx512vl, .avx512bw], .e4nf, false, false⟩,
   ⟨.evex, .m0F, .p66, .wig, .l512, 0xE1, .vec, .vec, .vec, .any, false, false, false, .zero, 0, .none, .m128, [.avx512bw], .e4nf, false, false⟩,
   ⟨.evex, .m0F, .p66, .wig, .l128, 0x71, (.ext 4), .vec, .vec, .any, false, true, false, .zero, 0, .none, .fvm, [.avx512vl, .avx512bw], .e4nf, false, false⟩,
   ⟨.evex, .m0F, .p66, .wig, .l256, 0x71, (.ext 4), .vec, .vec, .any, false, true, false, .zero, 0, .none, .fvm, [.avx512vl, .avx512bw], .e4nf, false, false⟩,
   ⟨.evex, .m0F, .p66, .wig, .l512, 0x71, (.ext 4), .vec, .vec, .any, false, true, false, .zero, 0, .none, .fvm, [.avx512bw], .e4nf, false, false⟩]

/-- PSRAD (R810) -/
def psrad : List Row :=
  [⟨.legacy, .m0F, .p66, .wig, .any, 0xE2, .vec, .none, .vec, .any, false, false, false, .none, 0, .none, .fixed 1, [.sse2], .sse 4, true, false⟩,
   ⟨.legacy, .m0F, .p66, .wig, .any, 0x72, (.ext 4), .none, .vec, .reg, false, true, false, .none, 0, .none, .fixed 1, [.sse2], .sse 7, false, false⟩]

/-- VPSRAD (R810) -/
def vpsrad : List Row :=
  [⟨.vex, .m0F, .p66, .wig, .l128, 0xE2, .vec, .vec, .vec, .any, false, false, false, .none, 0, .none, .fixed 1, [.avx], .vex 4, false, false⟩,
   ⟨.vex, .m0F, .p66, .wig, .l128, 0x72, (.ext 4), .vec, .vec, .reg, false, true, false, .none, 0, .none, .fixed 1, [.avx], .vex 7, false, false⟩,
   ⟨.vex, .m0F, .p66, .wig, .l256, 0xE2, .vec, .vec, .vec, .any, false, false, false, .none, 0, .none, .fixed 1, [.avx2], .vex 4, false, false⟩,
   ⟨.vex, .m0F, .p66, .wig, .l256, 0x72, (.ext 4), .vec, .vec, .reg, false, true, false, .none, 0, .none, .fixed 1, [.avx2], .vex 7, false, false⟩,
   ⟨.evex, .m0F, .p66, .w0, .l128, 0xE2, .vec, .vec, .vec, .any, false, false, false, .zero, 0, .none, .m128, [.avx512vl, .avx512f], .e4nf, false, false⟩,
   ⟨.evex, .m0F, .p66, .w0, .l256, 0xE2, .vec, .vec, .vec, .any, false, false, false, .zero, 0, .none, .m128, [.avx512vl, .avx512f], .e4nf, false, false⟩,
   ⟨.evex, .m0F, .p66, .w0, .l512, 0xE2, .vec, .vec, .vec, .any, false, false, false, .zero, 0, .none, .m128, [.avx512f], .e4nf, false, false⟩,
   ⟨.evex, .m0F, .p66, .w0, .l128, 0x72, (.ext 4), .vec, .vec, .any, false, true, false, .zero, 4, .none, .fv 4, [.avx512vl, .avx512f], .e4, false, false⟩,
   ⟨.evex, .m0F, .p66, .w0, .l256, 0x72, (.ext 4), .vec, .vec, .any, false, true, false, .zero, 4, .none, .fv 4, [.avx512vl, .avx512f], .e4, false, false⟩,
   ⟨.evex, .m0F, .p66, .w0, .l512, 0x72, (.ext 4), .vec, .vec, .any, false, true, false, .zero, 4, .none, .fv 4, [.avx512f], .e4, false, false⟩]

/-- VPSRAQ (R811) -/
def vpsraq : List Row :=
  [⟨.evex, .m0F, .p66, .w1, .l128, 0xE2, .vec, .vec, .vec, .any, false, false, false, .zero, 0, .none, .m128, [.avx512vl, .avx512f], .e4nf, false, false⟩,
   ⟨.evex, .m0F, .p66, .w1, .l256, 0xE2, .vec, .vec, .vec, .any, false, false, false, .zero, 0, .none, .m128, [.avx512vl, .avx512f], .e4nf, false, false⟩,
   ⟨.evex, .m0F, .p66, .w1, .l512, 0xE2, .vec, .vec, .vec, .any, false, false, false, .zero, 0, .none, .m128, [.avx512f], .e4nf, false, false⟩,
   ⟨.evex, .m0F, .p66, .w1, .l128, 0x72, (.ext 4), .vec, .vec, .any, false, true, false, .zero, 8, .none, .fv 8, [.avx512vl, .avx512f], .e4, false, false⟩,
   ⟨.evex, .m0F, .p66, .w1, .l256, 0x72, (.ext 4), .vec, .vec, .any, false, true, false, .zero, 8, .none, .fv 8, [.avx512vl, .avx512f], .e4, false, false⟩,
   ⟨.evex, .m0F, .p66, .w1, .l512, 0x72, (.ext 4), .vec, .vec, .any, false, true, false, .zero, 8, .none, .fv 8, [.avx512f], .e4, false, false⟩]

/-- PSRLDQ (R812) -/
def psrldq : List Row :=
  [⟨.legacy, .m0F, .p66, .wig, .any, 0x73, (.ext 3), .none, .vec, .reg, false, true, false, .none, 0, .none, .fixed 1, [.sse2], .sse 7, false, false⟩]

/-- VPSRLDQ (R812) -/
def vpsrldq : List Row :=
  [⟨.vex, .m0F, .p66, .wig, .l128, 0x73, (.ext 3), .vec, .vec, .reg, false, true, false, .none, 0, .none, .fixed 1, [.avx], .vex 7, false, false⟩,
   ⟨.vex, .m0F, .p66, .wig, .l256, 0x73, (.ext 3), .vec, .vec, .reg, false, true, false, .none, 0, .none, .fixed 1, [.avx2], .vex 7, false, false⟩,
   ⟨.evex, .m0F, .p66, .wig, .l128, 0x73, (.ext 3), .vec, .vec, .any, false, true, false, .none, 0, .none, .fvm, [.avx512vl, .avx512bw], .e4nf, false, false⟩,
   ⟨.evex, .m0F, .p66, .wig, .l256, 0x73, (.ext 3), .vec, .vec, .any, false, true, false, .none, 0, .none, .fvm, [.avx512vl, .avx512bw], .e4nf, false, false⟩,
   ⟨.evex, .m0F, .p66, .wig, .l512, 0x73, (.ext 3), .vec, .vec, .any, false, true, false, .none, 0, .none, .fvm, [.avx512bw], .e4nf, false, false⟩]

/-- PSRLW (R813) -/
def psrlw : List Row :=
  [⟨.legacy, .m0F, .p66, .wig, .any, 0xD1, .vec, .none, .vec, .any, false, false, false, .none, 0, .none, .fixed 1, [.sse2], .sse 4, true, false⟩,
   ⟨.legacy, .m0F, .p66, .wig, .any, 0x71, (.ext 2), .none, .vec, .reg, false, true, false, .none, 0, .none, .fixed 1, [.sse2], .sse 7, false, false⟩]

/-- VPSRLW (R813) -/
def vpsrlw : List Row :=
  [⟨.vex, .m0F, .p66, .wig, .l128, 0xD1, .vec, .vec, .vec, .any, false, false, false, .none, 0, .none, .fixed 1, [.avx], .vex 4, false, false⟩,
   ⟨.vex, .m0F, .p66, .wig, .l128, 0x71, (.ext 2), .vec, .vec, .reg, false, true, false, .none, 0, .none, .fixed 1, [.avx], .vex 7, false, false⟩,
   ⟨.vex, .m0F, .p66, .wig, .l256, 0xD1, .vec, .vec, .vec, .any, false, false, false, .none, 0, .none, .fixed 1, [.avx2], .vex 4, false, false⟩,
   ⟨.vex, .m0F, .p66, .wig, .l256, 0x71, (.ext 2), .vec, .vec, .reg, false, true, false, .none, 0, .none, .fixed 1, [.avx2], .vex 7, false, false⟩,
   ⟨.evex, .m0F, .p66, .wig, .l128, 0xD1, .vec, .vec, .vec, .any, false, false, false, .zero, 0, .none, .m128, [.avx512vl, .avx512bw], .e4nf, false, false⟩,
   ⟨.evex, .m0F, .p66, .wig, .l256, 0xD1, .vec, .vec, .vec, .any, false, false, false, .zero, 0, .none, .m128, [.avx512vl, .avx512bw], .e4nf, false, false⟩,
   ⟨.evex, .m0F, .p66, .wig, .l512, 0xD1, .vec, .vec, .vec, .any, false, false, false, .zero, 0, .none, .m128, [.avx512bw], .e4nf, false, false⟩,
   ⟨.evex, .m0F, .p66, .wig, .l128, 0x71, (.ext 2), .vec, .vec, .any, false, true, false, .zero, 0, .none, .fvm, [.avx512vl, .avx512bw], .e4nf, false, false⟩,
   ⟨.evex, .m0F, .p66, .wig, .l256, 0x71, (.ext 2), .vec, .vec, .any, false, true, false, .zero, 0, .none, .fvm, [.avx512vl, .avx512bw], .e4nf, false, false⟩,
   ⟨.evex, .m0F, .p66, .wig, .l512, 0x71, (.ext 2), .vec, .vec, .any, false, true, false, .zero, 0, .none, .fvm, [.avx512bw], .e4nf, false, false⟩]

/-- PSRLD (R814) -/
def psrld : List Row :=
  [⟨.legacy, .m0F, .p66, .wig, .any, 0xD2, .vec, .none, .vec, .any, false, false, false, .none, 0, .none, .fixed 1, [.sse2], .sse 4, true, false⟩,
   ⟨.legacy, .m0F, .p66, .wig, .any, 0x72, (.ext 2), .none, .vec, .reg, false, true, false, .none, 0, .none, .fixed 1, [.sse2], .sse 7, false, false⟩]

/-- VPSRLD (R814) -/
def vpsrld : List Row :=
  [⟨.vex, .m0F, .p66, .wig, .l128, 0xD2, .vec, .vec, .vec, .any, false, false, false, .none, 0, .none, .fixed 1, [.avx], .vex 4, false, false⟩,
   ⟨.vex, .m0F, .p66, .wig, .l128, 0x72, (.ext 2), .vec, .vec, .reg, false, true, false, .none, 0, .none, .fixed 1, [.avx], .vex 7, false, false⟩,
   ⟨.vex, .m0F, .p66, .wig, .l256, 0xD2, .vec, .vec, .vec, .any, false, false, false, .none, 0, .none, .fixed 1, [.avx2], .vex 4, false, false⟩,
   ⟨.vex, .m0F, .p66, .wig, .l256, 0x72, (.ext 2), .vec, .vec, .reg, false, true, false, .none, 0, .none, .fixed 1, [.avx2], .vex 7, false, false⟩,
   ⟨.evex, .m0F, .p66, .w0, .l128, 0xD2, .vec, .vec, .vec, .any, false, false, false, .zero, 0, .none, .m128, [.avx512vl, .avx512f], .e4nf, false, false⟩,
   ⟨.evex, .m0F, .p66, .w0, .l256, 0xD2, .vec, .vec, .vec, .any, false, false, false, .zero, 0, .none, .m128, [.avx512vl, .avx512f], .e4nf, false, false⟩,
   ⟨.evex, .m0F, .p66, .w0, .l512, 0xD2, .vec, .vec, .vec, .any, false, false, false, .zero, 0, .none, .m128, [.avx512f], .e4nf, false, false⟩,
   ⟨.evex, .m0F, .p66, .w0, .l128, 0x72, (.ext 2), .vec, .vec, .any, false, true, false, .zero, 4, .none, .fv 4, [.avx512vl, .avx512f], .e4, false, false⟩,
   ⟨.evex, .m0F, .p66, .w0, .l256, 0x72, (.ext 2), .vec, .vec, .any, false, true, false, .zero, 4, .none, .fv 4, [.avx512vl, .avx512f], .e4, false, false⟩,
   ⟨.evex, .m0F, .p66, .w0, .l512, 0x72, (.ext 2), .vec, .vec, .any, false, true, false, .zero, 4, .none, .fv 4, [.avx512f], .e4, false, false⟩]

/-- PSRLQ (R815) -/
def psrlq : List Row :=
  [⟨.legacy, .m0F, .p66, .wig, .any, 0xD3, .vec, .none, .vec, .any, false, false, false, .none, 0, .none, .fixed 1, [.sse2], .sse 4, true, false⟩,
   ⟨.legacy, .m0F, .p66, .wig, .any, 0x73, (.ext 2), .none, .vec, .reg, false, true, false, .none, 0, .none, .fixed 1, [.sse2], .sse 7, false, false⟩]

/-- VPSRLQ (R815) -/
def vpsrlq : List Row :=
  [⟨.vex, .m0F, .p66, .wig, .l128, 0xD3, .vec, .vec, .vec, .any, false, false, false, .none, 0, .none, .fixed 1, [.avx], .vex 4, false, false⟩,
   ⟨.vex, .m0F, .p66, .wig, .l128, 0x73, (.ext 2), .vec, .vec, .reg, false, true, false, .none, 0, .none, .fixed 1, [.avx], .vex 7, false, false⟩,
   ⟨.vex, .m0F, .p66, .wig, .l256, 0xD3, .vec, .vec, .vec, .any, false, false, false, .none, 0, .none, .fixed 1, [.avx2], .vex 4, false, false⟩,
   ⟨.vex, .m0F, .p66, .wig, .l256, 0x73, (.ext 2), .vec, .vec, .reg, false, true, false, .none, 0, .none, .fixed 1, [.avx2], .vex 7, false, false⟩,
   ⟨.evex, .m0F, .p66, .w1, .l128, 0xD3, .vec, .vec, .vec, .any, false, false, false, .zero, 0, .none, .m128, [.avx512vl, .avx512f], .e4nf, false, false⟩,
   ⟨.evex, .m0F, .p66, .w1, .l256, 0xD3, .vec, .vec, .vec, .any, false, false, false, .zero, 0, .none, .m128, [.avx512vl, .avx512f], .e4nf, false, false⟩,
   ⟨.evex, .m0F, .p66, .w1, .l512, 0xD3, .vec, .vec, .vec, .any, false, false, false, .zero, 0, .none, .m128, [.avx512f], .e4nf, false, false⟩,
   ⟨.evex, .m0F, .p66, .w1, .l128, 0x73, (.ext 2), .vec, .vec, .any, false, true, false, .zero, 8, .none, .fv 8, [.avx512vl, .avx512f], .e4, false, false⟩,
   ⟨.evex, .m0F, .p66, .w1, .l256, 0x73, (.ext 2), .vec, .vec, .any, false, true, false, .zero, 8, .none, .fv 8, [.avx512vl, .avx512f], .e4, false, false⟩,
   ⟨.evex, .m0F, .p66, .w1, .l512, 0x73, (.ext 2), .vec, .vec, .any, false, true, false, .zero, 8, .none, .fv 8, [.avx512f], .e4, false, false⟩]

/-- VPSLLVW (R817) -/
def vpsllvw : List Row :=
  [⟨.evex, .m0F38, .p66, .w1, .l128, 0x12, .vec, .vec, .vec, .any, false, false, false, .zero, 0, .none, .fvm, [.avx512vl, .avx512bw], .e4, false, false⟩,
   ⟨.evex, .m0F38, .p66, .w1, .l256, 0x12, .vec, .vec, .vec, .any, false, false, false, .zero, 0, .none, .fvm, [.avx512vl, .avx512bw], .e4, false, false⟩,
   ⟨.evex, .m0F38, .p66, .w1, .l512, 0x12, .vec, .vec, .vec, .any, false, false, false, .zero, 0, .none, .fvm, [.avx512bw], .e4, false, false⟩]

/-- VPSLLVD (R818) -/
def vpsllvd : List Row :=
  [⟨.vex, .m0F38, .p66, .w0, .l128, 0x47, .vec, .vec, .vec, .any, false, false, false, .none, 0, .none, .fixed 1, [.avx2], .vex 4, false, false⟩,
   ⟨.vex, .m0F38, .p66, .w0, .l256, 0x47, .vec, .vec, .vec, .any, false, false, false, .none, 0, .none, .fixed 1, [.avx2], .vex 4, false, false⟩,
   ⟨.evex, .m0F38, .p66, .w0, .l128, 0x47, .vec, .vec, .vec, .any, false, false, false, .zero, 4, .none, .fv 4, [.avx512vl, .avx512f], .e4, false, false⟩,
   ⟨.evex, .m0F38, .p66, .w0, .l256, 0x47, .vec, .vec, .vec, .any, false, false, false, .zero, 4, .none, .fv 4, [.avx512vl, .avx512f], .e4, false, false⟩,
   ⟨.evex, .m0F38, .p66, .w0, .l512, 0x47, .vec, .vec, .vec, .any, false, false, false, .zero, 4, .none, .fv 4, [.avx512f], .e4, false, false⟩]

/-- VPSLLVQ (R819) -/
def vpsllvq : List Row :=
  [⟨.vex, .m0F38, .p66, .w1, .l128, 0x47, .vec, .vec, .vec, .any, false, false, false, .none, 0, .none, .fixed 1, [.avx2], .vex 4, false, false⟩,
   ⟨.vex, .m0F38, .p66, .w1, .l256, 0x47, .vec, .vec, .vec, .any, false, false, false, .none, 0, .none, .fixed 1, [.avx2], .vex 4, false, false⟩,
   ⟨.evex, .m0F38, .p66, .w1, .l128, 0x47, .vec, .vec, .vec, .any, false, false, false, .zero, 8, .none, .fv 8, [.avx512vl, .avx512f], .e4, false, false⟩,
   ⟨.evex, .m0F38, .p66, .w1, .l256, 0x47, .vec, .vec, .vec, .any, false, false, false, .zero, 8, .none, .fv 8, [.avx512vl, .avx512f], .e4, false, false⟩,
   ⟨.evex, .m0F38, .p66, .w1, .l512, 0x47, .vec, .vec, .vec, .any, false, false, false, .zero, 8, .none, .fv 8, [.avx512f], .e4, false, false⟩]

/-- VPSRLVW (R820) -/
def vpsrlvw : List Row :=
  [⟨.evex, .m0F38, .p66, .w1, .l128, 0x10, .vec, .vec, .vec, .any, false, false, false, .zero, 0, .none, .fvm, [.avx512vl, .avx512bw], .e4, false, false⟩,
   ⟨.evex, .m0F38, .p66, .w1, .l256, 0x10, .vec, .vec, .vec, .any, false, false, false, .zero, 0, .none, .fvm, [.avx512vl, .avx512bw], .e4, false, false⟩,
   ⟨.evex, .m0F38, .p66, .w1, .l512, 0x10, .vec, .vec, .vec, .any, false, false, false, .zero, 0, .none, .fvm, [.avx512bw], .e4, false, false⟩]

/-- VPSRLVD (R821) -/
def vpsrlvd : List Row :=
  [⟨.vex, .m0F38, .p66, .w0, .l128, 0x45, .vec, .vec, .vec, .any, false, false, false, .none, 0, .none, .fixed 1, [.avx2], .vex 4, false, false⟩,
   ⟨.vex, .m0F38, .p66, .w0, .l256, 0x45, .vec, .vec, .vec, .any, false, false, false, .none, 0, .none, .fixed 1, [.avx2], .vex 4, false, false⟩,
   ⟨.evex, .m0F38, .p66, .w0, .l128, 0x45, .vec, .vec, .vec, .any, false, false, false, .zero, 4, .none, .fv 4, [.avx512vl, .avx512f], .e4, false, false⟩,
   ⟨.evex, .m0F38, .p66, .w0, .l256, 0x45, .vec, .vec, .vec, .any, false, false, false, .zero, 4, .none, .fv 4, [.avx512vl, .avx512f], .e4, false, false⟩,
   ⟨.evex, .m0F38, .p66, .w0, .l512, 0x45, .vec, .vec, .vec, .any, false, false, false, .zero, 4, .none, .fv 4, [.avx512f], .e4, false, false⟩]

/-- VPSRLVQ (R822) -/
def vpsrlvq : List Row :=
  [⟨.vex, .m0F38, .p66, .w1, .l128, 0x45, .vec, .vec, .vec, .any, false, false, false, .none, 0, .none, .fixed 1, [.avx2], .vex 4, false, false⟩,
   ⟨.vex, .m0F38, .p66, .w1, .l256, 0x45, .vec, .vec, .vec, .any, false, false, false, .none, 0, .none, .fixed 1, [.avx2], .vex 4, false, false⟩,
   ⟨.evex, .m0F38, .p66, .w1, .l128, 0x45, .vec, .vec, .vec, .any, false, false, false, .zero, 8, .none, .fv 8, [.avx512vl, .avx512f], .e4, false, false⟩,
   ⟨.evex, .m0F38, .p66, .w1, .l256, 0x45, .vec, .vec, .vec, .any, false, false, false, .zero, 8, .none, .fv 8, [.avx512vl, .avx512f], .e4, false, false⟩,
   ⟨.evex, .m0F38, .p66, .w1, .l512, 0x45, .vec, .vec, .vec, .any, false, false, false, .zero, 8, .none, .fv 8, [.avx512f], .e4, false, false⟩]

end Sys2Proof.Machine.Rows
end

