-- ==== Sys2Proof/Machine/Exec53.lean ====
section
/-! DEFINITION. The meanings of the instructions of spec/53_pshufb_to_vpsrlvq.md (PSHUF to VPSRLV), one definition each: the checks
of `State.run` on the rows of the instruction, then its operation on the row its fields select. -/

namespace Sys2Proof.Machine

/-- PSHUFB (R800). -/
def execPshufb (o : Operands) (s : State) : Host.Outcome State Fault Refusal :=
  s.run Rows.pshufb o fun r => s.vec2 r o 8 shuffleBytes

/-- VPSHUFB (R800). -/
def execVpshufb (o : Operands) (s : State) : Host.Outcome State Fault Refusal :=
  s.run Rows.vpshufb o fun r => s.vec2 r o 8 shuffleBytes

/-- PSHUFHW (R801). -/
def execPshufhw (o : Operands) (s : State) : Host.Outcome State Fault Refusal :=
  s.run Rows.pshufhw o fun r => s.vec1 r o 16 (shuffleWords true o.imm)

/-- VPSHUFHW (R801). -/
def execVpshufhw (o : Operands) (s : State) : Host.Outcome State Fault Refusal :=
  s.run Rows.vpshufhw o fun r => s.vec1 r o 16 (shuffleWords true o.imm)

/-- PSHUFLW (R802). -/
def execPshuflw (o : Operands) (s : State) : Host.Outcome State Fault Refusal :=
  s.run Rows.pshuflw o fun r => s.vec1 r o 16 (shuffleWords false o.imm)

/-- VPSHUFLW (R802). -/
def execVpshuflw (o : Operands) (s : State) : Host.Outcome State Fault Refusal :=
  s.run Rows.vpshuflw o fun r => s.vec1 r o 16 (shuffleWords false o.imm)

/-- PSHUFD (R803). -/
def execPshufd (o : Operands) (s : State) : Host.Outcome State Fault Refusal :=
  s.run Rows.pshufd o fun r => s.vec1 r o 32 (shuffleDwords o.imm)

/-- VPSHUFD (R803). -/
def execVpshufd (o : Operands) (s : State) : Host.Outcome State Fault Refusal :=
  s.run Rows.vpshufd o fun r => s.vec1 r o 32 (shuffleDwords o.imm)

/-- PSLLDQ (R804). -/
def execPslldq (o : Operands) (s : State) : Host.Outcome State Fault Refusal :=
  s.run Rows.pslldq o fun r => s.shiftLanes r o (shiftLaneLeft o.imm)

/-- VPSLLDQ (R804). -/
def execVpslldq (o : Operands) (s : State) : Host.Outcome State Fault Refusal :=
  s.run Rows.vpslldq o fun r => s.shiftLanes r o (shiftLaneLeft o.imm)

/-- PSLLW (R806). -/
def execPsllw (o : Operands) (s : State) : Host.Outcome State Fault Refusal :=
  s.run Rows.psllw o fun r => s.shiftAll r o 16 sll

/-- VPSLLW (R806). -/
def execVpsllw (o : Operands) (s : State) : Host.Outcome State Fault Refusal :=
  s.run Rows.vpsllw o fun r => s.shiftAll r o 16 sll

/-- PSLLD (R807). -/
def execPslld (o : Operands) (s : State) : Host.Outcome State Fault Refusal :=
  s.run Rows.pslld o fun r => s.shiftAll r o 32 sll

/-- VPSLLD (R807). -/
def execVpslld (o : Operands) (s : State) : Host.Outcome State Fault Refusal :=
  s.run Rows.vpslld o fun r => s.shiftAll r o 32 sll

/-- PSLLQ (R808). -/
def execPsllq (o : Operands) (s : State) : Host.Outcome State Fault Refusal :=
  s.run Rows.psllq o fun r => s.shiftAll r o 64 sll

/-- VPSLLQ (R808). -/
def execVpsllq (o : Operands) (s : State) : Host.Outcome State Fault Refusal :=
  s.run Rows.vpsllq o fun r => s.shiftAll r o 64 sll

/-- PSRAW (R809). -/
def execPsraw (o : Operands) (s : State) : Host.Outcome State Fault Refusal :=
  s.run Rows.psraw o fun r => s.shiftAll r o 16 sra

/-- VPSRAW (R809). -/
def execVpsraw (o : Operands) (s : State) : Host.Outcome State Fault Refusal :=
  s.run Rows.vpsraw o fun r => s.shiftAll r o 16 sra

/-- PSRAD (R810). -/
def execPsrad (o : Operands) (s : State) : Host.Outcome State Fault Refusal :=
  s.run Rows.psrad o fun r => s.shiftAll r o 32 sra

/-- VPSRAD (R810). -/
def execVpsrad (o : Operands) (s : State) : Host.Outcome State Fault Refusal :=
  s.run Rows.vpsrad o fun r => s.shiftAll r o 32 sra

/-- VPSRAQ (R811). -/
def execVpsraq (o : Operands) (s : State) : Host.Outcome State Fault Refusal :=
  s.run Rows.vpsraq o fun r => s.shiftAll r o 64 sra

/-- PSRLDQ (R812). -/
def execPsrldq (o : Operands) (s : State) : Host.Outcome State Fault Refusal :=
  s.run Rows.psrldq o fun r => s.shiftLanes r o (shiftLaneRight o.imm)

/-- VPSRLDQ (R812). -/
def execVpsrldq (o : Operands) (s : State) : Host.Outcome State Fault Refusal :=
  s.run Rows.vpsrldq o fun r => s.shiftLanes r o (shiftLaneRight o.imm)

/-- PSRLW (R813). -/
def execPsrlw (o : Operands) (s : State) : Host.Outcome State Fault Refusal :=
  s.run Rows.psrlw o fun r => s.shiftAll r o 16 srl

/-- VPSRLW (R813). -/
def execVpsrlw (o : Operands) (s : State) : Host.Outcome State Fault Refusal :=
  s.run Rows.vpsrlw o fun r => s.shiftAll r o 16 srl

/-- PSRLD (R814). -/
def execPsrld (o : Operands) (s : State) : Host.Outcome State Fault Refusal :=
  s.run Rows.psrld o fun r => s.shiftAll r o 32 srl

/-- VPSRLD (R814). -/
def execVpsrld (o : Operands) (s : State) : Host.Outcome State Fault Refusal :=
  s.run Rows.vpsrld o fun r => s.shiftAll r o 32 srl

/-- PSRLQ (R815). -/
def execPsrlq (o : Operands) (s : State) : Host.Outcome State Fault Refusal :=
  s.run Rows.psrlq o fun r => s.shiftAll r o 64 srl

/-- VPSRLQ (R815). -/
def execVpsrlq (o : Operands) (s : State) : Host.Outcome State Fault Refusal :=
  s.run Rows.vpsrlq o fun r => s.shiftAll r o 64 srl

/-- VPSLLVW (R817). -/
def execVpsllvw (o : Operands) (s : State) : Host.Outcome State Fault Refusal :=
  s.run Rows.vpsllvw o fun r => s.shiftEach r o 16 sll

/-- VPSLLVD (R818). -/
def execVpsllvd (o : Operands) (s : State) : Host.Outcome State Fault Refusal :=
  s.run Rows.vpsllvd o fun r => s.shiftEach r o 32 sll

/-- VPSLLVQ (R819). -/
def execVpsllvq (o : Operands) (s : State) : Host.Outcome State Fault Refusal :=
  s.run Rows.vpsllvq o fun r => s.shiftEach r o 64 sll

/-- VPSRLVW (R820). -/
def execVpsrlvw (o : Operands) (s : State) : Host.Outcome State Fault Refusal :=
  s.run Rows.vpsrlvw o fun r => s.shiftEach r o 16 srl

/-- VPSRLVD (R821). -/
def execVpsrlvd (o : Operands) (s : State) : Host.Outcome State Fault Refusal :=
  s.run Rows.vpsrlvd o fun r => s.shiftEach r o 32 srl

/-- VPSRLVQ (R822). -/
def execVpsrlvq (o : Operands) (s : State) : Host.Outcome State Fault Refusal :=
  s.run Rows.vpsrlvq o fun r => s.shiftEach r o 64 srl

end Sys2Proof.Machine
end

