-- ==== Sys2Proof/Machine/Rows54.lean ====
section
/-! DEFINITION. The rows of spec/opcode_table.json for the instructions of spec/54_psubb_to_punpckl.md (PSUB to PUNPCKL), in the order of the table:
space, map, pp, W, L, opcode, roles of ModRM.reg, vvvv and r/m, mod, VSIB, imm8, r/m is the destination, masking, broadcast
bytes, rounding, tuple, CPUID flags, exception class, alignment, 64-bit mode only. -/

namespace Sys2Proof.Machine.Rows

/-- PSUBB (R830) -/
def psubb : List Row :=
  [⟨.legacy, .m0F, .p66, .wig, .any, 0xF8, .vec, .none, .vec, .any, false, false, false, .none, 0, .none, .fixed 1, [.sse2], .sse 4, true, false⟩]

/-- VPSUBB (R830) -/
def vpsubb : List Row :=
  [⟨.vex, .m0F, .p66, .wig, .l128, 0xF8, .vec, .vec, .vec, .any, false, false, false, .none, 0, .none, .fixed 1, [.avx], .vex 4, false, false⟩,
   ⟨.vex, .m0F, .p66, .wig, .l256, 0xF8, .vec, .vec, .vec, .any, false, false, false, .none, 0, .none, .fixed 1, [.avx2], .vex 4, false, false⟩,
   ⟨.evex, .m0F, .p66, .wig, .l128, 0xF8, .vec, .vec, .vec, .any, false, false, false, .zero, 0, .none, .fvm, [.avx512vl, .avx512bw], .e4, false, false⟩,
   ⟨.evex, .m0F, .p66, .wig, .l256, 0xF8, .vec, .vec, .vec, .any, false, false, false, .zero, 0, .none, .fvm, [.avx512vl, .avx512bw], .e4, false, false⟩,
   ⟨.evex, .m0F, .p66, .wig, .l512, 0xF8, .vec, .vec, .vec, .any, false, false, false, .zero, 0, .none, .fvm, [.avx512bw], .e4, false, false⟩]

/-- PSUBW (R831) -/
def psubw : List Row :=
  [⟨.legacy, .m0F, .p66, .wig, .any, 0xF9, .vec, .none, .vec, .any, false, false, false, .none, 0, .none, .fixed 1, [.sse2], .sse 4, true, false⟩]

/-- VPSUBW (R831) -/
def vpsubw : List Row :=
  [⟨.vex, .m0F, .p66, .wig, .l128, 0xF9, .vec, .vec, .vec, .any, false, false, false, .none, 0, .none, .fixed 1, [.avx], .vex 4, false, false⟩,
   ⟨.vex, .m0F, .p66, .wig, .l256, 0xF9, .vec, .vec, .vec, .any, false, false, false, .none, 0, .none, .fixed 1, [.avx2], .vex 4, false, false⟩,
   ⟨.evex, .m0F, .p66, .wig, .l128, 0xF9, .vec, .vec, .vec, .any, false, false, false, .zero, 0, .none, .fvm, [.avx512vl, .avx512bw], .e4, false, false⟩,
   ⟨.evex, .m0F, .p66, .wig, .l256, 0xF9, .vec, .vec, .vec, .any, false, false, false, .zero, 0, .none, .fvm, [.avx512vl, .avx512bw], .e4, false, false⟩,
   ⟨.evex, .m0F, .p66, .wig, .l512, 0xF9, .vec, .vec, .vec, .any, false, false, false, .zero, 0, .none, .fvm, [.avx512bw], .e4, false, false⟩]

/-- PSUBD (R832) -/
def psubd : List Row :=
  [⟨.legacy, .m0F, .p66, .wig, .any, 0xFA, .vec, .none, .vec, .any, false, false, false, .none, 0, .none, .fixed 1, [.sse2], .sse 4, true, false⟩]

/-- VPSUBD (R832) -/
def vpsubd : List Row :=
  [⟨.vex, .m0F, .p66, .wig, .l128, 0xFA, .vec, .vec, .vec, .any, false, false, false, .none, 0, .none, .fixed 1, [.avx], .vex 4, false, false⟩,
   ⟨.vex, .m0F, .p66, .wig, .l256, 0xFA, .vec, .vec, .vec, .any, false, false, false, .none, 0, .none, .fixed 1, [.avx2], .vex 4, false, false⟩,
   ⟨.evex, .m0F, .p66, .w0, .l128, 0xFA, .vec, .vec, .vec, .any, false, false, false, .zero, 4, .none, .fv 4, [.avx512vl, .avx512f], .e4, false, false⟩,
   ⟨.evex, .m0F, .p66, .w0, .l256, 0xFA, .vec, .vec, .vec, .any, false, false, false, .zero, 4, .none, .fv 4, [.avx512vl, .avx512f], .e4, false, false⟩,
   ⟨.evex, .m0F, .p66, .w0, .l512, 0xFA, .vec, .vec, .vec, .any, false, false, false, .zero, 4, .none, .fv 4, [.avx512f], .e4, false, false⟩]

/-- PSUBQ (R833) -/
def psubq : List Row :=
  [⟨.legacy, .m0F, .p66, .wig, .any, 0xFB, .vec, .none, .vec, .any, false, false, false, .none, 0, .none, .fixed 1, [.sse2], .sse 4, true, false⟩]

/-- VPSUBQ (R833) -/
def vpsubq : List Row :=
  [⟨.vex, .m0F, .p66, .wig, .l128, 0xFB, .vec, .vec, .vec, .any, false, false, false, .none, 0, .none, .fixed 1, [.avx], .vex 4, false, false⟩,
   ⟨.vex, .m0F, .p66, .wig, .l256, 0xFB, .vec, .vec, .vec, .any, false, false, false, .none, 0, .none, .fixed 1, [.avx2], .vex 4, false, false⟩,
   ⟨.evex, .m0F, .p66, .w1, .l128, 0xFB, .vec, .vec, .vec, .any, false, false, false, .zero, 8, .none, .fv 8, [.avx512vl, .avx512f], .e4, false, false⟩,
   ⟨.evex, .m0F, .p66, .w1, .l256, 0xFB, .vec, .vec, .vec, .any, false, false, false, .zero, 8, .none, .fv 8, [.avx512vl, .avx512f], .e4, false, false⟩,
   ⟨.evex, .m0F, .p66, .w1, .l512, 0xFB, .vec, .vec, .vec, .any, false, false, false, .zero, 8, .none, .fv 8, [.avx512f], .e4, false, false⟩]

/-- PSUBSB (R834) -/
def psubsb : List Row :=
  [⟨.legacy, .m0F, .p66, .wig, .any, 0xE8, .vec, .none, .vec, .any, false, false, false, .none, 0, .none, .fixed 1, [.sse2], .sse 4, true, false⟩]

/-- VPSUBSB (R834) -/
def vpsubsb : List Row :=
  [⟨.vex, .m0F, .p66, .wig, .l128, 0xE8, .vec, .vec, .vec, .any, false, false, false, .none, 0, .none, .fixed 1, [.avx], .vex 4, false, false⟩,
   ⟨.vex, .m0F, .p66, .wig, .l256, 0xE8, .vec, .vec, .vec, .any, false, false, false, .none, 0, .none, .fixed 1, [.avx2], .vex 4, false, false⟩,
   ⟨.evex, .m0F, .p66, .wig, .l128, 0xE8, .vec, .vec, .vec, .any, false, false, false, .zero, 0, .none, .fvm, [.avx512vl, .avx512bw], .e4, false, false⟩,
   ⟨.evex, .m0F, .p66, .wig, .l256, 0xE8, .vec, .vec, .vec, .any, false, false, false, .zero, 0, .none, .fvm, [.avx512vl, .avx512bw], .e4, false, false⟩,
   ⟨.evex, .m0F, .p66, .wig, .l512, 0xE8, .vec, .vec, .vec, .any, false, false, false, .zero, 0, .none, .fvm, [.avx512bw], .e4, false, false⟩]

/-- PSUBSW (R835) -/
def psubsw : List Row :=
  [⟨.legacy, .m0F, .p66, .wig, .any, 0xE9, .vec, .none, .vec, .any, false, false, false, .none, 0, .none, .fixed 1, [.sse2], .sse 4, true, false⟩]

/-- VPSUBSW (R835) -/
def vpsubsw : List Row :=
  [⟨.vex, .m0F, .p66, .wig, .l128, 0xE9, .vec, .vec, .vec, .any, false, false, false, .none, 0, .none, .fixed 1, [.avx], .vex 4, false, false⟩,
   ⟨.vex, .m0F, .p66, .wig, .l256, 0xE9, .vec, .vec, .vec, .any, false, false, false, .none, 0, .none, .fixed 1, [.avx2], .vex 4, false, false⟩,
   ⟨.evex, .m0F, .p66, .wig, .l128, 0xE9, .vec, .vec, .vec, .any, false, false, false, .zero, 0, .none, .fvm, [.avx512vl, .avx512bw], .e4, false, false⟩,
   ⟨.evex, .m0F, .p66, .wig, .l256, 0xE9, .vec, .vec, .vec, .any, false, false, false, .zero, 0, .none, .fvm, [.avx512vl, .avx512bw], .e4, false, false⟩,
   ⟨.evex, .m0F, .p66, .wig, .l512, 0xE9, .vec, .vec, .vec, .any, false, false, false, .zero, 0, .none, .fvm, [.avx512bw], .e4, false, false⟩]

/-- PSUBUSB (R836) -/
def psubusb : List Row :=
  [⟨.legacy, .m0F, .p66, .wig, .any, 0xD8, .vec, .none, .vec, .any, false, false, false, .none, 0, .none, .fixed 1, [.sse2], .sse 4, true, false⟩]

/-- VPSUBUSB (R836) -/
def vpsubusb : List Row :=
  [⟨.vex, .m0F, .p66, .wig, .l128, 0xD8, .vec, .vec, .vec, .any, false, false, false, .none, 0, .none, .fixed 1, [.avx], .vex 4, false, false⟩,
   ⟨.vex, .m0F, .p66, .wig, .l256, 0xD8, .vec, .vec, .vec, .any, false, false, false, .none, 0, .none, .fixed 1, [.avx2], .vex 4, false, false⟩,
   ⟨.evex, .m0F, .p66, .wig, .l128, 0xD8, .vec, .vec, .vec, .any, false, false, false, .zero, 0, .none, .fvm, [.avx512vl, .avx512bw], .e4, false, false⟩,
   ⟨.evex, .m0F, .p66, .wig, .l256, 0xD8, .vec, .vec, .vec, .any, false, false, false, .zero, 0, .none, .fvm, [.avx512vl, .avx512bw], .e4, false, false⟩,
   ⟨.evex, .m0F, .p66, .wig, .l512, 0xD8, .vec, .vec, .vec, .any, false, false, false, .zero, 0, .none, .fvm, [.avx512bw], .e4, false, false⟩]

/-- PSUBUSW (R837) -/
def psubusw : List Row :=
  [⟨.legacy, .m0F, .p66, .wig, .any, 0xD9, .vec, .none, .vec, .any, false, false, false, .none, 0, .none, .fixed 1, [.sse2], .sse 4, true, false⟩]

/-- VPSUBUSW (R837) -/
def vpsubusw : List Row :=
  [⟨.vex, .m0F, .p66, .wig, .l128, 0xD9, .vec, .vec, .vec, .any, false, false, false, .none, 0, .none, .fixed 1, [.avx], .vex 4, false, false⟩,
   ⟨.vex, .m0F, .p66, .wig, .l256, 0xD9, .vec, .vec, .vec, .any, false, false, false, .none, 0, .none, .fixed 1, [.avx2], .vex 4, false, false⟩,
   ⟨.evex, .m0F, .p66, .wig, .l128, 0xD9, .vec, .vec, .vec, .any, false, false, false, .zero, 0, .none, .fvm, [.avx512vl, .avx512bw], .e4, false, false⟩,
   ⟨.evex, .m0F, .p66, .wig, .l256, 0xD9, .vec, .vec, .vec, .any, false, false, false, .zero, 0, .none, .fvm, [.avx512vl, .avx512bw], .e4, false, false⟩,
   ⟨.evex, .m0F, .p66, .wig, .l512, 0xD9, .vec, .vec, .vec, .any, false, false, false, .zero, 0, .none, .fvm, [.avx512bw], .e4, false, false⟩]

/-- VPTESTNMB (R838) -/
def vptestnmb : List Row :=
  [⟨.evex, .m0F38, .pF3, .w0, .l128, 0x26, .kreg, .vec, .vec, .any, false, false, false, .merge, 0, .none, .fvm, [.avx512vl, .avx512bw], .e4, false, false⟩,
   ⟨.evex, .m0F38, .pF3, .w0, .l256, 0x26, .kreg, .vec, .vec, .any, false, false, false, .merge, 0, .none, .fvm, [.avx512vl, .avx512bw], .e4, false, false⟩,
   ⟨.evex, .m0F38, .pF3, .w0, .l512, 0x26, .kreg, .vec, .vec, .any, false, false, false, .merge, 0, .none, .fvm, [.avx512bw], .e4, false, false⟩]

/-- VPTESTNMW (R839) -/
def vptestnmw : List Row :=
  [⟨.evex, .m0F38, .pF3, .w1, .l128, 0x26, .kreg, .vec, .vec, .any, false, false, false, .merge, 0, .none, .fvm, [.avx512vl, .avx512bw], .e4, false, false⟩,
   ⟨.evex, .m0F38, .pF3, .w1, .l256, 0x26, .kreg, .vec, .vec, .any, false, false, false, .merge, 0, .none, .fvm, [.avx512vl, .avx512bw], .e4, false, false⟩,
   ⟨.evex, .m0F38, .pF3, .w1, .l512, 0x26, .kreg, .vec, .vec, .any, false, false, false, .merge, 0, .none, .fvm, [.avx512bw], .e4, false, false⟩]

/-- VPTESTNMD (R840) -/
def vptestnmd : List Row :=
  [⟨.evex, .m0F38, .pF3, .w0, .l128, 0x27, .kreg, .vec, .vec, .any, false, false, false, .merge, 4, .none, .fv 4, [.avx512vl, .avx512f], .e4, false, false⟩,
   ⟨.evex, .m0F38, .pF3, .w0, .l256, 0x27, .kreg, .vec, .vec, .any, false, false, false, .merge, 4, .none, .fv 4, [.avx512vl, .avx512f], .e4, false, false⟩,
   ⟨.evex, .m0F38, .pF3, .w0, .l512, 0x27, .kreg, .vec, .vec, .any, false, false, false, .merge, 4, .none, .fv 4, [.avx512f], .e4, false, false⟩]

/-- VPTESTNMQ (R841) -/
def vptestnmq : List Row :=
  [⟨.evex, .m0F38, .pF3, .w1, .l128, 0x27, .kreg, .vec, .vec, .any, false, false, false, .merge, 8, .none, .fv 8, [.avx512vl, .avx512f], .e4, false, false⟩,
   ⟨.evex, .m0F38, .pF3, .w1, .l256, 0x27, .kreg, .vec, .vec, .any, false, false, false, .merge, 8, .none, .fv 8, [.avx512vl, .avx512f], .e4, false, false⟩,
   ⟨.evex, .m0F38, .pF3, .w1, .l512, 0x27, .kreg, .vec, .vec, .any, false, false, false, .merge, 8, .none, .fv 8, [.avx512f], .e4, false, false⟩]

/-- PUNPCKHBW (R843) -/
def punpckhbw : List Row :=
  [⟨.legacy, .m0F, .p66, .wig, .any, 0x68, .vec, .none, .vec, .any, false, false, false, .none, 0, .none, .fixed 1, [.sse2], .sse 4, true, false⟩]

/-- VPUNPCKHBW (R843) -/
def vpunpckhbw : List Row :=
  [⟨.vex, .m0F, .p66, .wig, .l128, 0x68, .vec, .vec, .vec, .any, false, false, false, .none, 0, .none, .fixed 1, [.avx], .vex 4, false, false⟩,
   ⟨.vex, .m0F, .p66, .wig, .l256, 0x68, .vec, .vec, .vec, .any, false, false, false, .none, 0, .none, .fixed 1, [.avx2], .vex 4, false, false⟩,
   ⟨.evex, .m0F, .p66, .wig, .l128, 0x68, .vec, .vec, .vec, .any, false, false, false, .zero, 0, .none, .fvm, [.avx512vl, .avx512bw], .e4nf, false, false⟩,
   ⟨.evex, .m0F, .p66, .wig, .l256, 0x68, .vec, .vec, .vec, .any, false, false, false, .zero, 0, .none, .fvm, [.avx512vl, .avx512bw], .e4nf, false, false⟩,
   ⟨.evex, .m0F, .p66, .wig, .l512, 0x68, .vec, .vec, .vec, .any, false, false, false, .zero, 0, .none, .fvm, [.avx512bw], .e4nf, false, false⟩]

/-- PUNPCKHWD (R844) -/
def punpckhwd : List Row :=
  [⟨.legacy, .m0F, .p66, .wig, .any, 0x69, .vec, .none, .vec, .any, false, false, false, .none, 0, .none, .fixed 1, [.sse2], .sse 4, true, false⟩]

/-- VPUNPCKHWD (R844) -/
def vpunpckhwd : List Row :=
  [⟨.vex, .m0F, .p66, .wig, .l128, 0x69, .vec, .vec, .vec, .any, false, false, false, .none, 0, .none, .fixed 1, [.avx], .vex 4, false, false⟩,
   ⟨.vex, .m0F, .p66, .wig, .l256, 0x69, .vec, .vec, .vec, .any, false, false, false, .none, 0, .none, .fixed 1, [.avx2], .vex 4, false, false⟩,
   ⟨.evex, .m0F, .p66, .wig, .l128, 0x69, .vec, .vec, .vec, .any, false, false, false, .zero, 0, .none, .fvm, [.avx512vl, .avx512bw], .e4nf, false, false⟩,
   ⟨.evex, .m0F, .p66, .wig, .l256, 0x69, .vec, .vec, .vec, .any, false, false, false, .zero, 0, .none, .fvm, [.avx512vl, .avx512bw], .e4nf, false, false⟩,
   ⟨.evex, .m0F, .p66, .wig, .l512, 0x69, .vec, .vec, .vec, .any, false, false, false, .zero, 0, .none, .fvm, [.avx512bw], .e4nf, false, false⟩]

/-- PUNPCKHDQ (R845) -/
def punpckhdq : List Row :=
  [⟨.legacy, .m0F, .p66, .wig, .any, 0x6A, .vec, .none, .vec, .any, false, false, false, .none, 0, .none, .fixed 1, [.sse2], .sse 4, true, false⟩]

/-- VPUNPCKHDQ (R845) -/
def vpunpckhdq : List Row :=
  [⟨.vex, .m0F, .p66, .wig, .l128, 0x6A, .vec, .vec, .vec, .any, false, false, false, .none, 0, .none, .fixed 1, [.avx], .vex 4, false, false⟩,
   ⟨.vex, .m0F, .p66, .wig, .l256, 0x6A, .vec, .vec, .vec, .any, false, false, false, .none, 0, .none, .fixed 1, [.avx2], .vex 4, false, false⟩,
   ⟨.evex, .m0F, .p66, .w0, .l128, 0x6A, .vec, .vec, .vec, .any, false, false, false, .zero, 4, .none, .fv 4, [.avx512vl, .avx512f], .e4nf, false, false⟩,
   ⟨.evex, .m0F, .p66, .w0, .l256, 0x6A, .vec, .vec, .vec, .any, false, false, false, .zero, 4, .none, .fv 4, [.avx512vl, .avx512f], .e4nf, false, false⟩,
   ⟨.evex, .m0F, .p66, .w0, .l512, 0x6A, .vec, .vec, .vec, .any, false, false, false, .zero, 4, .none, .fv 4, [.avx512f], .e4nf, false, false⟩]

/-- PUNPCKHQDQ (R846) -/
def punpckhqdq : List Row :=
  [⟨.legacy, .m0F, .p66, .wig, .any, 0x6D, .vec, .none, .vec, .any, false, false, false, .none, 0, .none, .fixed 1, [.sse2], .sse 4, true, false⟩]

/-- VPUNPCKHQDQ (R846) -/
def vpunpckhqdq : List Row :=
  [⟨.vex, .m0F, .p66, .wig, .l128, 0x6D, .vec, .vec, .vec, .any, false, false, false, .none, 0, .none, .fixed 1, [.avx], .vex 4, false, false⟩,
   ⟨.vex, .m0F, .p66, .wig, .l256, 0x6D, .vec, .vec, .vec, .any, false, false, false, .none, 0, .none, .fixed 1, [.avx2], .vex 4, false, false⟩,
   ⟨.evex, .m0F, .p66, .w1, .l128, 0x6D, .vec, .vec, .vec, .any, false, false, false, .zero, 8, .none, .fv 8, [.avx512vl, .avx512f], .e4nf, false, false⟩,
   ⟨.evex, .m0F, .p66, .w1, .l256, 0x6D, .vec, .vec, .vec, .any, false, false, false, .zero, 8, .none, .fv 8, [.avx512vl, .avx512f], .e4nf, false, false⟩,
   ⟨.evex, .m0F, .p66, .w1, .l512, 0x6D, .vec, .vec, .vec, .any, false, false, false, .zero, 8, .none, .fv 8, [.avx512f], .e4nf, false, false⟩]

/-- PUNPCKLBW (R847) -/
def punpcklbw : List Row :=
  [⟨.legacy, .m0F, .p66, .wig, .any, 0x60, .vec, .none, .vec, .any, false, false, false, .none, 0, .none, .fixed 1, [.sse2], .sse 4, true, false⟩]

/-- VPUNPCKLBW (R847) -/
def vpunpcklbw : List Row :=
  [⟨.vex, .m0F, .p66, .wig, .l128, 0x60, .vec, .vec, .vec, .any, false, false, false, .none, 0, .none, .fixed 1, [.avx], .vex 4, false, false⟩,
   ⟨.vex, .m0F, .p66, .wig, .l256, 0x60, .vec, .vec, .vec, .any, false, false, false, .none, 0, .none, .fixed 1, [.avx2], .vex 4, false, false⟩,
   ⟨.evex, .m0F, .p66, .wig, .l128, 0x60, .vec, .vec, .vec, .any, false, false, false, .zero, 0, .none, .fvm, [.avx512vl, .avx512bw], .e4nf, false, false⟩,
   ⟨.evex, .m0F, .p66, .wig, .l256, 0x60, .vec, .vec, .vec, .any, false, false, false, .zero, 0, .none, .fvm, [.avx512vl, .avx512bw], .e4nf, false, false⟩,
   ⟨.evex, .m0F, .p66, .wig, .l512, 0x60, .vec, .vec, .vec, .any, false, false, false, .zero, 0, .none, .fvm, [.avx512bw], .e4nf, false, false⟩]

/-- PUNPCKLWD (R848) -/
def punpcklwd : List Row :=
  [⟨.legacy, .m0F, .p66, .wig, .any, 0x61, .vec, .none, .vec, .any, false, false, false, .none, 0, .none, .fixed 1, [.sse2], .sse 4, true, false⟩]

/-- VPUNPCKLWD (R848) -/
def vpunpcklwd : List Row :=
  [⟨.vex, .m0F, .p66, .wig, .l128, 0x61, .vec, .vec, .vec, .any, false, false, false, .none, 0, .none, .fixed 1, [.avx], .vex 4, false, false⟩,
   ⟨.vex, .m0F, .p66, .wig, .l256, 0x61, .vec, .vec, .vec, .any, false, false, false, .none, 0, .none, .fixed 1, [.avx2], .vex 4, false, false⟩,
   ⟨.evex, .m0F, .p66, .wig, .l128, 0x61, .vec, .vec, .vec, .any, false, false, false, .zero, 0, .none, .fvm, [.avx512vl, .avx512bw], .e4nf, false, false⟩,
   ⟨.evex, .m0F, .p66, .wig, .l256, 0x61, .vec, .vec, .vec, .any, false, false, false, .zero, 0, .none, .fvm, [.avx512vl, .avx512bw], .e4nf, false, false⟩,
   ⟨.evex, .m0F, .p66, .wig, .l512, 0x61, .vec, .vec, .vec, .any, false, false, false, .zero, 0, .none, .fvm, [.avx512bw], .e4nf, false, false⟩]

/-- PUNPCKLDQ (R849) -/
def punpckldq : List Row :=
  [⟨.legacy, .m0F, .p66, .wig, .any, 0x62, .vec, .none, .vec, .any, false, false, false, .none, 0, .none, .fixed 1, [.sse2], .sse 4, true, false⟩]

/-- VPUNPCKLDQ (R849) -/
def vpunpckldq : List Row :=
  [⟨.vex, .m0F, .p66, .wig, .l128, 0x62, .vec, .vec, .vec, .any, false, false, false, .none, 0, .none, .fixed 1, [.avx], .vex 4, false, false⟩,
   ⟨.vex, .m0F, .p66, .wig, .l256, 0x62, .vec, .vec, .vec, .any, false, false, false, .none, 0, .none, .fixed 1, [.avx2], .vex 4, false, false⟩,
   ⟨.evex, .m0F, .p66, .w0, .l128, 0x62, .vec, .vec, .vec, .any, false, false, false, .zero, 4, .none, .fv 4, [.avx512vl, .avx512f], .e4nf, false, false⟩,
   ⟨.evex, .m0F, .p66, .w0, .l256, 0x62, .vec, .vec, .vec, .any, false, false, false, .zero, 4, .none, .fv 4, [.avx512vl, .avx512f], .e4nf, false, false⟩,
   ⟨.evex, .m0F, .p66, .w0, .l512, 0x62, .vec, .vec, .vec, .any, false, false, false, .zero, 4, .none, .fv 4, [.avx512f], .e4nf, false, false⟩]

/-- PUNPCKLQDQ (R850) -/
def punpcklqdq : List Row :=
  [⟨.legacy, .m0F, .p66, .wig, .any, 0x6C, .vec, .none, .vec, .any, false, false, false, .none, 0, .none, .fixed 1, [.sse2], .sse 4, true, false⟩]

/-- VPUNPCKLQDQ (R850) -/
def vpunpcklqdq : List Row :=
  [⟨.vex, .m0F, .p66, .wig, .l128, 0x6C, .vec, .vec, .vec, .any, false, false, false, .none, 0, .none, .fixed 1, [.avx], .vex 4, false, false⟩,
   ⟨.vex, .m0F, .p66, .wig, .l256, 0x6C, .vec, .vec, .vec, .any, false, false, false, .none, 0, .none, .fixed 1, [.avx2], .vex 4, false, false⟩,
   ⟨.evex, .m0F, .p66, .w1, .l128, 0x6C, .vec, .vec, .vec, .any, false, false, false, .zero, 8, .none, .fv 8, [.avx512vl, .avx512f], .e4nf, false, false⟩,
   ⟨.evex, .m0F, .p66, .w1, .l256, 0x6C, .vec, .vec, .vec, .any, false, false, false, .zero, 8, .none, .fv 8, [.avx512vl, .avx512f], .e4nf, false, false⟩,
   ⟨.evex, .m0F, .p66, .w1, .l512, 0x6C, .vec, .vec, .vec, .any, false, false, false, .zero, 8, .none, .fv 8, [.avx512f], .e4nf, false, false⟩]

end Sys2Proof.Machine.Rows
end

