-- ==== Sys2Proof/Machine/Exec54.lean ====
section
/-! DEFINITION. The meanings of the instructions of spec/54_psubb_to_punpckl.md (PSUB to PUNPCKL), one definition each: the checks
of `State.run` on the rows of the instruction, then its operation on the row its fields select. -/

namespace Sys2Proof.Machine

/-- PSUBB (R830). -/
def execPsubb (o : Operands) (s : State) : Host.Outcome State Fault Refusal :=
  s.run Rows.psubb o fun r => s.map2 r o 8 fun a b => a - b

/-- VPSUBB (R830). -/
def execVpsubb (o : Operands) (s : State) : Host.Outcome State Fault Refusal :=
  s.run Rows.vpsubb o fun r => s.map2 r o 8 fun a b => a - b

/-- PSUBW (R831). -/
def execPsubw (o : Operands) (s : State) : Host.Outcome State Fault Refusal :=
  s.run Rows.psubw o fun r => s.map2 r o 16 fun a b => a - b

/-- VPSUBW (R831). -/
def execVpsubw (o : Operands) (s : State) : Host.Outcome State Fault Refusal :=
  s.run Rows.vpsubw o fun r => s.map2 r o 16 fun a b => a - b

/-- PSUBD (R832). -/
def execPsubd (o : Operands) (s : State) : Host.Outcome State Fault Refusal :=
  s.run Rows.psubd o fun r => s.map2 r o 32 fun a b => a - b

/-- VPSUBD (R832). -/
def execVpsubd (o : Operands) (s : State) : Host.Outcome State Fault Refusal :=
  s.run Rows.vpsubd o fun r => s.map2 r o 32 fun a b => a - b

/-- PSUBQ (R833). -/
def execPsubq (o : Operands) (s : State) : Host.Outcome State Fault Refusal :=
  s.run Rows.psubq o fun r => s.map2 r o 64 fun a b => a - b

/-- VPSUBQ (R833). -/
def execVpsubq (o : Operands) (s : State) : Host.Outcome State Fault Refusal :=
  s.run Rows.vpsubq o fun r => s.map2 r o 64 fun a b => a - b

/-- PSUBSB (R834). -/
def execPsubsb (o : Operands) (s : State) : Host.Outcome State Fault Refusal :=
  s.run Rows.psubsb o fun r => s.map2 r o 8 fun a b => satS 8 (a.toInt - b.toInt)

/-- VPSUBSB (R834). -/
def execVpsubsb (o : Operands) (s : State) : Host.Outcome State Fault Refusal :=
  s.run Rows.vpsubsb o fun r => s.map2 r o 8 fun a b => satS 8 (a.toInt - b.toInt)

/-- PSUBSW (R835). -/
def execPsubsw (o : Operands) (s : State) : Host.Outcome State Fault Refusal :=
  s.run Rows.psubsw o fun r => s.map2 r o 16 fun a b => satS 16 (a.toInt - b.toInt)

/-- VPSUBSW (R835). -/
def execVpsubsw (o : Operands) (s : State) : Host.Outcome State Fault Refusal :=
  s.run Rows.vpsubsw o fun r => s.map2 r o 16 fun a b => satS 16 (a.toInt - b.toInt)

/-- PSUBUSB (R836). -/
def execPsubusb (o : Operands) (s : State) : Host.Outcome State Fault Refusal :=
  s.run Rows.psubusb o fun r => s.map2 r o 8 fun a b => satU 8 ((a.toNat : Int) - b.toNat)

/-- VPSUBUSB (R836). -/
def execVpsubusb (o : Operands) (s : State) : Host.Outcome State Fault Refusal :=
  s.run Rows.vpsubusb o fun r => s.map2 r o 8 fun a b => satU 8 ((a.toNat : Int) - b.toNat)

/-- PSUBUSW (R837). -/
def execPsubusw (o : Operands) (s : State) : Host.Outcome State Fault Refusal :=
  s.run Rows.psubusw o fun r => s.map2 r o 16 fun a b => satU 16 ((a.toNat : Int) - b.toNat)

/-- VPSUBUSW (R837). -/
def execVpsubusw (o : Operands) (s : State) : Host.Outcome State Fault Refusal :=
  s.run Rows.vpsubusw o fun r => s.map2 r o 16 fun a b => satU 16 ((a.toNat : Int) - b.toNat)

/-- VPTESTNMB (R838). -/
def execVptestnmb (o : Operands) (s : State) : Host.Outcome State Fault Refusal :=
  s.run Rows.vptestnmb o fun r => s.compareVec r o 8 fun a b => a &&& b == 0

/-- VPTESTNMW (R839). -/
def execVptestnmw (o : Operands) (s : State) : Host.Outcome State Fault Refusal :=
  s.run Rows.vptestnmw o fun r => s.compareVec r o 16 fun a b => a &&& b == 0

/-- VPTESTNMD (R840). -/
def execVptestnmd (o : Operands) (s : State) : Host.Outcome State Fault Refusal :=
  s.run Rows.vptestnmd o fun r => s.compareVec r o 32 fun a b => a &&& b == 0

/-- VPTESTNMQ (R841). -/
def execVptestnmq (o : Operands) (s : State) : Host.Outcome State Fault Refusal :=
  s.run Rows.vptestnmq o fun r => s.compareVec r o 64 fun a b => a &&& b == 0

/-- PUNPCKHBW (R843). -/
def execPunpckhbw (o : Operands) (s : State) : Host.Outcome State Fault Refusal :=
  s.run Rows.punpckhbw o fun r => s.vec2 r o 8 (unpack 8 true)

/-- VPUNPCKHBW (R843). -/
def execVpunpckhbw (o : Operands) (s : State) : Host.Outcome State Fault Refusal :=
  s.run Rows.vpunpckhbw o fun r => s.vec2 r o 8 (unpack 8 true)

/-- PUNPCKHWD (R844). -/
def execPunpckhwd (o : Operands) (s : State) : Host.Outcome State Fault Refusal :=
  s.run Rows.punpckhwd o fun r => s.vec2 r o 16 (unpack 16 true)

/-- VPUNPCKHWD (R844). -/
def execVpunpckhwd (o : Operands) (s : State) : Host.Outcome State Fault Refusal :=
  s.run Rows.vpunpckhwd o fun r => s.vec2 r o 16 (unpack 16 true)

/-- PUNPCKHDQ (R845). -/
def execPunpckhdq (o : Operands) (s : State) : Host.Outcome State Fault Refusal :=
  s.run Rows.punpckhdq o fun r => s.vec2 r o 32 (unpack 32 true)

/-- VPUNPCKHDQ (R845). -/
def execVpunpckhdq (o : Operands) (s : State) : Host.Outcome State Fault Refusal :=
  s.run Rows.vpunpckhdq o fun r => s.vec2 r o 32 (unpack 32 true)

/-- PUNPCKHQDQ (R846). -/
def execPunpckhqdq (o : Operands) (s : State) : Host.Outcome State Fault Refusal :=
  s.run Rows.punpckhqdq o fun r => s.vec2 r o 64 (unpack 64 true)

/-- VPUNPCKHQDQ (R846). -/
def execVpunpckhqdq (o : Operands) (s : State) : Host.Outcome State Fault Refusal :=
  s.run Rows.vpunpckhqdq o fun r => s.vec2 r o 64 (unpack 64 true)

/-- PUNPCKLBW (R847). -/
def execPunpcklbw (o : Operands) (s : State) : Host.Outcome State Fault Refusal :=
  s.run Rows.punpcklbw o fun r => s.vec2 r o 8 (unpack 8 false)

/-- VPUNPCKLBW (R847). -/
def execVpunpcklbw (o : Operands) (s : State) : Host.Outcome State Fault Refusal :=
  s.run Rows.vpunpcklbw o fun r => s.vec2 r o 8 (unpack 8 false)

/-- PUNPCKLWD (R848). -/
def execPunpcklwd (o : Operands) (s : State) : Host.Outcome State Fault Refusal :=
  s.run Rows.punpcklwd o fun r => s.vec2 r o 16 (unpack 16 false)

/-- VPUNPCKLWD (R848). -/
def execVpunpcklwd (o : Operands) (s : State) : Host.Outcome State Fault Refusal :=
  s.run Rows.vpunpcklwd o fun r => s.vec2 r o 16 (unpack 16 false)

/-- PUNPCKLDQ (R849). -/
def execPunpckldq (o : Operands) (s : State) : Host.Outcome State Fault Refusal :=
  s.run Rows.punpckldq o fun r => s.vec2 r o 32 (unpack 32 false)

/-- VPUNPCKLDQ (R849). -/
def execVpunpckldq (o : Operands) (s : State) : Host.Outcome State Fault Refusal :=
  s.run Rows.vpunpckldq o fun r => s.vec2 r o 32 (unpack 32 false)

/-- PUNPCKLQDQ (R850). -/
def execPunpcklqdq (o : Operands) (s : State) : Host.Outcome State Fault Refusal :=
  s.run Rows.punpcklqdq o fun r => s.vec2 r o 64 (unpack 64 false)

/-- VPUNPCKLQDQ (R850). -/
def execVpunpcklqdq (o : Operands) (s : State) : Host.Outcome State Fault Refusal :=
  s.run Rows.vpunpcklqdq o fun r => s.vec2 r o 64 (unpack 64 false)

end Sys2Proof.Machine
end

