-- ==== Sys2Proof/Machine/Rows55.lean ====
section
/-! DEFINITION. The rows of spec/opcode_table.json for the instructions of spec/55_vshuff32x4_to_pxor.md (VSHUF to PXOR), in the order of the table:
space, map, pp, W, L, opcode, roles of ModRM.reg, vvvv and r/m, mod, VSIB, imm8, r/m is the destination, masking, broadcast
bytes, rounding, tuple, CPUID flags, exception class, alignment, 64-bit mode only. -/

namespace Sys2Proof.Machine.Rows

/-- VSHUFF32X4 (R861) -/
def vshuff32x4 : List Row :=
  [⟨.evex, .m0F3A, .p66, .w0, .l256, 0x23, .vec, .vec, .vec, .any, false, true, false, .zero, 4, .none, .fv 4, [.avx512vl, .avx512f], .e4nf, false, false⟩,
   ⟨.evex, .m0F3A, .p66, .w0, .l512, 0x23, .vec, .vec, .vec, .any, false, true, false, .zero, 4, .none, .fv 4, [.avx512f], .e4nf, false, false⟩]

/-- VSHUFF64X2 (R862) -/
def vshuff64x2 : List Row :=
  [⟨.evex, .m0F3A, .p66, .w1, .l256, 0x23, .vec, .vec, .vec, .any, false, true, false, .zero, 8, .none, .fv 8, [.avx512vl, .avx512f], .e4nf, false, false⟩,
   ⟨.evex, .m0F3A, .p66, .w1, .l512, 0x23, .vec, .vec, .vec, .any, false, true, false, .zero, 8, .none, .fv 8, [.avx512f], .e4nf, false, false⟩]

/-- VSHUFI32X4 (R863) -/
def vshufi32x4 : List Row :=
  [⟨.evex, .m0F3A, .p66, .w0, .l256, 0x43, .vec, .vec, .vec, .any, false, true, false, .zero, 4, .none, .fv 4, [.avx512vl, .avx512f], .e4nf, false, false⟩,
   ⟨.evex, .m0F3A, .p66, .w0, .l512, 0x43, .vec, .vec, .vec, .any, false, true, false, .zero, 4, .none, .fv 4, [.avx512f], .e4nf, false, false⟩]

/-- VSHUFI64X2 (R864) -/
def vshufi64x2 : List Row :=
  [⟨.evex, .m0F3A, .p66, .w1, .l256, 0x43, .vec, .vec, .vec, .any, false, true, false, .zero, 8, .none, .fv 8, [.avx512vl, .avx512f], .e4nf, false, false⟩,
   ⟨.evex, .m0F3A, .p66, .w1, .l512, 0x43, .vec, .vec, .vec, .any, false, true, false, .zero, 8, .none, .fv 8, [.avx512f], .e4nf, false, false⟩]

/-- SHUFPD (R865) -/
def shufpd : List Row :=
  [⟨.legacy, .m0F, .p66, .wig, .any, 0xC6, .vec, .none, .vec, .any, false, true, false, .none, 0, .none, .fixed 1, [.sse2], .sse 4, true, false⟩]

/-- VSHUFPD (R865) -/
def vshufpd : List Row :=
  [⟨.vex, .m0F, .p66, .wig, .l128, 0xC6, .vec, .vec, .vec, .any, false, true, false, .none, 0, .none, .fixed 1, [.avx], .vex 4, false, false⟩,
   ⟨.vex, .m0F, .p66, .wig, .l256, 0xC6, .vec, .vec, .vec, .any, false, true, false, .none, 0, .none, .fixed 1, [.avx], .vex 4, false, false⟩,
   ⟨.evex, .m0F, .p66, .w1, .l128, 0xC6, .vec, .vec, .vec, .any, false, true, false, .zero, 8, .none, .fv 8, [.avx512vl, .avx512f], .e4nf, false, false⟩,
   ⟨.evex, .m0F, .p66, .w1, .l256, 0xC6, .vec, .vec, .vec, .any, false, true, false, .zero, 8, .none, .fv 8, [.avx512vl, .avx512f], .e4nf, false, false⟩,
   ⟨.evex, .m0F, .p66, .w1, .l512, 0xC6, .vec, .vec, .vec, .any, false, true, false, .zero, 8, .none, .fv 8, [.avx512f], .e4nf, false, false⟩]

/-- SHUFPS (R866) -/
def shufps : List Row :=
  [⟨.legacy, .m0F, .np, .wig, .any, 0xC6, .vec, .none, .vec, .any, false, true, false, .none, 0, .none, .fixed 1, [.sse], .sse 4, true, false⟩]

/-- VSHUFPS (R866) -/
def vshufps : List Row :=
  [⟨.vex, .m0F, .np, .wig, .l128, 0xC6, .vec, .vec, .vec, .any, false, true, false, .none, 0, .none, .fixed 1, [.avx], .vex 4, false, false⟩,
   ⟨.vex, .m0F, .np, .wig, .l256, 0xC6, .vec, .vec, .vec, .any, false, true, false, .none, 0, .none, .fixed 1, [.avx], .vex 4, false, false⟩,
   ⟨.evex, .m0F, .np, .w0, .l128, 0xC6, .vec, .vec, .vec, .any, false, true, false, .zero, 4, .none, .fv 4, [.avx512vl, .avx512f], .e4nf, false, false⟩,
   ⟨.evex, .m0F, .np, .w0, .l256, 0xC6, .vec, .vec, .vec, .any, false, true, false, .zero, 4, .none, .fv 4, [.avx512vl, .avx512f], .e4nf, false, false⟩,
   ⟨.evex, .m0F, .np, .w0, .l512, 0xC6, .vec, .vec, .vec, .any, false, true, false, .zero, 4, .none, .fv 4, [.avx512f], .e4nf, false, false⟩]

/-- SQRTPD (R867) -/
def sqrtpd : List Row :=
  [⟨.legacy, .m0F, .p66, .wig, .any, 0x51, .vec, .none, .vec, .any, false, false, false, .none, 0, .none, .fixed 1, [.sse2], .sse 2, true, false⟩]

/-- VSQRTPD (R867) -/
def vsqrtpd : List Row :=
  [⟨.vex, .m0F, .p66, .wig, .l128, 0x51, .vec, .none, .vec, .any, false, false, false, .none, 0, .none, .fixed 1, [.avx], .vex 2, false, false⟩,
   ⟨.vex, .m0F, .p66, .wig, .l256, 0x51, .vec, .none, .vec, .any, false, false, false, .none, 0, .none, .fixed 1, [.avx], .vex 2, false, false⟩,
   ⟨.evex, .m0F, .p66, .w1, .l128, 0x51, .vec, .none, .vec, .any, false, false, false, .zero, 8, .none, .fv 8, [.avx512vl, .avx512f], .e2, false, false⟩,
   ⟨.evex, .m0F, .p66, .w1, .l256, 0x51, .vec, .none, .vec, .any, false, false, false, .zero, 8, .none, .fv 8, [.avx512vl, .avx512f], .e2, false, false⟩,
   ⟨.evex, .m0F, .p66, .w1, .l512, 0x51, .vec, .none, .vec, .any, false, false, false, .zero, 8, .er, .fv 8, [.avx512f], .e2, false, false⟩]

/-- SQRTPS (R868) -/
def sqrtps : List Row :=
  [⟨.legacy, .m0F, .np, .wig, .any, 0x51, .vec, .none, .vec, .any, false, false, false, .none, 0, .none, .fixed 1, [.sse], .sse 2, true, false⟩]

/-- VSQRTPS (R868) -/
def vsqrtps : List Row :=
  [⟨.vex, .m0F, .np, .wig, .l128, 0x51, .vec, .none, .vec, .any, false, false, false, .none, 0, .none, .fixed 1, [.avx], .vex 2, false, false⟩,
   ⟨.vex, .m0F, .np, .wig, .l256, 0x51, .vec, .none, .vec, .any, false, false, false, .none, 0, .none, .fixed 1, [.avx], .vex 2, false, false⟩,
   ⟨.evex, .m0F, .np, .w0, .l128, 0x51, .vec, .none, .vec, .any, false, false, false, .zero, 4, .none, .fv 4, [.avx512vl, .avx512f], .e2, false, false⟩,
   ⟨.evex, .m0F, .np, .w0, .l256, 0x51, .vec, .none, .vec, .any, false, false, false, .zero, 4, .none, .fv 4, [.avx512vl, .avx512f], .e2, false, false⟩,
   ⟨.evex, .m0F, .np, .w0, .l512, 0x51, .vec, .none, .vec, .any, false, false, false, .zero, 4, .er, .fv 4, [.avx512f], .e2, false, false⟩]

/-- SQRTSD (R869) -/
def sqrtsd : List Row :=
  [⟨.legacy, .m0F, .pF2, .wig, .any, 0x51, .vec, .none, .vec, .any, false, false, false, .none, 0, .none, .fixed 1, [.sse2], .sse 3, false, false⟩]

/-- VSQRTSD (R869) -/
def vsqrtsd : List Row :=
  [⟨.vex, .m0F, .pF2, .wig, .any, 0x51, .vec, .vec, .vec, .any, false, false, false, .none, 0, .none, .fixed 1, [.avx], .vex 3, false, false⟩,
   ⟨.evex, .m0F, .pF2, .w1, .any, 0x51, .vec, .vec, .vec, .any, false, false, false, .zero, 0, .er, .fixed 8, [.avx512f], .e3, false, false⟩]

/-- SQRTSS (R870) -/
def sqrtss : List Row :=
  [⟨.legacy, .m0F, .pF3, .wig, .any, 0x51, .vec, .none, .vec, .any, false, false, false, .none, 0, .none, .fixed 1, [.sse], .sse 3, false, false⟩]

/-- VSQRTSS (R870) -/
def vsqrtss : List Row :=
  [⟨.vex, .m0F, .pF3, .wig, .any, 0x51, .vec, .vec, .vec, .any, false, false, false, .none, 0, .none, .fixed 1, [.avx], .vex 3, false, false⟩,
   ⟨.evex, .m0F, .pF3, .w0, .any, 0x51, .vec, .vec, .vec, .any, false, false, false, .zero, 0, .er, .fixed 4, [.avx512f], .e3, false, false⟩]

/-- VPTERNLOGD (R872) -/
def vpternlogd : List Row :=
  [⟨.evex, .m0F3A, .p66, .w0, .l128, 0x25, .vec, .vec, .vec, .any, false, true, false, .zero, 4, .none, .fv 4, [.avx512vl, .avx512f], .e4, false, false⟩,
   ⟨.evex, .m0F3A, .p66, .w0, .l256, 0x25, .vec, .vec, .vec, .any, false, true, false, .zero, 4, .none, .fv 4, [.avx512vl, .avx512f], .e4, false, false⟩,
   ⟨.evex, .m0F3A, .p66, .w0, .l512, 0x25, .vec, .vec, .vec, .any, false, true, false, .zero, 4, .none, .fv 4, [.avx512f], .e4, false, false⟩]

/-- VPTERNLOGQ (R873) -/
def vpternlogq : List Row :=
  [⟨.evex, .m0F3A, .p66, .w1, .l128, 0x25, .vec, .vec, .vec, .any, false, true, false, .zero, 8, .none, .fv 8, [.avx512vl, .avx512f], .e4, false, false⟩,
   ⟨.evex, .m0F3A, .p66, .w1, .l256, 0x25, .vec, .vec, .vec, .any, false, true, false, .zero, 8, .none, .fv 8, [.avx512vl, .avx512f], .e4, false, false⟩,
   ⟨.evex, .m0F3A, .p66, .w1, .l512, 0x25, .vec, .vec, .vec, .any, false, true, false, .zero, 8, .none, .fv 8, [.avx512f], .e4, false, false⟩]

/-- VPTESTMB (R874) -/
def vptestmb : List Row :=
  [⟨.evex, .m0F38, .p66, .w0, .l128, 0x26, .kreg, .vec, .vec, .any, false, false, false, .merge, 0, .none, .fvm, [.avx512vl, .avx512bw], .e4, false, false⟩,
   ⟨.evex, .m0F38, .p66, .w0, .l256, 0x26, .kreg, .vec, .vec, .any, false, false, false, .merge, 0, .none, .fvm, [.avx512vl, .avx512bw], .e4, false, false⟩,
   ⟨.evex, .m0F38, .p66, .w0, .l512, 0x26, .kreg, .vec, .vec, .any, false, false, false, .merge, 0, .none, .fvm, [.avx512bw], .e4, false, false⟩]

/-- VPTESTMW (R875) -/
def vptestmw : List Row :=
  [⟨.evex, .m0F38, .p66, .w1, .l128, 0x26, .kreg, .vec, .vec, .any, false, false, false, .merge, 0, .none, .fvm, [.avx512vl, .avx512bw], .e4, false, false⟩,
   ⟨.evex, .m0F38, .p66, .w1, .l256, 0x26, .kreg, .vec, .vec, .any, false, false, false, .merge, 0, .none, .fvm, [.avx512vl, .avx512bw], .e4, false, false⟩,
   ⟨.evex, .m0F38, .p66, .w1, .l512, 0x26, .kreg, .vec, .vec, .any, false, false, false, .merge, 0, .none, .fvm, [.avx512bw], .e4, false, false⟩]

/-- VPTESTMD (R876) -/
def vptestmd : List Row :=
  [⟨.evex, .m0F38, .p66, .w0, .l128, 0x27, .kreg, .vec, .vec, .any, false, false, false, .merge, 4, .none, .fv 4, [.avx512vl, .avx512f], .e4, false, false⟩,
   ⟨.evex, .m0F38, .p66, .w0, .l256, 0x27, .kreg, .vec, .vec, .any, false, false, false, .merge, 4, .none, .fv 4, [.avx512vl, .avx512f], .e4, false, false⟩,
   ⟨.evex, .m0F38, .p66, .w0, .l512, 0x27, .kreg, .vec, .vec, .any, false, false, false, .merge, 4, .none, .fv 4, [.avx512f], .e4, false, false⟩]

/-- VPTESTMQ (R877) -/
def vptestmq : List Row :=
  [⟨.evex, .m0F38, .p66, .w1, .l128, 0x27, .kreg, .vec, .vec, .any, false, false, false, .merge, 8, .none, .fv 8, [.avx512vl, .avx512f], .e4, false, false⟩,
   ⟨.evex, .m0F38, .p66, .w1, .l256, 0x27, .kreg, .vec, .vec, .any, false, false, false, .merge, 8, .none, .fv 8, [.avx512vl, .avx512f], .e4, false, false⟩,
   ⟨.evex, .m0F38, .p66, .w1, .l512, 0x27, .kreg, .vec, .vec, .any, false, false, false, .merge, 8, .none, .fv 8, [.avx512f], .e4, false, false⟩]

/-- VPSRAVW (R878) -/
def vpsravw : List Row :=
  [⟨.evex, .m0F38, .p66, .w1, .l128, 0x11, .vec, .vec, .vec, .any, false, false, false, .zero, 0, .none, .fvm, [.avx512vl, .avx512bw], .e4, false, false⟩,
   ⟨.evex, .m0F38, .p66, .w1, .l256, 0x11, .vec, .vec, .vec, .any, false, false, false, .zero, 0, .none, .fvm, [.avx512vl, .avx512bw], .e4, false, false⟩,
   ⟨.evex, .m0F38, .p66, .w1, .l512, 0x11, .vec, .vec, .vec, .any, false, false, false, .zero, 0, .none, .fvm, [.avx512bw], .e4, false, false⟩]

/-- VPSRAVD (R879) -/
def vpsravd : List Row :=
  [⟨.vex, .m0F38, .p66, .w0, .l128, 0x46, .vec, .vec, .vec, .any, false, false, false, .none, 0, .none, .fixed 1, [.avx2], .vex 4, false, false⟩,
   ⟨.vex, .m0F38, .p66, .w0, .l256, 0x46, .vec, .vec, .vec, .any, false, false, false, .none, 0, .none, .fixed 1, [.avx2], .vex 4, false, false⟩,
   ⟨.evex, .m0F38, .p66, .w0, .l128, 0x46, .vec, .vec, .vec, .any, false, false, false, .zero, 4, .none, .fv 4, [.avx512vl, .avx512f], .e4, false, false⟩,
   ⟨.evex, .m0F38, .p66, .w0, .l256, 0x46, .vec, .vec, .vec, .any, false, false, false, .zero, 4, .none, .fv 4, [.avx512vl, .avx512f], .e4, false, false⟩,
   ⟨.evex, .m0F38, .p66, .w0, .l512, 0x46, .vec, .vec, .vec, .any, false, false, false, .zero, 4, .none, .fv 4, [.avx512f], .e4, false, false⟩]

/-- VPSRAVQ (R880) -/
def vpsravq : List Row :=
  [⟨.evex, .m0F38, .p66, .w1, .l128, 0x46, .vec, .vec, .vec, .any, false, false, false, .zero, 8, .none, .fv 8, [.avx512vl, .avx512f], .e4, false, false⟩,
   ⟨.evex, .m0F38, .p66, .w1, .l256, 0x46, .vec, .vec, .vec, .any, false, false, false, .zero, 8, .none, .fv 8, [.avx512vl, .avx512f], .e4, false, false⟩,
   ⟨.evex, .m0F38, .p66, .w1, .l512, 0x46, .vec, .vec, .vec, .any, false, false, false, .zero, 8, .none, .fv 8, [.avx512f], .e4, false, false⟩]

/-- PXOR (R881) -/
def pxor : List Row :=
  [⟨.legacy, .m0F, .p66, .wig, .any, 0xEF, .vec, .none, .vec, .any, false, false, false, .none, 0, .none, .fixed 1, [.sse2], .sse 4, true, false⟩]

/-- VPXOR (R881) -/
def vpxor : List Row :=
  [⟨.vex, .m0F, .p66, .wig, .l128, 0xEF, .vec, .vec, .vec, .any, false, false, false, .none, 0, .none, .fixed 1, [.avx], .vex 4, false, false⟩,
   ⟨.vex, .m0F, .p66, .wig, .l256, 0xEF, .vec, .vec, .vec, .any, false, false, false, .none, 0, .none, .fixed 1, [.avx2], .vex 4, false, false⟩]

/-- VPXORD (R882) -/
def vpxord : List Row :=
  [⟨.evex, .m0F, .p66, .w0, .l128, 0xEF, .vec, .vec, .vec, .any, false, false, false, .zero, 4, .none, .fv 4, [.avx512vl, .avx512f], .e4, false, false⟩,
   ⟨.evex, .m0F, .p66, .w0, .l256, 0xEF, .vec, .vec, .vec, .any, false, false, false, .zero, 4, .none, .fv 4, [.avx512vl, .avx512f], .e4, false, false⟩,
   ⟨.evex, .m0F, .p66, .w0, .l512, 0xEF, .vec, .vec, .vec, .any, false, false, false, .zero, 4, .none, .fv 4, [.avx512f], .e4, false, false⟩]

/-- VPXORQ (R883) -/
def vpxorq : List Row :=
  [⟨.evex, .m0F, .p66, .w1, .l128, 0xEF, .vec, .vec, .vec, .any, false, false, false, .zero, 8, .none, .fv 8, [.avx512vl, .avx512f], .e4, false, false⟩,
   ⟨.evex, .m0F, .p66, .w1, .l256, 0xEF, .vec, .vec, .vec, .any, false, false, false, .zero, 8, .none, .fv 8, [.avx512vl, .avx512f], .e4, false, false⟩,
   ⟨.evex, .m0F, .p66, .w1, .l512, 0xEF, .vec, .vec, .vec, .any, false, false, false, .zero, 8, .none, .fv 8, [.avx512f], .e4, false, false⟩]

end Sys2Proof.Machine.Rows
end

