-- ==== Sys2Proof/Machine/Exec55.lean ====
section
/-! DEFINITION. The meanings of the instructions of spec/55_vshuff32x4_to_pxor.md (VSHUF to PXOR), one definition each: the checks
of `State.run` on the rows of the instruction, then its operation on the row its fields select. -/

namespace Sys2Proof.Machine

/-- VSHUFF32X4 (R861). -/
def execVshuff32x4 (o : Operands) (s : State) : Host.Outcome State Fault Refusal :=
  s.run Rows.vshuff32x4 o fun r => s.vec2 r o 32 (shufLanes 32 (r.vl o) o.imm)

/-- VSHUFF64X2 (R862). -/
def execVshuff64x2 (o : Operands) (s : State) : Host.Outcome State Fault Refusal :=
  s.run Rows.vshuff64x2 o fun r => s.vec2 r o 64 (shufLanes 64 (r.vl o) o.imm)

/-- VSHUFI32X4 (R863). -/
def execVshufi32x4 (o : Operands) (s : State) : Host.Outcome State Fault Refusal :=
  s.run Rows.vshufi32x4 o fun r => s.vec2 r o 32 (shufLanes 32 (r.vl o) o.imm)

/-- VSHUFI64X2 (R864). -/
def execVshufi64x2 (o : Operands) (s : State) : Host.Outcome State Fault Refusal :=
  s.run Rows.vshufi64x2 o fun r => s.vec2 r o 64 (shufLanes 64 (r.vl o) o.imm)

/-- SHUFPD (R865). -/
def execShufpd (o : Operands) (s : State) : Host.Outcome State Fault Refusal :=
  s.run Rows.shufpd o fun r => s.vec2 r o 64 (shufPd o.imm)

/-- VSHUFPD (R865). -/
def execVshufpd (o : Operands) (s : State) : Host.Outcome State Fault Refusal :=
  s.run Rows.vshufpd o fun r => s.vec2 r o 64 (shufPd o.imm)

/-- SHUFPS (R866). -/
def execShufps (o : Operands) (s : State) : Host.Outcome State Fault Refusal :=
  s.run Rows.shufps o fun r => s.vec2 r o 32 (shufPs o.imm)

/-- VSHUFPS (R866). -/
def execVshufps (o : Operands) (s : State) : Host.Outcome State Fault Refusal :=
  s.run Rows.vshufps o fun r => s.vec2 r o 32 (shufPs o.imm)

/-- SQRTPD (R867). -/
def execSqrtpd (o : Operands) (s : State) : Host.Outcome State Fault Refusal :=
  s.run Rows.sqrtpd o fun r => s.fp1 r o f64.sqrt

/-- VSQRTPD (R867). -/
def execVsqrtpd (o : Operands) (s : State) : Host.Outcome State Fault Refusal :=
  s.run Rows.vsqrtpd o fun r => s.fp1 r o f64.sqrt

/-- SQRTPS (R868). -/
def execSqrtps (o : Operands) (s : State) : Host.Outcome State Fault Refusal :=
  s.run Rows.sqrtps o fun r => s.fp1 r o f32.sqrt

/-- VSQRTPS (R868). -/
def execVsqrtps (o : Operands) (s : State) : Host.Outcome State Fault Refusal :=
  s.run Rows.vsqrtps o fun r => s.fp1 r o f32.sqrt

/-- SQRTSD (R869). -/
def execSqrtsd (o : Operands) (s : State) : Host.Outcome State Fault Refusal :=
  s.run Rows.sqrtsd o fun r => s.fp1s r o f64.sqrt

/-- VSQRTSD (R869). -/
def execVsqrtsd (o : Operands) (s : State) : Host.Outcome State Fault Refusal :=
  s.run Rows.vsqrtsd o fun r => s.fp1s r o f64.sqrt

/-- SQRTSS (R870). -/
def execSqrtss (o : Operands) (s : State) : Host.Outcome State Fault Refusal :=
  s.run Rows.sqrtss o fun r => s.fp1s r o f32.sqrt

/-- VSQRTSS (R870). -/
def execVsqrtss (o : Operands) (s : State) : Host.Outcome State Fault Refusal :=
  s.run Rows.vsqrtss o fun r => s.fp1s r o f32.sqrt

/-- VPTERNLOGD (R872). -/
def execVpternlogd (o : Operands) (s : State) : Host.Outcome State Fault Refusal :=
  s.run Rows.vpternlogd o fun r => s.vec3 r o 32 fun a b c j => ternLog o.imm (elem 32 j a) (elem 32 j b) (elem 32 j c)

/-- VPTERNLOGQ (R873). -/
def execVpternlogq (o : Operands) (s : State) : Host.Outcome State Fault Refusal :=
  s.run Rows.vpternlogq o fun r => s.vec3 r o 64 fun a b c j => ternLog o.imm (elem 64 j a) (elem 64 j b) (elem 64 j c)

/-- VPTESTMB (R874). -/
def execVptestmb (o : Operands) (s : State) : Host.Outcome State Fault Refusal :=
  s.run Rows.vptestmb o fun r => s.compareVec r o 8 fun a b => a &&& b != 0

/-- VPTESTMW (R875). -/
def execVptestmw (o : Operands) (s : State) : Host.Outcome State Fault Refusal :=
  s.run Rows.vptestmw o fun r => s.compareVec r o 16 fun a b => a &&& b != 0

/-- VPTESTMD (R876). -/
def execVptestmd (o : Operands) (s : State) : Host.Outcome State Fault Refusal :=
  s.run Rows.vptestmd o fun r => s.compareVec r o 32 fun a b => a &&& b != 0

/-- VPTESTMQ (R877). -/
def execVptestmq (o : Operands) (s : State) : Host.Outcome State Fault Refusal :=
  s.run Rows.vptestmq o fun r => s.compareVec r o 64 fun a b => a &&& b != 0

/-- VPSRAVW (R878). -/
def execVpsravw (o : Operands) (s : State) : Host.Outcome State Fault Refusal :=
  s.run Rows.vpsravw o fun r => s.shiftEach r o 16 sra

/-- VPSRAVD (R879). -/
def execVpsravd (o : Operands) (s : State) : Host.Outcome State Fault Refusal :=
  s.run Rows.vpsravd o fun r => s.shiftEach r o 32 sra

/-- VPSRAVQ (R880). -/
def execVpsravq (o : Operands) (s : State) : Host.Outcome State Fault Refusal :=
  s.run Rows.vpsravq o fun r => s.shiftEach r o 64 sra

/-- PXOR (R881). -/
def execPxor (o : Operands) (s : State) : Host.Outcome State Fault Refusal :=
  s.run Rows.pxor o fun r => s.map2 r o 64 fun a b => a ^^^ b

/-- VPXOR (R881). -/
def execVpxor (o : Operands) (s : State) : Host.Outcome State Fault Refusal :=
  s.run Rows.vpxor o fun r => s.map2 r o 64 fun a b => a ^^^ b

/-- VPXORD (R882). -/
def execVpxord (o : Operands) (s : State) : Host.Outcome State Fault Refusal :=
  s.run Rows.vpxord o fun r => s.map2 r o 32 fun a b => a ^^^ b

/-- VPXORQ (R883). -/
def execVpxorq (o : Operands) (s : State) : Host.Outcome State Fault Refusal :=
  s.run Rows.vpxorq o fun r => s.map2 r o 64 fun a b => a ^^^ b

end Sys2Proof.Machine
end

