-- ==== Sys2Proof/Machine/Rows56.lean ====
section
/-! DEFINITION. The rows of spec/opcode_table.json for the instructions of spec/56_vrangepd_to_vscatter.md (VRANGE to VSCATTER), in the order of the table:
space, map, pp, W, L, opcode, roles of ModRM.reg, vvvv and r/m, mod, VSIB, imm8, r/m is the destination, masking, broadcast
bytes, rounding, tuple, CPUID flags, exception class, alignment, 64-bit mode only. -/

namespace Sys2Proof.Machine.Rows

/-- VRANGEPD (R901) -/
def vrangepd : List Row :=
  [⟨.evex, .m0F3A, .p66, .w1, .l128, 0x50, .vec, .vec, .vec, .any, false, true, false, .zero, 8, .none, .fv 8, [.avx512vl, .avx512dq], .e2, false, false⟩,
   ⟨.evex, .m0F3A, .p66, .w1, .l256, 0x50, .vec, .vec, .vec, .any, false, true, false, .zero, 8, .none, .fv 8, [.avx512vl, .avx512dq], .e2, false, false⟩,
   ⟨.evex, .m0F3A, .p66, .w1, .l512, 0x50, .vec, .vec, .vec, .any, false, true, false, .zero, 8, .sae, .fv 8, [.avx512dq], .e2, false, false⟩]

/-- VRANGEPS (R902) -/
def vrangeps : List Row :=
  [⟨.evex, .m0F3A, .p66, .w0, .l128, 0x50, .vec, .vec, .vec, .any, false, true, false, .zero, 4, .none, .fv 4, [.avx512vl, .avx512dq], .e2, false, false⟩,
   ⟨.evex, .m0F3A, .p66, .w0, .l256, 0x50, .vec, .vec, .vec, .any, false, true, false, .zero, 4, .none, .fv 4, [.avx512vl, .avx512dq], .e2, false, false⟩,
   ⟨.evex, .m0F3A, .p66, .w0, .l512, 0x50, .vec, .vec, .vec, .any, false, true, false, .zero, 4, .sae, .fv 4, [.avx512dq], .e2, false, false⟩]

/-- VRANGESD (R903) -/
def vrangesd : List Row :=
  [⟨.evex, .m0F3A, .p66, .w1, .any, 0x51, .vec, .vec, .vec, .any, false, true, false, .zero, 0, .sae, .fixed 8, [.avx512dq], .e3, false, false⟩]

/-- VRANGESS (R904) -/
def vrangess : List Row :=
  [⟨.evex, .m0F3A, .p66, .w0, .any, 0x51, .vec, .vec, .vec, .any, false, true, false, .zero, 0, .sae, .fixed 4, [.avx512dq], .e3, false, false⟩]

/-- VRCP14PD (R906) -/
def vrcp14pd : List Row :=
  [⟨.evex, .m0F38, .p66, .w1, .l128, 0x4C, .vec, .none, .vec, .any, false, false, false, .zero, 8, .none, .fv 8, [.avx512vl, .avx512f], .e4, false, false⟩,
   ⟨.evex, .m0F38, .p66, .w1, .l256, 0x4C, .vec, .none, .vec, .any, false, false, false, .zero, 8, .none, .fv 8, [.avx512vl, .avx512f], .e4, false, false⟩,
   ⟨.evex, .m0F38, .p66, .w1, .l512, 0x4C, .vec, .none, .vec, .any, false, false, false, .zero, 8, .none, .fv 8, [.avx512f], .e4, false, false⟩]

/-- VRCP14SD (R907) -/
def vrcp14sd : List Row :=
  [⟨.evex, .m0F38, .p66, .w1, .any, 0x4D, .vec, .vec, .vec, .any, false, false, false, .zero, 0, .none, .fixed 8, [.avx512f], .e5, false, false⟩]

/-- VRCP14PS (R908) -/
def vrcp14ps : List Row :=
  [⟨.evex, .m0F38, .p66, .w0, .l128, 0x4C, .vec, .none, .vec, .any, false, false, false, .zero, 4, .none, .fv 4, [.avx512vl, .avx512f], .e4, false, false⟩,
   ⟨.evex, .m0F38, .p66, .w0, .l256, 0x4C, .vec, .none, .vec, .any, false, false, false, .zero, 4, .none, .fv 4, [.avx512vl, .avx512f], .e4, false, false⟩,
   ⟨.evex, .m0F38, .p66, .w0, .l512, 0x4C, .vec, .none, .vec, .any, false, false, false, .zero, 4, .none, .fv 4, [.avx512f], .e4, false, false⟩]

/-- VRCP14SS (R909) -/
def vrcp14ss : List Row :=
  [⟨.evex, .m0F38, .p66, .w0, .any, 0x4D, .vec, .vec, .vec, .any, false, false, false, .zero, 0, .none, .fixed 4, [.avx512f], .e5, false, false⟩]

/-- VREDUCEPD (R911) -/
def vreducepd : List Row :=
  [⟨.evex, .m0F3A, .p66, .w1, .l128, 0x56, .vec, .none, .vec, .any, false, true, false, .zero, 8, .none, .fv 8, [.avx512vl, .avx512dq], .e2, false, false⟩,
   ⟨.evex, .m0F3A, .p66, .w1, .l256, 0x56, .vec, .none, .vec, .any, false, true, false, .zero, 8, .none, .fv 8, [.avx512vl, .avx512dq], .e2, false, false⟩,
   ⟨.evex, .m0F3A, .p66, .w1, .l512, 0x56, .vec, .none, .vec, .any, false, true, false, .zero, 8, .sae, .fv 8, [.avx512dq], .e2, false, false⟩]

/-- VREDUCESD (R912) -/
def vreducesd : List Row :=
  [⟨.evex, .m0F3A, .p66, .w1, .any, 0x57, .vec, .vec, .vec, .any, false, true, false, .zero, 0, .sae, .fixed 8, [.avx512dq], .e3, false, false⟩]

/-- VREDUCEPS (R913) -/
def vreduceps : List Row :=
  [⟨.evex, .m0F3A, .p66, .w0, .l128, 0x56, .vec, .none, .vec, .any, false, true, false, .zero, 4, .none, .fv 4, [.avx512vl, .avx512dq], .e2, false, false⟩,
   ⟨.evex, .m0F3A, .p66, .w0, .l256, 0x56, .vec, .none, .vec, .any, false, true, false, .zero, 4, .none, .fv 4, [.avx512vl, .avx512dq], .e2, false, false⟩,
   ⟨.evex, .m0F3A, .p66, .w0, .l512, 0x56, .vec, .none, .vec, .any, false, true, false, .zero, 4, .sae, .fv 4, [.avx512dq], .e2, false, false⟩]

/-- VREDUCESS (R914) -/
def vreducess : List Row :=
  [⟨.evex, .m0F3A, .p66, .w0, .any, 0x57, .vec, .vec, .vec, .any, false, true, false, .zero, 0, .sae, .fixed 4, [.avx512dq], .e3, false, false⟩]

/-- VRNDSCALEPD (R916) -/
def vrndscalepd : List Row :=
  [⟨.evex, .m0F3A, .p66, .w1, .l128, 0x09, .vec, .none, .vec, .any, false, true, false, .zero, 8, .none, .fv 8, [.avx512vl, .avx512f], .e2, false, false⟩,
   ⟨.evex, .m0F3A, .p66, .w1, .l256, 0x09, .vec, .none, .vec, .any, false, true, false, .zero, 8, .none, .fv 8, [.avx512vl, .avx512f], .e2, false, false⟩,
   ⟨.evex, .m0F3A, .p66, .w1, .l512, 0x09, .vec, .none, .vec, .any, false, true, false, .zero, 8, .sae, .fv 8, [.avx512f], .e2, false, false⟩]

/-- VRNDSCALESD (R917) -/
def vrndscalesd : List Row :=
  [⟨.evex, .m0F3A, .p66, .w1, .any, 0x0B, .vec, .vec, .vec, .any, false, true, false, .zero, 0, .sae, .fixed 8, [.avx512f], .e3, false, false⟩]

/-- VRNDSCALEPS (R918) -/
def vrndscaleps : List Row :=
  [⟨.evex, .m0F3A, .p66, .w0, .l128, 0x08, .vec, .none, .vec, .any, false, true, false, .zero, 4, .none, .fv 4, [.avx512vl, .avx512f], .e2, false, false⟩,
   ⟨.evex, .m0F3A, .p66, .w0, .l256, 0x08, .vec, .none, .vec, .any, false, true, false, .zero, 4, .none, .fv 4, [.avx512vl, .avx512f], .e2, false, false⟩,
   ⟨.evex, .m0F3A, .p66, .w0, .l512, 0x08, .vec, .none, .vec, .any, false, true, false, .zero, 4, .sae, .fv 4, [.avx512f], .e2, false, false⟩]

/-- VRNDSCALESS (R919) -/
def vrndscaless : List Row :=
  [⟨.evex, .m0F3A, .p66, .w0, .any, 0x0A, .vec, .vec, .vec, .any, false, true, false, .zero, 0, .sae, .fixed 4, [.avx512f], .e3, false, false⟩]

/-- VRSQRT14PD (R921) -/
def vrsqrt14pd : List Row :=
  [⟨.evex, .m0F38, .p66, .w1, .l128, 0x4E, .vec, .none, .vec, .any, false, false, false, .zero, 8, .none, .fv 8, [.avx512vl, .avx512f], .e4, false, false⟩,
   ⟨.evex, .m0F38, .p66, .w1, .l256, 0x4E, .vec, .none, .vec, .any, false, false, false, .zero, 8, .none, .fv 8, [.avx512vl, .avx512f], .e4, false, false⟩,
   ⟨.evex, .m0F38, .p66, .w1, .l512, 0x4E, .vec, .none, .vec, .any, false, false, false, .zero, 8, .none, .fv 8, [.avx512f], .e4, false, false⟩]

/-- VRSQRT14SD (R922) -/
def vrsqrt14sd : List Row :=
  [⟨.evex, .m0F38, .p66, .w1, .any, 0x4F, .vec, .vec, .vec, .any, false, false, false, .zero, 0, .none, .fixed 8, [.avx512f], .e5, false, false⟩]

/-- VRSQRT14PS (R923) -/
def vrsqrt14ps : List Row :=
  [⟨.evex, .m0F38, .p66, .w0, .l128, 0x4E, .vec, .none, .vec, .any, false, false, false, .zero, 4, .none, .fv 4, [.avx512vl, .avx512f], .e4, false, false⟩,
   ⟨.evex, .m0F38, .p66, .w0, .l256, 0x4E, .vec, .none, .vec, .any, false, false, false, .zero, 4, .none, .fv 4, [.avx512vl, .avx512f], .e4, false, false⟩,
   ⟨.evex, .m0F38, .p66, .w0, .l512, 0x4E, .vec, .none, .vec, .any, false, false, false, .zero, 4, .none, .fv 4, [.avx512f], .e4, false, false⟩]

/-- VRSQRT14SS (R924) -/
def vrsqrt14ss : List Row :=
  [⟨.evex, .m0F38, .p66, .w0, .any, 0x4F, .vec, .vec, .vec, .any, false, false, false, .zero, 0, .none, .fixed 4, [.avx512f], .e5, false, false⟩]

/-- VSCALEFPD (R926) -/
def vscalefpd : List Row :=
  [⟨.evex, .m0F38, .p66, .w1, .l128, 0x2C, .vec, .vec, .vec, .any, false, false, false, .zero, 8, .none, .fv 8, [.avx512vl, .avx512f], .e2, false, false⟩,
   ⟨.evex, .m0F38, .p66, .w1, .l256, 0x2C, .vec, .vec, .vec, .any, false, false, false, .zero, 8, .none, .fv 8, [.avx512vl, .avx512f], .e2, false, false⟩,
   ⟨.evex, .m0F38, .p66, .w1, .l512, 0x2C, .vec, .vec, .vec, .any, false, false, false, .zero, 8, .er, .fv 8, [.avx512f], .e2, false, false⟩]

/-- VSCALEFSD (R927) -/
def vscalefsd : List Row :=
  [⟨.evex, .m0F38, .p66, .w1, .any, 0x2D, .vec, .vec, .vec, .any, false, false, false, .zero, 0, .er, .fixed 8, [.avx512f], .e3, false, false⟩]

/-- VSCALEFPS (R928) -/
def vscalefps : List Row :=
  [⟨.evex, .m0F38, .p66, .w0, .l128, 0x2C, .vec, .vec, .vec, .any, false, false, false, .zero, 4, .none, .fv 4, [.avx512vl, .avx512f], .e2, false, false⟩,
   ⟨.evex, .m0F38, .p66, .w0, .l256, 0x2C, .vec, .vec, .vec, .any, false, false, false, .zero, 4, .none, .fv 4, [.avx512vl, .avx512f], .e2, false, false⟩,
   ⟨.evex, .m0F38, .p66, .w0, .l512, 0x2C, .vec, .vec, .vec, .any, false, false, false, .zero, 4, .er, .fv 4, [.avx512f], .e2, false, false⟩]

/-- VSCALEFSS (R929) -/
def vscalefss : List Row :=
  [⟨.evex, .m0F38, .p66, .w0, .any, 0x2D, .vec, .vec, .vec, .any, false, false, false, .zero, 0, .er, .fixed 4, [.avx512f], .e3, false, false⟩]

/-- VSCATTERDPS (R931) -/
def vscatterdps : List Row :=
  [⟨.evex, .m0F38, .p66, .w0, .l128, 0xA2, .vec, .none, .vec, .mem, true, false, true, .must, 0, .none, .fixed 4, [.avx512vl, .avx512f], .e12, false, false⟩,
   ⟨.evex, .m0F38, .p66, .w0, .l256, 0xA2, .vec, .none, .vec, .mem, true, false, true, .must, 0, .none, .fixed 4, [.avx512vl, .avx512f], .e12, false, false⟩,
   ⟨.evex, .m0F38, .p66, .w0, .l512, 0xA2, .vec, .none, .vec, .mem, true, false, true, .must, 0, .none, .fixed 4, [.avx512f], .e12, false, false⟩]

/-- VSCATTERDPD (R932) -/
def vscatterdpd : List Row :=
  [⟨.evex, .m0F38, .p66, .w1, .l128, 0xA2, .vec, .none, .vec, .mem, true, false, true, .must, 0, .none, .fixed 8, [.avx512vl, .avx512f], .e12, false, false⟩,
   ⟨.evex, .m0F38, .p66, .w1, .l256, 0xA2, .vec, .none, .vec, .mem, true, false, true, .must, 0, .none, .fixed 8, [.avx512vl, .avx512f], .e12, false, false⟩,
   ⟨.evex, .m0F38, .p66, .w1, .l512, 0xA2, .vec, .none, .vec, .mem, true, false, true, .must, 0, .none, .fixed 8, [.avx512f], .e12, false, false⟩]

/-- VSCATTERQPS (R933) -/
def vscatterqps : List Row :=
  [⟨.evex, .m0F38, .p66, .w0, .l128, 0xA3, .vec, .none, .vec, .mem, true, false, true, .must, 0, .none, .fixed 4, [.avx512vl, .avx512f], .e12, false, false⟩,
   ⟨.evex, .m0F38, .p66, .w0, .l256, 0xA3, .vec, .none, .vec, .mem, true, false, true, .must, 0, .none, .fixed 4, [.avx512vl, .avx512f], .e12, false, false⟩,
   ⟨.evex, .m0F38, .p66, .w0, .l512, 0xA3, .vec, .none, .vec, .mem, true, false, true, .must, 0, .none, .fixed 4, [.avx512f], .e12, false, false⟩]

/-- VSCATTERQPD (R934) -/
def vscatterqpd : List Row :=
  [⟨.evex, .m0F38, .p66, .w1, .l128, 0xA3, .vec, .none, .vec, .mem, true, false, true, .must, 0, .none, .fixed 8, [.avx512vl, .avx512f], .e12, false, false⟩,
   ⟨.evex, .m0F38, .p66, .w1, .l256, 0xA3, .vec, .none, .vec, .mem, true, false, true, .must, 0, .none, .fixed 8, [.avx512vl, .avx512f], .e12, false, false⟩,
   ⟨.evex, .m0F38, .p66, .w1, .l512, 0xA3, .vec, .none, .vec, .mem, true, false, true, .must, 0, .none, .fixed 8, [.avx512f], .e12, false, false⟩]

end Sys2Proof.Machine.Rows
end

