-- ==== Sys2Proof/Machine/Exec56.lean ====
section
/-! DEFINITION. The meanings of the instructions of spec/56_vrangepd_to_vscatter.md (VRANGE to VSCATTER), one definition each: the checks
of `State.run` on the rows of the instruction, then its operation on the row its fields select. -/

namespace Sys2Proof.Machine

/-- VRANGEPD (R901). -/
def execVrangepd (o : Operands) (s : State) : Host.Outcome State Fault Refusal :=
  s.run Rows.vrangepd o fun r => s.fp2 r o fun env => f64.range env o.imm

/-- VRANGEPS (R902). -/
def execVrangeps (o : Operands) (s : State) : Host.Outcome State Fault Refusal :=
  s.run Rows.vrangeps o fun r => s.fp2 r o fun env => f32.range env o.imm

/-- VRANGESD (R903). -/
def execVrangesd (o : Operands) (s : State) : Host.Outcome State Fault Refusal :=
  s.run Rows.vrangesd o fun r => s.fp2s r o fun env => f64.range env o.imm

/-- VRANGESS (R904). -/
def execVrangess (o : Operands) (s : State) : Host.Outcome State Fault Refusal :=
  s.run Rows.vrangess o fun r => s.fp2s r o fun env => f32.range env o.imm

/-- VRCP14PD (R906). -/
def execVrcp14pd (o : Operands) (s : State) : Host.Outcome State Fault Refusal :=
  s.run Rows.vrcp14pd o fun r => s.approxVec r o fun env => f64.rcp14 env Config.rcp14d

/-- VRCP14SD (R907). -/
def execVrcp14sd (o : Operands) (s : State) : Host.Outcome State Fault Refusal :=
  s.run Rows.vrcp14sd o fun r => s.approxScalar r o fun env => f64.rcp14 env Config.rcp14d

/-- VRCP14PS (R908). -/
def execVrcp14ps (o : Operands) (s : State) : Host.Outcome State Fault Refusal :=
  s.run Rows.vrcp14ps o fun r => s.approxVec r o fun env => f32.rcp14 env Config.rcp14s

/-- VRCP14SS (R909). -/
def execVrcp14ss (o : Operands) (s : State) : Host.Outcome State Fault Refusal :=
  s.run Rows.vrcp14ss o fun r => s.approxScalar r o fun env => f32.rcp14 env Config.rcp14s

/-- VREDUCEPD (R911). -/
def execVreducepd (o : Operands) (s : State) : Host.Outcome State Fault Refusal :=
  s.run Rows.vreducepd o fun r => s.fp1 r o fun env => f64.reduce env o.imm

/-- VREDUCESD (R912). -/
def execVreducesd (o : Operands) (s : State) : Host.Outcome State Fault Refusal :=
  s.run Rows.vreducesd o fun r => s.fp1s r o fun env => f64.reduce env o.imm

/-- VREDUCEPS (R913). -/
def execVreduceps (o : Operands) (s : State) : Host.Outcome State Fault Refusal :=
  s.run Rows.vreduceps o fun r => s.fp1 r o fun env => f32.reduce env o.imm

/-- VREDUCESS (R914). -/
def execVreducess (o : Operands) (s : State) : Host.Outcome State Fault Refusal :=
  s.run Rows.vreducess o fun r => s.fp1s r o fun env => f32.reduce env o.imm

/-- VRNDSCALEPD (R916). -/
def execVrndscalepd (o : Operands) (s : State) : Host.Outcome State Fault Refusal :=
  s.run Rows.vrndscalepd o fun r => s.fp1 r o fun env => f64.rndScale env o.imm

/-- VRNDSCALESD (R917). -/
def execVrndscalesd (o : Operands) (s : State) : Host.Outcome State Fault Refusal :=
  s.run Rows.vrndscalesd o fun r => s.fp1s r o fun env => f64.rndScale env o.imm

/-- VRNDSCALEPS (R918). -/
def execVrndscaleps (o : Operands) (s : State) : Host.Outcome State Fault Refusal :=
  s.run Rows.vrndscaleps o fun r => s.fp1 r o fun env => f32.rndScale env o.imm

/-- VRNDSCALESS (R919). -/
def execVrndscaless (o : Operands) (s : State) : Host.Outcome State Fault Refusal :=
  s.run Rows.vrndscaless o fun r => s.fp1s r o fun env => f32.rndScale env o.imm

/-- VRSQRT14PD (R921). -/
def execVrsqrt14pd (o : Operands) (s : State) : Host.Outcome State Fault Refusal :=
  s.run Rows.vrsqrt14pd o fun r => s.approxVec r o fun env => f64.rsqrt14 env Config.rsqrt14d

/-- VRSQRT14SD (R922). -/
def execVrsqrt14sd (o : Operands) (s : State) : Host.Outcome State Fault Refusal :=
  s.run Rows.vrsqrt14sd o fun r => s.approxScalar r o fun env => f64.rsqrt14 env Config.rsqrt14d

/-- VRSQRT14PS (R923). -/
def execVrsqrt14ps (o : Operands) (s : State) : Host.Outcome State Fault Refusal :=
  s.run Rows.vrsqrt14ps o fun r => s.approxVec r o fun env => f32.rsqrt14 env Config.rsqrt14s

/-- VRSQRT14SS (R924). -/
def execVrsqrt14ss (o : Operands) (s : State) : Host.Outcome State Fault Refusal :=
  s.run Rows.vrsqrt14ss o fun r => s.approxScalar r o fun env => f32.rsqrt14 env Config.rsqrt14s

/-- VSCALEFPD (R926). -/
def execVscalefpd (o : Operands) (s : State) : Host.Outcome State Fault Refusal :=
  s.run Rows.vscalefpd o fun r => s.fp2 r o f64.scale

/-- VSCALEFSD (R927). -/
def execVscalefsd (o : Operands) (s : State) : Host.Outcome State Fault Refusal :=
  s.run Rows.vscalefsd o fun r => s.fp2s r o f64.scale

/-- VSCALEFPS (R928). -/
def execVscalefps (o : Operands) (s : State) : Host.Outcome State Fault Refusal :=
  s.run Rows.vscalefps o fun r => s.fp2 r o f32.scale

/-- VSCALEFSS (R929). -/
def execVscalefss (o : Operands) (s : State) : Host.Outcome State Fault Refusal :=
  s.run Rows.vscalefss o fun r => s.fp2s r o f32.scale

/-- VSCATTERDPS (R931). -/
def execVscatterdps (o : Operands) (s : State) : Host.Outcome State Fault Refusal :=
  s.run Rows.vscatterdps o fun r => s.scatter r o 32 32

/-- VSCATTERDPD (R932). -/
def execVscatterdpd (o : Operands) (s : State) : Host.Outcome State Fault Refusal :=
  s.run Rows.vscatterdpd o fun r => s.scatter r o 64 32

/-- VSCATTERQPS (R933). -/
def execVscatterqps (o : Operands) (s : State) : Host.Outcome State Fault Refusal :=
  s.run Rows.vscatterqps o fun r => s.scatter r o 32 64

/-- VSCATTERQPD (R934). -/
def execVscatterqpd (o : Operands) (s : State) : Host.Outcome State Fault Refusal :=
  s.run Rows.vscatterqpd o fun r => s.scatter r o 64 64

end Sys2Proof.Machine
end

