-- ==== Sys2Proof/Machine/Rows57.lean ====
section
/-! DEFINITION. The rows of spec/opcode_table.json for the instructions of spec/57_subpd_to_xorps.md (SUB to XOR), in the order of the table:
space, map, pp, W, L, opcode, roles of ModRM.reg, vvvv and r/m, mod, VSIB, imm8, r/m is the destination, masking, broadcast
bytes, rounding, tuple, CPUID flags, exception class, alignment, 64-bit mode only. -/

namespace Sys2Proof.Machine.Rows

/-- SUBPD (R970) -/
def subpd : List Row :=
  [⟨.legacy, .m0F, .p66, .wig, .any, 0x5C, .vec, .none, .vec, .any, false, false, false, .none, 0, .none, .fixed 1, [.sse2], .sse 2, true, false⟩]

/-- VSUBPD (R970) -/
def vsubpd : List Row :=
  [⟨.vex, .m0F, .p66, .wig, .l128, 0x5C, .vec, .vec, .vec, .any, false, false, false, .none, 0, .none, .fixed 1, [.avx], .vex 2, false, false⟩,
   ⟨.vex, .m0F, .p66, .wig, .l256, 0x5C, .vec, .vec, .vec, .any, false, false, false, .none, 0, .none, .fixed 1, [.avx], .vex 2, false, false⟩,
   ⟨.evex, .m0F, .p66, .w1, .l128, 0x5C, .vec, .vec, .vec, .any, false, false, false, .zero, 8, .none, .fv 8, [.avx512vl, .avx512f], .e2, false, false⟩,
   ⟨.evex, .m0F, .p66, .w1, .l256, 0x5C, .vec, .vec, .vec, .any, false, false, false, .zero, 8, .none, .fv 8, [.avx512vl, .avx512f], .e2, false, false⟩,
   ⟨.evex, .m0F, .p66, .w1, .l512, 0x5C, .vec, .vec, .vec, .any, false, false, false, .zero, 8, .er, .fv 8, [.avx512f], .e2, false, false⟩]

/-- SUBPS (R971) -/
def subps : List Row :=
  [⟨.legacy, .m0F, .np, .wig, .any, 0x5C, .vec, .none, .vec, .any, false, false, false, .none, 0, .none, .fixed 1, [.sse], .sse 2, true, false⟩]

/-- VSUBPS (R971) -/
def vsubps : List Row :=
  [⟨.vex, .m0F, .np, .wig, .l128, 0x5C, .vec, .vec, .vec, .any, false, false, false, .none, 0, .none, .fixed 1, [.avx], .vex 2, false, false⟩,
   ⟨.vex, .m0F, .np, .wig, .l256, 0x5C, .vec, .vec, .vec, .any, false, false, false, .none, 0, .none, .fixed 1, [.avx], .vex 2, false, false⟩,
   ⟨.evex, .m0F, .np, .w0, .l128, 0x5C, .vec, .vec, .vec, .any, false, false, false, .zero, 4, .none, .fv 4, [.avx512vl, .avx512f], .e2, false, false⟩,
   ⟨.evex, .m0F, .np, .w0, .l256, 0x5C, .vec, .vec, .vec, .any, false, false, false, .zero, 4, .none, .fv 4, [.avx512vl, .avx512f], .e2, false, false⟩,
   ⟨.evex, .m0F, .np, .w0, .l512, 0x5C, .vec, .vec, .vec, .any, false, false, false, .zero, 4, .er, .fv 4, [.avx512f], .e2, false, false⟩]

/-- SUBSD (R972) -/
def subsd : List Row :=
  [⟨.legacy, .m0F, .pF2, .wig, .any, 0x5C, .vec, .none, .vec, .any, false, false, false, .none, 0, .none, .fixed 1, [.sse2], .sse 3, false, false⟩]

/-- VSUBSD (R972) -/
def vsubsd : List Row :=
  [⟨.vex, .m0F, .pF2, .wig, .any, 0x5C, .vec, .vec, .vec, .any, false, false, false, .none, 0, .none, .fixed 1, [.avx], .vex 3, false, false⟩,
   ⟨.evex, .m0F, .pF2, .w1, .any, 0x5C, .vec, .vec, .vec, .any, false, false, false, .zero, 0, .er, .fixed 8, [.avx512f], .e3, false, false⟩]

/-- SUBSS (R973) -/
def subss : List Row :=
  [⟨.legacy, .m0F, .pF3, .wig, .any, 0x5C, .vec, .none, .vec, .any, false, false, false, .none, 0, .none, .fixed 1, [.sse], .sse 3, false, false⟩]

/-- VSUBSS (R973) -/
def vsubss : List Row :=
  [⟨.vex, .m0F, .pF3, .wig, .any, 0x5C, .vec, .vec, .vec, .any, false, false, false, .none, 0, .none, .fixed 1, [.avx], .vex 3, false, false⟩,
   ⟨.evex, .m0F, .pF3, .w0, .any, 0x5C, .vec, .vec, .vec, .any, false, false, false, .zero, 0, .er, .fixed 4, [.avx512f], .e3, false, false⟩]

/-- UCOMISD (R974) -/
def ucomisd : List Row :=
  [⟨.legacy, .m0F, .p66, .wig, .any, 0x2E, .vec, .none, .vec, .any, false, false, false, .none, 0, .none, .fixed 1, [.sse2], .sse 3, false, false⟩]

/-- VUCOMISD (R974) -/
def vucomisd : List Row :=
  [⟨.vex, .m0F, .p66, .wig, .any, 0x2E, .vec, .none, .vec, .any, false, false, false, .none, 0, .none, .fixed 1, [.avx], .vex 3, false, false⟩,
   ⟨.evex, .m0F, .p66, .w1, .any, 0x2E, .vec, .none, .vec, .any, false, false, false, .none, 0, .sae, .fixed 8, [.avx512f], .e3nf, false, false⟩]

/-- UCOMISS (R975) -/
def ucomiss : List Row :=
  [⟨.legacy, .m0F, .np, .wig, .any, 0x2E, .vec, .none, .vec, .any, false, false, false, .none, 0, .none, .fixed 1, [.sse], .sse 3, false, false⟩]

/-- VUCOMISS (R975) -/
def vucomiss : List Row :=
  [⟨.vex, .m0F, .np, .wig, .any, 0x2E, .vec, .none, .vec, .any, false, false, false, .none, 0, .none, .fixed 1, [.avx], .vex 3, false, false⟩,
   ⟨.evex, .m0F, .np, .w0, .any, 0x2E, .vec, .none, .vec, .any, false, false, false, .none, 0, .sae, .fixed 4, [.avx512f], .e3nf, false, false⟩]

/-- UNPCKHPD (R976) -/
def unpckhpd : List Row :=
  [⟨.legacy, .m0F, .p66, .wig, .any, 0x15, .vec, .none, .vec, .any, false, false, false, .none, 0, .none, .fixed 1, [.sse2], .sse 4, true, false⟩]

/-- VUNPCKHPD (R976) -/
def vunpckhpd : List Row :=
  [⟨.vex, .m0F, .p66, .wig, .l128, 0x15, .vec, .vec, .vec, .any, false, false, false, .none, 0, .none, .fixed 1, [.avx], .vex 4, false, false⟩,
   ⟨.vex, .m0F, .p66, .wig, .l256, 0x15, .vec, .vec, .vec, .any, false, false, false, .none, 0, .none, .fixed 1, [.avx], .vex 4, false, false⟩,
   ⟨.evex, .m0F, .p66, .w1, .l128, 0x15, .vec, .vec, .vec, .any, false, false, false, .zero, 8, .none, .fv 8, [.avx512vl, .avx512f], .e4nf, false, false⟩,
   ⟨.evex, .m0F, .p66, .w1, .l256, 0x15, .vec, .vec, .vec, .any, false, false, false, .zero, 8, .none, .fv 8, [.avx512vl, .avx512f], .e4nf, false, false⟩,
   ⟨.evex, .m0F, .p66, .w1, .l512, 0x15, .vec, .vec, .vec, .any, false, false, false, .zero, 8, .none, .fv 8, [.avx512f], .e4nf, false, false⟩]

/-- UNPCKHPS (R977) -/
def unpckhps : List Row :=
  [⟨.legacy, .m0F, .np, .wig, .any, 0x15, .vec, .none, .vec, .any, false, false, false, .none, 0, .none, .fixed 1, [.sse], .sse 4, true, false⟩]

/-- VUNPCKHPS (R977) -/
def vunpckhps : List Row :=
  [⟨.vex, .m0F, .np, .wig, .l128, 0x15, .vec, .vec, .vec, .any, false, false, false, .none, 0, .none, .fixed 1, [.avx], .vex 4, false, false⟩,
   ⟨.vex, .m0F, .np, .wig, .l256, 0x15, .vec, .vec, .vec, .any, false, false, false, .none, 0, .none, .fixed 1, [.avx], .vex 4, false, false⟩,
   ⟨.evex, .m0F, .np, .w0, .l128, 0x15, .vec, .vec, .vec, .any, false, false, false, .zero, 4, .none, .fv 4, [.avx512vl, .avx512f], .e4nf, false, false⟩,
   ⟨.evex, .m0F, .np, .w0, .l256, 0x15, .vec, .vec, .vec, .any, false, false, false, .zero, 4, .none, .fv 4, [.avx512vl, .avx512f], .e4nf, false, false⟩,
   ⟨.evex, .m0F, .np, .w0, .l512, 0x15, .vec, .vec, .vec, .any, false, false, false, .zero, 4, .none, .fv 4, [.avx512f], .e4nf, false, false⟩]

/-- UNPCKLPD (R978) -/
def unpcklpd : List Row :=
  [⟨.legacy, .m0F, .p66, .wig, .any, 0x14, .vec, .none, .vec, .any, false, false, false, .none, 0, .none, .fixed 1, [.sse2], .sse 4, true, false⟩]

/-- VUNPCKLPD (R978) -/
def vunpcklpd : List Row :=
  [⟨.vex, .m0F, .p66, .wig, .l128, 0x14, .vec, .vec, .vec, .any, false, false, false, .none, 0, .none, .fixed 1, [.avx], .vex 4, false, false⟩,
   ⟨.vex, .m0F, .p66, .wig, .l256, 0x14, .vec, .vec, .vec, .any, false, false, false, .none, 0, .none, .fixed 1, [.avx], .vex 4, false, false⟩,
   ⟨.evex, .m0F, .p66, .w1, .l128, 0x14, .vec, .vec, .vec, .any, false, false, false, .zero, 8, .none, .fv 8, [.avx512vl, .avx512f], .e4nf, false, false⟩,
   ⟨.evex, .m0F, .p66, .w1, .l256, 0x14, .vec, .vec, .vec, .any, false, false, false, .zero, 8, .none, .fv 8, [.avx512vl, .avx512f], .e4nf, false, false⟩,
   ⟨.evex, .m0F, .p66, .w1, .l512, 0x14, .vec, .vec, .vec, .any, false, false, false, .zero, 8, .none, .fv 8, [.avx512f], .e4nf, false, false⟩]

/-- UNPCKLPS (R979) -/
def unpcklps : List Row :=
  [⟨.legacy, .m0F, .np, .wig, .any, 0x14, .vec, .none, .vec, .any, false, false, false, .none, 0, .none, .fixed 1, [.sse], .sse 4, true, false⟩]

/-- VUNPCKLPS (R979) -/
def vunpcklps : List Row :=
  [⟨.vex, .m0F, .np, .wig, .l128, 0x14, .vec, .vec, .vec, .any, false, false, false, .none, 0, .none, .fixed 1, [.avx], .vex 4, false, false⟩,
   ⟨.vex, .m0F, .np, .wig, .l256, 0x14, .vec, .vec, .vec, .any, false, false, false, .none, 0, .none, .fixed 1, [.avx], .vex 4, false, false⟩,
   ⟨.evex, .m0F, .np, .w0, .l128, 0x14, .vec, .vec, .vec, .any, false, false, false, .zero, 4, .none, .fv 4, [.avx512vl, .avx512f], .e4nf, false, false⟩,
   ⟨.evex, .m0F, .np, .w0, .l256, 0x14, .vec, .vec, .vec, .any, false, false, false, .zero, 4, .none, .fv 4, [.avx512vl, .avx512f], .e4nf, false, false⟩,
   ⟨.evex, .m0F, .np, .w0, .l512, 0x14, .vec, .vec, .vec, .any, false, false, false, .zero, 4, .none, .fv 4, [.avx512f], .e4nf, false, false⟩]

/-- XORPD (R980) -/
def xorpd : List Row :=
  [⟨.legacy, .m0F, .p66, .wig, .any, 0x57, .vec, .none, .vec, .any, false, false, false, .none, 0, .none, .fixed 1, [.sse2], .sse 4, true, false⟩]

/-- VXORPD (R980) -/
def vxorpd : List Row :=
  [⟨.vex, .m0F, .p66, .wig, .l128, 0x57, .vec, .vec, .vec, .any, false, false, false, .none, 0, .none, .fixed 1, [.avx], .vex 4, false, false⟩,
   ⟨.vex, .m0F, .p66, .wig, .l256, 0x57, .vec, .vec, .vec, .any, false, false, false, .none, 0, .none, .fixed 1, [.avx], .vex 4, false, false⟩,
   ⟨.evex, .m0F, .p66, .w1, .l128, 0x57, .vec, .vec, .vec, .any, false, false, false, .zero, 8, .none, .fv 8, [.avx512vl, .avx512dq], .e4, false, false⟩,
   ⟨.evex, .m0F, .p66, .w1, .l256, 0x57, .vec, .vec, .vec, .any, false, false, false, .zero, 8, .none, .fv 8, [.avx512vl, .avx512dq], .e4, false, false⟩,
   ⟨.evex, .m0F, .p66, .w1, .l512, 0x57, .vec, .vec, .vec, .any, false, false, false, .zero, 8, .none, .fv 8, [.avx512dq], .e4, false, false⟩]

/-- XORPS (R981) -/
def xorps : List Row :=
  [⟨.legacy, .m0F, .np, .wig, .any, 0x57, .vec, .none, .vec, .any, false, false, false, .none, 0, .none, .fixed 1, [.sse], .sse 4, true, false⟩]

/-- VXORPS (R981) -/
def vxorps : List Row :=
  [⟨.vex, .m0F, .np, .wig, .l128, 0x57, .vec, .vec, .vec, .any, false, false, false, .none, 0, .none, .fixed 1, [.avx], .vex 4, false, false⟩,
   ⟨.vex, .m0F, .np, .wig, .l256, 0x57, .vec, .vec, .vec, .any, false, false, false, .none, 0, .none, .fixed 1, [.avx], .vex 4, false, false⟩,
   ⟨.evex, .m0F, .np, .w0, .l128, 0x57, .vec, .vec, .vec, .any, false, false, false, .zero, 4, .none, .fv 4, [.avx512vl, .avx512dq], .e4, false, false⟩,
   ⟨.evex, .m0F, .np, .w0, .l256, 0x57, .vec, .vec, .vec, .any, false, false, false, .zero, 4, .none, .fv 4, [.avx512vl, .avx512dq], .e4, false, false⟩,
   ⟨.evex, .m0F, .np, .w0, .l512, 0x57, .vec, .vec, .vec, .any, false, false, false, .zero, 4, .none, .fv 4, [.avx512dq], .e4, false, false⟩]

end Sys2Proof.Machine.Rows
end

