-- ==== Sys2Proof/Machine/Exec57.lean ====
section
/-! DEFINITION. The meanings of the instructions of spec/57_subpd_to_xorps.md (SUB to XOR), one definition each: the checks
of `State.run` on the rows of the instruction, then its operation on the row its fields select. -/

namespace Sys2Proof.Machine

/-- SUBPD (R970). -/
def execSubpd (o : Operands) (s : State) : Host.Outcome State Fault Refusal :=
  s.run Rows.subpd o fun r => s.fp2 r o f64.sub

/-- VSUBPD (R970). -/
def execVsubpd (o : Operands) (s : State) : Host.Outcome State Fault Refusal :=
  s.run Rows.vsubpd o fun r => s.fp2 r o f64.sub

/-- SUBPS (R971). -/
def execSubps (o : Operands) (s : State) : Host.Outcome State Fault Refusal :=
  s.run Rows.subps o fun r => s.fp2 r o f32.sub

/-- VSUBPS (R971). -/
def execVsubps (o : Operands) (s : State) : Host.Outcome State Fault Refusal :=
  s.run Rows.vsubps o fun r => s.fp2 r o f32.sub

/-- SUBSD (R972). -/
def execSubsd (o : Operands) (s : State) : Host.Outcome State Fault Refusal :=
  s.run Rows.subsd o fun r => s.fp2s r o f64.sub

/-- VSUBSD (R972). -/
def execVsubsd (o : Operands) (s : State) : Host.Outcome State Fault Refusal :=
  s.run Rows.vsubsd o fun r => s.fp2s r o f64.sub

/-- SUBSS (R973). -/
def execSubss (o : Operands) (s : State) : Host.Outcome State Fault Refusal :=
  s.run Rows.subss o fun r => s.fp2s r o f32.sub

/-- VSUBSS (R973). -/
def execVsubss (o : Operands) (s : State) : Host.Outcome State Fault Refusal :=
  s.run Rows.vsubss o fun r => s.fp2s r o f32.sub

/-- UCOMISD (R974). -/
def execUcomisd (o : Operands) (s : State) : Host.Outcome State Fault Refusal :=
  s.run Rows.ucomisd o fun r => s.fpCompareFlags r o f64 true

/-- VUCOMISD (R974). -/
def execVucomisd (o : Operands) (s : State) : Host.Outcome State Fault Refusal :=
  s.run Rows.vucomisd o fun r => s.fpCompareFlags r o f64 true

/-- UCOMISS (R975). -/
def execUcomiss (o : Operands) (s : State) : Host.Outcome State Fault Refusal :=
  s.run Rows.ucomiss o fun r => s.fpCompareFlags r o f32 true

/-- VUCOMISS (R975). -/
def execVucomiss (o : Operands) (s : State) : Host.Outcome State Fault Refusal :=
  s.run Rows.vucomiss o fun r => s.fpCompareFlags r o f32 true

/-- UNPCKHPD (R976). -/
def execUnpckhpd (o : Operands) (s : State) : Host.Outcome State Fault Refusal :=
  s.run Rows.unpckhpd o fun r => s.vec2 r o 64 (unpack 64 true)

/-- VUNPCKHPD (R976). -/
def execVunpckhpd (o : Operands) (s : State) : Host.Outcome State Fault Refusal :=
  s.run Rows.vunpckhpd o fun r => s.vec2 r o 64 (unpack 64 true)

/-- UNPCKHPS (R977). -/
def execUnpckhps (o : Operands) (s : State) : Host.Outcome State Fault Refusal :=
  s.run Rows.unpckhps o fun r => s.vec2 r o 32 (unpack 32 true)

/-- VUNPCKHPS (R977). -/
def execVunpckhps (o : Operands) (s : State) : Host.Outcome State Fault Refusal :=
  s.run Rows.vunpckhps o fun r => s.vec2 r o 32 (unpack 32 true)

/-- UNPCKLPD (R978). -/
def execUnpcklpd (o : Operands) (s : State) : Host.Outcome State Fault Refusal :=
  s.run Rows.unpcklpd o fun r => s.vec2 r o 64 (unpack 64 false)

/-- VUNPCKLPD (R978). -/
def execVunpcklpd (o : Operands) (s : State) : Host.Outcome State Fault Refusal :=
  s.run Rows.vunpcklpd o fun r => s.vec2 r o 64 (unpack 64 false)

/-- UNPCKLPS (R979). -/
def execUnpcklps (o : Operands) (s : State) : Host.Outcome State Fault Refusal :=
  s.run Rows.unpcklps o fun r => s.vec2 r o 32 (unpack 32 false)

/-- VUNPCKLPS (R979). -/
def execVunpcklps (o : Operands) (s : State) : Host.Outcome State Fault Refusal :=
  s.run Rows.vunpcklps o fun r => s.vec2 r o 32 (unpack 32 false)

/-- XORPD (R980). -/
def execXorpd (o : Operands) (s : State) : Host.Outcome State Fault Refusal :=
  s.run Rows.xorpd o fun r => s.map2 r o 64 fun a b => a ^^^ b

/-- VXORPD (R980). -/
def execVxorpd (o : Operands) (s : State) : Host.Outcome State Fault Refusal :=
  s.run Rows.vxorpd o fun r => s.map2 r o 64 fun a b => a ^^^ b

/-- XORPS (R981). -/
def execXorps (o : Operands) (s : State) : Host.Outcome State Fault Refusal :=
  s.run Rows.xorps o fun r => s.map2 r o 32 fun a b => a ^^^ b

/-- VXORPS (R981). -/
def execVxorps (o : Operands) (s : State) : Host.Outcome State Fault Refusal :=
  s.run Rows.vxorps o fun r => s.map2 r o 32 fun a b => a ^^^ b

end Sys2Proof.Machine
end

