-- ==== Sys2Proof/Machine/Mask.lean ====
section
/-! DEFINITION. The opmask instructions' shared operations (spec/58_opmask.md R1300 to R1308): `w` is 8, 16, 32 or 64. -/

namespace Sys2Proof.Machine

/-- The low `w` bits of an opmask register (R1300). -/
def State.maskSrc (s : State) (w : Nat) (n : Fin 32) : BitVec w := (s.getK n).setWidth w

/-- Write a result zero-extended to 64 bits (R1300). -/
def State.maskDest {w : Nat} (s : State) (n : Fin 32) (x : BitVec w) : State := s.setK n (x.setWidth 64)

/-- DEST := f SRC1 SRC2 (R1301, RVR). -/
def State.mask2 (s : State) (o : Operands) (w : Nat) (f : BitVec w → BitVec w → BitVec w) : Except Abort State :=
  match o.rm with
  | .reg x => .ok (s.maskDest o.reg (f (s.maskSrc w o.vvvv) (s.maskSrc w x)))
  | .mem _ => .error { exc := .ud }

/-- DEST := f SRC (R1301, RR and RRI). -/
def State.mask1 (s : State) (o : Operands) (w : Nat) (f : BitVec w → BitVec w) : Except Abort State :=
  match o.rm with
  | .reg x => .ok (s.maskDest o.reg (f (s.maskSrc w x)))
  | .mem _ => .error { exc := .ud }

/-- KUNPCK (R1343 to R1345): the low half from the r/m operand, the high half from vvvv. -/
def State.maskUnpack (s : State) (o : Operands) (h : Nat) : Except Abort State :=
  match o.rm with
  | .reg x => .ok (s.setK o.reg (((s.maskSrc h o.vvvv).setWidth 64 <<< h) ||| (s.maskSrc h x).setWidth 64))
  | .mem _ => .error { exc := .ud }

/-- KORTEST (R1346 to R1349). -/
def State.maskOrTest (s : State) (o : Operands) (w : Nat) : Except Abort State :=
  match o.rm with
  | .reg x =>
    let t := s.maskSrc w o.reg ||| s.maskSrc w x
    .ok (s.setCompareFlags (t == 0) false (t == BitVec.allOnes w))
  | .mem _ => .error { exc := .ud }

/-- KTEST (R1350 to R1353). -/
def State.maskTest (s : State) (o : Operands) (w : Nat) : Except Abort State :=
  match o.rm with
  | .reg x =>
    let a := s.maskSrc w o.reg
    let b := s.maskSrc w x
    .ok (s.setCompareFlags (b &&& a == 0) false (b &&& ~~~a == 0))
  | .mem _ => .error { exc := .ud }

/-- KMOV (R1338): between opmask registers, memory and a general register, as the row's operand kinds say. -/
def State.maskMove (s : State) (r : Row) (o : Operands) (w : Nat) : Except Abort State :=
  if r.memDst then
    match o.rm with
    | .reg _ => .error { exc := .ud }
    | .mem m => s.writeMem false m.seg (s.ea m) (List.range (w / 8)) 1 (r.acArg (w / 8)) ((s.maskSrc w o.reg).setWidth 512)
  else if r.reg == .gpr then
    match o.rm with
    | .reg x => .ok (s.putGpr o.reg (s.maskSrc w x))
    | .mem _ => .error { exc := .ud }
  else if r.rm == .gpr then loading (s.srcGpr r o (w / 8)) fun v => s.maskDest o.reg (v.setWidth w)
  else
    match o.rm with
    | .reg x => .ok (s.maskDest o.reg (s.maskSrc w x))
    | .mem m => loading (s.readOperand r m (List.range (w / 8)) (w / 8)) fun v => s.maskDest o.reg (v.setWidth w)

/-- KSHIFTL and KSHIFTR (R1354 to R1361): zero for a count of `w` or more. -/
def shiftMask {w : Nat} (left : Bool) (imm : BitVec 8) (x : BitVec w) : BitVec w :=
  if imm.toNat ≥ w then 0 else if left then x <<< imm.toNat else x >>> imm.toNat

end Sys2Proof.Machine
end

