-- ==== Sys2Proof/Machine/Rows58.lean ====
section
/-! DEFINITION. The rows of spec/opcode_table.json for the instructions of spec/58_opmask.md (opmask instructions), in the order of the table:
space, map, pp, W, L, opcode, roles of ModRM.reg, vvvv and r/m, mod, VSIB, imm8, r/m is the destination, masking, broadcast
bytes, rounding, tuple, CPUID flags, exception class, alignment, 64-bit mode only. -/

namespace Sys2Proof.Machine.Rows

/-- KADDW (R1310) -/
def kaddw : List Row :=
  [⟨.vex, .m0F, .np, .w0, .l256, 0x4A, .kreg, .kreg, .kreg, .reg, false, false, false, .none, 0, .none, .fixed 1, [.avx512dq], .k20, false, false⟩]

/-- KADDB (R1311) -/
def kaddb : List Row :=
  [⟨.vex, .m0F, .p66, .w0, .l256, 0x4A, .kreg, .kreg, .kreg, .reg, false, false, false, .none, 0, .none, .fixed 1, [.avx512dq], .k20, false, false⟩]

/-- KADDQ (R1312) -/
def kaddq : List Row :=
  [⟨.vex, .m0F, .np, .w1, .l256, 0x4A, .kreg, .kreg, .kreg, .reg, false, false, false, .none, 0, .none, .fixed 1, [.avx512bw], .k20, false, false⟩]

/-- KADDD (R1313) -/
def kaddd : List Row :=
  [⟨.vex, .m0F, .p66, .w1, .l256, 0x4A, .kreg, .kreg, .kreg, .reg, false, false, false, .none, 0, .none, .fixed 1, [.avx512bw], .k20, false, false⟩]

/-- KANDW (R1314) -/
def kandw : List Row :=
  [⟨.vex, .m0F, .np, .w0, .l256, 0x41, .kreg, .kreg, .kreg, .reg, false, false, false, .none, 0, .none, .fixed 1, [.avx512f], .k20, false, false⟩]

/-- KANDB (R1315) -/
def kandb : List Row :=
  [⟨.vex, .m0F, .p66, .w0, .l256, 0x41, .kreg, .kreg, .kreg, .reg, false, false, false, .none, 0, .none, .fixed 1, [.avx512dq], .k20, false, false⟩]

/-- KANDQ (R1316) -/
def kandq : List Row :=
  [⟨.vex, .m0F, .np, .w1, .l256, 0x41, .kreg, .kreg, .kreg, .reg, false, false, false, .none, 0, .none, .fixed 1, [.avx512bw], .k20, false, false⟩]

/-- KANDD (R1317) -/
def kandd : List Row :=
  [⟨.vex, .m0F, .p66, .w1, .l256, 0x41, .kreg, .kreg, .kreg, .reg, false, false, false, .none, 0, .none, .fixed 1, [.avx512bw], .k20, false, false⟩]

/-- KANDNW (R1318) -/
def kandnw : List Row :=
  [⟨.vex, .m0F, .np, .w0, .l256, 0x42, .kreg, .kreg, .kreg, .reg, false, false, false, .none, 0, .none, .fixed 1, [.avx512f], .k20, false, false⟩]

/-- KANDNB (R1319) -/
def kandnb : List Row :=
  [⟨.vex, .m0F, .p66, .w0, .l256, 0x42, .kreg, .kreg, .kreg, .reg, false, false, false, .none, 0, .none, .fixed 1, [.avx512dq], .k20, false, false⟩]

/-- KANDNQ (R1320) -/
def kandnq : List Row :=
  [⟨.vex, .m0F, .np, .w1, .l256, 0x42, .kreg, .kreg, .kreg, .reg, false, false, false, .none, 0, .none, .fixed 1, [.avx512bw], .k20, false, false⟩]

/-- KANDND (R1321) -/
def kandnd : List Row :=
  [⟨.vex, .m0F, .p66, .w1, .l256, 0x42, .kreg, .kreg, .kreg, .reg, false, false, false, .none, 0, .none, .fixed 1, [.avx512bw], .k20, false, false⟩]

/-- KORW (R1322) -/
def korw : List Row :=
  [⟨.vex, .m0F, .np, .w0, .l256, 0x45, .kreg, .kreg, .kreg, .reg, false, false, false, .none, 0, .none, .fixed 1, [.avx512f], .k20, false, false⟩]

/-- KORB (R1323) -/
def korb : List Row :=
  [⟨.vex, .m0F, .p66, .w0, .l256, 0x45, .kreg, .kreg, .kreg, .reg, false, false, false, .none, 0, .none, .fixed 1, [.avx512dq], .k20, false, false⟩]

/-- KORQ (R1324) -/
def korq : List Row :=
  [⟨.vex, .m0F, .np, .w1, .l256, 0x45, .kreg, .kreg, .kreg, .reg, false, false, false, .none, 0, .none, .fixed 1, [.avx512bw], .k20, false, false⟩]

/-- KORD (R1325) -/
def kord : List Row :=
  [⟨.vex, .m0F, .p66, .w1, .l256, 0x45, .kreg, .kreg, .kreg, .reg, false, false, false, .none, 0, .none, .fixed 1, [.avx512bw], .k20, false, false⟩]

/-- KXNORW (R1326) -/
def kxnorw : List Row :=
  [⟨.vex, .m0F, .np, .w0, .l256, 0x46, .kreg, .kreg, .kreg, .reg, false, false, false, .none, 0, .none, .fixed 1, [.avx512f], .k20, false, false⟩]

/-- KXNORB (R1327) -/
def kxnorb : List Row :=
  [⟨.vex, .m0F, .p66, .w0, .l256, 0x46, .kreg, .kreg, .kreg, .reg, false, false, false, .none, 0, .none, .fixed 1, [.avx512dq], .k20, false, false⟩]

/-- KXNORQ (R1328) -/
def kxnorq : List Row :=
  [⟨.vex, .m0F, .np, .w1, .l256, 0x46, .kreg, .kreg, .kreg, .reg, false, false, false, .none, 0, .none, .fixed 1, [.avx512bw], .k20, false, false⟩]

/-- KXNORD (R1329) -/
def kxnord : List Row :=
  [⟨.vex, .m0F, .p66, .w1, .l256, 0x46, .kreg, .kreg, .kreg, .reg, false, false, false, .none, 0, .none, .fixed 1, [.avx512bw], .k20, false, false⟩]

/-- KXORW (R1330) -/
def kxorw : List Row :=
  [⟨.vex, .m0F, .np, .w0, .l256, 0x47, .kreg, .kreg, .kreg, .reg, false, false, false, .none, 0, .none, .fixed 1, [.avx512f], .k20, false, false⟩]

/-- KXORB (R1331) -/
def kxorb : List Row :=
  [⟨.vex, .m0F, .p66, .w0, .l256, 0x47, .kreg, .kreg, .kreg, .reg, false, false, false, .none, 0, .none, .fixed 1, [.avx512dq], .k20, false, false⟩]

/-- KXORQ (R1332) -/
def kxorq : List Row :=
  [⟨.vex, .m0F, .np, .w1, .l256, 0x47, .kreg, .kreg, .kreg, .reg, false, false, false, .none, 0, .none, .fixed 1, [.avx512bw], .k20, false, false⟩]

/-- KXORD (R1333) -/
def kxord : List Row :=
  [⟨.vex, .m0F, .p66, .w1, .l256, 0x47, .kreg, .kreg, .kreg, .reg, false, false, false, .none, 0, .none, .fixed 1, [.avx512bw], .k20, false, false⟩]

/-- KNOTW (R1334) -/
def knotw : List Row :=
  [⟨.vex, .m0F, .np, .w0, .l128, 0x44, .kreg, .none, .kreg, .reg, false, false, false, .none, 0, .none, .fixed 1, [.avx512f], .k20, false, false⟩]

/-- KNOTB (R1335) -/
def knotb : List Row :=
  [⟨.vex, .m0F, .p66, .w0, .l128, 0x44, .kreg, .none, .kreg, .reg, false, false, false, .none, 0, .none, .fixed 1, [.avx512dq], .k20, false, false⟩]

/-- KNOTQ (R1336) -/
def knotq : List Row :=
  [⟨.vex, .m0F, .np, .w1, .l128, 0x44, .kreg, .none, .kreg, .reg, false, false, false, .none, 0, .none, .fixed 1, [.avx512bw], .k20, false, false⟩]

/-- KNOTD (R1337) -/
def knotd : List Row :=
  [⟨.vex, .m0F, .p66, .w1, .l128, 0x44, .kreg, .none, .kreg, .reg, false, false, false, .none, 0, .none, .fixed 1, [.avx512bw], .k20, false, false⟩]

/-- KMOVW (R1339) -/
def kmovw : List Row :=
  [⟨.vex, .m0F, .np, .w0, .l128, 0x90, .kreg, .none, .kreg, .any, false, false, false, .none, 0, .none, .fixed 1, [.avx512f], .k21, false, false⟩,
   ⟨.vex, .m0F, .np, .w0, .l128, 0x91, .kreg, .none, .vec, .mem, false, false, true, .none, 0, .none, .fixed 1, [.avx512f], .k21, false, false⟩,
   ⟨.vex, .m0F, .np, .w0, .l128, 0x92, .kreg, .none, .gpr, .reg, false, false, false, .none, 0, .none, .fixed 1, [.avx512f], .k20, false, false⟩,
   ⟨.vex, .m0F, .np, .w0, .l128, 0x93, .gpr, .none, .kreg, .reg, false, false, false, .none, 0, .none, .fixed 1, [.avx512f], .k20, false, false⟩]

/-- KMOVB (R1340) -/
def kmovb : List Row :=
  [⟨.vex, .m0F, .p66, .w0, .l128, 0x90, .kreg, .none, .kreg, .any, false, false, false, .none, 0, .none, .fixed 1, [.avx512dq], .k21, false, false⟩,
   ⟨.vex, .m0F, .p66, .w0, .l128, 0x91, .kreg, .none, .vec, .mem, false, false, true, .none, 0, .none, .fixed 1, [.avx512dq], .k21, false, false⟩,
   ⟨.vex, .m0F, .p66, .w0, .l128, 0x92, .kreg, .none, .gpr, .reg, false, false, false, .none, 0, .none, .fixed 1, [.avx512dq], .k20, false, false⟩,
   ⟨.vex, .m0F, .p66, .w0, .l128, 0x93, .gpr, .none, .kreg, .reg, false, false, false, .none, 0, .none, .fixed 1, [.avx512dq], .k20, false, false⟩]

/-- KMOVQ (R1341) -/
def kmovq : List Row :=
  [⟨.vex, .m0F, .np, .w1, .l128, 0x90, .kreg, .none, .kreg, .any, false, false, false, .none, 0, .none, .fixed 1, [.avx512bw], .k21, false, false⟩,
   ⟨.vex, .m0F, .np, .w1, .l128, 0x91, .kreg, .none, .vec, .mem, false, false, true, .none, 0, .none, .fixed 1, [.avx512bw], .k21, false, false⟩,
   ⟨.vex, .m0F, .pF2, .w1, .l128, 0x92, .kreg, .none, .gpr, .reg, false, false, false, .none, 0, .none, .fixed 1, [.avx512bw], .k20, false, true⟩,
   ⟨.vex, .m0F, .pF2, .w1, .l128, 0x93, .gpr, .none, .kreg, .reg, false, false, false, .none, 0, .none, .fixed 1, [.avx512bw], .k20, false, true⟩]

/-- KMOVD (R1342) -/
def kmovd : List Row :=
  [⟨.vex, .m0F, .p66, .w1, .l128, 0x90, .kreg, .none, .kreg, .any, false, false, false, .none, 0, .none, .fixed 1, [.avx512bw], .k21, false, false⟩,
   ⟨.vex, .m0F, .p66, .w1, .l128, 0x91, .kreg, .none, .vec, .mem, false, false, true, .none, 0, .none, .fixed 1, [.avx512bw], .k21, false, false⟩,
   ⟨.vex, .m0F, .pF2, .w0, .l128, 0x92, .kreg, .none, .gpr, .reg, false, false, false, .none, 0, .none, .fixed 1, [.avx512bw], .k20, false, false⟩,
   ⟨.vex, .m0F, .pF2, .w0, .l128, 0x93, .gpr, .none, .kreg, .reg, false, false, false, .none, 0, .none, .fixed 1, [.avx512bw], .k20, false, false⟩]

/-- KUNPCKBW (R1343) -/
def kunpckbw : List Row :=
  [⟨.vex, .m0F, .p66, .w0, .l256, 0x4B, .kreg, .kreg, .kreg, .reg, false, false, false, .none, 0, .none, .fixed 1, [.avx512f], .k20, false, false⟩]

/-- KUNPCKWD (R1344) -/
def kunpckwd : List Row :=
  [⟨.vex, .m0F, .np, .w0, .l256, 0x4B, .kreg, .kreg, .kreg, .reg, false, false, false, .none, 0, .none, .fixed 1, [.avx512bw], .k20, false, false⟩]

/-- KUNPCKDQ (R1345) -/
def kunpckdq : List Row :=
  [⟨.vex, .m0F, .np, .w1, .l256, 0x4B, .kreg, .kreg, .kreg, .reg, false, false, false, .none, 0, .none, .fixed 1, [.avx512bw], .k20, false, false⟩]

/-- KORTESTW (R1346) -/
def kortestw : List Row :=
  [⟨.vex, .m0F, .np, .w0, .l128, 0x98, .kreg, .none, .kreg, .reg, false, false, false, .none, 0, .none, .fixed 1, [.avx512f], .k20, false, false⟩]

/-- KORTESTB (R1347) -/
def kortestb : List Row :=
  [⟨.vex, .m0F, .p66, .w0, .l128, 0x98, .kreg, .none, .kreg, .reg, false, false, false, .none, 0, .none, .fixed 1, [.avx512dq], .k20, false, false⟩]

/-- KORTESTQ (R1348) -/
def kortestq : List Row :=
  [⟨.vex, .m0F, .np, .w1, .l128, 0x98, .kreg, .none, .kreg, .reg, false, false, false, .none, 0, .none, .fixed 1, [.avx512bw], .k20, false, false⟩]

/-- KORTESTD (R1349) -/
def kortestd : List Row :=
  [⟨.vex, .m0F, .p66, .w1, .l128, 0x98, .kreg, .none, .kreg, .reg, false, false, false, .none, 0, .none, .fixed 1, [.avx512bw], .k20, false, false⟩]

/-- KTESTW (R1350) -/
def ktestw : List Row :=
  [⟨.vex, .m0F, .np, .w0, .l128, 0x99, .kreg, .none, .kreg, .reg, false, false, false, .none, 0, .none, .fixed 1, [.avx512dq], .k20, false, false⟩]

/-- KTESTB (R1351) -/
def ktestb : List Row :=
  [⟨.vex, .m0F, .p66, .w0, .l128, 0x99, .kreg, .none, .kreg, .reg, false, false, false, .none, 0, .none, .fixed 1, [.avx512dq], .k20, false, false⟩]

/-- KTESTQ (R1352) -/
def ktestq : List Row :=
  [⟨.vex, .m0F, .np, .w1, .l128, 0x99, .kreg, .none, .kreg, .reg, false, false, false, .none, 0, .none, .fixed 1, [.avx512bw], .k20, false, false⟩]

/-- KTESTD (R1353) -/
def ktestd : List Row :=
  [⟨.vex, .m0F, .p66, .w1, .l128, 0x99, .kreg, .none, .kreg, .reg, false, false, false, .none, 0, .none, .fixed 1, [.avx512bw], .k20, false, false⟩]

/-- KSHIFTLW (R1354) -/
def kshiftlw : List Row :=
  [⟨.vex, .m0F3A, .p66, .w1, .l128, 0x32, .kreg, .none, .kreg, .reg, false, true, false, .none, 0, .none, .fixed 1, [.avx512f], .k20, false, false⟩]

/-- KSHIFTLB (R1355) -/
def kshiftlb : List Row :=
  [⟨.vex, .m0F3A, .p66, .w0, .l128, 0x32, .kreg, .none, .kreg, .reg, false, true, false, .none, 0, .none, .fixed 1, [.avx512dq], .k20, false, false⟩]

/-- KSHIFTLQ (R1356) -/
def kshiftlq : List Row :=
  [⟨.vex, .m0F3A, .p66, .w1, .l128, 0x33, .kreg, .none, .kreg, .reg, false, true, false, .none, 0, .none, .fixed 1, [.avx512bw], .k20, false, false⟩]

/-- KSHIFTLD (R1357) -/
def kshiftld : List Row :=
  [⟨.vex, .m0F3A, .p66, .w0, .l128, 0x33, .kreg, .none, .kreg, .reg, false, true, false, .none, 0, .none, .fixed 1, [.avx512bw], .k20, false, false⟩]

/-- KSHIFTRW (R1358) -/
def kshiftrw : List Row :=
  [⟨.vex, .m0F3A, .p66, .w1, .l128, 0x30, .kreg, .none, .kreg, .reg, false, true, false, .none, 0, .none, .fixed 1, [.avx512f], .k20, false, false⟩]

/-- KSHIFTRB (R1359) -/
def kshiftrb : List Row :=
  [⟨.vex, .m0F3A, .p66, .w0, .l128, 0x30, .kreg, .none, .kreg, .reg, false, true, false, .none, 0, .none, .fixed 1, [.avx512dq], .k20, false, false⟩]

/-- KSHIFTRQ (R1360) -/
def kshiftrq : List Row :=
  [⟨.vex, .m0F3A, .p66, .w1, .l128, 0x31, .kreg, .none, .kreg, .reg, false, true, false, .none, 0, .none, .fixed 1, [.avx512bw], .k20, false, false⟩]

/-- KSHIFTRD (R1361) -/
def kshiftrd : List Row :=
  [⟨.vex, .m0F3A, .p66, .w0, .l128, 0x31, .kreg, .none, .kreg, .reg, false, true, false, .none, 0, .none, .fixed 1, [.avx512bw], .k20, false, false⟩]

end Sys2Proof.Machine.Rows
end

