-- ==== Sys2Proof/Machine/Exec58.lean ====
section
/-! DEFINITION. The meanings of the instructions of spec/58_opmask.md (opmask instructions), one definition each: the checks
of `State.run` on the rows of the instruction, then its operation on the row its fields select. -/

namespace Sys2Proof.Machine

/-- KADDW (R1310). -/
def execKaddw (o : Operands) (s : State) : Host.Outcome State Fault Refusal :=
  s.run Rows.kaddw o fun _ => s.mask2 o 16 fun a b => a + b

/-- KADDB (R1311). -/
def execKaddb (o : Operands) (s : State) : Host.Outcome State Fault Refusal :=
  s.run Rows.kaddb o fun _ => s.mask2 o 8 fun a b => a + b

/-- KADDQ (R1312). -/
def execKaddq (o : Operands) (s : State) : Host.Outcome State Fault Refusal :=
  s.run Rows.kaddq o fun _ => s.mask2 o 64 fun a b => a + b

/-- KADDD (R1313). -/
def execKaddd (o : Operands) (s : State) : Host.Outcome State Fault Refusal :=
  s.run Rows.kaddd o fun _ => s.mask2 o 32 fun a b => a + b

/-- KANDW (R1314). -/
def execKandw (o : Operands) (s : State) : Host.Outcome State Fault Refusal :=
  s.run Rows.kandw o fun _ => s.mask2 o 16 fun a b => a &&& b

/-- KANDB (R1315). -/
def execKandb (o : Operands) (s : State) : Host.Outcome State Fault Refusal :=
  s.run Rows.kandb o fun _ => s.mask2 o 8 fun a b => a &&& b

/-- KANDQ (R1316). -/
def execKandq (o : Operands) (s : State) : Host.Outcome State Fault Refusal :=
  s.run Rows.kandq o fun _ => s.mask2 o 64 fun a b => a &&& b

/-- KANDD (R1317). -/
def execKandd (o : Operands) (s : State) : Host.Outcome State Fault Refusal :=
  s.run Rows.kandd o fun _ => s.mask2 o 32 fun a b => a &&& b

/-- KANDNW (R1318). -/
def execKandnw (o : Operands) (s : State) : Host.Outcome State Fault Refusal :=
  s.run Rows.kandnw o fun _ => s.mask2 o 16 fun a b => ~~~a &&& b

/-- KANDNB (R1319). -/
def execKandnb (o : Operands) (s : State) : Host.Outcome State Fault Refusal :=
  s.run Rows.kandnb o fun _ => s.mask2 o 8 fun a b => ~~~a &&& b

/-- KANDNQ (R1320). -/
def execKandnq (o : Operands) (s : State) : Host.Outcome State Fault Refusal :=
  s.run Rows.kandnq o fun _ => s.mask2 o 64 fun a b => ~~~a &&& b

/-- KANDND (R1321). -/
def execKandnd (o : Operands) (s : State) : Host.Outcome State Fault Refusal :=
  s.run Rows.kandnd o fun _ => s.mask2 o 32 fun a b => ~~~a &&& b

/-- KORW (R1322). -/
def execKorw (o : Operands) (s : State) : Host.Outcome State Fault Refusal :=
  s.run Rows.korw o fun _ => s.mask2 o 16 fun a b => a ||| b

/-- KORB (R1323). -/
def execKorb (o : Operands) (s : State) : Host.Outcome State Fault Refusal :=
  s.run Rows.korb o fun _ => s.mask2 o 8 fun a b => a ||| b

/-- KORQ (R1324). -/
def execKorq (o : Operands) (s : State) : Host.Outcome State Fault Refusal :=
  s.run Rows.korq o fun _ => s.mask2 o 64 fun a b => a ||| b

/-- KORD (R1325). -/
def execKord (o : Operands) (s : State) : Host.Outcome State Fault Refusal :=
  s.run Rows.kord o fun _ => s.mask2 o 32 fun a b => a ||| b

/-- KXNORW (R1326). -/
def execKxnorw (o : Operands) (s : State) : Host.Outcome State Fault Refusal :=
  s.run Rows.kxnorw o fun _ => s.mask2 o 16 fun a b => ~~~(a ^^^ b)

/-- KXNORB (R1327). -/
def execKxnorb (o : Operands) (s : State) : Host.Outcome State Fault Refusal :=
  s.run Rows.kxnorb o fun _ => s.mask2 o 8 fun a b => ~~~(a ^^^ b)

/-- KXNORQ (R1328). -/
def execKxnorq (o : Operands) (s : State) : Host.Outcome State Fault Refusal :=
  s.run Rows.kxnorq o fun _ => s.mask2 o 64 fun a b => ~~~(a ^^^ b)

/-- KXNORD (R1329). -/
def execKxnord (o : Operands) (s : State) : Host.Outcome State Fault Refusal :=
  s.run Rows.kxnord o fun _ => s.mask2 o 32 fun a b => ~~~(a ^^^ b)

/-- KXORW (R1330). -/
def execKxorw (o : Operands) (s : State) : Host.Outcome State Fault Refusal :=
  s.run Rows.kxorw o fun _ => s.mask2 o 16 fun a b => a ^^^ b

/-- KXORB (R1331). -/
def execKxorb (o : Operands) (s : State) : Host.Outcome State Fault Refusal :=
  s.run Rows.kxorb o fun _ => s.mask2 o 8 fun a b => a ^^^ b

/-- KXORQ (R1332). -/
def execKxorq (o : Operands) (s : State) : Host.Outcome State Fault Refusal :=
  s.run Rows.kxorq o fun _ => s.mask2 o 64 fun a b => a ^^^ b

/-- KXORD (R1333). -/
def execKxord (o : Operands) (s : State) : Host.Outcome State Fault Refusal :=
  s.run Rows.kxord o fun _ => s.mask2 o 32 fun a b => a ^^^ b

/-- KNOTW (R1334). -/
def execKnotw (o : Operands) (s : State) : Host.Outcome State Fault Refusal :=
  s.run Rows.knotw o fun _ => s.mask1 o 16 fun a => ~~~a

/-- KNOTB (R1335). -/
def execKnotb (o : Operands) (s : State) : Host.Outcome State Fault Refusal :=
  s.run Rows.knotb o fun _ => s.mask1 o 8 fun a => ~~~a

/-- KNOTQ (R1336). -/
def execKnotq (o : Operands) (s : State) : Host.Outcome State Fault Refusal :=
  s.run Rows.knotq o fun _ => s.mask1 o 64 fun a => ~~~a

/-- KNOTD (R1337). -/
def execKnotd (o : Operands) (s : State) : Host.Outcome State Fault Refusal :=
  s.run Rows.knotd o fun _ => s.mask1 o 32 fun a => ~~~a

/-- KMOVW (R1339). -/
def execKmovw (o : Operands) (s : State) : Host.Outcome State Fault Refusal :=
  s.run Rows.kmovw o fun r => s.maskMove r o 16

/-- KMOVB (R1340). -/
def execKmovb (o : Operands) (s : State) : Host.Outcome State Fault Refusal :=
  s.run Rows.kmovb o fun r => s.maskMove r o 8

/-- KMOVQ (R1341). -/
def execKmovq (o : Operands) (s : State) : Host.Outcome State Fault Refusal :=
  s.run Rows.kmovq o fun r => s.maskMove r o 64

/-- KMOVD (R1342). -/
def execKmovd (o : Operands) (s : State) : Host.Outcome State Fault Refusal :=
  s.run Rows.kmovd o fun r => s.maskMove r o 32

/-- KUNPCKBW (R1343). -/
def execKunpckbw (o : Operands) (s : State) : Host.Outcome State Fault Refusal :=
  s.run Rows.kunpckbw o fun _ => s.maskUnpack o 8

/-- KUNPCKWD (R1344). -/
def execKunpckwd (o : Operands) (s : State) : Host.Outcome State Fault Refusal :=
  s.run Rows.kunpckwd o fun _ => s.maskUnpack o 16

/-- KUNPCKDQ (R1345). -/
def execKunpckdq (o : Operands) (s : State) : Host.Outcome State Fault Refusal :=
  s.run Rows.kunpckdq o fun _ => s.maskUnpack o 32

/-- KORTESTW (R1346). -/
def execKortestw (o : Operands) (s : State) : Host.Outcome State Fault Refusal :=
  s.run Rows.kortestw o fun _ => s.maskOrTest o 16

/-- KORTESTB (R1347). -/
def execKortestb (o : Operands) (s : State) : Host.Outcome State Fault Refusal :=
  s.run Rows.kortestb o fun _ => s.maskOrTest o 8

/-- KORTESTQ (R1348). -/
def execKortestq (o : Operands) (s : State) : Host.Outcome State Fault Refusal :=
  s.run Rows.kortestq o fun _ => s.maskOrTest o 64

/-- KORTESTD (R1349). -/
def execKortestd (o : Operands) (s : State) : Host.Outcome State Fault Refusal :=
  s.run Rows.kortestd o fun _ => s.maskOrTest o 32

/-- KTESTW (R1350). -/
def execKtestw (o : Operands) (s : State) : Host.Outcome State Fault Refusal :=
  s.run Rows.ktestw o fun _ => s.maskTest o 16

/-- KTESTB (R1351). -/
def execKtestb (o : Operands) (s : State) : Host.Outcome State Fault Refusal :=
  s.run Rows.ktestb o fun _ => s.maskTest o 8

/-- KTESTQ (R1352). -/
def execKtestq (o : Operands) (s : State) : Host.Outcome State Fault Refusal :=
  s.run Rows.ktestq o fun _ => s.maskTest o 64

/-- KTESTD (R1353). -/
def execKtestd (o : Operands) (s : State) : Host.Outcome State Fault Refusal :=
  s.run Rows.ktestd o fun _ => s.maskTest o 32

/-- KSHIFTLW (R1354). -/
def execKshiftlw (o : Operands) (s : State) : Host.Outcome State Fault Refusal :=
  s.run Rows.kshiftlw o fun _ => s.mask1 o 16 (shiftMask true o.imm)

/-- KSHIFTLB (R1355). -/
def execKshiftlb (o : Operands) (s : State) : Host.Outcome State Fault Refusal :=
  s.run Rows.kshiftlb o fun _ => s.mask1 o 8 (shiftMask true o.imm)

/-- KSHIFTLQ (R1356). -/
def execKshiftlq (o : Operands) (s : State) : Host.Outcome State Fault Refusal :=
  s.run Rows.kshiftlq o fun _ => s.mask1 o 64 (shiftMask true o.imm)

/-- KSHIFTLD (R1357). -/
def execKshiftld (o : Operands) (s : State) : Host.Outcome State Fault Refusal :=
  s.run Rows.kshiftld o fun _ => s.mask1 o 32 (shiftMask true o.imm)

/-- KSHIFTRW (R1358). -/
def execKshiftrw (o : Operands) (s : State) : Host.Outcome State Fault Refusal :=
  s.run Rows.kshiftrw o fun _ => s.mask1 o 16 (shiftMask false o.imm)

/-- KSHIFTRB (R1359). -/
def execKshiftrb (o : Operands) (s : State) : Host.Outcome State Fault Refusal :=
  s.run Rows.kshiftrb o fun _ => s.mask1 o 8 (shiftMask false o.imm)

/-- KSHIFTRQ (R1360). -/
def execKshiftrq (o : Operands) (s : State) : Host.Outcome State Fault Refusal :=
  s.run Rows.kshiftrq o fun _ => s.mask1 o 64 (shiftMask false o.imm)

/-- KSHIFTRD (R1361). -/
def execKshiftrd (o : Operands) (s : State) : Host.Outcome State Fault Refusal :=
  s.run Rows.kshiftrd o fun _ => s.mask1 o 32 (shiftMask false o.imm)

end Sys2Proof.Machine
end

