-- ==== Sys2Proof/Machine/Rows59.lean ====
section
/-! DEFINITION. The rows of spec/opcode_table.json for the instructions of spec/59_er_pf_sha_memory.md (AVX512ER, AVX512PF, SHA, PREFETCHWT1 and CLWB), in the order of the table:
space, map, pp, W, L, opcode, roles of ModRM.reg, vvvv and r/m, mod, VSIB, imm8, r/m is the destination, masking, broadcast
bytes, rounding, tuple, CPUID flags, exception class, alignment, 64-bit mode only. -/

namespace Sys2Proof.Machine.Rows

/-- VEXP2PD (R1405) -/
def vexp2pd : List Row :=
  [⟨.evex, .m0F38, .p66, .w1, .l512, 0xC8, .vec, .none, .vec, .any, false, false, false, .zero, 8, .sae, .fv 8, [.avx512er], .e2, false, false⟩]

/-- VEXP2PS (R1406) -/
def vexp2ps : List Row :=
  [⟨.evex, .m0F38, .p66, .w0, .l512, 0xC8, .vec, .none, .vec, .any, false, false, false, .zero, 4, .sae, .fv 4, [.avx512er], .e2, false, false⟩]

/-- VRCP28PD (R1407) -/
def vrcp28pd : List Row :=
  [⟨.evex, .m0F38, .p66, .w1, .l512, 0xCA, .vec, .none, .vec, .any, false, false, false, .zero, 8, .sae, .fv 8, [.avx512er], .e2, false, false⟩]

/-- VRCP28SD (R1408) -/
def vrcp28sd : List Row :=
  [⟨.evex, .m0F38, .p66, .w1, .any, 0xCB, .vec, .vec, .vec, .any, false, false, false, .zero, 0, .sae, .fixed 8, [.avx512er], .e3, false, false⟩]

/-- VRCP28PS (R1409) -/
def vrcp28ps : List Row :=
  [⟨.evex, .m0F38, .p66, .w0, .l512, 0xCA, .vec, .none, .vec, .any, false, false, false, .zero, 4, .sae, .fv 4, [.avx512er], .e2, false, false⟩]

/-- VRCP28SS (R1410) -/
def vrcp28ss : List Row :=
  [⟨.evex, .m0F38, .p66, .w0, .any, 0xCB, .vec, .vec, .vec, .any, false, false, false, .zero, 0, .sae, .fixed 4, [.avx512er], .e3, false, false⟩]

/-- VRSQRT28PD (R1411) -/
def vrsqrt28pd : List Row :=
  [⟨.evex, .m0F38, .p66, .w1, .l512, 0xCC, .vec, .none, .vec, .any, false, false, false, .zero, 8, .sae, .fv 8, [.avx512er], .e2, false, false⟩]

/-- VRSQRT28SD (R1412) -/
def vrsqrt28sd : List Row :=
  [⟨.evex, .m0F38, .p66, .w1, .any, 0xCD, .vec, .vec, .vec, .any, false, false, false, .zero, 0, .sae, .fixed 8, [.avx512er], .e3, false, false⟩]

/-- VRSQRT28PS (R1413) -/
def vrsqrt28ps : List Row :=
  [⟨.evex, .m0F38, .p66, .w0, .l512, 0xCC, .vec, .none, .vec, .any, false, false, false, .zero, 4, .sae, .fv 4, [.avx512er], .e2, false, false⟩]

/-- VRSQRT28SS (R1414) -/
def vrsqrt28ss : List Row :=
  [⟨.evex, .m0F38, .p66, .w0, .any, 0xCD, .vec, .vec, .vec, .any, false, false, false, .zero, 0, .sae, .fixed 4, [.avx512er], .e3, false, false⟩]

/-- VGATHERPF0DPS (R1421) -/
def vgatherpf0dps : List Row :=
  [⟨.evex, .m0F38, .p66, .w0, .l512, 0xC6, (.ext 1), .none, .vec, .mem, true, false, false, .must, 0, .none, .fixed 4, [.avx512pf], .e12np, false, false⟩]

/-- VGATHERPF0QPS (R1422) -/
def vgatherpf0qps : List Row :=
  [⟨.evex, .m0F38, .p66, .w0, .l512, 0xC7, (.ext 1), .none, .vec, .mem, true, false, false, .must, 0, .none, .fixed 4, [.avx512pf], .e12np, false, false⟩]

/-- VGATHERPF0DPD (R1423) -/
def vgatherpf0dpd : List Row :=
  [⟨.evex, .m0F38, .p66, .w1, .l512, 0xC6, (.ext 1), .none, .vec, .mem, true, false, false, .must, 0, .none, .fixed 8, [.avx512pf], .e12np, false, false⟩]

/-- VGATHERPF0QPD (R1424) -/
def vgatherpf0qpd : List Row :=
  [⟨.evex, .m0F38, .p66, .w1, .l512, 0xC7, (.ext 1), .none, .vec, .mem, true, false, false, .must, 0, .none, .fixed 8, [.avx512pf], .e12np, false, false⟩]

/-- VGATHERPF1DPS (R1425) -/
def vgatherpf1dps : List Row :=
  [⟨.evex, .m0F38, .p66, .w0, .l512, 0xC6, (.ext 2), .none, .vec, .mem, true, false, false, .must, 0, .none, .fixed 4, [.avx512pf], .e12np, false, false⟩]

/-- VGATHERPF1QPS (R1426) -/
def vgatherpf1qps : List Row :=
  [⟨.evex, .m0F38, .p66, .w0, .l512, 0xC7, (.ext 2), .none, .vec, .mem, true, false, false, .must, 0, .none, .fixed 4, [.avx512pf], .e12np, false, false⟩]

/-- VGATHERPF1DPD (R1427) -/
def vgatherpf1dpd : List Row :=
  [⟨.evex, .m0F38, .p66, .w1, .l512, 0xC6, (.ext 2), .none, .vec, .mem, true, false, false, .must, 0, .none, .fixed 8, [.avx512pf], .e12np, false, false⟩]

/-- VGATHERPF1QPD (R1428) -/
def vgatherpf1qpd : List Row :=
  [⟨.evex, .m0F38, .p66, .w1, .l512, 0xC7, (.ext 2), .none, .vec, .mem, true, false, false, .must, 0, .none, .fixed 8, [.avx512pf], .e12np, false, false⟩]

/-- VSCATTERPF0DPS (R1429) -/
def vscatterpf0dps : List Row :=
  [⟨.evex, .m0F38, .p66, .w0, .l512, 0xC6, (.ext 5), .none, .vec, .mem, true, false, false, .must, 0, .none, .fixed 4, [.avx512pf], .e12np, false, false⟩]

/-- VSCATTERPF0QPS (R1430) -/
def vscatterpf0qps : List Row :=
  [⟨.evex, .m0F38, .p66, .w0, .l512, 0xC7, (.ext 5), .none, .vec, .mem, true, false, false, .must, 0, .none, .fixed 4, [.avx512pf], .e12np, false, false⟩]

/-- VSCATTERPF0DPD (R1431) -/
def vscatterpf0dpd : List Row :=
  [⟨.evex, .m0F38, .p66, .w1, .l512, 0xC6, (.ext 5), .none, .vec, .mem, true, false, false, .must, 0, .none, .fixed 8, [.avx512pf], .e12np, false, false⟩]

/-- VSCATTERPF0QPD (R1432) -/
def vscatterpf0qpd : List Row :=
  [⟨.evex, .m0F38, .p66, .w1, .l512, 0xC7, (.ext 5), .none, .vec, .mem, true, false, false, .must, 0, .none, .fixed 8, [.avx512pf], .e12np, false, false⟩]

/-- VSCATTERPF1DPS (R1433) -/
def vscatterpf1dps : List Row :=
  [⟨.evex, .m0F38, .p66, .w0, .l512, 0xC6, (.ext 6), .none, .vec, .mem, true, false, false, .must, 0, .none, .fixed 4, [.avx512pf], .e12np, false, false⟩]

/-- VSCATTERPF1QPS (R1434) -/
def vscatterpf1qps : List Row :=
  [⟨.evex, .m0F38, .p66, .w0, .l512, 0xC7, (.ext 6), .none, .vec, .mem, true, false, false, .must, 0, .none, .fixed 4, [.avx512pf], .e12np, false, false⟩]

/-- VSCATTERPF1DPD (R1435) -/
def vscatterpf1dpd : List Row :=
  [⟨.evex, .m0F38, .p66, .w1, .l512, 0xC6, (.ext 6), .none, .vec, .mem, true, false, false, .must, 0, .none, .fixed 8, [.avx512pf], .e12np, false, false⟩]

/-- VSCATTERPF1QPD (R1436) -/
def vscatterpf1qpd : List Row :=
  [⟨.evex, .m0F38, .p66, .w1, .l512, 0xC7, (.ext 6), .none, .vec, .mem, true, false, false, .must, 0, .none, .fixed 8, [.avx512pf], .e12np, false, false⟩]

/-- SHA1RNDS4 (R1452) -/
def sha1rnds4 : List Row :=
  [⟨.legacy, .m0F3A, .np, .wig, .any, 0xCC, .vec, .none, .vec, .any, false, true, false, .none, 0, .none, .fixed 1, [.sha], .sse 4, true, false⟩]

/-- SHA1NEXTE (R1453) -/
def sha1nexte : List Row :=
  [⟨.legacy, .m0F38, .np, .wig, .any, 0xC8, .vec, .none, .vec, .any, false, false, false, .none, 0, .none, .fixed 1, [.sha], .sse 4, true, false⟩]

/-- SHA1MSG1 (R1454) -/
def sha1msg1 : List Row :=
  [⟨.legacy, .m0F38, .np, .wig, .any, 0xC9, .vec, .none, .vec, .any, false, false, false, .none, 0, .none, .fixed 1, [.sha], .sse 4, true, false⟩]

/-- SHA1MSG2 (R1455) -/
def sha1msg2 : List Row :=
  [⟨.legacy, .m0F38, .np, .wig, .any, 0xCA, .vec, .none, .vec, .any, false, false, false, .none, 0, .none, .fixed 1, [.sha], .sse 4, true, false⟩]

/-- SHA256RNDS2 (R1456) -/
def sha256rnds2 : List Row :=
  [⟨.legacy, .m0F38, .np, .wig, .any, 0xCB, .vec, .none, .vec, .any, false, false, false, .none, 0, .none, .fixed 1, [.sha], .sse 4, true, false⟩]

/-- SHA256MSG1 (R1457) -/
def sha256msg1 : List Row :=
  [⟨.legacy, .m0F38, .np, .wig, .any, 0xCC, .vec, .none, .vec, .any, false, false, false, .none, 0, .none, .fixed 1, [.sha], .sse 4, true, false⟩]

/-- SHA256MSG2 (R1458) -/
def sha256msg2 : List Row :=
  [⟨.legacy, .m0F38, .np, .wig, .any, 0xCD, .vec, .none, .vec, .any, false, false, false, .none, 0, .none, .fixed 1, [.sha], .sse 4, true, false⟩]

/-- PREFETCHWT1 (R1480) -/
def prefetchwt1 : List Row :=
  [⟨.legacy, .m0F, .np, .wig, .any, 0x0D, (.ext 2), .none, .vec, .mem, false, false, false, .none, 0, .none, .fixed 1, [], .page, false, false⟩]

/-- CLWB (R1481) -/
def clwb : List Row :=
  [⟨.legacy, .m0F, .p66, .wig, .any, 0xAE, (.ext 6), .none, .vec, .mem, false, false, false, .none, 0, .none, .fixed 1, [.clwb], .page, false, false⟩]

end Sys2Proof.Machine.Rows
end

