-- ==== Sys2Proof/Machine/Sha.lean ====
section
/-! DEFINITION. The functions of the SHA instructions (spec/59_er_pf_sha_memory.md R1451 to R1458) on 128-bit operands;
`dw n` is the doubleword of bits 32n+31:32n. -/

namespace Sys2Proof.Machine.Sha

abbrev DW := BitVec 32

def dw (n : Nat) (v : ZWord) : DW := elem 32 n v

/-- A 128-bit result from its doublewords, the highest first. -/
def make (d3 d2 d1 d0 : DW) : ZWord := packList 32 0 [d0, d1, d2, d3]

/-- f0 to f3 (R1451). -/
def f (i : Nat) (b c d : DW) : DW :=
  match i with
  | 0 => (b &&& c) ^^^ (~~~b &&& d)
  | 2 => (b &&& c) ^^^ (b &&& d) ^^^ (c &&& d)
  | _ => b ^^^ c ^^^ d

/-- K0 to K3 (R1451). -/
def k (i : Nat) : DW :=
  match i with
  | 0 => 0x5A827999
  | 1 => 0x6ED9EBA1
  | 2 => 0x8F1BBCDC
  | _ => 0xCA62C1D6

def ch (e f g : DW) : DW := (e &&& f) ^^^ (~~~e &&& g)
def maj (a b c : DW) : DW := (a &&& b) ^^^ (a &&& c) ^^^ (b &&& c)
def bigSigma0 (a : DW) : DW := a.rotateRight 2 ^^^ a.rotateRight 13 ^^^ a.rotateRight 22
def bigSigma1 (e : DW) : DW := e.rotateRight 6 ^^^ e.rotateRight 11 ^^^ e.rotateRight 25
def smallSigma0 (x : DW) : DW := x.rotateRight 7 ^^^ x.rotateRight 18 ^^^ (x >>> 3)
def smallSigma1 (x : DW) : DW := x.rotateRight 17 ^^^ x.rotateRight 19 ^^^ (x >>> 10)

/-- The SHA-1 state. -/
structure State1 where
  a : DW
  b : DW
  c : DW
  d : DW
  e : DW
deriving DecidableEq, Repr

/-- One SHA-1 round (R1452). -/
def round1 (i : Nat) (s : State1) (w : DW) : State1 :=
  ⟨f i s.b s.c s.d + s.a.rotateLeft 5 + w + s.e + k i, s.a, s.b.rotateLeft 30, s.c, s.d⟩

/-- SHA1RNDS4 (R1452): E is part of the first word. -/
def sha1Rnds4 (imm : BitVec 8) (x y : ZWord) : ZWord :=
  let i := imm.toNat % 4
  let s := [dw 3 y, dw 2 y, dw 1 y, dw 0 y].foldl (round1 i) ⟨dw 3 x, dw 2 x, dw 1 x, dw 0 x, 0⟩
  make s.a s.b s.c s.d

/-- SHA1NEXTE (R1453). -/
def sha1NextE (x y : ZWord) : ZWord := make (dw 3 y + (dw 3 x).rotateLeft 30) (dw 2 y) (dw 1 y) (dw 0 y)

/-- SHA1MSG1 (R1454). -/
def sha1Msg1 (x y : ZWord) : ZWord :=
  make (dw 1 x ^^^ dw 3 x) (dw 0 x ^^^ dw 2 x) (dw 3 y ^^^ dw 1 x) (dw 2 y ^^^ dw 0 x)

/-- SHA1MSG2 (R1455). -/
def sha1Msg2 (x y : ZWord) : ZWord :=
  let w16 := (dw 3 x ^^^ dw 2 y).rotateLeft 1
  let w17 := (dw 2 x ^^^ dw 1 y).rotateLeft 1
  let w18 := (dw 1 x ^^^ dw 0 y).rotateLeft 1
  let w19 := (dw 0 x ^^^ w16).rotateLeft 1
  make w16 w17 w18 w19

/-- The SHA-256 state. -/
structure State2 where
  a : DW
  b : DW
  c : DW
  d : DW
  e : DW
  f : DW
  g : DW
  h : DW
deriving DecidableEq, Repr

/-- One SHA-256 round (R1456). -/
def round2 (s : State2) (wk : DW) : State2 :=
  let t := ch s.e s.f s.g + bigSigma1 s.e + wk + s.h
  ⟨t + maj s.a s.b s.c + bigSigma0 s.a, s.a, s.b, s.c, t + s.d, s.e, s.f, s.g⟩

/-- SHA256RNDS2 (R1456): `x` holds C, D, G, H, `y` holds A, B, E, F, `z` is XMM0. -/
def sha256Rnds2 (x y z : ZWord) : ZWord :=
  let s := [dw 0 z, dw 1 z].foldl round2 ⟨dw 3 y, dw 2 y, dw 3 x, dw 2 x, dw 1 y, dw 0 y, dw 1 x, dw 0 x⟩
  make s.a s.b s.e s.f

/-- SHA256MSG1 (R1457). -/
def sha256Msg1 (x y : ZWord) : ZWord :=
  make (dw 3 x + smallSigma0 (dw 0 y)) (dw 2 x + smallSigma0 (dw 3 x)) (dw 1 x + smallSigma0 (dw 2 x))
    (dw 0 x + smallSigma0 (dw 1 x))

/-- SHA256MSG2 (R1458). -/
def sha256Msg2 (x y : ZWord) : ZWord :=
  let w16 := dw 0 x + smallSigma1 (dw 2 y)
  let w17 := dw 1 x + smallSigma1 (dw 3 y)
  make (dw 3 x + smallSigma1 w17) (dw 2 x + smallSigma1 w16) w17 w16

end Sys2Proof.Machine.Sha

namespace Sys2Proof.Machine

/-- The operand form of the SHA instructions (R1450): destination and first source ModRM.reg, an aligned r/m operand, bits
above 127 unmodified. -/
def State.sha (s : State) (r : Row) (o : Operands) (g : ZWord → ZWord → ZWord) : Except Abort State :=
  loading (s.src r o 128 1) fun y => s.putVec .legacy o.reg 128 (g (s.getZ o.reg) y)

end Sys2Proof.Machine
end

