-- ==== Sys2Proof/Machine/Exec59.lean ====
section
/-! DEFINITION. The meanings of the instructions of spec/59_er_pf_sha_memory.md (AVX512ER, AVX512PF, SHA, PREFETCHWT1 and CLWB), one definition each: the checks
of `State.run` on the rows of the instruction, then its operation on the row its fields select. -/

namespace Sys2Proof.Machine

/-- VEXP2PD (R1405). -/
def execVexp2pd (o : Operands) (s : State) : Host.Outcome State Fault Refusal :=
  s.run Rows.vexp2pd o fun r => s.fp1 r o fun env => f64.exp2 env.rc Config.exp2d

/-- VEXP2PS (R1406). -/
def execVexp2ps (o : Operands) (s : State) : Host.Outcome State Fault Refusal :=
  s.run Rows.vexp2ps o fun r => s.fp1 r o fun env => f32.exp2 env.rc Config.exp2s

/-- VRCP28PD (R1407). -/
def execVrcp28pd (o : Operands) (s : State) : Host.Outcome State Fault Refusal :=
  s.run Rows.vrcp28pd o fun r => s.fp1 r o fun _ => f64.rcp28 Config.rcp28d

/-- VRCP28SD (R1408). -/
def execVrcp28sd (o : Operands) (s : State) : Host.Outcome State Fault Refusal :=
  s.run Rows.vrcp28sd o fun r => s.fp1s r o fun _ => f64.rcp28 Config.rcp28d

/-- VRCP28PS (R1409). -/
def execVrcp28ps (o : Operands) (s : State) : Host.Outcome State Fault Refusal :=
  s.run Rows.vrcp28ps o fun r => s.fp1 r o fun _ => f32.rcp28 Config.rcp28s

/-- VRCP28SS (R1410). -/
def execVrcp28ss (o : Operands) (s : State) : Host.Outcome State Fault Refusal :=
  s.run Rows.vrcp28ss o fun r => s.fp1s r o fun _ => f32.rcp28 Config.rcp28s

/-- VRSQRT28PD (R1411). -/
def execVrsqrt28pd (o : Operands) (s : State) : Host.Outcome State Fault Refusal :=
  s.run Rows.vrsqrt28pd o fun r => s.fp1 r o fun _ => f64.rsqrt28 Config.rsqrt28d

/-- VRSQRT28SD (R1412). -/
def execVrsqrt28sd (o : Operands) (s : State) : Host.Outcome State Fault Refusal :=
  s.run Rows.vrsqrt28sd o fun r => s.fp1s r o fun _ => f64.rsqrt28 Config.rsqrt28d

/-- VRSQRT28PS (R1413). -/
def execVrsqrt28ps (o : Operands) (s : State) : Host.Outcome State Fault Refusal :=
  s.run Rows.vrsqrt28ps o fun r => s.fp1 r o fun _ => f32.rsqrt28 Config.rsqrt28s

/-- VRSQRT28SS (R1414). -/
def execVrsqrt28ss (o : Operands) (s : State) : Host.Outcome State Fault Refusal :=
  s.run Rows.vrsqrt28ss o fun r => s.fp1s r o fun _ => f32.rsqrt28 Config.rsqrt28s

/-- VGATHERPF0DPS (R1421). -/
def execVgatherpf0dps (o : Operands) (s : State) : Host.Outcome State Fault Refusal :=
  s.run Rows.vgatherpf0dps o fun _ => .ok s

/-- VGATHERPF0QPS (R1422). -/
def execVgatherpf0qps (o : Operands) (s : State) : Host.Outcome State Fault Refusal :=
  s.run Rows.vgatherpf0qps o fun _ => .ok s

/-- VGATHERPF0DPD (R1423). -/
def execVgatherpf0dpd (o : Operands) (s : State) : Host.Outcome State Fault Refusal :=
  s.run Rows.vgatherpf0dpd o fun _ => .ok s

/-- VGATHERPF0QPD (R1424). -/
def execVgatherpf0qpd (o : Operands) (s : State) : Host.Outcome State Fault Refusal :=
  s.run Rows.vgatherpf0qpd o fun _ => .ok s

/-- VGATHERPF1DPS (R1425). -/
def execVgatherpf1dps (o : Operands) (s : State) : Host.Outcome State Fault Refusal :=
  s.run Rows.vgatherpf1dps o fun _ => .ok s

/-- VGATHERPF1QPS (R1426). -/
def execVgatherpf1qps (o : Operands) (s : State) : Host.Outcome State Fault Refusal :=
  s.run Rows.vgatherpf1qps o fun _ => .ok s

/-- VGATHERPF1DPD (R1427). -/
def execVgatherpf1dpd (o : Operands) (s : State) : Host.Outcome State Fault Refusal :=
  s.run Rows.vgatherpf1dpd o fun _ => .ok s

/-- VGATHERPF1QPD (R1428). -/
def execVgatherpf1qpd (o : Operands) (s : State) : Host.Outcome State Fault Refusal :=
  s.run Rows.vgatherpf1qpd o fun _ => .ok s

/-- VSCATTERPF0DPS (R1429). -/
def execVscatterpf0dps (o : Operands) (s : State) : Host.Outcome State Fault Refusal :=
  s.run Rows.vscatterpf0dps o fun _ => .ok s

/-- VSCATTERPF0QPS (R1430). -/
def execVscatterpf0qps (o : Operands) (s : State) : Host.Outcome State Fault Refusal :=
  s.run Rows.vscatterpf0qps o fun _ => .ok s

/-- VSCATTERPF0DPD (R1431). -/
def execVscatterpf0dpd (o : Operands) (s : State) : Host.Outcome State Fault Refusal :=
  s.run Rows.vscatterpf0dpd o fun _ => .ok s

/-- VSCATTERPF0QPD (R1432). -/
def execVscatterpf0qpd (o : Operands) (s : State) : Host.Outcome State Fault Refusal :=
  s.run Rows.vscatterpf0qpd o fun _ => .ok s

/-- VSCATTERPF1DPS (R1433). -/
def execVscatterpf1dps (o : Operands) (s : State) : Host.Outcome State Fault Refusal :=
  s.run Rows.vscatterpf1dps o fun _ => .ok s

/-- VSCATTERPF1QPS (R1434). -/
def execVscatterpf1qps (o : Operands) (s : State) : Host.Outcome State Fault Refusal :=
  s.run Rows.vscatterpf1qps o fun _ => .ok s

/-- VSCATTERPF1DPD (R1435). -/
def execVscatterpf1dpd (o : Operands) (s : State) : Host.Outcome State Fault Refusal :=
  s.run Rows.vscatterpf1dpd o fun _ => .ok s

/-- VSCATTERPF1QPD (R1436). -/
def execVscatterpf1qpd (o : Operands) (s : State) : Host.Outcome State Fault Refusal :=
  s.run Rows.vscatterpf1qpd o fun _ => .ok s

/-- SHA1RNDS4 (R1452). -/
def execSha1rnds4 (o : Operands) (s : State) : Host.Outcome State Fault Refusal :=
  s.run Rows.sha1rnds4 o fun r => s.sha r o (Sha.sha1Rnds4 o.imm)

/-- SHA1NEXTE (R1453). -/
def execSha1nexte (o : Operands) (s : State) : Host.Outcome State Fault Refusal :=
  s.run Rows.sha1nexte o fun r => s.sha r o Sha.sha1NextE

/-- SHA1MSG1 (R1454). -/
def execSha1msg1 (o : Operands) (s : State) : Host.Outcome State Fault Refusal :=
  s.run Rows.sha1msg1 o fun r => s.sha r o Sha.sha1Msg1

/-- SHA1MSG2 (R1455). -/
def execSha1msg2 (o : Operands) (s : State) : Host.Outcome State Fault Refusal :=
  s.run Rows.sha1msg2 o fun r => s.sha r o Sha.sha1Msg2

/-- SHA256RNDS2 (R1456). -/
def execSha256rnds2 (o : Operands) (s : State) : Host.Outcome State Fault Refusal :=
  s.run Rows.sha256rnds2 o fun r => s.sha r o fun x y => Sha.sha256Rnds2 x y (s.getZ 0)

/-- SHA256MSG1 (R1457). -/
def execSha256msg1 (o : Operands) (s : State) : Host.Outcome State Fault Refusal :=
  s.run Rows.sha256msg1 o fun r => s.sha r o Sha.sha256Msg1

/-- SHA256MSG2 (R1458). -/
def execSha256msg2 (o : Operands) (s : State) : Host.Outcome State Fault Refusal :=
  s.run Rows.sha256msg2 o fun r => s.sha r o Sha.sha256Msg2

end Sys2Proof.Machine
end

