-- ==== Sys2Proof/Machine/System.lean ====
section
/-! DEFINITION. CPUID (spec/40_cpuid.md), PREFETCHWT1, CLWB and PCOMMIT (spec/59_er_pf_sha_memory.md R1480 to R1482). -/

namespace Sys2Proof.Machine

/-- IA32_MISC_ENABLES.BOOT_NT4 (R214). -/
def State.bootNt4 (s : State) : Bool := s.miscEnables.getLsbD 22

/-- The highest basic leaf that leaf 0 reports (R203, R214, D51). -/
def State.maxBasic (s : State) : BitVec 32 := if s.bootNt4 then 3 else s.cpu.maxBasic

/-- The leaf whose data CPUID returns (R204): an unsupported one, or one above 3 that BOOT_NT4 hides, gives the highest basic
leaf of the part. -/
def State.cpuidLeaf (s : State) (leaf : BitVec 32) : BitVec 32 :=
  if (leaf.ule s.cpu.maxBasic && (leaf.ule 3 || !s.bootNt4)) || ((0x80000000#32).ule leaf && leaf.ule s.cpu.maxExt) then leaf
  else s.cpu.maxBasic

/-- The size of an XSAVE area that holds the components of a mask (R224, R225): the end of the last one, by the offsets and
sizes of leaf 0DH. DESIGN CHOICE: sub-leaf 1's size is counted in the standard layout too; R225 does not say in which
(notes/assumptions/36.md). -/
def xsaveSize (c : CpuInfo) (mask : Word) : BitVec 32 :=
  BitVec.ofNat 32 ((List.range 64).foldl (fun n i =>
    if 2 ≤ i && mask.getLsbD i then
      let e := cpuidEntry c 0xD (BitVec.ofNat 32 i)
      max n (e.ebx.toNat + e.eax.toNat)
    else n) 576)

/-- One bit of a register replaced. -/
def withBit (x : BitVec 32) (n : Nat) (b : Bool) : BitVec 32 := (x &&& ~~~(1#32 <<< n)) ||| (if b then 1#32 <<< n else 0)

/-- The bits of EAX, EBX, ECX, EDX a leaf defines; reserved bits read 0 (U12, R206 to R237), and so does the brand index of
leaf 01H (R238). DESIGN CHOICE: EAX of leaf 80000001H is the table's; R235 calls it a signature and quotes the Operation section,
where it is reserved (notes/assumptions/43.md). -/
def cpuidDefined (leaf sub : BitVec 32) : BitVec 32 × BitVec 32 × BitVec 32 × BitVec 32 :=
  match leaf.toNat, sub.toNat with
  | 0x1, _ => (0x0FFF3FFF, 0xFFFFFF00, 0x7FFEFFFF, 0xBFEFFBFF)
  | 0x2, _ => (0xFFFFFFFF, 0xFFFFFFFF, 0xFFFFFFFF, 0xFFFFFFFF)
  | 0x4, _ => (0xFFFFC3FF, 0xFFFFFFFF, 0xFFFFFFFF, 0x7)
  | 0x5, _ => (0xFFFF, 0xFFFF, 0x3, 0xFFFFFFFF)
  | 0x6, _ => (0x2FF7, 0xF, 0x9, 0)
  | 0x7, 0 => (0xFFFFFFFF, 0xFFFFFFBF, 0x1B, 0)
  | 0x9, _ => (0xFFFFFFFF, 0, 0, 0)
  | 0xA, _ => (0xFFFFFFFF, 0x7F, 0, 0x1FFF)
  | 0xB, _ => (0x1F, 0xFFFF, 0xFFFF, 0xFFFFFFFF)
  | 0xD, 0 => (0x3FF, 0xFFFFFFFF, 0xFFFFFFFF, 0xFFFFFFFF)
  | 0xD, 1 => (0xF, 0xFFFFFFFF, 0x3FF, 0)
  | 0xD, _ => (0xFFFFFFFF, 0xFFFFFFFF, 0, 0)
  | 0xF, 0 => (0, 0xFFFFFFFF, 0, 0x2)
  | 0xF, 1 => (0, 0xFFFFFFFF, 0xFFFFFFFF, 0x1)
  | 0x10, 0 => (0, 0x2, 0, 0)
  | 0x10, 1 => (0x1F, 0xFFFFFFFF, 0x6, 0xFFFF)
  | 0x14, 0 => (0xFFFFFFFF, 0xF, 0x8000000F, 0)
  | 0x14, 1 => (0xFFFF0007, 0xFFFFFFFF, 0, 0)
  | 0x15, _ => (0xFFFFFFFF, 0xFFFFFFFF, 0, 0)
  | 0x16, _ => (0xFFFF, 0xFFFF, 0xFFFF, 0)
  | 0x17, 0 => (0xFFFFFFFF, 0x1FFFF, 0xFFFFFFFF, 0xFFFFFFFF)
  | 0x17, 1 | 0x17, 2 | 0x17, 3 => (0xFFFFFFFF, 0xFFFFFFFF, 0xFFFFFFFF, 0xFFFFFFFF)
  | 0x80000001, _ => (0xFFFFFFFF, 0, 0x121, 0x2C100800)
  | 0x80000002, _ | 0x80000003, _ | 0x80000004, _ => (0xFFFFFFFF, 0xFFFFFFFF, 0xFFFFFFFF, 0xFFFFFFFF)
  | 0x80000006, _ => (0, 0, 0xFFFFF0FF, 0)
  | 0x80000007, _ => (0, 0, 0, 0x100)
  | 0x80000008, _ => (0xFFFF, 0, 0, 0)
  | _, _ => (0, 0, 0, 0)

/-- The table's data for a leaf with its reserved bits zero. -/
def State.cpuidStored (s : State) (leaf sub : BitVec 32) : CpuidEntry :=
  let e := cpuidEntry s.cpu leaf sub
  let (a, b, c, d) := cpuidDefined leaf sub
  ⟨leaf, sub, e.eax &&& a, e.ebx &&& b, e.ecx &&& c, e.edx &&& d⟩

/-- Sub-leaf `n` of leaf 0DH is valid: by what its sub-leaves 0 and 1 return (R226). -/
def State.xsaveSubValid (s : State) (n : Nat) : Bool :=
  let main := s.cpuidStored 0xD 0
  let sub1 := s.cpuidStored 0xD 1
  if n ≤ 1 then true
  else if n < 32 then main.eax.getLsbD n || sub1.ecx.getLsbD n
  else n < 64 && (main.edx.getLsbD (n - 32) || sub1.edx.getLsbD (n - 32))

/-- The bits of XCR0 that may be 1: those of CPUID.(0DH,0):EDX:EAX but for bit 8, which is no XCR0 state (R30, R244). -/
def State.xcr0Bits (s : State) : Word :=
  let e := s.cpuidStored 0xD 0
  ((e.edx.setWidth 64 <<< 32) ||| e.eax.setWidth 64) &&& ~~~0x100

/-- The bits of IA32_XSS that may be 1: those of CPUID.(0DH,1):EDX:ECX (R225). DESIGN CHOICE: bits 7:0 and 9 are not left out
where the table has them set, though R225 says "used for XCR0" of them (notes/assumptions/35.md). -/
def State.xssBits (s : State) : Word :=
  let e := s.cpuidStored 0xD 1
  (e.edx.setWidth 64 <<< 32) ||| e.ecx.setWidth 64

/-- A value IA32_XSS may hold (R225). -/
def State.xssOk (s : State) (v : Word) : Bool := (v &&& ~~~s.xssBits) == 0

/-- A word has a zero byte. -/
def hasZeroByte (x : BitVec 32) : Bool := (List.range 4).any fun i => elem 8 i x == 0

/-- The 48 bytes of the brand string, leaves 80000002H to 80000004H of the table, have no NUL among them (R236). -/
def brandUnterminated (c : CpuInfo) : Bool :=
  [0x80000002, 0x80000003, 0x80000004].all fun leaf =>
    let e := cpuidEntry c leaf 0
    [e.eax, e.ebx, e.ecx, e.edx].all fun x => !hasZeroByte x

/-- From sub-leaf `n` of leaf 0BH on, how many sub-leaves in a row have a level type (R222); a part lists at most `fuel`. -/
def topologyLevels (c : CpuInfo) : Nat → Nat → Nat
  | 0, _ => 0
  | fuel + 1, n => if (cpuidEntry c 0xB (BitVec.ofNat 32 n)).ecx &&& 0xFF00 == 0 then 0 else topologyLevels c fuel (n + 1) + 1

/-- Sub-leaf `n` of leaf 0BH has a level type: it and every one below it (R222). -/
def hasLevel (c : CpuInfo) (n : Nat) : Bool := n < topologyLevels c c.entries.length 0

/-- LeafData (R202 to R237): the table with the bits that follow the machine's state. PRESUMED: CR4.PKE, which the spec names
without a place (R202), is bit 22 (notes/assumptions/35.md). DESIGN CHOICE: the initial APIC ID of leaf 01H is the low byte of
the x2APIC ID of leaf 0BH; the spec names both and does not relate them (R207, R222, notes/assumptions/41.md). Where the table
breaks a rule about what CPUID returns, the rule holds: EAX[31:26] is the same for every cache of leaf 04H (R215), ECX of leaf
0DH is the size for all that EDX:EAX reports (R224), and the brand string ends in NUL (R236, notes/assumptions/39.md). -/
def State.leafData (s : State) (leaf sub : BitVec 32) : CpuidEntry :=
  let e := s.cpuidStored leaf sub
  match leaf.toNat with
  | 0 => ⟨leaf, sub, s.maxBasic, 0x756E6547, 0x6C65746E, 0x49656E69⟩
  | 1 =>
    { e with
      ebx := (e.ebx &&& 0x00FFFFFF) ||| ((s.cpu.apicId &&& 0xFF) <<< 24)
      ecx := withBit e.ecx 27 (s.cr4.getLsbD 18) }
  | 4 =>
    if e.eax &&& 0x1F == 0 then e
    else { e with eax := (e.eax &&& 0x03FFFFFF) ||| ((s.cpuidStored 4 0).eax &&& 0xFC000000) }
  | 7 =>
    if sub = 0 then
      { e with ebx := withBit e.ebx 22 s.pcommitEnabled, ecx := withBit e.ecx 4 (s.cr4.getLsbD 22) }
    else ⟨leaf, sub, 0, 0, 0, 0⟩
  | 0xB =>
    let level := hasLevel s.cpu sub.toNat
    { e with
      eax := if level then e.eax else 0
      ebx := if level then e.ebx else 0
      ecx := (if level then e.ecx &&& 0xFF00 else 0) ||| (sub &&& 0xFF)
      edx := s.cpu.apicId }
  | 0xD =>
    if sub = 0 then { e with ebx := xsaveSize s.cpu s.xcr0, ecx := xsaveSize s.cpu s.xcr0Bits }
    else if sub = 1 then { e with ebx := xsaveSize s.cpu (s.xcr0 ||| s.xss) }
    else if s.xsaveSubValid sub.toNat then e else ⟨leaf, sub, 0, 0, 0, 0⟩
  | 0x17 => if sub.ule (cpuidEntry s.cpu 0x17 0).eax then e else ⟨leaf, sub, 0, 0, 0, 0⟩
  | 0x80000000 => ⟨leaf, sub, s.cpu.maxExt, 0, 0, 0⟩
  | 0x80000004 => if brandUnterminated s.cpu then { e with edx := e.edx &&& 0x00FFFFFF } else e
  | _ => e

/-- What CPUID leaves in its four registers and in IA32_BIOS_SIGN_ID (R201, R239), and its serialization (R99, R1611). -/
def State.cpuid (s : State) : State :=
  let sub := (s.getGpr 1).setWidth 32
  let e := s.leafData (s.cpuidLeaf ((s.getGpr 0).setWidth 32)) sub
  let t := { s.serialize with
    biosSignId := (s.biosSignId &&& 0xFFFFFFFF) ||| (s.cpu.microcode.setWidth 64 <<< 32) }
  (((t.putGpr 0 e.eax).putGpr 3 e.ebx).putGpr 1 e.ecx).putGpr 2 e.edx

/-- CPUID (R201): no condition but LOCK, which the decoder refuses, keeps it from executing. -/
def execCpuid (s : State) : Host.Outcome State Fault Refusal := s.finish (.ok s.cpuid)

/-- PREFETCHWT1 (R1480, R97): a hint; nothing but the instruction pointer changes and no memory fault is raised. -/
def execPrefetchwt1 (o : Operands) (s : State) : Host.Outcome State Fault Refusal :=
  s.run Rows.prefetchwt1 o fun _ => .ok s

/-- The cache line size CLWB works on: CPUID.01H:EBX[15:8] * 8 bytes (R106, R207); a single byte where that reads 0. -/
def State.lineSize (s : State) : Nat := max 1 ((elem 8 1 (cpuidEntry s.cpu 1 0).ebx).toNat * 8)

/-- The stores to the cache line of a physical address are on their way to memory (R101, R106). DESIGN CHOICE: the line is the
aligned one around the translated physical address, where R106 says the line that contains the linear address
(notes/assumptions/47.md). -/
def State.flushLine (s : State) (a : Nat) : State := s.writeBackLine (a / s.lineSize * s.lineSize) s.lineSize

/-- CLWB (R1481, R101, R106, R108): the checks of a byte load, which like a load sets the accessed flag of the translation and
not its dirty flag; the line's stores are on their way to memory. -/
def execClwb (o : Operands) (s : State) : Host.Outcome State Fault Refusal :=
  s.run Rows.clwb o fun _ =>
    match o.rm with
    | .reg _ => .error { exc := .ud }
    | .mem m =>
      (s.checkMem .read m.seg (s.ea m) [0] 1 0).map fun ps =>
        (ps.foldl (fun t p => t.flushLine p.2) s).marked [s.linear m.seg (s.ea m) 0]

/-- PCOMMIT (R1482, R1585, R1586): #UD in an enclave or when not enabled, a VM exit when a hypervisor intercepts it, else
the accepted stores are being committed. -/
def execPcommit (s : State) : Host.Outcome State Fault Refusal :=
  s.finish (
    if s.inEnclave || !s.pcommitEnabled then .error { exc := .ud }
    else if s.vmxNonRoot && s.vmxControls2.getLsbD 21 then .ok { s with event := some (.vmExit 0x41) }
    else .ok s.commitStores)

end Sys2Proof.Machine
end

