-- ==== Sys2Proof/Machine/Dispatch.lean ====
section
/-! DEFINITION. One arm per instruction: the call of its meaning. -/

namespace Sys2Proof.Machine

def exec (i : Instr) (s : State) : Host.Outcome State Fault Refusal :=
  match i with
  | .cpuid => Sys2Proof.Machine.execCpuid s
  | .addpd o => Sys2Proof.Machine.execAddpd o s
  | .vaddpd o => Sys2Proof.Machine.execVaddpd o s
  | .addps o => Sys2Proof.Machine.execAddps o s
  | .vaddps o => Sys2Proof.Machine.execVaddps o s
  | .addsd o => Sys2Proof.Machine.execAddsd o s
  | .vaddsd o => Sys2Proof.Machine.execVaddsd o s
  | .addss o => Sys2Proof.Machine.execAddss o s
  | .vaddss o => Sys2Proof.Machine.execVaddss o s
  | .valignd o => Sys2Proof.Machine.execValignd o s
  | .valignq o => Sys2Proof.Machine.execValignq o s
  | .vblendmpd o => Sys2Proof.Machine.execVblendmpd o s
  | .vblendmps o => Sys2Proof.Machine.execVblendmps o s
  | .vpblendmb o => Sys2Proof.Machine.execVpblendmb o s
  | .vpblendmw o => Sys2Proof.Machine.execVpblendmw o s
  | .vpblendmd o => Sys2Proof.Machine.execVpblendmd o s
  | .vpblendmq o => Sys2Proof.Machine.execVpblendmq o s
  | .andpd o => Sys2Proof.Machine.execAndpd o s
  | .vandpd o => Sys2Proof.Machine.execVandpd o s
  | .andps o => Sys2Proof.Machine.execAndps o s
  | .vandps o => Sys2Proof.Machine.execVandps o s
  | .andnpd o => Sys2Proof.Machine.execAndnpd o s
  | .vandnpd o => Sys2Proof.Machine.execVandnpd o s
  | .andnps o => Sys2Proof.Machine.execAndnps o s
  | .vandnps o => Sys2Proof.Machine.execVandnps o s
  | .vbroadcastss o => Sys2Proof.Machine.execVbroadcastss o s
  | .vbroadcastsd o => Sys2Proof.Machine.execVbroadcastsd o s
  | .vbroadcastf128 o => Sys2Proof.Machine.execVbroadcastf128 o s
  | .vbroadcastf32x2 o => Sys2Proof.Machine.execVbroadcastf32x2 o s
  | .vbroadcastf32x4 o => Sys2Proof.Machine.execVbroadcastf32x4 o s
  | .vbroadcastf64x2 o => Sys2Proof.Machine.execVbroadcastf64x2 o s
  | .vbroadcastf32x8 o => Sys2Proof.Machine.execVbroadcastf32x8 o s
  | .vbroadcastf64x4 o => Sys2Proof.Machine.execVbroadcastf64x4 o s
  | .vpbroadcastb o => Sys2Proof.Machine.execVpbroadcastb o s
  | .vpbroadcastw o => Sys2Proof.Machine.execVpbroadcastw o s
  | .vpbroadcastd o => Sys2Proof.Machine.execVpbroadcastd o s
  | .vpbroadcastq o => Sys2Proof.Machine.execVpbroadcastq o s
  | .vbroadcasti32x2 o => Sys2Proof.Machine.execVbroadcasti32x2 o s
  | .vbroadcasti128 o => Sys2Proof.Machine.execVbroadcasti128 o s
  | .vbroadcasti32x4 o => Sys2Proof.Machine.execVbroadcasti32x4 o s
  | .vbroadcasti64x2 o => Sys2Proof.Machine.execVbroadcasti64x2 o s
  | .vbroadcasti32x8 o => Sys2Proof.Machine.execVbroadcasti32x8 o s
  | .vbroadcasti64x4 o => Sys2Proof.Machine.execVbroadcasti64x4 o s
  | .cmppd o => Sys2Proof.Machine.execCmppd o s
  | .vcmppd o => Sys2Proof.Machine.execVcmppd o s
  | .cmpps o => Sys2Proof.Machine.execCmpps o s
  | .vcmpps o => Sys2Proof.Machine.execVcmpps o s
  | .cmpsd o => Sys2Proof.Machine.execCmpsd o s
  | .vcmpsd o => Sys2Proof.Machine.execVcmpsd o s
  | .cmpss o => Sys2Proof.Machine.execCmpss o s
  | .vcmpss o => Sys2Proof.Machine.execVcmpss o s
  | .comisd o => Sys2Proof.Machine.execComisd o s
  | .vcomisd o => Sys2Proof.Machine.execVcomisd o s
  | .comiss o => Sys2Proof.Machine.execComiss o s
  | .vcomiss o => Sys2Proof.Machine.execVcomiss o s
  | .divpd o => Sys2Proof.Machine.execDivpd o s
  | .vdivpd o => Sys2Proof.Machine.execVdivpd o s
  | .divps o => Sys2Proof.Machine.execDivps o s
  | .vdivps o => Sys2Proof.Machine.execVdivps o s
  | .divsd o => Sys2Proof.Machine.execDivsd o s
  | .vdivsd o => Sys2Proof.Machine.execVdivsd o s
  | .divss o => Sys2Proof.Machine.execDivss o s
  | .vdivss o => Sys2Proof.Machine.execVdivss o s
  | .vcompresspd o => Sys2Proof.Machine.execVcompresspd o s
  | .vcompressps o => Sys2Proof.Machine.execVcompressps o s
  | .cvtdq2pd o => Sys2Proof.Machine.execCvtdq2pd o s
  | .vcvtdq2pd o => Sys2Proof.Machine.execVcvtdq2pd o s
  | .cvtdq2ps o => Sys2Proof.Machine.execCvtdq2ps o s
  | .vcvtdq2ps o => Sys2Proof.Machine.execVcvtdq2ps o s
  | .cvtpd2dq o => Sys2Proof.Machine.execCvtpd2dq o s
  | .vcvtpd2dq o => Sys2Proof.Machine.execVcvtpd2dq o s
  | .cvtpd2ps o => Sys2Proof.Machine.execCvtpd2ps o s
  | .vcvtpd2ps o => Sys2Proof.Machine.execVcvtpd2ps o s
  | .vcvtpd2qq o => Sys2Proof.Machine.execVcvtpd2qq o s
  | .vcvtpd2udq o => Sys2Proof.Machine.execVcvtpd2udq o s
  | .vcvtpd2uqq o => Sys2Proof.Machine.execVcvtpd2uqq o s
  | .vcvtph2ps o => Sys2Proof.Machine.execVcvtph2ps o s
  | .vcvtps2ph o => Sys2Proof.Machine.execVcvtps2ph o s
  | .cvtps2dq o => Sys2Proof.Machine.execCvtps2dq o s
  | .vcvtps2dq o => Sys2Proof.Machine.execVcvtps2dq o s
  | .vcvtps2udq o => Sys2Proof.Machine.execVcvtps2udq o s
  | .vcvtps2qq o => Sys2Proof.Machine.execVcvtps2qq o s
  | .vcvtps2uqq o => Sys2Proof.Machine.execVcvtps2uqq o s
  | .cvtps2pd o => Sys2Proof.Machine.execCvtps2pd o s
  | .vcvtps2pd o => Sys2Proof.Machine.execVcvtps2pd o s
  | .vcvtqq2pd o => Sys2Proof.Machine.execVcvtqq2pd o s
  | .vcvtqq2ps o => Sys2Proof.Machine.execVcvtqq2ps o s
  | .cvtsd2si o => Sys2Proof.Machine.execCvtsd2si o s
  | .vcvtsd2si o => Sys2Proof.Machine.execVcvtsd2si o s
  | .vcvtsd2usi o => Sys2Proof.Machine.execVcvtsd2usi o s
  | .cvtsd2ss o => Sys2Proof.Machine.execCvtsd2ss o s
  | .vcvtsd2ss o => Sys2Proof.Machine.execVcvtsd2ss o s
  | .cvtsi2sd o => Sys2Proof.Machine.execCvtsi2sd o s
  | .vcvtsi2sd o => Sys2Proof.Machine.execVcvtsi2sd o s
  | .cvtsi2ss o => Sys2Proof.Machine.execCvtsi2ss o s
  | .vcvtsi2ss o => Sys2Proof.Machine.execVcvtsi2ss o s
  | .cvtss2sd o => Sys2Proof.Machine.execCvtss2sd o s
  | .vcvtss2sd o => Sys2Proof.Machine.execVcvtss2sd o s
  | .cvtss2si o => Sys2Proof.Machine.execCvtss2si o s
  | .vcvtss2si o => Sys2Proof.Machine.execVcvtss2si o s
  | .vcvtss2usi o => Sys2Proof.Machine.execVcvtss2usi o s
  | .cvttpd2dq o => Sys2Proof.Machine.execCvttpd2dq o s
  | .vcvttpd2dq o => Sys2Proof.Machine.execVcvttpd2dq o s
  | .vcvttpd2qq o => Sys2Proof.Machine.execVcvttpd2qq o s
  | .vcvttpd2udq o => Sys2Proof.Machine.execVcvttpd2udq o s
  | .vcvttpd2uqq o => Sys2Proof.Machine.execVcvttpd2uqq o s
  | .cvttps2dq o => Sys2Proof.Machine.execCvttps2dq o s
  | .vcvttps2dq o => Sys2Proof.Machine.execVcvttps2dq o s
  | .vcvttps2udq o => Sys2Proof.Machine.execVcvttps2udq o s
  | .vcvttps2qq o => Sys2Proof.Machine.execVcvttps2qq o s
  | .vcvttps2uqq o => Sys2Proof.Machine.execVcvttps2uqq o s
  | .cvttsd2si o => Sys2Proof.Machine.execCvttsd2si o s
  | .vcvttsd2si o => Sys2Proof.Machine.execVcvttsd2si o s
  | .vcvttsd2usi o => Sys2Proof.Machine.execVcvttsd2usi o s
  | .cvttss2si o => Sys2Proof.Machine.execCvttss2si o s
  | .vcvttss2si o => Sys2Proof.Machine.execVcvttss2si o s
  | .vcvttss2usi o => Sys2Proof.Machine.execVcvttss2usi o s
  | .vcvtudq2pd o => Sys2Proof.Machine.execVcvtudq2pd o s
  | .vcvtudq2ps o => Sys2Proof.Machine.execVcvtudq2ps o s
  | .vcvtuqq2pd o => Sys2Proof.Machine.execVcvtuqq2pd o s
  | .vcvtuqq2ps o => Sys2Proof.Machine.execVcvtuqq2ps o s
  | .vcvtusi2sd o => Sys2Proof.Machine.execVcvtusi2sd o s
  | .vcvtusi2ss o => Sys2Proof.Machine.execVcvtusi2ss o s
  | .vdbpsadbw o => Sys2Proof.Machine.execVdbpsadbw o s
  | .vexpandpd o => Sys2Proof.Machine.execVexpandpd o s
  | .vexpandps o => Sys2Proof.Machine.execVexpandps o s
  | .vextractf128 o => Sys2Proof.Machine.execVextractf128 o s
  | .vextractf32x4 o => Sys2Proof.Machine.execVextractf32x4 o s
  | .vextractf32x4z o => Sys2Proof.Machine.execVextractf32x4z o s
  | .vextractf64x2 o => Sys2Proof.Machine.execVextractf64x2 o s
  | .vextractf32x8 o => Sys2Proof.Machine.execVextractf32x8 o s
  | .vextractf64x4z o => Sys2Proof.Machine.execVextractf64x4z o s
  | .vextracti128 o => Sys2Proof.Machine.execVextracti128 o s
  | .vextracti32x4 o => Sys2Proof.Machine.execVextracti32x4 o s
  | .vextracti32x4z o => Sys2Proof.Machine.execVextracti32x4z o s
  | .vextracti64x2 o => Sys2Proof.Machine.execVextracti64x2 o s
  | .vextracti32x8 o => Sys2Proof.Machine.execVextracti32x8 o s
  | .vextracti64x4z o => Sys2Proof.Machine.execVextracti64x4z o s
  | .extractps o => Sys2Proof.Machine.execExtractps o s
  | .vextractps o => Sys2Proof.Machine.execVextractps o s
  | .vfixupimmpd o => Sys2Proof.Machine.execVfixupimmpd o s
  | .vfixupimmps o => Sys2Proof.Machine.execVfixupimmps o s
  | .vfixupimmsd o => Sys2Proof.Machine.execVfixupimmsd o s
  | .vfixupimmss o => Sys2Proof.Machine.execVfixupimmss o s
  | .vfmadd132pd o => Sys2Proof.Machine.execVfmadd132pd o s
  | .vfmadd213pd o => Sys2Proof.Machine.execVfmadd213pd o s
  | .vfmadd231pd o => Sys2Proof.Machine.execVfmadd231pd o s
  | .vfmadd132ps o => Sys2Proof.Machine.execVfmadd132ps o s
  | .vfmadd213ps o => Sys2Proof.Machine.execVfmadd213ps o s
  | .vfmadd231ps o => Sys2Proof.Machine.execVfmadd231ps o s
  | .vfmadd132sd o => Sys2Proof.Machine.execVfmadd132sd o s
  | .vfmadd213sd o => Sys2Proof.Machine.execVfmadd213sd o s
  | .vfmadd231sd o => Sys2Proof.Machine.execVfmadd231sd o s
  | .vfmadd132ss o => Sys2Proof.Machine.execVfmadd132ss o s
  | .vfmadd213ss o => Sys2Proof.Machine.execVfmadd213ss o s
  | .vfmadd231ss o => Sys2Proof.Machine.execVfmadd231ss o s
  | .vfmaddsub132pd o => Sys2Proof.Machine.execVfmaddsub132pd o s
  | .vfmaddsub213pd o => Sys2Proof.Machine.execVfmaddsub213pd o s
  | .vfmaddsub231pd o => Sys2Proof.Machine.execVfmaddsub231pd o s
  | .vfmaddsub132ps o => Sys2Proof.Machine.execVfmaddsub132ps o s
  | .vfmaddsub213ps o => Sys2Proof.Machine.execVfmaddsub213ps o s
  | .vfmaddsub231ps o => Sys2Proof.Machine.execVfmaddsub231ps o s
  | .vfmsubadd132pd o => Sys2Proof.Machine.execVfmsubadd132pd o s
  | .vfmsubadd213pd o => Sys2Proof.Machine.execVfmsubadd213pd o s
  | .vfmsubadd231pd o => Sys2Proof.Machine.execVfmsubadd231pd o s
  | .vfmsubadd132ps o => Sys2Proof.Machine.execVfmsubadd132ps o s
  | .vfmsubadd213ps o => Sys2Proof.Machine.execVfmsubadd213ps o s
  | .vfmsubadd231ps o => Sys2Proof.Machine.execVfmsubadd231ps o s
  | .vfmsub132pd o => Sys2Proof.Machine.execVfmsub132pd o s
  | .vfmsub213pd o => Sys2Proof.Machine.execVfmsub213pd o s
  | .vfmsub231pd o => Sys2Proof.Machine.execVfmsub231pd o s
  | .vfmsub132ps o => Sys2Proof.Machine.execVfmsub132ps o s
  | .vfmsub213ps o => Sys2Proof.Machine.execVfmsub213ps o s
  | .vfmsub231ps o => Sys2Proof.Machine.execVfmsub231ps o s
  | .vfmsub132sd o => Sys2Proof.Machine.execVfmsub132sd o s
  | .vfmsub213sd o => Sys2Proof.Machine.execVfmsub213sd o s
  | .vfmsub231sd o => Sys2Proof.Machine.execVfmsub231sd o s
  | .vfmsub132ss o => Sys2Proof.Machine.execVfmsub132ss o s
  | .vfmsub213ss o => Sys2Proof.Machine.execVfmsub213ss o s
  | .vfmsub231ss o => Sys2Proof.Machine.execVfmsub231ss o s
  | .vfnmadd132pd o => Sys2Proof.Machine.execVfnmadd132pd o s
  | .vfnmadd213pd o => Sys2Proof.Machine.execVfnmadd213pd o s
  | .vfnmadd231pd o => Sys2Proof.Machine.execVfnmadd231pd o s
  | .vfnmadd132ps o => Sys2Proof.Machine.execVfnmadd132ps o s
  | .vfnmadd213ps o => Sys2Proof.Machine.execVfnmadd213ps o s
  | .vfnmadd231ps o => Sys2Proof.Machine.execVfnmadd231ps o s
  | .vfnmadd132sd o => Sys2Proof.Machine.execVfnmadd132sd o s
  | .vfnmadd213sd o => Sys2Proof.Machine.execVfnmadd213sd o s
  | .vfnmadd231sd o => Sys2Proof.Machine.execVfnmadd231sd o s
  | .vfnmadd132ss o => Sys2Proof.Machine.execVfnmadd132ss o s
  | .vfnmadd213ss o => Sys2Proof.Machine.execVfnmadd213ss o s
  | .vfnmadd231ss o => Sys2Proof.Machine.execVfnmadd231ss o s
  | .vfnmsub132pd o => Sys2Proof.Machine.execVfnmsub132pd o s
  | .vfnmsub213pd o => Sys2Proof.Machine.execVfnmsub213pd o s
  | .vfnmsub231pd o => Sys2Proof.Machine.execVfnmsub231pd o s
  | .vfnmsub132ps o => Sys2Proof.Machine.execVfnmsub132ps o s
  | .vfnmsub213ps o => Sys2Proof.Machine.execVfnmsub213ps o s
  | .vfnmsub231ps o => Sys2Proof.Machine.execVfnmsub231ps o s
  | .vfnmsub132sd o => Sys2Proof.Machine.execVfnmsub132sd o s
  | .vfnmsub213sd o => Sys2Proof.Machine.execVfnmsub213sd o s
  | .vfnmsub231sd o => Sys2Proof.Machine.execVfnmsub231sd o s
  | .vfnmsub132ss o => Sys2Proof.Machine.execVfnmsub132ss o s
  | .vfnmsub213ss o => Sys2Proof.Machine.execVfnmsub213ss o s
  | .vfnmsub231ss o => Sys2Proof.Machine.execVfnmsub231ss o s
  | .vfpclasspd o => Sys2Proof.Machine.execVfpclasspd o s
  | .vfpclassps o => Sys2Proof.Machine.execVfpclassps o s
  | .vfpclasssd o => Sys2Proof.Machine.execVfpclasssd o s
  | .vfpclassss o => Sys2Proof.Machine.execVfpclassss o s
  | .vpgatherdd o => Sys2Proof.Machine.execVpgatherdd o s
  | .vpgatherdq o => Sys2Proof.Machine.execVpgatherdq o s
  | .vpgatherqd o => Sys2Proof.Machine.execVpgatherqd o s
  | .vpgatherqq o => Sys2Proof.Machine.execVpgatherqq o s
  | .vgatherdps o => Sys2Proof.Machine.execVgatherdps o s
  | .vgatherdpd o => Sys2Proof.Machine.execVgatherdpd o s
  | .vgatherqps o => Sys2Proof.Machine.execVgatherqps o s
  | .vgatherqpd o => Sys2Proof.Machine.execVgatherqpd o s
  | .vgetexppd o => Sys2Proof.Machine.execVgetexppd o s
  | .vgetexpps o => Sys2Proof.Machine.execVgetexpps o s
  | .vgetexpsd o => Sys2Proof.Machine.execVgetexpsd o s
  | .vgetexpss o => Sys2Proof.Machine.execVgetexpss o s
  | .vgetmantpd o => Sys2Proof.Machine.execVgetmantpd o s
  | .vgetmantps o => Sys2Proof.Machine.execVgetmantps o s
  | .vgetmantsd o => Sys2Proof.Machine.execVgetmantsd o s
  | .vgetmantss o => Sys2Proof.Machine.execVgetmantss o s
  | .vinsertf128 o => Sys2Proof.Machine.execVinsertf128 o s
  | .vinsertf32x4 o => Sys2Proof.Machine.execVinsertf32x4 o s
  | .vinsertf64x2 o => Sys2Proof.Machine.execVinsertf64x2 o s
  | .vinsertf32x8 o => Sys2Proof.Machine.execVinsertf32x8 o s
  | .vinsertf64x4 o => Sys2Proof.Machine.execVinsertf64x4 o s
  | .vinserti128 o => Sys2Proof.Machine.execVinserti128 o s
  | .vinserti32x4 o => Sys2Proof.Machine.execVinserti32x4 o s
  | .vinserti64x2 o => Sys2Proof.Machine.execVinserti64x2 o s
  | .vinserti32x8 o => Sys2Proof.Machine.execVinserti32x8 o s
  | .vinserti64x4 o => Sys2Proof.Machine.execVinserti64x4 o s
  | .insertps o => Sys2Proof.Machine.execInsertps o s
  | .vinsertps o => Sys2Proof.Machine.execVinsertps o s
  | .maxpd o => Sys2Proof.Machine.execMaxpd o s
  | .vmaxpd o => Sys2Proof.Machine.execVmaxpd o s
  | .maxps o => Sys2Proof.Machine.execMaxps o s
  | .vmaxps o => Sys2Proof.Machine.execVmaxps o s
  | .maxsd o => Sys2Proof.Machine.execMaxsd o s
  | .vmaxsd o => Sys2Proof.Machine.execVmaxsd o s
  | .maxss o => Sys2Proof.Machine.execMaxss o s
  | .vmaxss o => Sys2Proof.Machine.execVmaxss o s
  | .minpd o => Sys2Proof.Machine.execMinpd o s
  | .vminpd o => Sys2Proof.Machine.execVminpd o s
  | .minps o => Sys2Proof.Machine.execMinps o s
  | .vminps o => Sys2Proof.Machine.execVminps o s
  | .minsd o => Sys2Proof.Machine.execMinsd o s
  | .vminsd o => Sys2Proof.Machine.execVminsd o s
  | .minss o => Sys2Proof.Machine.execMinss o s
  | .vminss o => Sys2Proof.Machine.execVminss o s
  | .movapd o => Sys2Proof.Machine.execMovapd o s
  | .vmovapd o => Sys2Proof.Machine.execVmovapd o s
  | .movaps o => Sys2Proof.Machine.execMovaps o s
  | .vmovaps o => Sys2Proof.Machine.execVmovaps o s
  | .movd o => Sys2Proof.Machine.execMovd o s
  | .vmovd o => Sys2Proof.Machine.execVmovd o s
  | .movq o => Sys2Proof.Machine.execMovq o s
  | .vmovq o => Sys2Proof.Machine.execVmovq o s
  | .movddup o => Sys2Proof.Machine.execMovddup o s
  | .vmovddup o => Sys2Proof.Machine.execVmovddup o s
  | .movdqa o => Sys2Proof.Machine.execMovdqa o s
  | .vmovdqa o => Sys2Proof.Machine.execVmovdqa o s
  | .vmovdqa32 o => Sys2Proof.Machine.execVmovdqa32 o s
  | .vmovdqa64 o => Sys2Proof.Machine.execVmovdqa64 o s
  | .movdqu o => Sys2Proof.Machine.execMovdqu o s
  | .vmovdqu o => Sys2Proof.Machine.execVmovdqu o s
  | .vmovdqu8 o => Sys2Proof.Machine.execVmovdqu8 o s
  | .vmovdqu16 o => Sys2Proof.Machine.execVmovdqu16 o s
  | .vmovdqu32 o => Sys2Proof.Machine.execVmovdqu32 o s
  | .vmovdqu64 o => Sys2Proof.Machine.execVmovdqu64 o s
  | .movhlps o => Sys2Proof.Machine.execMovhlps o s
  | .vmovhlps o => Sys2Proof.Machine.execVmovhlps o s
  | .movhpd o => Sys2Proof.Machine.execMovhpd o s
  | .vmovhpd o => Sys2Proof.Machine.execVmovhpd o s
  | .movhps o => Sys2Proof.Machine.execMovhps o s
  | .vmovhps o => Sys2Proof.Machine.execVmovhps o s
  | .movlhps o => Sys2Proof.Machine.execMovlhps o s
  | .vmovlhps o => Sys2Proof.Machine.execVmovlhps o s
  | .movlpd o => Sys2Proof.Machine.execMovlpd o s
  | .vmovlpd o => Sys2Proof.Machine.execVmovlpd o s
  | .movlps o => Sys2Proof.Machine.execMovlps o s
  | .vmovlps o => Sys2Proof.Machine.execVmovlps o s
  | .movntdqa o => Sys2Proof.Machine.execMovntdqa o s
  | .vmovntdqa o => Sys2Proof.Machine.execVmovntdqa o s
  | .movntdq o => Sys2Proof.Machine.execMovntdq o s
  | .vmovntdq o => Sys2Proof.Machine.execVmovntdq o s
  | .movntpd o => Sys2Proof.Machine.execMovntpd o s
  | .vmovntpd o => Sys2Proof.Machine.execVmovntpd o s
  | .movntps o => Sys2Proof.Machine.execMovntps o s
  | .vmovntps o => Sys2Proof.Machine.execVmovntps o s
  | .movsd o => Sys2Proof.Machine.execMovsd o s
  | .vmovsd o => Sys2Proof.Machine.execVmovsd o s
  | .movshdup o => Sys2Proof.Machine.execMovshdup o s
  | .vmovshdup o => Sys2Proof.Machine.execVmovshdup o s
  | .movsldup o => Sys2Proof.Machine.execMovsldup o s
  | .vmovsldup o => Sys2Proof.Machine.execVmovsldup o s
  | .movss o => Sys2Proof.Machine.execMovss o s
  | .vmovss o => Sys2Proof.Machine.execVmovss o s
  | .movupd o => Sys2Proof.Machine.execMovupd o s
  | .vmovupd o => Sys2Proof.Machine.execVmovupd o s
  | .movups o => Sys2Proof.Machine.execMovups o s
  | .vmovups o => Sys2Proof.Machine.execVmovups o s
  | .psadbw o => Sys2Proof.Machine.execPsadbw o s
  | .vpsadbw o => Sys2Proof.Machine.execVpsadbw o s
  | .mulpd o => Sys2Proof.Machine.execMulpd o s
  | .vmulpd o => Sys2Proof.Machine.execVmulpd o s
  | .mulps o => Sys2Proof.Machine.execMulps o s
  | .vmulps o => Sys2Proof.Machine.execVmulps o s
  | .mulsd o => Sys2Proof.Machine.execMulsd o s
  | .vmulsd o => Sys2Proof.Machine.execVmulsd o s
  | .mulss o => Sys2Proof.Machine.execMulss o s
  | .vmulss o => Sys2Proof.Machine.execVmulss o s
  | .orpd o => Sys2Proof.Machine.execOrpd o s
  | .vorpd o => Sys2Proof.Machine.execVorpd o s
  | .orps o => Sys2Proof.Machine.execOrps o s
  | .vorps o => Sys2Proof.Machine.execVorps o s
  | .pabsb o => Sys2Proof.Machine.execPabsb o s
  | .vpabsb o => Sys2Proof.Machine.execVpabsb o s
  | .pabsw o => Sys2Proof.Machine.execPabsw o s
  | .vpabsw o => Sys2Proof.Machine.execVpabsw o s
  | .pabsd o => Sys2Proof.Machine.execPabsd o s
  | .vpabsd o => Sys2Proof.Machine.execVpabsd o s
  | .vpabsq o => Sys2Proof.Machine.execVpabsq o s
  | .packsswb o => Sys2Proof.Machine.execPacksswb o s
  | .vpacksswb o => Sys2Proof.Machine.execVpacksswb o s
  | .packssdw o => Sys2Proof.Machine.execPackssdw o s
  | .vpackssdw o => Sys2Proof.Machine.execVpackssdw o s
  | .packusdw o => Sys2Proof.Machine.execPackusdw o s
  | .vpackusdw o => Sys2Proof.Machine.execVpackusdw o s
  | .packuswb o => Sys2Proof.Machine.execPackuswb o s
  | .vpackuswb o => Sys2Proof.Machine.execVpackuswb o s
  | .paddb o => Sys2Proof.Machine.execPaddb o s
  | .vpaddb o => Sys2Proof.Machine.execVpaddb o s
  | .paddw o => Sys2Proof.Machine.execPaddw o s
  | .vpaddw o => Sys2Proof.Machine.execVpaddw o s
  | .paddd o => Sys2Proof.Machine.execPaddd o s
  | .vpaddd o => Sys2Proof.Machine.execVpaddd o s
  | .paddq o => Sys2Proof.Machine.execPaddq o s
  | .vpaddq o => Sys2Proof.Machine.execVpaddq o s
  | .paddsb o => Sys2Proof.Machine.execPaddsb o s
  | .vpaddsb o => Sys2Proof.Machine.execVpaddsb o s
  | .paddsw o => Sys2Proof.Machine.execPaddsw o s
  | .vpaddsw o => Sys2Proof.Machine.execVpaddsw o s
  | .paddusb o => Sys2Proof.Machine.execPaddusb o s
  | .vpaddusb o => Sys2Proof.Machine.execVpaddusb o s
  | .paddusw o => Sys2Proof.Machine.execPaddusw o s
  | .vpaddusw o => Sys2Proof.Machine.execVpaddusw o s
  | .palignr o => Sys2Proof.Machine.execPalignr o s
  | .vpalignr o => Sys2Proof.Machine.execVpalignr o s
  | .pand o => Sys2Proof.Machine.execPand o s
  | .vpand o => Sys2Proof.Machine.execVpand o s
  | .vpandd o => Sys2Proof.Machine.execVpandd o s
  | .vpandq o => Sys2Proof.Machine.execVpandq o s
  | .pandn o => Sys2Proof.Machine.execPandn o s
  | .vpandn o => Sys2Proof.Machine.execVpandn o s
  | .vpandnd o => Sys2Proof.Machine.execVpandnd o s
  | .vpandnq o => Sys2Proof.Machine.execVpandnq o s
  | .pavgb o => Sys2Proof.Machine.execPavgb o s
  | .vpavgb o => Sys2Proof.Machine.execVpavgb o s
  | .pavgw o => Sys2Proof.Machine.execPavgw o s
  | .vpavgw o => Sys2Proof.Machine.execVpavgw o s
  | .vpbroadcastmb2q o => Sys2Proof.Machine.execVpbroadcastmb2q o s
  | .vpbroadcastmw2d o => Sys2Proof.Machine.execVpbroadcastmw2d o s
  | .pcmpeqb o => Sys2Proof.Machine.execPcmpeqb o s
  | .vpcmpeqb o => Sys2Proof.Machine.execVpcmpeqb o s
  | .pcmpeqw o => Sys2Proof.Machine.execPcmpeqw o s
  | .vpcmpeqw o => Sys2Proof.Machine.execVpcmpeqw o s
  | .pcmpeqd o => Sys2Proof.Machine.execPcmpeqd o s
  | .vpcmpeqd o => Sys2Proof.Machine.execVpcmpeqd o s
  | .pcmpeqq o => Sys2Proof.Machine.execPcmpeqq o s
  | .vpcmpeqq o => Sys2Proof.Machine.execVpcmpeqq o s
  | .pcmpgtb o => Sys2Proof.Machine.execPcmpgtb o s
  | .vpcmpgtb o => Sys2Proof.Machine.execVpcmpgtb o s
  | .pcmpgtw o => Sys2Proof.Machine.execPcmpgtw o s
  | .vpcmpgtw o => Sys2Proof.Machine.execVpcmpgtw o s
  | .pcmpgtd o => Sys2Proof.Machine.execPcmpgtd o s
  | .vpcmpgtd o => Sys2Proof.Machine.execVpcmpgtd o s
  | .pcmpgtq o => Sys2Proof.Machine.execPcmpgtq o s
  | .vpcmpgtq o => Sys2Proof.Machine.execVpcmpgtq o s
  | .vpcmpb o => Sys2Proof.Machine.execVpcmpb o s
  | .vpcmpub o => Sys2Proof.Machine.execVpcmpub o s
  | .vpcmpd o => Sys2Proof.Machine.execVpcmpd o s
  | .vpcmpud o => Sys2Proof.Machine.execVpcmpud o s
  | .vpcmpq o => Sys2Proof.Machine.execVpcmpq o s
  | .vpcmpuq o => Sys2Proof.Machine.execVpcmpuq o s
  | .vpcmpw o => Sys2Proof.Machine.execVpcmpw o s
  | .vpcmpuw o => Sys2Proof.Machine.execVpcmpuw o s
  | .vpcompressd o => Sys2Proof.Machine.execVpcompressd o s
  | .vpcompressq o => Sys2Proof.Machine.execVpcompressq o s
  | .vpconflictd o => Sys2Proof.Machine.execVpconflictd o s
  | .vpconflictq o => Sys2Proof.Machine.execVpconflictq o s
  | .vpermb o => Sys2Proof.Machine.execVpermb o s
  | .vpermd o => Sys2Proof.Machine.execVpermd o s
  | .vpermw o => Sys2Proof.Machine.execVpermw o s
  | .vpermi2b o => Sys2Proof.Machine.execVpermi2b o s
  | .vpermi2w o => Sys2Proof.Machine.execVpermi2w o s
  | .vpermi2d o => Sys2Proof.Machine.execVpermi2d o s
  | .vpermi2q o => Sys2Proof.Machine.execVpermi2q o s
  | .vpermi2ps o => Sys2Proof.Machine.execVpermi2ps o s
  | .vpermi2pd o => Sys2Proof.Machine.execVpermi2pd o s
  | .vpermt2b o => Sys2Proof.Machine.execVpermt2b o s
  | .vpermt2w o => Sys2Proof.Machine.execVpermt2w o s
  | .vpermt2d o => Sys2Proof.Machine.execVpermt2d o s
  | .vpermt2q o => Sys2Proof.Machine.execVpermt2q o s
  | .vpermt2ps o => Sys2Proof.Machine.execVpermt2ps o s
  | .vpermt2pd o => Sys2Proof.Machine.execVpermt2pd o s
  | .vpermilpd o => Sys2Proof.Machine.execVpermilpd o s
  | .vpermilps o => Sys2Proof.Machine.execVpermilps o s
  | .vpermpd o => Sys2Proof.Machine.execVpermpd o s
  | .vpermps o => Sys2Proof.Machine.execVpermps o s
  | .vpermq o => Sys2Proof.Machine.execVpermq o s
  | .vpexpandd o => Sys2Proof.Machine.execVpexpandd o s
  | .vpexpandq o => Sys2Proof.Machine.execVpexpandq o s
  | .pextrb o => Sys2Proof.Machine.execPextrb o s
  | .vpextrb o => Sys2Proof.Machine.execVpextrb o s
  | .pextrw o => Sys2Proof.Machine.execPextrw o s
  | .vpextrw o => Sys2Proof.Machine.execVpextrw o s
  | .pextrd o => Sys2Proof.Machine.execPextrd o s
  | .vpextrd o => Sys2Proof.Machine.execVpextrd o s
  | .pextrq o => Sys2Proof.Machine.execPextrq o s
  | .vpextrq o => Sys2Proof.Machine.execVpextrq o s
  | .vplzcntd o => Sys2Proof.Machine.execVplzcntd o s
  | .vplzcntq o => Sys2Proof.Machine.execVplzcntq o s
  | .pmaddubsw o => Sys2Proof.Machine.execPmaddubsw o s
  | .vpmaddubsw o => Sys2Proof.Machine.execVpmaddubsw o s
  | .pmaddwd o => Sys2Proof.Machine.execPmaddwd o s
  | .vpmaddwd o => Sys2Proof.Machine.execVpmaddwd o s
  | .pinsrb o => Sys2Proof.Machine.execPinsrb o s
  | .vpinsrb o => Sys2Proof.Machine.execVpinsrb o s
  | .pinsrw o => Sys2Proof.Machine.execPinsrw o s
  | .vpinsrw o => Sys2Proof.Machine.execVpinsrw o s
  | .pinsrd o => Sys2Proof.Machine.execPinsrd o s
  | .vpinsrd o => Sys2Proof.Machine.execVpinsrd o s
  | .pinsrq o => Sys2Proof.Machine.execPinsrq o s
  | .vpinsrq o => Sys2Proof.Machine.execVpinsrq o s
  | .vpmadd52luq o => Sys2Proof.Machine.execVpmadd52luq o s
  | .vpmadd52huq o => Sys2Proof.Machine.execVpmadd52huq o s
  | .pmaxsb o => Sys2Proof.Machine.execPmaxsb o s
  | .vpmaxsb o => Sys2Proof.Machine.execVpmaxsb o s
  | .pmaxsw o => Sys2Proof.Machine.execPmaxsw o s
  | .vpmaxsw o => Sys2Proof.Machine.execVpmaxsw o s
  | .pmaxsd o => Sys2Proof.Machine.execPmaxsd o s
  | .vpmaxsd o => Sys2Proof.Machine.execVpmaxsd o s
  | .vpmaxsq o => Sys2Proof.Machine.execVpmaxsq o s
  | .pmaxub o => Sys2Proof.Machine.execPmaxub o s
  | .vpmaxub o => Sys2Proof.Machine.execVpmaxub o s
  | .pmaxuw o => Sys2Proof.Machine.execPmaxuw o s
  | .vpmaxuw o => Sys2Proof.Machine.execVpmaxuw o s
  | .pmaxud o => Sys2Proof.Machine.execPmaxud o s
  | .vpmaxud o => Sys2Proof.Machine.execVpmaxud o s
  | .vpmaxuq o => Sys2Proof.Machine.execVpmaxuq o s
  | .pminsb o => Sys2Proof.Machine.execPminsb o s
  | .vpminsb o => Sys2Proof.Machine.execVpminsb o s
  | .pminsw o => Sys2Proof.Machine.execPminsw o s
  | .vpminsw o => Sys2Proof.Machine.execVpminsw o s
  | .pminsd o => Sys2Proof.Machine.execPminsd o s
  | .vpminsd o => Sys2Proof.Machine.execVpminsd o s
  | .vpminsq o => Sys2Proof.Machine.execVpminsq o s
  | .pminub o => Sys2Proof.Machine.execPminub o s
  | .vpminub o => Sys2Proof.Machine.execVpminub o s
  | .pminuw o => Sys2Proof.Machine.execPminuw o s
  | .vpminuw o => Sys2Proof.Machine.execVpminuw o s
  | .pminud o => Sys2Proof.Machine.execPminud o s
  | .vpminud o => Sys2Proof.Machine.execVpminud o s
  | .vpminuq o => Sys2Proof.Machine.execVpminuq o s
  | .vpmovm2b o => Sys2Proof.Machine.execVpmovm2b o s
  | .vpmovm2w o => Sys2Proof.Machine.execVpmovm2w o s
  | .vpmovm2d o => Sys2Proof.Machine.execVpmovm2d o s
  | .vpmovm2q o => Sys2Proof.Machine.execVpmovm2q o s
  | .vpmovb2m o => Sys2Proof.Machine.execVpmovb2m o s
  | .vpmovw2m o => Sys2Proof.Machine.execVpmovw2m o s
  | .vpmovd2m o => Sys2Proof.Machine.execVpmovd2m o s
  | .vpmovq2m o => Sys2Proof.Machine.execVpmovq2m o s
  | .vpmovqb o => Sys2Proof.Machine.execVpmovqb o s
  | .vpmovsqb o => Sys2Proof.Machine.execVpmovsqb o s
  | .vpmovusqb o => Sys2Proof.Machine.execVpmovusqb o s
  | .vpmovqw o => Sys2Proof.Machine.execVpmovqw o s
  | .vpmovsqw o => Sys2Proof.Machine.execVpmovsqw o s
  | .vpmovusqw o => Sys2Proof.Machine.execVpmovusqw o s
  | .vpmovqd o => Sys2Proof.Machine.execVpmovqd o s
  | .vpmovsqd o => Sys2Proof.Machine.execVpmovsqd o s
  | .vpmovusqd o => Sys2Proof.Machine.execVpmovusqd o s
  | .vpmovdb o => Sys2Proof.Machine.execVpmovdb o s
  | .vpmovsdb o => Sys2Proof.Machine.execVpmovsdb o s
  | .vpmovusdb o => Sys2Proof.Machine.execVpmovusdb o s
  | .vpmovdw o => Sys2Proof.Machine.execVpmovdw o s
  | .vpmovsdw o => Sys2Proof.Machine.execVpmovsdw o s
  | .vpmovusdw o => Sys2Proof.Machine.execVpmovusdw o s
  | .vpmovwb o => Sys2Proof.Machine.execVpmovwb o s
  | .vpmovswb o => Sys2Proof.Machine.execVpmovswb o s
  | .vpmovuswb o => Sys2Proof.Machine.execVpmovuswb o s
  | .pmovsxbw o => Sys2Proof.Machine.execPmovsxbw o s
  | .vpmovsxbw o => Sys2Proof.Machine.execVpmovsxbw o s
  | .pmovsxbd o => Sys2Proof.Machine.execPmovsxbd o s
  | .vpmovsxbd o => Sys2Proof.Machine.execVpmovsxbd o s
  | .pmovsxbq o => Sys2Proof.Machine.execPmovsxbq o s
  | .vpmovsxbq o => Sys2Proof.Machine.execVpmovsxbq o s
  | .pmovsxwd o => Sys2Proof.Machine.execPmovsxwd o s
  | .vpmovsxwd o => Sys2Proof.Machine.execVpmovsxwd o s
  | .pmovsxwq o => Sys2Proof.Machine.execPmovsxwq o s
  | .vpmovsxwq o => Sys2Proof.Machine.execVpmovsxwq o s
  | .pmovsxdq o => Sys2Proof.Machine.execPmovsxdq o s
  | .vpmovsxdq o => Sys2Proof.Machine.execVpmovsxdq o s
  | .pmovzxbw o => Sys2Proof.Machine.execPmovzxbw o s
  | .vpmovzxbw o => Sys2Proof.Machine.execVpmovzxbw o s
  | .pmovzxbd o => Sys2Proof.Machine.execPmovzxbd o s
  | .vpmovzxbd o => Sys2Proof.Machine.execVpmovzxbd o s
  | .pmovzxbq o => Sys2Proof.Machine.execPmovzxbq o s
  | .vpmovzxbq o => Sys2Proof.Machine.execVpmovzxbq o s
  | .pmovzxwd o => Sys2Proof.Machine.execPmovzxwd o s
  | .vpmovzxwd o => Sys2Proof.Machine.execVpmovzxwd o s
  | .pmovzxwq o => Sys2Proof.Machine.execPmovzxwq o s
  | .vpmovzxwq o => Sys2Proof.Machine.execVpmovzxwq o s
  | .pmovzxdq o => Sys2Proof.Machine.execPmovzxdq o s
  | .vpmovzxdq o => Sys2Proof.Machine.execVpmovzxdq o s
  | .pmuldq o => Sys2Proof.Machine.execPmuldq o s
  | .vpmuldq o => Sys2Proof.Machine.execVpmuldq o s
  | .pmulhrsw o => Sys2Proof.Machine.execPmulhrsw o s
  | .vpmulhrsw o => Sys2Proof.Machine.execVpmulhrsw o s
  | .pmulhuw o => Sys2Proof.Machine.execPmulhuw o s
  | .vpmulhuw o => Sys2Proof.Machine.execVpmulhuw o s
  | .pmulhw o => Sys2Proof.Machine.execPmulhw o s
  | .vpmulhw o => Sys2Proof.Machine.execVpmulhw o s
  | .pmulld o => Sys2Proof.Machine.execPmulld o s
  | .vpmulld o => Sys2Proof.Machine.execVpmulld o s
  | .vpmullq o => Sys2Proof.Machine.execVpmullq o s
  | .pmullw o => Sys2Proof.Machine.execPmullw o s
  | .vpmullw o => Sys2Proof.Machine.execVpmullw o s
  | .vpmultishiftqb o => Sys2Proof.Machine.execVpmultishiftqb o s
  | .pmuludq o => Sys2Proof.Machine.execPmuludq o s
  | .vpmuludq o => Sys2Proof.Machine.execVpmuludq o s
  | .por o => Sys2Proof.Machine.execPor o s
  | .vpor o => Sys2Proof.Machine.execVpor o s
  | .vpord o => Sys2Proof.Machine.execVpord o s
  | .vporq o => Sys2Proof.Machine.execVporq o s
  | .vprold o => Sys2Proof.Machine.execVprold o s
  | .vprolvd o => Sys2Proof.Machine.execVprolvd o s
  | .vprolq o => Sys2Proof.Machine.execVprolq o s
  | .vprolvq o => Sys2Proof.Machine.execVprolvq o s
  | .vprord o => Sys2Proof.Machine.execVprord o s
  | .vprorvd o => Sys2Proof.Machine.execVprorvd o s
  | .vprorq o => Sys2Proof.Machine.execVprorq o s
  | .vprorvq o => Sys2Proof.Machine.execVprorvq o s
  | .vpscatterdd o => Sys2Proof.Machine.execVpscatterdd o s
  | .vpscatterdq o => Sys2Proof.Machine.execVpscatterdq o s
  | .vpscatterqd o => Sys2Proof.Machine.execVpscatterqd o s
  | .vpscatterqq o => Sys2Proof.Machine.execVpscatterqq o s
  | .pshufb o => Sys2Proof.Machine.execPshufb o s
  | .vpshufb o => Sys2Proof.Machine.execVpshufb o s
  | .pshufhw o => Sys2Proof.Machine.execPshufhw o s
  | .vpshufhw o => Sys2Proof.Machine.execVpshufhw o s
  | .pshuflw o => Sys2Proof.Machine.execPshuflw o s
  | .vpshuflw o => Sys2Proof.Machine.execVpshuflw o s
  | .pshufd o => Sys2Proof.Machine.execPshufd o s
  | .vpshufd o => Sys2Proof.Machine.execVpshufd o s
  | .pslldq o => Sys2Proof.Machine.execPslldq o s
  | .vpslldq o => Sys2Proof.Machine.execVpslldq o s
  | .psllw o => Sys2Proof.Machine.execPsllw o s
  | .vpsllw o => Sys2Proof.Machine.execVpsllw o s
  | .pslld o => Sys2Proof.Machine.execPslld o s
  | .vpslld o => Sys2Proof.Machine.execVpslld o s
  | .psllq o => Sys2Proof.Machine.execPsllq o s
  | .vpsllq o => Sys2Proof.Machine.execVpsllq o s
  | .psraw o => Sys2Proof.Machine.execPsraw o s
  | .vpsraw o => Sys2Proof.Machine.execVpsraw o s
  | .psrad o => Sys2Proof.Machine.execPsrad o s
  | .vpsrad o => Sys2Proof.Machine.execVpsrad o s
  | .vpsraq o => Sys2Proof.Machine.execVpsraq o s
  | .psrldq o => Sys2Proof.Machine.execPsrldq o s
  | .vpsrldq o => Sys2Proof.Machine.execVpsrldq o s
  | .psrlw o => Sys2Proof.Machine.execPsrlw o s
  | .vpsrlw o => Sys2Proof.Machine.execVpsrlw o s
  | .psrld o => Sys2Proof.Machine.execPsrld o s
  | .vpsrld o => Sys2Proof.Machine.execVpsrld o s
  | .psrlq o => Sys2Proof.Machine.execPsrlq o s
  | .vpsrlq o => Sys2Proof.Machine.execVpsrlq o s
  | .vpsllvw o => Sys2Proof.Machine.execVpsllvw o s
  | .vpsllvd o => Sys2Proof.Machine.execVpsllvd o s
  | .vpsllvq o => Sys2Proof.Machine.execVpsllvq o s
  | .vpsrlvw o => Sys2Proof.Machine.execVpsrlvw o s
  | .vpsrlvd o => Sys2Proof.Machine.execVpsrlvd o s
  | .vpsrlvq o => Sys2Proof.Machine.execVpsrlvq o s
  | .psubb o => Sys2Proof.Machine.execPsubb o s
  | .vpsubb o => Sys2Proof.Machine.execVpsubb o s
  | .psubw o => Sys2Proof.Machine.execPsubw o s
  | .vpsubw o => Sys2Proof.Machine.execVpsubw o s
  | .psubd o => Sys2Proof.Machine.execPsubd o s
  | .vpsubd o => Sys2Proof.Machine.execVpsubd o s
  | .psubq o => Sys2Proof.Machine.execPsubq o s
  | .vpsubq o => Sys2Proof.Machine.execVpsubq o s
  | .psubsb o => Sys2Proof.Machine.execPsubsb o s
  | .vpsubsb o => Sys2Proof.Machine.execVpsubsb o s
  | .psubsw o => Sys2Proof.Machine.execPsubsw o s
  | .vpsubsw o => Sys2Proof.Machine.execVpsubsw o s
  | .psubusb o => Sys2Proof.Machine.execPsubusb o s
  | .vpsubusb o => Sys2Proof.Machine.execVpsubusb o s
  | .psubusw o => Sys2Proof.Machine.execPsubusw o s
  | .vpsubusw o => Sys2Proof.Machine.execVpsubusw o s
  | .vptestnmb o => Sys2Proof.Machine.execVptestnmb o s
  | .vptestnmw o => Sys2Proof.Machine.execVptestnmw o s
  | .vptestnmd o => Sys2Proof.Machine.execVptestnmd o s
  | .vptestnmq o => Sys2Proof.Machine.execVptestnmq o s
  | .punpckhbw o => Sys2Proof.Machine.execPunpckhbw o s
  | .vpunpckhbw o => Sys2Proof.Machine.execVpunpckhbw o s
  | .punpckhwd o => Sys2Proof.Machine.execPunpckhwd o s
  | .vpunpckhwd o => Sys2Proof.Machine.execVpunpckhwd o s
  | .punpckhdq o => Sys2Proof.Machine.execPunpckhdq o s
  | .vpunpckhdq o => Sys2Proof.Machine.execVpunpckhdq o s
  | .punpckhqdq o => Sys2Proof.Machine.execPunpckhqdq o s
  | .vpunpckhqdq o => Sys2Proof.Machine.execVpunpckhqdq o s
  | .punpcklbw o => Sys2Proof.Machine.execPunpcklbw o s
  | .vpunpcklbw o => Sys2Proof.Machine.execVpunpcklbw o s
  | .punpcklwd o => Sys2Proof.Machine.execPunpcklwd o s
  | .vpunpcklwd o => Sys2Proof.Machine.execVpunpcklwd o s
  | .punpckldq o => Sys2Proof.Machine.execPunpckldq o s
  | .vpunpckldq o => Sys2Proof.Machine.execVpunpckldq o s
  | .punpcklqdq o => Sys2Proof.Machine.execPunpcklqdq o s
  | .vpunpcklqdq o => Sys2Proof.Machine.execVpunpcklqdq o s
  | .vshuff32x4 o => Sys2Proof.Machine.execVshuff32x4 o s
  | .vshuff64x2 o => Sys2Proof.Machine.execVshuff64x2 o s
  | .vshufi32x4 o => Sys2Proof.Machine.execVshufi32x4 o s
  | .vshufi64x2 o => Sys2Proof.Machine.execVshufi64x2 o s
  | .shufpd o => Sys2Proof.Machine.execShufpd o s
  | .vshufpd o => Sys2Proof.Machine.execVshufpd o s
  | .shufps o => Sys2Proof.Machine.execShufps o s
  | .vshufps o => Sys2Proof.Machine.execVshufps o s
  | .sqrtpd o => Sys2Proof.Machine.execSqrtpd o s
  | .vsqrtpd o => Sys2Proof.Machine.execVsqrtpd o s
  | .sqrtps o => Sys2Proof.Machine.execSqrtps o s
  | .vsqrtps o => Sys2Proof.Machine.execVsqrtps o s
  | .sqrtsd o => Sys2Proof.Machine.execSqrtsd o s
  | .vsqrtsd o => Sys2Proof.Machine.execVsqrtsd o s
  | .sqrtss o => Sys2Proof.Machine.execSqrtss o s
  | .vsqrtss o => Sys2Proof.Machine.execVsqrtss o s
  | .vpternlogd o => Sys2Proof.Machine.execVpternlogd o s
  | .vpternlogq o => Sys2Proof.Machine.execVpternlogq o s
  | .vptestmb o => Sys2Proof.Machine.execVptestmb o s
  | .vptestmw o => Sys2Proof.Machine.execVptestmw o s
  | .vptestmd o => Sys2Proof.Machine.execVptestmd o s
  | .vptestmq o => Sys2Proof.Machine.execVptestmq o s
  | .vpsravw o => Sys2Proof.Machine.execVpsravw o s
  | .vpsravd o => Sys2Proof.Machine.execVpsravd o s
  | .vpsravq o => Sys2Proof.Machine.execVpsravq o s
  | .pxor o => Sys2Proof.Machine.execPxor o s
  | .vpxor o => Sys2Proof.Machine.execVpxor o s
  | .vpxord o => Sys2Proof.Machine.execVpxord o s
  | .vpxorq o => Sys2Proof.Machine.execVpxorq o s
  | .vrangepd o => Sys2Proof.Machine.execVrangepd o s
  | .vrangeps o => Sys2Proof.Machine.execVrangeps o s
  | .vrangesd o => Sys2Proof.Machine.execVrangesd o s
  | .vrangess o => Sys2Proof.Machine.execVrangess o s
  | .vrcp14pd o => Sys2Proof.Machine.execVrcp14pd o s
  | .vrcp14sd o => Sys2Proof.Machine.execVrcp14sd o s
  | .vrcp14ps o => Sys2Proof.Machine.execVrcp14ps o s
  | .vrcp14ss o => Sys2Proof.Machine.execVrcp14ss o s
  | .vreducepd o => Sys2Proof.Machine.execVreducepd o s
  | .vreducesd o => Sys2Proof.Machine.execVreducesd o s
  | .vreduceps o => Sys2Proof.Machine.execVreduceps o s
  | .vreducess o => Sys2Proof.Machine.execVreducess o s
  | .vrndscalepd o => Sys2Proof.Machine.execVrndscalepd o s
  | .vrndscalesd o => Sys2Proof.Machine.execVrndscalesd o s
  | .vrndscaleps o => Sys2Proof.Machine.execVrndscaleps o s
  | .vrndscaless o => Sys2Proof.Machine.execVrndscaless o s
  | .vrsqrt14pd o => Sys2Proof.Machine.execVrsqrt14pd o s
  | .vrsqrt14sd o => Sys2Proof.Machine.execVrsqrt14sd o s
  | .vrsqrt14ps o => Sys2Proof.Machine.execVrsqrt14ps o s
  | .vrsqrt14ss o => Sys2Proof.Machine.execVrsqrt14ss o s
  | .vscalefpd o => Sys2Proof.Machine.execVscalefpd o s
  | .vscalefsd o => Sys2Proof.Machine.execVscalefsd o s
  | .vscalefps o => Sys2Proof.Machine.execVscalefps o s
  | .vscalefss o => Sys2Proof.Machine.execVscalefss o s
  | .vscatterdps o => Sys2Proof.Machine.execVscatterdps o s
  | .vscatterdpd o => Sys2Proof.Machine.execVscatterdpd o s
  | .vscatterqps o => Sys2Proof.Machine.execVscatterqps o s
  | .vscatterqpd o => Sys2Proof.Machine.execVscatterqpd o s
  | .subpd o => Sys2Proof.Machine.execSubpd o s
  | .vsubpd o => Sys2Proof.Machine.execVsubpd o s
  | .subps o => Sys2Proof.Machine.execSubps o s
  | .vsubps o => Sys2Proof.Machine.execVsubps o s
  | .subsd o => Sys2Proof.Machine.execSubsd o s
  | .vsubsd o => Sys2Proof.Machine.execVsubsd o s
  | .subss o => Sys2Proof.Machine.execSubss o s
  | .vsubss o => Sys2Proof.Machine.execVsubss o s
  | .ucomisd o => Sys2Proof.Machine.execUcomisd o s
  | .vucomisd o => Sys2Proof.Machine.execVucomisd o s
  | .ucomiss o => Sys2Proof.Machine.execUcomiss o s
  | .vucomiss o => Sys2Proof.Machine.execVucomiss o s
  | .unpckhpd o => Sys2Proof.Machine.execUnpckhpd o s
  | .vunpckhpd o => Sys2Proof.Machine.execVunpckhpd o s
  | .unpckhps o => Sys2Proof.Machine.execUnpckhps o s
  | .vunpckhps o => Sys2Proof.Machine.execVunpckhps o s
  | .unpcklpd o => Sys2Proof.Machine.execUnpcklpd o s
  | .vunpcklpd o => Sys2Proof.Machine.execVunpcklpd o s
  | .unpcklps o => Sys2Proof.Machine.execUnpcklps o s
  | .vunpcklps o => Sys2Proof.Machine.execVunpcklps o s
  | .xorpd o => Sys2Proof.Machine.execXorpd o s
  | .vxorpd o => Sys2Proof.Machine.execVxorpd o s
  | .xorps o => Sys2Proof.Machine.execXorps o s
  | .vxorps o => Sys2Proof.Machine.execVxorps o s
  | .kaddw o => Sys2Proof.Machine.execKaddw o s
  | .kaddb o => Sys2Proof.Machine.execKaddb o s
  | .kaddq o => Sys2Proof.Machine.execKaddq o s
  | .kaddd o => Sys2Proof.Machine.execKaddd o s
  | .kandw o => Sys2Proof.Machine.execKandw o s
  | .kandb o => Sys2Proof.Machine.execKandb o s
  | .kandq o => Sys2Proof.Machine.execKandq o s
  | .kandd o => Sys2Proof.Machine.execKandd o s
  | .kandnw o => Sys2Proof.Machine.execKandnw o s
  | .kandnb o => Sys2Proof.Machine.execKandnb o s
  | .kandnq o => Sys2Proof.Machine.execKandnq o s
  | .kandnd o => Sys2Proof.Machine.execKandnd o s
  | .korw o => Sys2Proof.Machine.execKorw o s
  | .korb o => Sys2Proof.Machine.execKorb o s
  | .korq o => Sys2Proof.Machine.execKorq o s
  | .kord o => Sys2Proof.Machine.execKord o s
  | .kxnorw o => Sys2Proof.Machine.execKxnorw o s
  | .kxnorb o => Sys2Proof.Machine.execKxnorb o s
  | .kxnorq o => Sys2Proof.Machine.execKxnorq o s
  | .kxnord o => Sys2Proof.Machine.execKxnord o s
  | .kxorw o => Sys2Proof.Machine.execKxorw o s
  | .kxorb o => Sys2Proof.Machine.execKxorb o s
  | .kxorq o => Sys2Proof.Machine.execKxorq o s
  | .kxord o => Sys2Proof.Machine.execKxord o s
  | .knotw o => Sys2Proof.Machine.execKnotw o s
  | .knotb o => Sys2Proof.Machine.execKnotb o s
  | .knotq o => Sys2Proof.Machine.execKnotq o s
  | .knotd o => Sys2Proof.Machine.execKnotd o s
  | .kmovw o => Sys2Proof.Machine.execKmovw o s
  | .kmovb o => Sys2Proof.Machine.execKmovb o s
  | .kmovq o => Sys2Proof.Machine.execKmovq o s
  | .kmovd o => Sys2Proof.Machine.execKmovd o s
  | .kunpckbw o => Sys2Proof.Machine.execKunpckbw o s
  | .kunpckwd o => Sys2Proof.Machine.execKunpckwd o s
  | .kunpckdq o => Sys2Proof.Machine.execKunpckdq o s
  | .kortestw o => Sys2Proof.Machine.execKortestw o s
  | .kortestb o => Sys2Proof.Machine.execKortestb o s
  | .kortestq o => Sys2Proof.Machine.execKortestq o s
  | .kortestd o => Sys2Proof.Machine.execKortestd o s
  | .ktestw o => Sys2Proof.Machine.execKtestw o s
  | .ktestb o => Sys2Proof.Machine.execKtestb o s
  | .ktestq o => Sys2Proof.Machine.execKtestq o s
  | .ktestd o => Sys2Proof.Machine.execKtestd o s
  | .kshiftlw o => Sys2Proof.Machine.execKshiftlw o s
  | .kshiftlb o => Sys2Proof.Machine.execKshiftlb o s
  | .kshiftlq o => Sys2Proof.Machine.execKshiftlq o s
  | .kshiftld o => Sys2Proof.Machine.execKshiftld o s
  | .kshiftrw o => Sys2Proof.Machine.execKshiftrw o s
  | .kshiftrb o => Sys2Proof.Machine.execKshiftrb o s
  | .kshiftrq o => Sys2Proof.Machine.execKshiftrq o s
  | .kshiftrd o => Sys2Proof.Machine.execKshiftrd o s
  | .vexp2pd o => Sys2Proof.Machine.execVexp2pd o s
  | .vexp2ps o => Sys2Proof.Machine.execVexp2ps o s
  | .vrcp28pd o => Sys2Proof.Machine.execVrcp28pd o s
  | .vrcp28sd o => Sys2Proof.Machine.execVrcp28sd o s
  | .vrcp28ps o => Sys2Proof.Machine.execVrcp28ps o s
  | .vrcp28ss o => Sys2Proof.Machine.execVrcp28ss o s
  | .vrsqrt28pd o => Sys2Proof.Machine.execVrsqrt28pd o s
  | .vrsqrt28sd o => Sys2Proof.Machine.execVrsqrt28sd o s
  | .vrsqrt28ps o => Sys2Proof.Machine.execVrsqrt28ps o s
  | .vrsqrt28ss o => Sys2Proof.Machine.execVrsqrt28ss o s
  | .vgatherpf0dps o => Sys2Proof.Machine.execVgatherpf0dps o s
  | .vgatherpf0qps o => Sys2Proof.Machine.execVgatherpf0qps o s
  | .vgatherpf0dpd o => Sys2Proof.Machine.execVgatherpf0dpd o s
  | .vgatherpf0qpd o => Sys2Proof.Machine.execVgatherpf0qpd o s
  | .vgatherpf1dps o => Sys2Proof.Machine.execVgatherpf1dps o s
  | .vgatherpf1qps o => Sys2Proof.Machine.execVgatherpf1qps o s
  | .vgatherpf1dpd o => Sys2Proof.Machine.execVgatherpf1dpd o s
  | .vgatherpf1qpd o => Sys2Proof.Machine.execVgatherpf1qpd o s
  | .vscatterpf0dps o => Sys2Proof.Machine.execVscatterpf0dps o s
  | .vscatterpf0qps o => Sys2Proof.Machine.execVscatterpf0qps o s
  | .vscatterpf0dpd o => Sys2Proof.Machine.execVscatterpf0dpd o s
  | .vscatterpf0qpd o => Sys2Proof.Machine.execVscatterpf0qpd o s
  | .vscatterpf1dps o => Sys2Proof.Machine.execVscatterpf1dps o s
  | .vscatterpf1qps o => Sys2Proof.Machine.execVscatterpf1qps o s
  | .vscatterpf1dpd o => Sys2Proof.Machine.execVscatterpf1dpd o s
  | .vscatterpf1qpd o => Sys2Proof.Machine.execVscatterpf1qpd o s
  | .sha1rnds4 o => Sys2Proof.Machine.execSha1rnds4 o s
  | .sha1nexte o => Sys2Proof.Machine.execSha1nexte o s
  | .sha1msg1 o => Sys2Proof.Machine.execSha1msg1 o s
  | .sha1msg2 o => Sys2Proof.Machine.execSha1msg2 o s
  | .sha256rnds2 o => Sys2Proof.Machine.execSha256rnds2 o s
  | .sha256msg1 o => Sys2Proof.Machine.execSha256msg1 o s
  | .sha256msg2 o => Sys2Proof.Machine.execSha256msg2 o s
  | .prefetchwt1 o => Sys2Proof.Machine.execPrefetchwt1 o s
  | .clwb o => Sys2Proof.Machine.execClwb o s
  | .pcommit => Sys2Proof.Machine.execPcommit s

end Sys2Proof.Machine
end

