-- ==== Sys2Proof/Machine/Mnemonic.lean ====
section
/-! DEFINITION. The names of the instructions as a plain enumeration, with the rows of each. The decoder's table and `step`
work with a name and fields; `Mnemonic.make` puts the two together as an `Instr`. (Lean can run no code that builds a value
of a type with as many constructors with fields as `Instr` has; on a plain enumeration it can.) -/

namespace Sys2Proof.Machine

/-- The mnemonics of spec/opcode_table.json, in its order. -/
inductive Mnemonic where
  | cpuid | addpd | vaddpd | addps | vaddps | addsd | vaddsd | addss | vaddss | valignd | valignq | vblendmpd
  | vblendmps | vpblendmb | vpblendmw | vpblendmd | vpblendmq | andpd | vandpd | andps | vandps | andnpd | vandnpd
  | andnps | vandnps | vbroadcastss | vbroadcastsd | vbroadcastf128 | vbroadcastf32x2 | vbroadcastf32x4
  | vbroadcastf64x2 | vbroadcastf32x8 | vbroadcastf64x4 | vpbroadcastb | vpbroadcastw | vpbroadcastd | vpbroadcastq
  | vbroadcasti32x2 | vbroadcasti128 | vbroadcasti32x4 | vbroadcasti64x2 | vbroadcasti32x8 | vbroadcasti64x4 | cmppd
  | vcmppd | cmpps | vcmpps | cmpsd | vcmpsd | cmpss | vcmpss | comisd | vcomisd | comiss | vcomiss | divpd | vdivpd
  | divps | vdivps | divsd | vdivsd | divss | vdivss | vcompresspd | vcompressps | cvtdq2pd | vcvtdq2pd | cvtdq2ps
  | vcvtdq2ps | cvtpd2dq | vcvtpd2dq | cvtpd2ps | vcvtpd2ps | vcvtpd2qq | vcvtpd2udq | vcvtpd2uqq | vcvtph2ps
  | vcvtps2ph | cvtps2dq | vcvtps2dq | vcvtps2udq | vcvtps2qq | vcvtps2uqq | cvtps2pd | vcvtps2pd | vcvtqq2pd
  | vcvtqq2ps | cvtsd2si | vcvtsd2si | vcvtsd2usi | cvtsd2ss | vcvtsd2ss | cvtsi2sd | vcvtsi2sd | cvtsi2ss | vcvtsi2ss
  | cvtss2sd | vcvtss2sd | cvtss2si | vcvtss2si | vcvtss2usi | cvttpd2dq | vcvttpd2dq | vcvttpd2qq | vcvttpd2udq
  | vcvttpd2uqq | cvttps2dq | vcvttps2dq | vcvttps2udq | vcvttps2qq | vcvttps2uqq | cvttsd2si | vcvttsd2si
  | vcvttsd2usi | cvttss2si | vcvttss2si | vcvttss2usi | vcvtudq2pd | vcvtudq2ps | vcvtuqq2pd | vcvtuqq2ps
  | vcvtusi2sd | vcvtusi2ss | vdbpsadbw | vexpandpd | vexpandps | vextractf128 | vextractf32x4 | vextractf32x4z
  | vextractf64x2 | vextractf32x8 | vextractf64x4z | vextracti128 | vextracti32x4 | vextracti32x4z | vextracti64x2
  | vextracti32x8 | vextracti64x4z | extractps | vextractps | vfixupimmpd | vfixupimmps | vfixupimmsd | vfixupimmss
  | vfmadd132pd | vfmadd213pd | vfmadd231pd | vfmadd132ps | vfmadd213ps | vfmadd231ps | vfmadd132sd | vfmadd213sd
  | vfmadd231sd | vfmadd132ss | vfmadd213ss | vfmadd231ss | vfmaddsub132pd | vfmaddsub213pd | vfmaddsub231pd
  | vfmaddsub132ps | vfmaddsub213ps | vfmaddsub231ps | vfmsubadd132pd | vfmsubadd213pd | vfmsubadd231pd
  | vfmsubadd132ps | vfmsubadd213ps | vfmsubadd231ps | vfmsub132pd | vfmsub213pd | vfmsub231pd | vfmsub132ps
  | vfmsub213ps | vfmsub231ps | vfmsub132sd | vfmsub213sd | vfmsub231sd | vfmsub132ss | vfmsub213ss | vfmsub231ss
  | vfnmadd132pd | vfnmadd213pd | vfnmadd231pd | vfnmadd132ps | vfnmadd213ps | vfnmadd231ps | vfnmadd132sd
  | vfnmadd213sd | vfnmadd231sd | vfnmadd132ss | vfnmadd213ss | vfnmadd231ss | vfnmsub132pd | vfnmsub213pd
  | vfnmsub231pd | vfnmsub132ps | vfnmsub213ps | vfnmsub231ps | vfnmsub132sd | vfnmsub213sd | vfnmsub231sd
  | vfnmsub132ss | vfnmsub213ss | vfnmsub231ss | vfpclasspd | vfpclassps | vfpclasssd | vfpclassss | vpgatherdd
  | vpgatherdq | vpgatherqd | vpgatherqq | vgatherdps | vgatherdpd | vgatherqps | vgatherqpd | vgetexppd | vgetexpps
  | vgetexpsd | vgetexpss | vgetmantpd | vgetmantps | vgetmantsd | vgetmantss | vinsertf128 | vinsertf32x4
  | vinsertf64x2 | vinsertf32x8 | vinsertf64x4 | vinserti128 | vinserti32x4 | vinserti64x2 | vinserti32x8
  | vinserti64x4 | insertps | vinsertps | maxpd | vmaxpd | maxps | vmaxps | maxsd | vmaxsd | maxss | vmaxss | minpd
  | vminpd | minps | vminps | minsd | vminsd | minss | vminss | movapd | vmovapd | movaps | vmovaps | movd | vmovd
  | movq | vmovq | movddup | vmovddup | movdqa | vmovdqa | vmovdqa32 | vmovdqa64 | movdqu | vmovdqu | vmovdqu8
  | vmovdqu16 | vmovdqu32 | vmovdqu64 | movhlps | vmovhlps | movhpd | vmovhpd | movhps | vmovhps | movlhps | vmovlhps
  | movlpd | vmovlpd | movlps | vmovlps | movntdqa | vmovntdqa | movntdq | vmovntdq | movntpd | vmovntpd | movntps
  | vmovntps | movsd | vmovsd | movshdup | vmovshdup | movsldup | vmovsldup | movss | vmovss | movupd | vmovupd
  | movups | vmovups | psadbw | vpsadbw | mulpd | vmulpd | mulps | vmulps | mulsd | vmulsd | mulss | vmulss | orpd
  | vorpd | orps | vorps | pabsb | vpabsb | pabsw | vpabsw | pabsd | vpabsd | vpabsq | packsswb | vpacksswb | packssdw
  | vpackssdw | packusdw | vpackusdw | packuswb | vpackuswb | paddb | vpaddb | paddw | vpaddw | paddd | vpaddd | paddq
  | vpaddq | paddsb | vpaddsb | paddsw | vpaddsw | paddusb | vpaddusb | paddusw | vpaddusw | palignr | vpalignr | pand
  | vpand | vpandd | vpandq | pandn | vpandn | vpandnd | vpandnq | pavgb | vpavgb | pavgw | vpavgw | vpbroadcastmb2q
  | vpbroadcastmw2d | pcmpeqb | vpcmpeqb | pcmpeqw | vpcmpeqw | pcmpeqd | vpcmpeqd | pcmpeqq | vpcmpeqq | pcmpgtb
  | vpcmpgtb | pcmpgtw | vpcmpgtw | pcmpgtd | vpcmpgtd | pcmpgtq | vpcmpgtq | vpcmpb | vpcmpub | vpcmpd | vpcmpud
  | vpcmpq | vpcmpuq | vpcmpw | vpcmpuw | vpcompressd | vpcompressq | vpconflictd | vpconflictq | vpermb | vpermd
  | vpermw | vpermi2b | vpermi2w | vpermi2d | vpermi2q | vpermi2ps | vpermi2pd | vpermt2b | vpermt2w | vpermt2d
  | vpermt2q | vpermt2ps | vpermt2pd | vpermilpd | vpermilps | vpermpd | vpermps | vpermq | vpexpandd | vpexpandq
  | pextrb | vpextrb | pextrw | vpextrw | pextrd | vpextrd | pextrq | vpextrq | vplzcntd | vplzcntq | pmaddubsw
  | vpmaddubsw | pmaddwd | vpmaddwd | pinsrb | vpinsrb | pinsrw | vpinsrw | pinsrd | vpinsrd | pinsrq | vpinsrq
  | vpmadd52luq | vpmadd52huq | pmaxsb | vpmaxsb | pmaxsw | vpmaxsw | pmaxsd | vpmaxsd | vpmaxsq | pmaxub | vpmaxub
  | pmaxuw | vpmaxuw | pmaxud | vpmaxud | vpmaxuq | pminsb | vpminsb | pminsw | vpminsw | pminsd | vpminsd | vpminsq
  | pminub | vpminub | pminuw | vpminuw | pminud | vpminud | vpminuq | vpmovm2b | vpmovm2w | vpmovm2d | vpmovm2q
  | vpmovb2m | vpmovw2m | vpmovd2m | vpmovq2m | vpmovqb | vpmovsqb | vpmovusqb | vpmovqw | vpmovsqw | vpmovusqw
  | vpmovqd | vpmovsqd | vpmovusqd | vpmovdb | vpmovsdb | vpmovusdb | vpmovdw | vpmovsdw | vpmovusdw | vpmovwb
  | vpmovswb | vpmovuswb | pmovsxbw | vpmovsxbw | pmovsxbd | vpmovsxbd | pmovsxbq | vpmovsxbq | pmovsxwd | vpmovsxwd
  | pmovsxwq | vpmovsxwq | pmovsxdq | vpmovsxdq | pmovzxbw | vpmovzxbw | pmovzxbd | vpmovzxbd | pmovzxbq | vpmovzxbq
  | pmovzxwd | vpmovzxwd | pmovzxwq | vpmovzxwq | pmovzxdq | vpmovzxdq | pmuldq | vpmuldq | pmulhrsw | vpmulhrsw
  | pmulhuw | vpmulhuw | pmulhw | vpmulhw | pmulld | vpmulld | vpmullq | pmullw | vpmullw | vpmultishiftqb | pmuludq
  | vpmuludq | por | vpor | vpord | vporq | vprold | vprolvd | vprolq | vprolvq | vprord | vprorvd | vprorq | vprorvq
  | vpscatterdd | vpscatterdq | vpscatterqd | vpscatterqq | pshufb | vpshufb | pshufhw | vpshufhw | pshuflw | vpshuflw
  | pshufd | vpshufd | pslldq | vpslldq | psllw | vpsllw | pslld | vpslld | psllq | vpsllq | psraw | vpsraw | psrad
  | vpsrad | vpsraq | psrldq | vpsrldq | psrlw | vpsrlw | psrld | vpsrld | psrlq | vpsrlq | vpsllvw | vpsllvd
  | vpsllvq | vpsrlvw | vpsrlvd | vpsrlvq | psubb | vpsubb | psubw | vpsubw | psubd | vpsubd | psubq | vpsubq | psubsb
  | vpsubsb | psubsw | vpsubsw | psubusb | vpsubusb | psubusw | vpsubusw | vptestnmb | vptestnmw | vptestnmd
  | vptestnmq | punpckhbw | vpunpckhbw | punpckhwd | vpunpckhwd | punpckhdq | vpunpckhdq | punpckhqdq | vpunpckhqdq
  | punpcklbw | vpunpcklbw | punpcklwd | vpunpcklwd | punpckldq | vpunpckldq | punpcklqdq | vpunpcklqdq | vshuff32x4
  | vshuff64x2 | vshufi32x4 | vshufi64x2 | shufpd | vshufpd | shufps | vshufps | sqrtpd | vsqrtpd | sqrtps | vsqrtps
  | sqrtsd | vsqrtsd | sqrtss | vsqrtss | vpternlogd | vpternlogq | vptestmb | vptestmw | vptestmd | vptestmq
  | vpsravw | vpsravd | vpsravq | pxor | vpxor | vpxord | vpxorq | vrangepd | vrangeps | vrangesd | vrangess
  | vrcp14pd | vrcp14sd | vrcp14ps | vrcp14ss | vreducepd | vreducesd | vreduceps | vreducess | vrndscalepd
  | vrndscalesd | vrndscaleps | vrndscaless | vrsqrt14pd | vrsqrt14sd | vrsqrt14ps | vrsqrt14ss | vscalefpd
  | vscalefsd | vscalefps | vscalefss | vscatterdps | vscatterdpd | vscatterqps | vscatterqpd | subpd | vsubpd | subps
  | vsubps | subsd | vsubsd | subss | vsubss | ucomisd | vucomisd | ucomiss | vucomiss | unpckhpd | vunpckhpd
  | unpckhps | vunpckhps | unpcklpd | vunpcklpd | unpcklps | vunpcklps | xorpd | vxorpd | xorps | vxorps | kaddw
  | kaddb | kaddq | kaddd | kandw | kandb | kandq | kandd | kandnw | kandnb | kandnq | kandnd | korw | korb | korq
  | kord | kxnorw | kxnorb | kxnorq | kxnord | kxorw | kxorb | kxorq | kxord | knotw | knotb | knotq | knotd | kmovw
  | kmovb | kmovq | kmovd | kunpckbw | kunpckwd | kunpckdq | kortestw | kortestb | kortestq | kortestd | ktestw
  | ktestb | ktestq | ktestd | kshiftlw | kshiftlb | kshiftlq | kshiftld | kshiftrw | kshiftrb | kshiftrq | kshiftrd
  | vexp2pd | vexp2ps | vrcp28pd | vrcp28sd | vrcp28ps | vrcp28ss | vrsqrt28pd | vrsqrt28sd | vrsqrt28ps | vrsqrt28ss
  | vgatherpf0dps | vgatherpf0qps | vgatherpf0dpd | vgatherpf0qpd | vgatherpf1dps | vgatherpf1qps | vgatherpf1dpd
  | vgatherpf1qpd | vscatterpf0dps | vscatterpf0qps | vscatterpf0dpd | vscatterpf0qpd | vscatterpf1dps
  | vscatterpf1qps | vscatterpf1dpd | vscatterpf1qpd | sha1rnds4 | sha1nexte | sha1msg1 | sha1msg2 | sha256rnds2
  | sha256msg1 | sha256msg2 | prefetchwt1 | clwb | pcommit
deriving DecidableEq, Repr

/-- The rows of an instruction; none for CPUID and PCOMMIT, which have no operand field (R145). -/
def Mnemonic.rows : Mnemonic → List Row
  | .cpuid => []
  | .addpd => Rows.addpd
  | .vaddpd => Rows.vaddpd
  | .addps => Rows.addps
  | .vaddps => Rows.vaddps
  | .addsd => Rows.addsd
  | .vaddsd => Rows.vaddsd
  | .addss => Rows.addss
  | .vaddss => Rows.vaddss
  | .valignd => Rows.valignd
  | .valignq => Rows.valignq
  | .vblendmpd => Rows.vblendmpd
  | .vblendmps => Rows.vblendmps
  | .vpblendmb => Rows.vpblendmb
  | .vpblendmw => Rows.vpblendmw
  | .vpblendmd => Rows.vpblendmd
  | .vpblendmq => Rows.vpblendmq
  | .andpd => Rows.andpd
  | .vandpd => Rows.vandpd
  | .andps => Rows.andps
  | .vandps => Rows.vandps
  | .andnpd => Rows.andnpd
  | .vandnpd => Rows.vandnpd
  | .andnps => Rows.andnps
  | .vandnps => Rows.vandnps
  | .vbroadcastss => Rows.vbroadcastss
  | .vbroadcastsd => Rows.vbroadcastsd
  | .vbroadcastf128 => Rows.vbroadcastf128
  | .vbroadcastf32x2 => Rows.vbroadcastf32x2
  | .vbroadcastf32x4 => Rows.vbroadcastf32x4
  | .vbroadcastf64x2 => Rows.vbroadcastf64x2
  | .vbroadcastf32x8 => Rows.vbroadcastf32x8
  | .vbroadcastf64x4 => Rows.vbroadcastf64x4
  | .vpbroadcastb => Rows.vpbroadcastb
  | .vpbroadcastw => Rows.vpbroadcastw
  | .vpbroadcastd => Rows.vpbroadcastd
  | .vpbroadcastq => Rows.vpbroadcastq
  | .vbroadcasti32x2 => Rows.vbroadcasti32x2
  | .vbroadcasti128 => Rows.vbroadcasti128
  | .vbroadcasti32x4 => Rows.vbroadcasti32x4
  | .vbroadcasti64x2 => Rows.vbroadcasti64x2
  | .vbroadcasti32x8 => Rows.vbroadcasti32x8
  | .vbroadcasti64x4 => Rows.vbroadcasti64x4
  | .cmppd => Rows.cmppd
  | .vcmppd => Rows.vcmppd
  | .cmpps => Rows.cmpps
  | .vcmpps => Rows.vcmpps
  | .cmpsd => Rows.cmpsd
  | .vcmpsd => Rows.vcmpsd
  | .cmpss => Rows.cmpss
  | .vcmpss => Rows.vcmpss
  | .comisd => Rows.comisd
  | .vcomisd => Rows.vcomisd
  | .comiss => Rows.comiss
  | .vcomiss => Rows.vcomiss
  | .divpd => Rows.divpd
  | .vdivpd => Rows.vdivpd
  | .divps => Rows.divps
  | .vdivps => Rows.vdivps
  | .divsd => Rows.divsd
  | .vdivsd => Rows.vdivsd
  | .divss => Rows.divss
  | .vdivss => Rows.vdivss
  | .vcompresspd => Rows.vcompresspd
  | .vcompressps => Rows.vcompressps
  | .cvtdq2pd => Rows.cvtdq2pd
  | .vcvtdq2pd => Rows.vcvtdq2pd
  | .cvtdq2ps => Rows.cvtdq2ps
  | .vcvtdq2ps => Rows.vcvtdq2ps
  | .cvtpd2dq => Rows.cvtpd2dq
  | .vcvtpd2dq => Rows.vcvtpd2dq
  | .cvtpd2ps => Rows.cvtpd2ps
  | .vcvtpd2ps => Rows.vcvtpd2ps
  | .vcvtpd2qq => Rows.vcvtpd2qq
  | .vcvtpd2udq => Rows.vcvtpd2udq
  | .vcvtpd2uqq => Rows.vcvtpd2uqq
  | .vcvtph2ps => Rows.vcvtph2ps
  | .vcvtps2ph => Rows.vcvtps2ph
  | .cvtps2dq => Rows.cvtps2dq
  | .vcvtps2dq => Rows.vcvtps2dq
  | .vcvtps2udq => Rows.vcvtps2udq
  | .vcvtps2qq => Rows.vcvtps2qq
  | .vcvtps2uqq => Rows.vcvtps2uqq
  | .cvtps2pd => Rows.cvtps2pd
  | .vcvtps2pd => Rows.vcvtps2pd
  | .vcvtqq2pd => Rows.vcvtqq2pd
  | .vcvtqq2ps => Rows.vcvtqq2ps
  | .cvtsd2si => Rows.cvtsd2si
  | .vcvtsd2si => Rows.vcvtsd2si
  | .vcvtsd2usi => Rows.vcvtsd2usi
  | .cvtsd2ss => Rows.cvtsd2ss
  | .vcvtsd2ss => Rows.vcvtsd2ss
  | .cvtsi2sd => Rows.cvtsi2sd
  | .vcvtsi2sd => Rows.vcvtsi2sd
  | .cvtsi2ss => Rows.cvtsi2ss
  | .vcvtsi2ss => Rows.vcvtsi2ss
  | .cvtss2sd => Rows.cvtss2sd
  | .vcvtss2sd => Rows.vcvtss2sd
  | .cvtss2si => Rows.cvtss2si
  | .vcvtss2si => Rows.vcvtss2si
  | .vcvtss2usi => Rows.vcvtss2usi
  | .cvttpd2dq => Rows.cvttpd2dq
  | .vcvttpd2dq => Rows.vcvttpd2dq
  | .vcvttpd2qq => Rows.vcvttpd2qq
  | .vcvttpd2udq => Rows.vcvttpd2udq
  | .vcvttpd2uqq => Rows.vcvttpd2uqq
  | .cvttps2dq => Rows.cvttps2dq
  | .vcvttps2dq => Rows.vcvttps2dq
  | .vcvttps2udq => Rows.vcvttps2udq
  | .vcvttps2qq => Rows.vcvttps2qq
  | .vcvttps2uqq => Rows.vcvttps2uqq
  | .cvttsd2si => Rows.cvttsd2si
  | .vcvttsd2si => Rows.vcvttsd2si
  | .vcvttsd2usi => Rows.vcvttsd2usi
  | .cvttss2si => Rows.cvttss2si
  | .vcvttss2si => Rows.vcvttss2si
  | .vcvttss2usi => Rows.vcvttss2usi
  | .vcvtudq2pd => Rows.vcvtudq2pd
  | .vcvtudq2ps => Rows.vcvtudq2ps
  | .vcvtuqq2pd => Rows.vcvtuqq2pd
  | .vcvtuqq2ps => Rows.vcvtuqq2ps
  | .vcvtusi2sd => Rows.vcvtusi2sd
  | .vcvtusi2ss => Rows.vcvtusi2ss
  | .vdbpsadbw => Rows.vdbpsadbw
  | .vexpandpd => Rows.vexpandpd
  | .vexpandps => Rows.vexpandps
  | .vextractf128 => Rows.vextractf128
  | .vextractf32x4 => Rows.vextractf32x4
  | .vextractf32x4z => Rows.vextractf32x4z
  | .vextractf64x2 => Rows.vextractf64x2
  | .vextractf32x8 => Rows.vextractf32x8
  | .vextractf64x4z => Rows.vextractf64x4z
  | .vextracti128 => Rows.vextracti128
  | .vextracti32x4 => Rows.vextracti32x4
  | .vextracti32x4z => Rows.vextracti32x4z
  | .vextracti64x2 => Rows.vextracti64x2
  | .vextracti32x8 => Rows.vextracti32x8
  | .vextracti64x4z => Rows.vextracti64x4z
  | .extractps => Rows.extractps
  | .vextractps => Rows.vextractps
  | .vfixupimmpd => Rows.vfixupimmpd
  | .vfixupimmps => Rows.vfixupimmps
  | .vfixupimmsd => Rows.vfixupimmsd
  | .vfixupimmss => Rows.vfixupimmss
  | .vfmadd132pd => Rows.vfmadd132pd
  | .vfmadd213pd => Rows.vfmadd213pd
  | .vfmadd231pd => Rows.vfmadd231pd
  | .vfmadd132ps => Rows.vfmadd132ps
  | .vfmadd213ps => Rows.vfmadd213ps
  | .vfmadd231ps => Rows.vfmadd231ps
  | .vfmadd132sd => Rows.vfmadd132sd
  | .vfmadd213sd => Rows.vfmadd213sd
  | .vfmadd231sd => Rows.vfmadd231sd
  | .vfmadd132ss => Rows.vfmadd132ss
  | .vfmadd213ss => Rows.vfmadd213ss
  | .vfmadd231ss => Rows.vfmadd231ss
  | .vfmaddsub132pd => Rows.vfmaddsub132pd
  | .vfmaddsub213pd => Rows.vfmaddsub213pd
  | .vfmaddsub231pd => Rows.vfmaddsub231pd
  | .vfmaddsub132ps => Rows.vfmaddsub132ps
  | .vfmaddsub213ps => Rows.vfmaddsub213ps
  | .vfmaddsub231ps => Rows.vfmaddsub231ps
  | .vfmsubadd132pd => Rows.vfmsubadd132pd
  | .vfmsubadd213pd => Rows.vfmsubadd213pd
  | .vfmsubadd231pd => Rows.vfmsubadd231pd
  | .vfmsubadd132ps => Rows.vfmsubadd132ps
  | .vfmsubadd213ps => Rows.vfmsubadd213ps
  | .vfmsubadd231ps => Rows.vfmsubadd231ps
  | .vfmsub132pd => Rows.vfmsub132pd
  | .vfmsub213pd => Rows.vfmsub213pd
  | .vfmsub231pd => Rows.vfmsub231pd
  | .vfmsub132ps => Rows.vfmsub132ps
  | .vfmsub213ps => Rows.vfmsub213ps
  | .vfmsub231ps => Rows.vfmsub231ps
  | .vfmsub132sd => Rows.vfmsub132sd
  | .vfmsub213sd => Rows.vfmsub213sd
  | .vfmsub231sd => Rows.vfmsub231sd
  | .vfmsub132ss => Rows.vfmsub132ss
  | .vfmsub213ss => Rows.vfmsub213ss
  | .vfmsub231ss => Rows.vfmsub231ss
  | .vfnmadd132pd => Rows.vfnmadd132pd
  | .vfnmadd213pd => Rows.vfnmadd213pd
  | .vfnmadd231pd => Rows.vfnmadd231pd
  | .vfnmadd132ps => Rows.vfnmadd132ps
  | .vfnmadd213ps => Rows.vfnmadd213ps
  | .vfnmadd231ps => Rows.vfnmadd231ps
  | .vfnmadd132sd => Rows.vfnmadd132sd
  | .vfnmadd213sd => Rows.vfnmadd213sd
  | .vfnmadd231sd => Rows.vfnmadd231sd
  | .vfnmadd132ss => Rows.vfnmadd132ss
  | .vfnmadd213ss => Rows.vfnmadd213ss
  | .vfnmadd231ss => Rows.vfnmadd231ss
  | .vfnmsub132pd => Rows.vfnmsub132pd
  | .vfnmsub213pd => Rows.vfnmsub213pd
  | .vfnmsub231pd => Rows.vfnmsub231pd
  | .vfnmsub132ps => Rows.vfnmsub132ps
  | .vfnmsub213ps => Rows.vfnmsub213ps
  | .vfnmsub231ps => Rows.vfnmsub231ps
  | .vfnmsub132sd => Rows.vfnmsub132sd
  | .vfnmsub213sd => Rows.vfnmsub213sd
  | .vfnmsub231sd => Rows.vfnmsub231sd
  | .vfnmsub132ss => Rows.vfnmsub132ss
  | .vfnmsub213ss => Rows.vfnmsub213ss
  | .vfnmsub231ss => Rows.vfnmsub231ss
  | .vfpclasspd => Rows.vfpclasspd
  | .vfpclassps => Rows.vfpclassps
  | .vfpclasssd => Rows.vfpclasssd
  | .vfpclassss => Rows.vfpclassss
  | .vpgatherdd => Rows.vpgatherdd
  | .vpgatherdq => Rows.vpgatherdq
  | .vpgatherqd => Rows.vpgatherqd
  | .vpgatherqq => Rows.vpgatherqq
  | .vgatherdps => Rows.vgatherdps
  | .vgatherdpd => Rows.vgatherdpd
  | .vgatherqps => Rows.vgatherqps
  | .vgatherqpd => Rows.vgatherqpd
  | .vgetexppd => Rows.vgetexppd
  | .vgetexpps => Rows.vgetexpps
  | .vgetexpsd => Rows.vgetexpsd
  | .vgetexpss => Rows.vgetexpss
  | .vgetmantpd => Rows.vgetmantpd
  | .vgetmantps => Rows.vgetmantps
  | .vgetmantsd => Rows.vgetmantsd
  | .vgetmantss => Rows.vgetmantss
  | .vinsertf128 => Rows.vinsertf128
  | .vinsertf32x4 => Rows.vinsertf32x4
  | .vinsertf64x2 => Rows.vinsertf64x2
  | .vinsertf32x8 => Rows.vinsertf32x8
  | .vinsertf64x4 => Rows.vinsertf64x4
  | .vinserti128 => Rows.vinserti128
  | .vinserti32x4 => Rows.vinserti32x4
  | .vinserti64x2 => Rows.vinserti64x2
  | .vinserti32x8 => Rows.vinserti32x8
  | .vinserti64x4 => Rows.vinserti64x4
  | .insertps => Rows.insertps
  | .vinsertps => Rows.vinsertps
  | .maxpd => Rows.maxpd
  | .vmaxpd => Rows.vmaxpd
  | .maxps => Rows.maxps
  | .vmaxps => Rows.vmaxps
  | .maxsd => Rows.maxsd
  | .vmaxsd => Rows.vmaxsd
  | .maxss => Rows.maxss
  | .vmaxss => Rows.vmaxss
  | .minpd => Rows.minpd
  | .vminpd => Rows.vminpd
  | .minps => Rows.minps
  | .vminps => Rows.vminps
  | .minsd => Rows.minsd
  | .vminsd => Rows.vminsd
  | .minss => Rows.minss
  | .vminss => Rows.vminss
  | .movapd => Rows.movapd
  | .vmovapd => Rows.vmovapd
  | .movaps => Rows.movaps
  | .vmovaps => Rows.vmovaps
  | .movd => Rows.movd
  | .vmovd => Rows.vmovd
  | .movq => Rows.movq
  | .vmovq => Rows.vmovq
  | .movddup => Rows.movddup
  | .vmovddup => Rows.vmovddup
  | .movdqa => Rows.movdqa
  | .vmovdqa => Rows.vmovdqa
  | .vmovdqa32 => Rows.vmovdqa32
  | .vmovdqa64 => Rows.vmovdqa64
  | .movdqu => Rows.movdqu
  | .vmovdqu => Rows.vmovdqu
  | .vmovdqu8 => Rows.vmovdqu8
  | .vmovdqu16 => Rows.vmovdqu16
  | .vmovdqu32 => Rows.vmovdqu32
  | .vmovdqu64 => Rows.vmovdqu64
  | .movhlps => Rows.movhlps
  | .vmovhlps => Rows.vmovhlps
  | .movhpd => Rows.movhpd
  | .vmovhpd => Rows.vmovhpd
  | .movhps => Rows.movhps
  | .vmovhps => Rows.vmovhps
  | .movlhps => Rows.movlhps
  | .vmovlhps => Rows.vmovlhps
  | .movlpd => Rows.movlpd
  | .vmovlpd => Rows.vmovlpd
  | .movlps => Rows.movlps
  | .vmovlps => Rows.vmovlps
  | .movntdqa => Rows.movntdqa
  | .vmovntdqa => Rows.vmovntdqa
  | .movntdq => Rows.movntdq
  | .vmovntdq => Rows.vmovntdq
  | .movntpd => Rows.movntpd
  | .vmovntpd => Rows.vmovntpd
  | .movntps => Rows.movntps
  | .vmovntps => Rows.vmovntps
  | .movsd => Rows.movsd
  | .vmovsd => Rows.vmovsd
  | .movshdup => Rows.movshdup
  | .vmovshdup => Rows.vmovshdup
  | .movsldup => Rows.movsldup
  | .vmovsldup => Rows.vmovsldup
  | .movss => Rows.movss
  | .vmovss => Rows.vmovss
  | .movupd => Rows.movupd
  | .vmovupd => Rows.vmovupd
  | .movups => Rows.movups
  | .vmovups => Rows.vmovups
  | .psadbw => Rows.psadbw
  | .vpsadbw => Rows.vpsadbw
  | .mulpd => Rows.mulpd
  | .vmulpd => Rows.vmulpd
  | .mulps => Rows.mulps
  | .vmulps => Rows.vmulps
  | .mulsd => Rows.mulsd
  | .vmulsd => Rows.vmulsd
  | .mulss => Rows.mulss
  | .vmulss => Rows.vmulss
  | .orpd => Rows.orpd
  | .vorpd => Rows.vorpd
  | .orps => Rows.orps
  | .vorps => Rows.vorps
  | .pabsb => Rows.pabsb
  | .vpabsb => Rows.vpabsb
  | .pabsw => Rows.pabsw
  | .vpabsw => Rows.vpabsw
  | .pabsd => Rows.pabsd
  | .vpabsd => Rows.vpabsd
  | .vpabsq => Rows.vpabsq
  | .packsswb => Rows.packsswb
  | .vpacksswb => Rows.vpacksswb
  | .packssdw => Rows.packssdw
  | .vpackssdw => Rows.vpackssdw
  | .packusdw => Rows.packusdw
  | .vpackusdw => Rows.vpackusdw
  | .packuswb => Rows.packuswb
  | .vpackuswb => Rows.vpackuswb
  | .paddb => Rows.paddb
  | .vpaddb => Rows.vpaddb
  | .paddw => Rows.paddw
  | .vpaddw => Rows.vpaddw
  | .paddd => Rows.paddd
  | .vpaddd => Rows.vpaddd
  | .paddq => Rows.paddq
  | .vpaddq => Rows.vpaddq
  | .paddsb => Rows.paddsb
  | .vpaddsb => Rows.vpaddsb
  | .paddsw => Rows.paddsw
  | .vpaddsw => Rows.vpaddsw
  | .paddusb => Rows.paddusb
  | .vpaddusb => Rows.vpaddusb
  | .paddusw => Rows.paddusw
  | .vpaddusw => Rows.vpaddusw
  | .palignr => Rows.palignr
  | .vpalignr => Rows.vpalignr
  | .pand => Rows.pand
  | .vpand => Rows.vpand
  | .vpandd => Rows.vpandd
  | .vpandq => Rows.vpandq
  | .pandn => Rows.pandn
  | .vpandn => Rows.vpandn
  | .vpandnd => Rows.vpandnd
  | .vpandnq => Rows.vpandnq
  | .pavgb => Rows.pavgb
  | .vpavgb => Rows.vpavgb
  | .pavgw => Rows.pavgw
  | .vpavgw => Rows.vpavgw
  | .vpbroadcastmb2q => Rows.vpbroadcastmb2q
  | .vpbroadcastmw2d => Rows.vpbroadcastmw2d
  | .pcmpeqb => Rows.pcmpeqb
  | .vpcmpeqb => Rows.vpcmpeqb
  | .pcmpeqw => Rows.pcmpeqw
  | .vpcmpeqw => Rows.vpcmpeqw
  | .pcmpeqd => Rows.pcmpeqd
  | .vpcmpeqd => Rows.vpcmpeqd
  | .pcmpeqq => Rows.pcmpeqq
  | .vpcmpeqq => Rows.vpcmpeqq
  | .pcmpgtb => Rows.pcmpgtb
  | .vpcmpgtb => Rows.vpcmpgtb
  | .pcmpgtw => Rows.pcmpgtw
  | .vpcmpgtw => Rows.vpcmpgtw
  | .pcmpgtd => Rows.pcmpgtd
  | .vpcmpgtd => Rows.vpcmpgtd
  | .pcmpgtq => Rows.pcmpgtq
  | .vpcmpgtq => Rows.vpcmpgtq
  | .vpcmpb => Rows.vpcmpb
  | .vpcmpub => Rows.vpcmpub
  | .vpcmpd => Rows.vpcmpd
  | .vpcmpud => Rows.vpcmpud
  | .vpcmpq => Rows.vpcmpq
  | .vpcmpuq => Rows.vpcmpuq
  | .vpcmpw => Rows.vpcmpw
  | .vpcmpuw => Rows.vpcmpuw
  | .vpcompressd => Rows.vpcompressd
  | .vpcompressq => Rows.vpcompressq
  | .vpconflictd => Rows.vpconflictd
  | .vpconflictq => Rows.vpconflictq
  | .vpermb => Rows.vpermb
  | .vpermd => Rows.vpermd
  | .vpermw => Rows.vpermw
  | .vpermi2b => Rows.vpermi2b
  | .vpermi2w => Rows.vpermi2w
  | .vpermi2d => Rows.vpermi2d
  | .vpermi2q => Rows.vpermi2q
  | .vpermi2ps => Rows.vpermi2ps
  | .vpermi2pd => Rows.vpermi2pd
  | .vpermt2b => Rows.vpermt2b
  | .vpermt2w => Rows.vpermt2w
  | .vpermt2d => Rows.vpermt2d
  | .vpermt2q => Rows.vpermt2q
  | .vpermt2ps => Rows.vpermt2ps
  | .vpermt2pd => Rows.vpermt2pd
  | .vpermilpd => Rows.vpermilpd
  | .vpermilps => Rows.vpermilps
  | .vpermpd => Rows.vpermpd
  | .vpermps => Rows.vpermps
  | .vpermq => Rows.vpermq
  | .vpexpandd => Rows.vpexpandd
  | .vpexpandq => Rows.vpexpandq
  | .pextrb => Rows.pextrb
  | .vpextrb => Rows.vpextrb
  | .pextrw => Rows.pextrw
  | .vpextrw => Rows.vpextrw
  | .pextrd => Rows.pextrd
  | .vpextrd => Rows.vpextrd
  | .pextrq => Rows.pextrq
  | .vpextrq => Rows.vpextrq
  | .vplzcntd => Rows.vplzcntd
  | .vplzcntq => Rows.vplzcntq
  | .pmaddubsw => Rows.pmaddubsw
  | .vpmaddubsw => Rows.vpmaddubsw
  | .pmaddwd => Rows.pmaddwd
  | .vpmaddwd => Rows.vpmaddwd
  | .pinsrb => Rows.pinsrb
  | .vpinsrb => Rows.vpinsrb
  | .pinsrw => Rows.pinsrw
  | .vpinsrw => Rows.vpinsrw
  | .pinsrd => Rows.pinsrd
  | .vpinsrd => Rows.vpinsrd
  | .pinsrq => Rows.pinsrq
  | .vpinsrq => Rows.vpinsrq
  | .vpmadd52luq => Rows.vpmadd52luq
  | .vpmadd52huq => Rows.vpmadd52huq
  | .pmaxsb => Rows.pmaxsb
  | .vpmaxsb => Rows.vpmaxsb
  | .pmaxsw => Rows.pmaxsw
  | .vpmaxsw => Rows.vpmaxsw
  | .pmaxsd => Rows.pmaxsd
  | .vpmaxsd => Rows.vpmaxsd
  | .vpmaxsq => Rows.vpmaxsq
  | .pmaxub => Rows.pmaxub
  | .vpmaxub => Rows.vpmaxub
  | .pmaxuw => Rows.pmaxuw
  | .vpmaxuw => Rows.vpmaxuw
  | .pmaxud => Rows.pmaxud
  | .vpmaxud => Rows.vpmaxud
  | .vpmaxuq => Rows.vpmaxuq
  | .pminsb => Rows.pminsb
  | .vpminsb => Rows.vpminsb
  | .pminsw => Rows.pminsw
  | .vpminsw => Rows.vpminsw
  | .pminsd => Rows.pminsd
  | .vpminsd => Rows.vpminsd
  | .vpminsq => Rows.vpminsq
  | .pminub => Rows.pminub
  | .vpminub => Rows.vpminub
  | .pminuw => Rows.pminuw
  | .vpminuw => Rows.vpminuw
  | .pminud => Rows.pminud
  | .vpminud => Rows.vpminud
  | .vpminuq => Rows.vpminuq
  | .vpmovm2b => Rows.vpmovm2b
  | .vpmovm2w => Rows.vpmovm2w
  | .vpmovm2d => Rows.vpmovm2d
  | .vpmovm2q => Rows.vpmovm2q
  | .vpmovb2m => Rows.vpmovb2m
  | .vpmovw2m => Rows.vpmovw2m
  | .vpmovd2m => Rows.vpmovd2m
  | .vpmovq2m => Rows.vpmovq2m
  | .vpmovqb => Rows.vpmovqb
  | .vpmovsqb => Rows.vpmovsqb
  | .vpmovusqb => Rows.vpmovusqb
  | .vpmovqw => Rows.vpmovqw
  | .vpmovsqw => Rows.vpmovsqw
  | .vpmovusqw => Rows.vpmovusqw
  | .vpmovqd => Rows.vpmovqd
  | .vpmovsqd => Rows.vpmovsqd
  | .vpmovusqd => Rows.vpmovusqd
  | .vpmovdb => Rows.vpmovdb
  | .vpmovsdb => Rows.vpmovsdb
  | .vpmovusdb => Rows.vpmovusdb
  | .vpmovdw => Rows.vpmovdw
  | .vpmovsdw => Rows.vpmovsdw
  | .vpmovusdw => Rows.vpmovusdw
  | .vpmovwb => Rows.vpmovwb
  | .vpmovswb => Rows.vpmovswb
  | .vpmovuswb => Rows.vpmovuswb
  | .pmovsxbw => Rows.pmovsxbw
  | .vpmovsxbw => Rows.vpmovsxbw
  | .pmovsxbd => Rows.pmovsxbd
  | .vpmovsxbd => Rows.vpmovsxbd
  | .pmovsxbq => Rows.pmovsxbq
  | .vpmovsxbq => Rows.vpmovsxbq
  | .pmovsxwd => Rows.pmovsxwd
  | .vpmovsxwd => Rows.vpmovsxwd
  | .pmovsxwq => Rows.pmovsxwq
  | .vpmovsxwq => Rows.vpmovsxwq
  | .pmovsxdq => Rows.pmovsxdq
  | .vpmovsxdq => Rows.vpmovsxdq
  | .pmovzxbw => Rows.pmovzxbw
  | .vpmovzxbw => Rows.vpmovzxbw
  | .pmovzxbd => Rows.pmovzxbd
  | .vpmovzxbd => Rows.vpmovzxbd
  | .pmovzxbq => Rows.pmovzxbq
  | .vpmovzxbq => Rows.vpmovzxbq
  | .pmovzxwd => Rows.pmovzxwd
  | .vpmovzxwd => Rows.vpmovzxwd
  | .pmovzxwq => Rows.pmovzxwq
  | .vpmovzxwq => Rows.vpmovzxwq
  | .pmovzxdq => Rows.pmovzxdq
  | .vpmovzxdq => Rows.vpmovzxdq
  | .pmuldq => Rows.pmuldq
  | .vpmuldq => Rows.vpmuldq
  | .pmulhrsw => Rows.pmulhrsw
  | .vpmulhrsw => Rows.vpmulhrsw
  | .pmulhuw => Rows.pmulhuw
  | .vpmulhuw => Rows.vpmulhuw
  | .pmulhw => Rows.pmulhw
  | .vpmulhw => Rows.vpmulhw
  | .pmulld => Rows.pmulld
  | .vpmulld => Rows.vpmulld
  | .vpmullq => Rows.vpmullq
  | .pmullw => Rows.pmullw
  | .vpmullw => Rows.vpmullw
  | .vpmultishiftqb => Rows.vpmultishiftqb
  | .pmuludq => Rows.pmuludq
  | .vpmuludq => Rows.vpmuludq
  | .por => Rows.por
  | .vpor => Rows.vpor
  | .vpord => Rows.vpord
  | .vporq => Rows.vporq
  | .vprold => Rows.vprold
  | .vprolvd => Rows.vprolvd
  | .vprolq => Rows.vprolq
  | .vprolvq => Rows.vprolvq
  | .vprord => Rows.vprord
  | .vprorvd => Rows.vprorvd
  | .vprorq => Rows.vprorq
  | .vprorvq => Rows.vprorvq
  | .vpscatterdd => Rows.vpscatterdd
  | .vpscatterdq => Rows.vpscatterdq
  | .vpscatterqd => Rows.vpscatterqd
  | .vpscatterqq => Rows.vpscatterqq
  | .pshufb => Rows.pshufb
  | .vpshufb => Rows.vpshufb
  | .pshufhw => Rows.pshufhw
  | .vpshufhw => Rows.vpshufhw
  | .pshuflw => Rows.pshuflw
  | .vpshuflw => Rows.vpshuflw
  | .pshufd => Rows.pshufd
  | .vpshufd => Rows.vpshufd
  | .pslldq => Rows.pslldq
  | .vpslldq => Rows.vpslldq
  | .psllw => Rows.psllw
  | .vpsllw => Rows.vpsllw
  | .pslld => Rows.pslld
  | .vpslld => Rows.vpslld
  | .psllq => Rows.psllq
  | .vpsllq => Rows.vpsllq
  | .psraw => Rows.psraw
  | .vpsraw => Rows.vpsraw
  | .psrad => Rows.psrad
  | .vpsrad => Rows.vpsrad
  | .vpsraq => Rows.vpsraq
  | .psrldq => Rows.psrldq
  | .vpsrldq => Rows.vpsrldq
  | .psrlw => Rows.psrlw
  | .vpsrlw => Rows.vpsrlw
  | .psrld => Rows.psrld
  | .vpsrld => Rows.vpsrld
  | .psrlq => Rows.psrlq
  | .vpsrlq => Rows.vpsrlq
  | .vpsllvw => Rows.vpsllvw
  | .vpsllvd => Rows.vpsllvd
  | .vpsllvq => Rows.vpsllvq
  | .vpsrlvw => Rows.vpsrlvw
  | .vpsrlvd => Rows.vpsrlvd
  | .vpsrlvq => Rows.vpsrlvq
  | .psubb => Rows.psubb
  | .vpsubb => Rows.vpsubb
  | .psubw => Rows.psubw
  | .vpsubw => Rows.vpsubw
  | .psubd => Rows.psubd
  | .vpsubd => Rows.vpsubd
  | .psubq => Rows.psubq
  | .vpsubq => Rows.vpsubq
  | .psubsb => Rows.psubsb
  | .vpsubsb => Rows.vpsubsb
  | .psubsw => Rows.psubsw
  | .vpsubsw => Rows.vpsubsw
  | .psubusb => Rows.psubusb
  | .vpsubusb => Rows.vpsubusb
  | .psubusw => Rows.psubusw
  | .vpsubusw => Rows.vpsubusw
  | .vptestnmb => Rows.vptestnmb
  | .vptestnmw => Rows.vptestnmw
  | .vptestnmd => Rows.vptestnmd
  | .vptestnmq => Rows.vptestnmq
  | .punpckhbw => Rows.punpckhbw
  | .vpunpckhbw => Rows.vpunpckhbw
  | .punpckhwd => Rows.punpckhwd
  | .vpunpckhwd => Rows.vpunpckhwd
  | .punpckhdq => Rows.punpckhdq
  | .vpunpckhdq => Rows.vpunpckhdq
  | .punpckhqdq => Rows.punpckhqdq
  | .vpunpckhqdq => Rows.vpunpckhqdq
  | .punpcklbw => Rows.punpcklbw
  | .vpunpcklbw => Rows.vpunpcklbw
  | .punpcklwd => Rows.punpcklwd
  | .vpunpcklwd => Rows.vpunpcklwd
  | .punpckldq => Rows.punpckldq
  | .vpunpckldq => Rows.vpunpckldq
  | .punpcklqdq => Rows.punpcklqdq
  | .vpunpcklqdq => Rows.vpunpcklqdq
  | .vshuff32x4 => Rows.vshuff32x4
  | .vshuff64x2 => Rows.vshuff64x2
  | .vshufi32x4 => Rows.vshufi32x4
  | .vshufi64x2 => Rows.vshufi64x2
  | .shufpd => Rows.shufpd
  | .vshufpd => Rows.vshufpd
  | .shufps => Rows.shufps
  | .vshufps => Rows.vshufps
  | .sqrtpd => Rows.sqrtpd
  | .vsqrtpd => Rows.vsqrtpd
  | .sqrtps => Rows.sqrtps
  | .vsqrtps => Rows.vsqrtps
  | .sqrtsd => Rows.sqrtsd
  | .vsqrtsd => Rows.vsqrtsd
  | .sqrtss => Rows.sqrtss
  | .vsqrtss => Rows.vsqrtss
  | .vpternlogd => Rows.vpternlogd
  | .vpternlogq => Rows.vpternlogq
  | .vptestmb => Rows.vptestmb
  | .vptestmw => Rows.vptestmw
  | .vptestmd => Rows.vptestmd
  | .vptestmq => Rows.vptestmq
  | .vpsravw => Rows.vpsravw
  | .vpsravd => Rows.vpsravd
  | .vpsravq => Rows.vpsravq
  | .pxor => Rows.pxor
  | .vpxor => Rows.vpxor
  | .vpxord => Rows.vpxord
  | .vpxorq => Rows.vpxorq
  | .vrangepd => Rows.vrangepd
  | .vrangeps => Rows.vrangeps
  | .vrangesd => Rows.vrangesd
  | .vrangess => Rows.vrangess
  | .vrcp14pd => Rows.vrcp14pd
  | .vrcp14sd => Rows.vrcp14sd
  | .vrcp14ps => Rows.vrcp14ps
  | .vrcp14ss => Rows.vrcp14ss
  | .vreducepd => Rows.vreducepd
  | .vreducesd => Rows.vreducesd
  | .vreduceps => Rows.vreduceps
  | .vreducess => Rows.vreducess
  | .vrndscalepd => Rows.vrndscalepd
  | .vrndscalesd => Rows.vrndscalesd
  | .vrndscaleps => Rows.vrndscaleps
  | .vrndscaless => Rows.vrndscaless
  | .vrsqrt14pd => Rows.vrsqrt14pd
  | .vrsqrt14sd => Rows.vrsqrt14sd
  | .vrsqrt14ps => Rows.vrsqrt14ps
  | .vrsqrt14ss => Rows.vrsqrt14ss
  | .vscalefpd => Rows.vscalefpd
  | .vscalefsd => Rows.vscalefsd
  | .vscalefps => Rows.vscalefps
  | .vscalefss => Rows.vscalefss
  | .vscatterdps => Rows.vscatterdps
  | .vscatterdpd => Rows.vscatterdpd
  | .vscatterqps => Rows.vscatterqps
  | .vscatterqpd => Rows.vscatterqpd
  | .subpd => Rows.subpd
  | .vsubpd => Rows.vsubpd
  | .subps => Rows.subps
  | .vsubps => Rows.vsubps
  | .subsd => Rows.subsd
  | .vsubsd => Rows.vsubsd
  | .subss => Rows.subss
  | .vsubss => Rows.vsubss
  | .ucomisd => Rows.ucomisd
  | .vucomisd => Rows.vucomisd
  | .ucomiss => Rows.ucomiss
  | .vucomiss => Rows.vucomiss
  | .unpckhpd => Rows.unpckhpd
  | .vunpckhpd => Rows.vunpckhpd
  | .unpckhps => Rows.unpckhps
  | .vunpckhps => Rows.vunpckhps
  | .unpcklpd => Rows.unpcklpd
  | .vunpcklpd => Rows.vunpcklpd
  | .unpcklps => Rows.unpcklps
  | .vunpcklps => Rows.vunpcklps
  | .xorpd => Rows.xorpd
  | .vxorpd => Rows.vxorpd
  | .xorps => Rows.xorps
  | .vxorps => Rows.vxorps
  | .kaddw => Rows.kaddw
  | .kaddb => Rows.kaddb
  | .kaddq => Rows.kaddq
  | .kaddd => Rows.kaddd
  | .kandw => Rows.kandw
  | .kandb => Rows.kandb
  | .kandq => Rows.kandq
  | .kandd => Rows.kandd
  | .kandnw => Rows.kandnw
  | .kandnb => Rows.kandnb
  | .kandnq => Rows.kandnq
  | .kandnd => Rows.kandnd
  | .korw => Rows.korw
  | .korb => Rows.korb
  | .korq => Rows.korq
  | .kord => Rows.kord
  | .kxnorw => Rows.kxnorw
  | .kxnorb => Rows.kxnorb
  | .kxnorq => Rows.kxnorq
  | .kxnord => Rows.kxnord
  | .kxorw => Rows.kxorw
  | .kxorb => Rows.kxorb
  | .kxorq => Rows.kxorq
  | .kxord => Rows.kxord
  | .knotw => Rows.knotw
  | .knotb => Rows.knotb
  | .knotq => Rows.knotq
  | .knotd => Rows.knotd
  | .kmovw => Rows.kmovw
  | .kmovb => Rows.kmovb
  | .kmovq => Rows.kmovq
  | .kmovd => Rows.kmovd
  | .kunpckbw => Rows.kunpckbw
  | .kunpckwd => Rows.kunpckwd
  | .kunpckdq => Rows.kunpckdq
  | .kortestw => Rows.kortestw
  | .kortestb => Rows.kortestb
  | .kortestq => Rows.kortestq
  | .kortestd => Rows.kortestd
  | .ktestw => Rows.ktestw
  | .ktestb => Rows.ktestb
  | .ktestq => Rows.ktestq
  | .ktestd => Rows.ktestd
  | .kshiftlw => Rows.kshiftlw
  | .kshiftlb => Rows.kshiftlb
  | .kshiftlq => Rows.kshiftlq
  | .kshiftld => Rows.kshiftld
  | .kshiftrw => Rows.kshiftrw
  | .kshiftrb => Rows.kshiftrb
  | .kshiftrq => Rows.kshiftrq
  | .kshiftrd => Rows.kshiftrd
  | .vexp2pd => Rows.vexp2pd
  | .vexp2ps => Rows.vexp2ps
  | .vrcp28pd => Rows.vrcp28pd
  | .vrcp28sd => Rows.vrcp28sd
  | .vrcp28ps => Rows.vrcp28ps
  | .vrcp28ss => Rows.vrcp28ss
  | .vrsqrt28pd => Rows.vrsqrt28pd
  | .vrsqrt28sd => Rows.vrsqrt28sd
  | .vrsqrt28ps => Rows.vrsqrt28ps
  | .vrsqrt28ss => Rows.vrsqrt28ss
  | .vgatherpf0dps => Rows.vgatherpf0dps
  | .vgatherpf0qps => Rows.vgatherpf0qps
  | .vgatherpf0dpd => Rows.vgatherpf0dpd
  | .vgatherpf0qpd => Rows.vgatherpf0qpd
  | .vgatherpf1dps => Rows.vgatherpf1dps
  | .vgatherpf1qps => Rows.vgatherpf1qps
  | .vgatherpf1dpd => Rows.vgatherpf1dpd
  | .vgatherpf1qpd => Rows.vgatherpf1qpd
  | .vscatterpf0dps => Rows.vscatterpf0dps
  | .vscatterpf0qps => Rows.vscatterpf0qps
  | .vscatterpf0dpd => Rows.vscatterpf0dpd
  | .vscatterpf0qpd => Rows.vscatterpf0qpd
  | .vscatterpf1dps => Rows.vscatterpf1dps
  | .vscatterpf1qps => Rows.vscatterpf1qps
  | .vscatterpf1dpd => Rows.vscatterpf1dpd
  | .vscatterpf1qpd => Rows.vscatterpf1qpd
  | .sha1rnds4 => Rows.sha1rnds4
  | .sha1nexte => Rows.sha1nexte
  | .sha1msg1 => Rows.sha1msg1
  | .sha1msg2 => Rows.sha1msg2
  | .sha256rnds2 => Rows.sha256rnds2
  | .sha256msg1 => Rows.sha256msg1
  | .sha256msg2 => Rows.sha256msg2
  | .prefetchwt1 => Rows.prefetchwt1
  | .clwb => Rows.clwb
  | .pcommit => []

/-- The instruction of a name and fields. -/
noncomputable def Mnemonic.make : Mnemonic → Operands → Instr
  | .cpuid, _ => .cpuid
  | .addpd, o => .addpd o
  | .vaddpd, o => .vaddpd o
  | .addps, o => .addps o
  | .vaddps, o => .vaddps o
  | .addsd, o => .addsd o
  | .vaddsd, o => .vaddsd o
  | .addss, o => .addss o
  | .vaddss, o => .vaddss o
  | .valignd, o => .valignd o
  | .valignq, o => .valignq o
  | .vblendmpd, o => .vblendmpd o
  | .vblendmps, o => .vblendmps o
  | .vpblendmb, o => .vpblendmb o
  | .vpblendmw, o => .vpblendmw o
  | .vpblendmd, o => .vpblendmd o
  | .vpblendmq, o => .vpblendmq o
  | .andpd, o => .andpd o
  | .vandpd, o => .vandpd o
  | .andps, o => .andps o
  | .vandps, o => .vandps o
  | .andnpd, o => .andnpd o
  | .vandnpd, o => .vandnpd o
  | .andnps, o => .andnps o
  | .vandnps, o => .vandnps o
  | .vbroadcastss, o => .vbroadcastss o
  | .vbroadcastsd, o => .vbroadcastsd o
  | .vbroadcastf128, o => .vbroadcastf128 o
  | .vbroadcastf32x2, o => .vbroadcastf32x2 o
  | .vbroadcastf32x4, o => .vbroadcastf32x4 o
  | .vbroadcastf64x2, o => .vbroadcastf64x2 o
  | .vbroadcastf32x8, o => .vbroadcastf32x8 o
  | .vbroadcastf64x4, o => .vbroadcastf64x4 o
  | .vpbroadcastb, o => .vpbroadcastb o
  | .vpbroadcastw, o => .vpbroadcastw o
  | .vpbroadcastd, o => .vpbroadcastd o
  | .vpbroadcastq, o => .vpbroadcastq o
  | .vbroadcasti32x2, o => .vbroadcasti32x2 o
  | .vbroadcasti128, o => .vbroadcasti128 o
  | .vbroadcasti32x4, o => .vbroadcasti32x4 o
  | .vbroadcasti64x2, o => .vbroadcasti64x2 o
  | .vbroadcasti32x8, o => .vbroadcasti32x8 o
  | .vbroadcasti64x4, o => .vbroadcasti64x4 o
  | .cmppd, o => .cmppd o
  | .vcmppd, o => .vcmppd o
  | .cmpps, o => .cmpps o
  | .vcmpps, o => .vcmpps o
  | .cmpsd, o => .cmpsd o
  | .vcmpsd, o => .vcmpsd o
  | .cmpss, o => .cmpss o
  | .vcmpss, o => .vcmpss o
  | .comisd, o => .comisd o
  | .vcomisd, o => .vcomisd o
  | .comiss, o => .comiss o
  | .vcomiss, o => .vcomiss o
  | .divpd, o => .divpd o
  | .vdivpd, o => .vdivpd o
  | .divps, o => .divps o
  | .vdivps, o => .vdivps o
  | .divsd, o => .divsd o
  | .vdivsd, o => .vdivsd o
  | .divss, o => .divss o
  | .vdivss, o => .vdivss o
  | .vcompresspd, o => .vcompresspd o
  | .vcompressps, o => .vcompressps o
  | .cvtdq2pd, o => .cvtdq2pd o
  | .vcvtdq2pd, o => .vcvtdq2pd o
  | .cvtdq2ps, o => .cvtdq2ps o
  | .vcvtdq2ps, o => .vcvtdq2ps o
  | .cvtpd2dq, o => .cvtpd2dq o
  | .vcvtpd2dq, o => .vcvtpd2dq o
  | .cvtpd2ps, o => .cvtpd2ps o
  | .vcvtpd2ps, o => .vcvtpd2ps o
  | .vcvtpd2qq, o => .vcvtpd2qq o
  | .vcvtpd2udq, o => .vcvtpd2udq o
  | .vcvtpd2uqq, o => .vcvtpd2uqq o
  | .vcvtph2ps, o => .vcvtph2ps o
  | .vcvtps2ph, o => .vcvtps2ph o
  | .cvtps2dq, o => .cvtps2dq o
  | .vcvtps2dq, o => .vcvtps2dq o
  | .vcvtps2udq, o => .vcvtps2udq o
  | .vcvtps2qq, o => .vcvtps2qq o
  | .vcvtps2uqq, o => .vcvtps2uqq o
  | .cvtps2pd, o => .cvtps2pd o
  | .vcvtps2pd, o => .vcvtps2pd o
  | .vcvtqq2pd, o => .vcvtqq2pd o
  | .vcvtqq2ps, o => .vcvtqq2ps o
  | .cvtsd2si, o => .cvtsd2si o
  | .vcvtsd2si, o => .vcvtsd2si o
  | .vcvtsd2usi, o => .vcvtsd2usi o
  | .cvtsd2ss, o => .cvtsd2ss o
  | .vcvtsd2ss, o => .vcvtsd2ss o
  | .cvtsi2sd, o => .cvtsi2sd o
  | .vcvtsi2sd, o => .vcvtsi2sd o
  | .cvtsi2ss, o => .cvtsi2ss o
  | .vcvtsi2ss, o => .vcvtsi2ss o
  | .cvtss2sd, o => .cvtss2sd o
  | .vcvtss2sd, o => .vcvtss2sd o
  | .cvtss2si, o => .cvtss2si o
  | .vcvtss2si, o => .vcvtss2si o
  | .vcvtss2usi, o => .vcvtss2usi o
  | .cvttpd2dq, o => .cvttpd2dq o
  | .vcvttpd2dq, o => .vcvttpd2dq o
  | .vcvttpd2qq, o => .vcvttpd2qq o
  | .vcvttpd2udq, o => .vcvttpd2udq o
  | .vcvttpd2uqq, o => .vcvttpd2uqq o
  | .cvttps2dq, o => .cvttps2dq o
  | .vcvttps2dq, o => .vcvttps2dq o
  | .vcvttps2udq, o => .vcvttps2udq o
  | .vcvttps2qq, o => .vcvttps2qq o
  | .vcvttps2uqq, o => .vcvttps2uqq o
  | .cvttsd2si, o => .cvttsd2si o
  | .vcvttsd2si, o => .vcvttsd2si o
  | .vcvttsd2usi, o => .vcvttsd2usi o
  | .cvttss2si, o => .cvttss2si o
  | .vcvttss2si, o => .vcvttss2si o
  | .vcvttss2usi, o => .vcvttss2usi o
  | .vcvtudq2pd, o => .vcvtudq2pd o
  | .vcvtudq2ps, o => .vcvtudq2ps o
  | .vcvtuqq2pd, o => .vcvtuqq2pd o
  | .vcvtuqq2ps, o => .vcvtuqq2ps o
  | .vcvtusi2sd, o => .vcvtusi2sd o
  | .vcvtusi2ss, o => .vcvtusi2ss o
  | .vdbpsadbw, o => .vdbpsadbw o
  | .vexpandpd, o => .vexpandpd o
  | .vexpandps, o => .vexpandps o
  | .vextractf128, o => .vextractf128 o
  | .vextractf32x4, o => .vextractf32x4 o
  | .vextractf32x4z, o => .vextractf32x4z o
  | .vextractf64x2, o => .vextractf64x2 o
  | .vextractf32x8, o => .vextractf32x8 o
  | .vextractf64x4z, o => .vextractf64x4z o
  | .vextracti128, o => .vextracti128 o
  | .vextracti32x4, o => .vextracti32x4 o
  | .vextracti32x4z, o => .vextracti32x4z o
  | .vextracti64x2, o => .vextracti64x2 o
  | .vextracti32x8, o => .vextracti32x8 o
  | .vextracti64x4z, o => .vextracti64x4z o
  | .extractps, o => .extractps o
  | .vextractps, o => .vextractps o
  | .vfixupimmpd, o => .vfixupimmpd o
  | .vfixupimmps, o => .vfixupimmps o
  | .vfixupimmsd, o => .vfixupimmsd o
  | .vfixupimmss, o => .vfixupimmss o
  | .vfmadd132pd, o => .vfmadd132pd o
  | .vfmadd213pd, o => .vfmadd213pd o
  | .vfmadd231pd, o => .vfmadd231pd o
  | .vfmadd132ps, o => .vfmadd132ps o
  | .vfmadd213ps, o => .vfmadd213ps o
  | .vfmadd231ps, o => .vfmadd231ps o
  | .vfmadd132sd, o => .vfmadd132sd o
  | .vfmadd213sd, o => .vfmadd213sd o
  | .vfmadd231sd, o => .vfmadd231sd o
  | .vfmadd132ss, o => .vfmadd132ss o
  | .vfmadd213ss, o => .vfmadd213ss o
  | .vfmadd231ss, o => .vfmadd231ss o
  | .vfmaddsub132pd, o => .vfmaddsub132pd o
  | .vfmaddsub213pd, o => .vfmaddsub213pd o
  | .vfmaddsub231pd, o => .vfmaddsub231pd o
  | .vfmaddsub132ps, o => .vfmaddsub132ps o
  | .vfmaddsub213ps, o => .vfmaddsub213ps o
  | .vfmaddsub231ps, o => .vfmaddsub231ps o
  | .vfmsubadd132pd, o => .vfmsubadd132pd o
  | .vfmsubadd213pd, o => .vfmsubadd213pd o
  | .vfmsubadd231pd, o => .vfmsubadd231pd o
  | .vfmsubadd132ps, o => .vfmsubadd132ps o
  | .vfmsubadd213ps, o => .vfmsubadd213ps o
  | .vfmsubadd231ps, o => .vfmsubadd231ps o
  | .vfmsub132pd, o => .vfmsub132pd o
  | .vfmsub213pd, o => .vfmsub213pd o
  | .vfmsub231pd, o => .vfmsub231pd o
  | .vfmsub132ps, o => .vfmsub132ps o
  | .vfmsub213ps, o => .vfmsub213ps o
  | .vfmsub231ps, o => .vfmsub231ps o
  | .vfmsub132sd, o => .vfmsub132sd o
  | .vfmsub213sd, o => .vfmsub213sd o
  | .vfmsub231sd, o => .vfmsub231sd o
  | .vfmsub132ss, o => .vfmsub132ss o
  | .vfmsub213ss, o => .vfmsub213ss o
  | .vfmsub231ss, o => .vfmsub231ss o
  | .vfnmadd132pd, o => .vfnmadd132pd o
  | .vfnmadd213pd, o => .vfnmadd213pd o
  | .vfnmadd231pd, o => .vfnmadd231pd o
  | .vfnmadd132ps, o => .vfnmadd132ps o
  | .vfnmadd213ps, o => .vfnmadd213ps o
  | .vfnmadd231ps, o => .vfnmadd231ps o
  | .vfnmadd132sd, o => .vfnmadd132sd o
  | .vfnmadd213sd, o => .vfnmadd213sd o
  | .vfnmadd231sd, o => .vfnmadd231sd o
  | .vfnmadd132ss, o => .vfnmadd132ss o
  | .vfnmadd213ss, o => .vfnmadd213ss o
  | .vfnmadd231ss, o => .vfnmadd231ss o
  | .vfnmsub132pd, o => .vfnmsub132pd o
  | .vfnmsub213pd, o => .vfnmsub213pd o
  | .vfnmsub231pd, o => .vfnmsub231pd o
  | .vfnmsub132ps, o => .vfnmsub132ps o
  | .vfnmsub213ps, o => .vfnmsub213ps o
  | .vfnmsub231ps, o => .vfnmsub231ps o
  | .vfnmsub132sd, o => .vfnmsub132sd o
  | .vfnmsub213sd, o => .vfnmsub213sd o
  | .vfnmsub231sd, o => .vfnmsub231sd o
  | .vfnmsub132ss, o => .vfnmsub132ss o
  | .vfnmsub213ss, o => .vfnmsub213ss o
  | .vfnmsub231ss, o => .vfnmsub231ss o
  | .vfpclasspd, o => .vfpclasspd o
  | .vfpclassps, o => .vfpclassps o
  | .vfpclasssd, o => .vfpclasssd o
  | .vfpclassss, o => .vfpclassss o
  | .vpgatherdd, o => .vpgatherdd o
  | .vpgatherdq, o => .vpgatherdq o
  | .vpgatherqd, o => .vpgatherqd o
  | .vpgatherqq, o => .vpgatherqq o
  | .vgatherdps, o => .vgatherdps o
  | .vgatherdpd, o => .vgatherdpd o
  | .vgatherqps, o => .vgatherqps o
  | .vgatherqpd, o => .vgatherqpd o
  | .vgetexppd, o => .vgetexppd o
  | .vgetexpps, o => .vgetexpps o
  | .vgetexpsd, o => .vgetexpsd o
  | .vgetexpss, o => .vgetexpss o
  | .vgetmantpd, o => .vgetmantpd o
  | .vgetmantps, o => .vgetmantps o
  | .vgetmantsd, o => .vgetmantsd o
  | .vgetmantss, o => .vgetmantss o
  | .vinsertf128, o => .vinsertf128 o
  | .vinsertf32x4, o => .vinsertf32x4 o
  | .vinsertf64x2, o => .vinsertf64x2 o
  | .vinsertf32x8, o => .vinsertf32x8 o
  | .vinsertf64x4, o => .vinsertf64x4 o
  | .vinserti128, o => .vinserti128 o
  | .vinserti32x4, o => .vinserti32x4 o
  | .vinserti64x2, o => .vinserti64x2 o
  | .vinserti32x8, o => .vinserti32x8 o
  | .vinserti64x4, o => .vinserti64x4 o
  | .insertps, o => .insertps o
  | .vinsertps, o => .vinsertps o
  | .maxpd, o => .maxpd o
  | .vmaxpd, o => .vmaxpd o
  | .maxps, o => .maxps o
  | .vmaxps, o => .vmaxps o
  | .maxsd, o => .maxsd o
  | .vmaxsd, o => .vmaxsd o
  | .maxss, o => .maxss o
  | .vmaxss, o => .vmaxss o
  | .minpd, o => .minpd o
  | .vminpd, o => .vminpd o
  | .minps, o => .minps o
  | .vminps, o => .vminps o
  | .minsd, o => .minsd o
  | .vminsd, o => .vminsd o
  | .minss, o => .minss o
  | .vminss, o => .vminss o
  | .movapd, o => .movapd o
  | .vmovapd, o => .vmovapd o
  | .movaps, o => .movaps o
  | .vmovaps, o => .vmovaps o
  | .movd, o => .movd o
  | .vmovd, o => .vmovd o
  | .movq, o => .movq o
  | .vmovq, o => .vmovq o
  | .movddup, o => .movddup o
  | .vmovddup, o => .vmovddup o
  | .movdqa, o => .movdqa o
  | .vmovdqa, o => .vmovdqa o
  | .vmovdqa32, o => .vmovdqa32 o
  | .vmovdqa64, o => .vmovdqa64 o
  | .movdqu, o => .movdqu o
  | .vmovdqu, o => .vmovdqu o
  | .vmovdqu8, o => .vmovdqu8 o
  | .vmovdqu16, o => .vmovdqu16 o
  | .vmovdqu32, o => .vmovdqu32 o
  | .vmovdqu64, o => .vmovdqu64 o
  | .movhlps, o => .movhlps o
  | .vmovhlps, o => .vmovhlps o
  | .movhpd, o => .movhpd o
  | .vmovhpd, o => .vmovhpd o
  | .movhps, o => .movhps o
  | .vmovhps, o => .vmovhps o
  | .movlhps, o => .movlhps o
  | .vmovlhps, o => .vmovlhps o
  | .movlpd, o => .movlpd o
  | .vmovlpd, o => .vmovlpd o
  | .movlps, o => .movlps o
  | .vmovlps, o => .vmovlps o
  | .movntdqa, o => .movntdqa o
  | .vmovntdqa, o => .vmovntdqa o
  | .movntdq, o => .movntdq o
  | .vmovntdq, o => .vmovntdq o
  | .movntpd, o => .movntpd o
  | .vmovntpd, o => .vmovntpd o
  | .movntps, o => .movntps o
  | .vmovntps, o => .vmovntps o
  | .movsd, o => .movsd o
  | .vmovsd, o => .vmovsd o
  | .movshdup, o => .movshdup o
  | .vmovshdup, o => .vmovshdup o
  | .movsldup, o => .movsldup o
  | .vmovsldup, o => .vmovsldup o
  | .movss, o => .movss o
  | .vmovss, o => .vmovss o
  | .movupd, o => .movupd o
  | .vmovupd, o => .vmovupd o
  | .movups, o => .movups o
  | .vmovups, o => .vmovups o
  | .psadbw, o => .psadbw o
  | .vpsadbw, o => .vpsadbw o
  | .mulpd, o => .mulpd o
  | .vmulpd, o => .vmulpd o
  | .mulps, o => .mulps o
  | .vmulps, o => .vmulps o
  | .mulsd, o => .mulsd o
  | .vmulsd, o => .vmulsd o
  | .mulss, o => .mulss o
  | .vmulss, o => .vmulss o
  | .orpd, o => .orpd o
  | .vorpd, o => .vorpd o
  | .orps, o => .orps o
  | .vorps, o => .vorps o
  | .pabsb, o => .pabsb o
  | .vpabsb, o => .vpabsb o
  | .pabsw, o => .pabsw o
  | .vpabsw, o => .vpabsw o
  | .pabsd, o => .pabsd o
  | .vpabsd, o => .vpabsd o
  | .vpabsq, o => .vpabsq o
  | .packsswb, o => .packsswb o
  | .vpacksswb, o => .vpacksswb o
  | .packssdw, o => .packssdw o
  | .vpackssdw, o => .vpackssdw o
  | .packusdw, o => .packusdw o
  | .vpackusdw, o => .vpackusdw o
  | .packuswb, o => .packuswb o
  | .vpackuswb, o => .vpackuswb o
  | .paddb, o => .paddb o
  | .vpaddb, o => .vpaddb o
  | .paddw, o => .paddw o
  | .vpaddw, o => .vpaddw o
  | .paddd, o => .paddd o
  | .vpaddd, o => .vpaddd o
  | .paddq, o => .paddq o
  | .vpaddq, o => .vpaddq o
  | .paddsb, o => .paddsb o
  | .vpaddsb, o => .vpaddsb o
  | .paddsw, o => .paddsw o
  | .vpaddsw, o => .vpaddsw o
  | .paddusb, o => .paddusb o
  | .vpaddusb, o => .vpaddusb o
  | .paddusw, o => .paddusw o
  | .vpaddusw, o => .vpaddusw o
  | .palignr, o => .palignr o
  | .vpalignr, o => .vpalignr o
  | .pand, o => .pand o
  | .vpand, o => .vpand o
  | .vpandd, o => .vpandd o
  | .vpandq, o => .vpandq o
  | .pandn, o => .pandn o
  | .vpandn, o => .vpandn o
  | .vpandnd, o => .vpandnd o
  | .vpandnq, o => .vpandnq o
  | .pavgb, o => .pavgb o
  | .vpavgb, o => .vpavgb o
  | .pavgw, o => .pavgw o
  | .vpavgw, o => .vpavgw o
  | .vpbroadcastmb2q, o => .vpbroadcastmb2q o
  | .vpbroadcastmw2d, o => .vpbroadcastmw2d o
  | .pcmpeqb, o => .pcmpeqb o
  | .vpcmpeqb, o => .vpcmpeqb o
  | .pcmpeqw, o => .pcmpeqw o
  | .vpcmpeqw, o => .vpcmpeqw o
  | .pcmpeqd, o => .pcmpeqd o
  | .vpcmpeqd, o => .vpcmpeqd o
  | .pcmpeqq, o => .pcmpeqq o
  | .vpcmpeqq, o => .vpcmpeqq o
  | .pcmpgtb, o => .pcmpgtb o
  | .vpcmpgtb, o => .vpcmpgtb o
  | .pcmpgtw, o => .pcmpgtw o
  | .vpcmpgtw, o => .vpcmpgtw o
  | .pcmpgtd, o => .pcmpgtd o
  | .vpcmpgtd, o => .vpcmpgtd o
  | .pcmpgtq, o => .pcmpgtq o
  | .vpcmpgtq, o => .vpcmpgtq o
  | .vpcmpb, o => .vpcmpb o
  | .vpcmpub, o => .vpcmpub o
  | .vpcmpd, o => .vpcmpd o
  | .vpcmpud, o => .vpcmpud o
  | .vpcmpq, o => .vpcmpq o
  | .vpcmpuq, o => .vpcmpuq o
  | .vpcmpw, o => .vpcmpw o
  | .vpcmpuw, o => .vpcmpuw o
  | .vpcompressd, o => .vpcompressd o
  | .vpcompressq, o => .vpcompressq o
  | .vpconflictd, o => .vpconflictd o
  | .vpconflictq, o => .vpconflictq o
  | .vpermb, o => .vpermb o
  | .vpermd, o => .vpermd o
  | .vpermw, o => .vpermw o
  | .vpermi2b, o => .vpermi2b o
  | .vpermi2w, o => .vpermi2w o
  | .vpermi2d, o => .vpermi2d o
  | .vpermi2q, o => .vpermi2q o
  | .vpermi2ps, o => .vpermi2ps o
  | .vpermi2pd, o => .vpermi2pd o
  | .vpermt2b, o => .vpermt2b o
  | .vpermt2w, o => .vpermt2w o
  | .vpermt2d, o => .vpermt2d o
  | .vpermt2q, o => .vpermt2q o
  | .vpermt2ps, o => .vpermt2ps o
  | .vpermt2pd, o => .vpermt2pd o
  | .vpermilpd, o => .vpermilpd o
  | .vpermilps, o => .vpermilps o
  | .vpermpd, o => .vpermpd o
  | .vpermps, o => .vpermps o
  | .vpermq, o => .vpermq o
  | .vpexpandd, o => .vpexpandd o
  | .vpexpandq, o => .vpexpandq o
  | .pextrb, o => .pextrb o
  | .vpextrb, o => .vpextrb o
  | .pextrw, o => .pextrw o
  | .vpextrw, o => .vpextrw o
  | .pextrd, o => .pextrd o
  | .vpextrd, o => .vpextrd o
  | .pextrq, o => .pextrq o
  | .vpextrq, o => .vpextrq o
  | .vplzcntd, o => .vplzcntd o
  | .vplzcntq, o => .vplzcntq o
  | .pmaddubsw, o => .pmaddubsw o
  | .vpmaddubsw, o => .vpmaddubsw o
  | .pmaddwd, o => .pmaddwd o
  | .vpmaddwd, o => .vpmaddwd o
  | .pinsrb, o => .pinsrb o
  | .vpinsrb, o => .vpinsrb o
  | .pinsrw, o => .pinsrw o
  | .vpinsrw, o => .vpinsrw o
  | .pinsrd, o => .pinsrd o
  | .vpinsrd, o => .vpinsrd o
  | .pinsrq, o => .pinsrq o
  | .vpinsrq, o => .vpinsrq o
  | .vpmadd52luq, o => .vpmadd52luq o
  | .vpmadd52huq, o => .vpmadd52huq o
  | .pmaxsb, o => .pmaxsb o
  | .vpmaxsb, o => .vpmaxsb o
  | .pmaxsw, o => .pmaxsw o
  | .vpmaxsw, o => .vpmaxsw o
  | .pmaxsd, o => .pmaxsd o
  | .vpmaxsd, o => .vpmaxsd o
  | .vpmaxsq, o => .vpmaxsq o
  | .pmaxub, o => .pmaxub o
  | .vpmaxub, o => .vpmaxub o
  | .pmaxuw, o => .pmaxuw o
  | .vpmaxuw, o => .vpmaxuw o
  | .pmaxud, o => .pmaxud o
  | .vpmaxud, o => .vpmaxud o
  | .vpmaxuq, o => .vpmaxuq o
  | .pminsb, o => .pminsb o
  | .vpminsb, o => .vpminsb o
  | .pminsw, o => .pminsw o
  | .vpminsw, o => .vpminsw o
  | .pminsd, o => .pminsd o
  | .vpminsd, o => .vpminsd o
  | .vpminsq, o => .vpminsq o
  | .pminub, o => .pminub o
  | .vpminub, o => .vpminub o
  | .pminuw, o => .pminuw o
  | .vpminuw, o => .vpminuw o
  | .pminud, o => .pminud o
  | .vpminud, o => .vpminud o
  | .vpminuq, o => .vpminuq o
  | .vpmovm2b, o => .vpmovm2b o
  | .vpmovm2w, o => .vpmovm2w o
  | .vpmovm2d, o => .vpmovm2d o
  | .vpmovm2q, o => .vpmovm2q o
  | .vpmovb2m, o => .vpmovb2m o
  | .vpmovw2m, o => .vpmovw2m o
  | .vpmovd2m, o => .vpmovd2m o
  | .vpmovq2m, o => .vpmovq2m o
  | .vpmovqb, o => .vpmovqb o
  | .vpmovsqb, o => .vpmovsqb o
  | .vpmovusqb, o => .vpmovusqb o
  | .vpmovqw, o => .vpmovqw o
  | .vpmovsqw, o => .vpmovsqw o
  | .vpmovusqw, o => .vpmovusqw o
  | .vpmovqd, o => .vpmovqd o
  | .vpmovsqd, o => .vpmovsqd o
  | .vpmovusqd, o => .vpmovusqd o
  | .vpmovdb, o => .vpmovdb o
  | .vpmovsdb, o => .vpmovsdb o
  | .vpmovusdb, o => .vpmovusdb o
  | .vpmovdw, o => .vpmovdw o
  | .vpmovsdw, o => .vpmovsdw o
  | .vpmovusdw, o => .vpmovusdw o
  | .vpmovwb, o => .vpmovwb o
  | .vpmovswb, o => .vpmovswb o
  | .vpmovuswb, o => .vpmovuswb o
  | .pmovsxbw, o => .pmovsxbw o
  | .vpmovsxbw, o => .vpmovsxbw o
  | .pmovsxbd, o => .pmovsxbd o
  | .vpmovsxbd, o => .vpmovsxbd o
  | .pmovsxbq, o => .pmovsxbq o
  | .vpmovsxbq, o => .vpmovsxbq o
  | .pmovsxwd, o => .pmovsxwd o
  | .vpmovsxwd, o => .vpmovsxwd o
  | .pmovsxwq, o => .pmovsxwq o
  | .vpmovsxwq, o => .vpmovsxwq o
  | .pmovsxdq, o => .pmovsxdq o
  | .vpmovsxdq, o => .vpmovsxdq o
  | .pmovzxbw, o => .pmovzxbw o
  | .vpmovzxbw, o => .vpmovzxbw o
  | .pmovzxbd, o => .pmovzxbd o
  | .vpmovzxbd, o => .vpmovzxbd o
  | .pmovzxbq, o => .pmovzxbq o
  | .vpmovzxbq, o => .vpmovzxbq o
  | .pmovzxwd, o => .pmovzxwd o
  | .vpmovzxwd, o => .vpmovzxwd o
  | .pmovzxwq, o => .pmovzxwq o
  | .vpmovzxwq, o => .vpmovzxwq o
  | .pmovzxdq, o => .pmovzxdq o
  | .vpmovzxdq, o => .vpmovzxdq o
  | .pmuldq, o => .pmuldq o
  | .vpmuldq, o => .vpmuldq o
  | .pmulhrsw, o => .pmulhrsw o
  | .vpmulhrsw, o => .vpmulhrsw o
  | .pmulhuw, o => .pmulhuw o
  | .vpmulhuw, o => .vpmulhuw o
  | .pmulhw, o => .pmulhw o
  | .vpmulhw, o => .vpmulhw o
  | .pmulld, o => .pmulld o
  | .vpmulld, o => .vpmulld o
  | .vpmullq, o => .vpmullq o
  | .pmullw, o => .pmullw o
  | .vpmullw, o => .vpmullw o
  | .vpmultishiftqb, o => .vpmultishiftqb o
  | .pmuludq, o => .pmuludq o
  | .vpmuludq, o => .vpmuludq o
  | .por, o => .por o
  | .vpor, o => .vpor o
  | .vpord, o => .vpord o
  | .vporq, o => .vporq o
  | .vprold, o => .vprold o
  | .vprolvd, o => .vprolvd o
  | .vprolq, o => .vprolq o
  | .vprolvq, o => .vprolvq o
  | .vprord, o => .vprord o
  | .vprorvd, o => .vprorvd o
  | .vprorq, o => .vprorq o
  | .vprorvq, o => .vprorvq o
  | .vpscatterdd, o => .vpscatterdd o
  | .vpscatterdq, o => .vpscatterdq o
  | .vpscatterqd, o => .vpscatterqd o
  | .vpscatterqq, o => .vpscatterqq o
  | .pshufb, o => .pshufb o
  | .vpshufb, o => .vpshufb o
  | .pshufhw, o => .pshufhw o
  | .vpshufhw, o => .vpshufhw o
  | .pshuflw, o => .pshuflw o
  | .vpshuflw, o => .vpshuflw o
  | .pshufd, o => .pshufd o
  | .vpshufd, o => .vpshufd o
  | .pslldq, o => .pslldq o
  | .vpslldq, o => .vpslldq o
  | .psllw, o => .psllw o
  | .vpsllw, o => .vpsllw o
  | .pslld, o => .pslld o
  | .vpslld, o => .vpslld o
  | .psllq, o => .psllq o
  | .vpsllq, o => .vpsllq o
  | .psraw, o => .psraw o
  | .vpsraw, o => .vpsraw o
  | .psrad, o => .psrad o
  | .vpsrad, o => .vpsrad o
  | .vpsraq, o => .vpsraq o
  | .psrldq, o => .psrldq o
  | .vpsrldq, o => .vpsrldq o
  | .psrlw, o => .psrlw o
  | .vpsrlw, o => .vpsrlw o
  | .psrld, o => .psrld o
  | .vpsrld, o => .vpsrld o
  | .psrlq, o => .psrlq o
  | .vpsrlq, o => .vpsrlq o
  | .vpsllvw, o => .vpsllvw o
  | .vpsllvd, o => .vpsllvd o
  | .vpsllvq, o => .vpsllvq o
  | .vpsrlvw, o => .vpsrlvw o
  | .vpsrlvd, o => .vpsrlvd o
  | .vpsrlvq, o => .vpsrlvq o
  | .psubb, o => .psubb o
  | .vpsubb, o => .vpsubb o
  | .psubw, o => .psubw o
  | .vpsubw, o => .vpsubw o
  | .psubd, o => .psubd o
  | .vpsubd, o => .vpsubd o
  | .psubq, o => .psubq o
  | .vpsubq, o => .vpsubq o
  | .psubsb, o => .psubsb o
  | .vpsubsb, o => .vpsubsb o
  | .psubsw, o => .psubsw o
  | .vpsubsw, o => .vpsubsw o
  | .psubusb, o => .psubusb o
  | .vpsubusb, o => .vpsubusb o
  | .psubusw, o => .psubusw o
  | .vpsubusw, o => .vpsubusw o
  | .vptestnmb, o => .vptestnmb o
  | .vptestnmw, o => .vptestnmw o
  | .vptestnmd, o => .vptestnmd o
  | .vptestnmq, o => .vptestnmq o
  | .punpckhbw, o => .punpckhbw o
  | .vpunpckhbw, o => .vpunpckhbw o
  | .punpckhwd, o => .punpckhwd o
  | .vpunpckhwd, o => .vpunpckhwd o
  | .punpckhdq, o => .punpckhdq o
  | .vpunpckhdq, o => .vpunpckhdq o
  | .punpckhqdq, o => .punpckhqdq o
  | .vpunpckhqdq, o => .vpunpckhqdq o
  | .punpcklbw, o => .punpcklbw o
  | .vpunpcklbw, o => .vpunpcklbw o
  | .punpcklwd, o => .punpcklwd o
  | .vpunpcklwd, o => .vpunpcklwd o
  | .punpckldq, o => .punpckldq o
  | .vpunpckldq, o => .vpunpckldq o
  | .punpcklqdq, o => .punpcklqdq o
  | .vpunpcklqdq, o => .vpunpcklqdq o
  | .vshuff32x4, o => .vshuff32x4 o
  | .vshuff64x2, o => .vshuff64x2 o
  | .vshufi32x4, o => .vshufi32x4 o
  | .vshufi64x2, o => .vshufi64x2 o
  | .shufpd, o => .shufpd o
  | .vshufpd, o => .vshufpd o
  | .shufps, o => .shufps o
  | .vshufps, o => .vshufps o
  | .sqrtpd, o => .sqrtpd o
  | .vsqrtpd, o => .vsqrtpd o
  | .sqrtps, o => .sqrtps o
  | .vsqrtps, o => .vsqrtps o
  | .sqrtsd, o => .sqrtsd o
  | .vsqrtsd, o => .vsqrtsd o
  | .sqrtss, o => .sqrtss o
  | .vsqrtss, o => .vsqrtss o
  | .vpternlogd, o => .vpternlogd o
  | .vpternlogq, o => .vpternlogq o
  | .vptestmb, o => .vptestmb o
  | .vptestmw, o => .vptestmw o
  | .vptestmd, o => .vptestmd o
  | .vptestmq, o => .vptestmq o
  | .vpsravw, o => .vpsravw o
  | .vpsravd, o => .vpsravd o
  | .vpsravq, o => .vpsravq o
  | .pxor, o => .pxor o
  | .vpxor, o => .vpxor o
  | .vpxord, o => .vpxord o
  | .vpxorq, o => .vpxorq o
  | .vrangepd, o => .vrangepd o
  | .vrangeps, o => .vrangeps o
  | .vrangesd, o => .vrangesd o
  | .vrangess, o => .vrangess o
  | .vrcp14pd, o => .vrcp14pd o
  | .vrcp14sd, o => .vrcp14sd o
  | .vrcp14ps, o => .vrcp14ps o
  | .vrcp14ss, o => .vrcp14ss o
  | .vreducepd, o => .vreducepd o
  | .vreducesd, o => .vreducesd o
  | .vreduceps, o => .vreduceps o
  | .vreducess, o => .vreducess o
  | .vrndscalepd, o => .vrndscalepd o
  | .vrndscalesd, o => .vrndscalesd o
  | .vrndscaleps, o => .vrndscaleps o
  | .vrndscaless, o => .vrndscaless o
  | .vrsqrt14pd, o => .vrsqrt14pd o
  | .vrsqrt14sd, o => .vrsqrt14sd o
  | .vrsqrt14ps, o => .vrsqrt14ps o
  | .vrsqrt14ss, o => .vrsqrt14ss o
  | .vscalefpd, o => .vscalefpd o
  | .vscalefsd, o => .vscalefsd o
  | .vscalefps, o => .vscalefps o
  | .vscalefss, o => .vscalefss o
  | .vscatterdps, o => .vscatterdps o
  | .vscatterdpd, o => .vscatterdpd o
  | .vscatterqps, o => .vscatterqps o
  | .vscatterqpd, o => .vscatterqpd o
  | .subpd, o => .subpd o
  | .vsubpd, o => .vsubpd o
  | .subps, o => .subps o
  | .vsubps, o => .vsubps o
  | .subsd, o => .subsd o
  | .vsubsd, o => .vsubsd o
  | .subss, o => .subss o
  | .vsubss, o => .vsubss o
  | .ucomisd, o => .ucomisd o
  | .vucomisd, o => .vucomisd o
  | .ucomiss, o => .ucomiss o
  | .vucomiss, o => .vucomiss o
  | .unpckhpd, o => .unpckhpd o
  | .vunpckhpd, o => .vunpckhpd o
  | .unpckhps, o => .unpckhps o
  | .vunpckhps, o => .vunpckhps o
  | .unpcklpd, o => .unpcklpd o
  | .vunpcklpd, o => .vunpcklpd o
  | .unpcklps, o => .unpcklps o
  | .vunpcklps, o => .vunpcklps o
  | .xorpd, o => .xorpd o
  | .vxorpd, o => .vxorpd o
  | .xorps, o => .xorps o
  | .vxorps, o => .vxorps o
  | .kaddw, o => .kaddw o
  | .kaddb, o => .kaddb o
  | .kaddq, o => .kaddq o
  | .kaddd, o => .kaddd o
  | .kandw, o => .kandw o
  | .kandb, o => .kandb o
  | .kandq, o => .kandq o
  | .kandd, o => .kandd o
  | .kandnw, o => .kandnw o
  | .kandnb, o => .kandnb o
  | .kandnq, o => .kandnq o
  | .kandnd, o => .kandnd o
  | .korw, o => .korw o
  | .korb, o => .korb o
  | .korq, o => .korq o
  | .kord, o => .kord o
  | .kxnorw, o => .kxnorw o
  | .kxnorb, o => .kxnorb o
  | .kxnorq, o => .kxnorq o
  | .kxnord, o => .kxnord o
  | .kxorw, o => .kxorw o
  | .kxorb, o => .kxorb o
  | .kxorq, o => .kxorq o
  | .kxord, o => .kxord o
  | .knotw, o => .knotw o
  | .knotb, o => .knotb o
  | .knotq, o => .knotq o
  | .knotd, o => .knotd o
  | .kmovw, o => .kmovw o
  | .kmovb, o => .kmovb o
  | .kmovq, o => .kmovq o
  | .kmovd, o => .kmovd o
  | .kunpckbw, o => .kunpckbw o
  | .kunpckwd, o => .kunpckwd o
  | .kunpckdq, o => .kunpckdq o
  | .kortestw, o => .kortestw o
  | .kortestb, o => .kortestb o
  | .kortestq, o => .kortestq o
  | .kortestd, o => .kortestd o
  | .ktestw, o => .ktestw o
  | .ktestb, o => .ktestb o
  | .ktestq, o => .ktestq o
  | .ktestd, o => .ktestd o
  | .kshiftlw, o => .kshiftlw o
  | .kshiftlb, o => .kshiftlb o
  | .kshiftlq, o => .kshiftlq o
  | .kshiftld, o => .kshiftld o
  | .kshiftrw, o => .kshiftrw o
  | .kshiftrb, o => .kshiftrb o
  | .kshiftrq, o => .kshiftrq o
  | .kshiftrd, o => .kshiftrd o
  | .vexp2pd, o => .vexp2pd o
  | .vexp2ps, o => .vexp2ps o
  | .vrcp28pd, o => .vrcp28pd o
  | .vrcp28sd, o => .vrcp28sd o
  | .vrcp28ps, o => .vrcp28ps o
  | .vrcp28ss, o => .vrcp28ss o
  | .vrsqrt28pd, o => .vrsqrt28pd o
  | .vrsqrt28sd, o => .vrsqrt28sd o
  | .vrsqrt28ps, o => .vrsqrt28ps o
  | .vrsqrt28ss, o => .vrsqrt28ss o
  | .vgatherpf0dps, o => .vgatherpf0dps o
  | .vgatherpf0qps, o => .vgatherpf0qps o
  | .vgatherpf0dpd, o => .vgatherpf0dpd o
  | .vgatherpf0qpd, o => .vgatherpf0qpd o
  | .vgatherpf1dps, o => .vgatherpf1dps o
  | .vgatherpf1qps, o => .vgatherpf1qps o
  | .vgatherpf1dpd, o => .vgatherpf1dpd o
  | .vgatherpf1qpd, o => .vgatherpf1qpd o
  | .vscatterpf0dps, o => .vscatterpf0dps o
  | .vscatterpf0qps, o => .vscatterpf0qps o
  | .vscatterpf0dpd, o => .vscatterpf0dpd o
  | .vscatterpf0qpd, o => .vscatterpf0qpd o
  | .vscatterpf1dps, o => .vscatterpf1dps o
  | .vscatterpf1qps, o => .vscatterpf1qps o
  | .vscatterpf1dpd, o => .vscatterpf1dpd o
  | .vscatterpf1qpd, o => .vscatterpf1qpd o
  | .sha1rnds4, o => .sha1rnds4 o
  | .sha1nexte, o => .sha1nexte o
  | .sha1msg1, o => .sha1msg1 o
  | .sha1msg2, o => .sha1msg2 o
  | .sha256rnds2, o => .sha256rnds2 o
  | .sha256msg1, o => .sha256msg1 o
  | .sha256msg2, o => .sha256msg2 o
  | .prefetchwt1, o => .prefetchwt1 o
  | .clwb, o => .clwb o
  | .pcommit, _ => .pcommit

/-- The name of an instruction. -/
def mnemonicOf (i : Instr) : Mnemonic :=
  match i with
  | .cpuid => .cpuid
  | .addpd _ => .addpd
  | .vaddpd _ => .vaddpd
  | .addps _ => .addps
  | .vaddps _ => .vaddps
  | .addsd _ => .addsd
  | .vaddsd _ => .vaddsd
  | .addss _ => .addss
  | .vaddss _ => .vaddss
  | .valignd _ => .valignd
  | .valignq _ => .valignq
  | .vblendmpd _ => .vblendmpd
  | .vblendmps _ => .vblendmps
  | .vpblendmb _ => .vpblendmb
  | .vpblendmw _ => .vpblendmw
  | .vpblendmd _ => .vpblendmd
  | .vpblendmq _ => .vpblendmq
  | .andpd _ => .andpd
  | .vandpd _ => .vandpd
  | .andps _ => .andps
  | .vandps _ => .vandps
  | .andnpd _ => .andnpd
  | .vandnpd _ => .vandnpd
  | .andnps _ => .andnps
  | .vandnps _ => .vandnps
  | .vbroadcastss _ => .vbroadcastss
  | .vbroadcastsd _ => .vbroadcastsd
  | .vbroadcastf128 _ => .vbroadcastf128
  | .vbroadcastf32x2 _ => .vbroadcastf32x2
  | .vbroadcastf32x4 _ => .vbroadcastf32x4
  | .vbroadcastf64x2 _ => .vbroadcastf64x2
  | .vbroadcastf32x8 _ => .vbroadcastf32x8
  | .vbroadcastf64x4 _ => .vbroadcastf64x4
  | .vpbroadcastb _ => .vpbroadcastb
  | .vpbroadcastw _ => .vpbroadcastw
  | .vpbroadcastd _ => .vpbroadcastd
  | .vpbroadcastq _ => .vpbroadcastq
  | .vbroadcasti32x2 _ => .vbroadcasti32x2
  | .vbroadcasti128 _ => .vbroadcasti128
  | .vbroadcasti32x4 _ => .vbroadcasti32x4
  | .vbroadcasti64x2 _ => .vbroadcasti64x2
  | .vbroadcasti32x8 _ => .vbroadcasti32x8
  | .vbroadcasti64x4 _ => .vbroadcasti64x4
  | .cmppd _ => .cmppd
  | .vcmppd _ => .vcmppd
  | .cmpps _ => .cmpps
  | .vcmpps _ => .vcmpps
  | .cmpsd _ => .cmpsd
  | .vcmpsd _ => .vcmpsd
  | .cmpss _ => .cmpss
  | .vcmpss _ => .vcmpss
  | .comisd _ => .comisd
  | .vcomisd _ => .vcomisd
  | .comiss _ => .comiss
  | .vcomiss _ => .vcomiss
  | .divpd _ => .divpd
  | .vdivpd _ => .vdivpd
  | .divps _ => .divps
  | .vdivps _ => .vdivps
  | .divsd _ => .divsd
  | .vdivsd _ => .vdivsd
  | .divss _ => .divss
  | .vdivss _ => .vdivss
  | .vcompresspd _ => .vcompresspd
  | .vcompressps _ => .vcompressps
  | .cvtdq2pd _ => .cvtdq2pd
  | .vcvtdq2pd _ => .vcvtdq2pd
  | .cvtdq2ps _ => .cvtdq2ps
  | .vcvtdq2ps _ => .vcvtdq2ps
  | .cvtpd2dq _ => .cvtpd2dq
  | .vcvtpd2dq _ => .vcvtpd2dq
  | .cvtpd2ps _ => .cvtpd2ps
  | .vcvtpd2ps _ => .vcvtpd2ps
  | .vcvtpd2qq _ => .vcvtpd2qq
  | .vcvtpd2udq _ => .vcvtpd2udq
  | .vcvtpd2uqq _ => .vcvtpd2uqq
  | .vcvtph2ps _ => .vcvtph2ps
  | .vcvtps2ph _ => .vcvtps2ph
  | .cvtps2dq _ => .cvtps2dq
  | .vcvtps2dq _ => .vcvtps2dq
  | .vcvtps2udq _ => .vcvtps2udq
  | .vcvtps2qq _ => .vcvtps2qq
  | .vcvtps2uqq _ => .vcvtps2uqq
  | .cvtps2pd _ => .cvtps2pd
  | .vcvtps2pd _ => .vcvtps2pd
  | .vcvtqq2pd _ => .vcvtqq2pd
  | .vcvtqq2ps _ => .vcvtqq2ps
  | .cvtsd2si _ => .cvtsd2si
  | .vcvtsd2si _ => .vcvtsd2si
  | .vcvtsd2usi _ => .vcvtsd2usi
  | .cvtsd2ss _ => .cvtsd2ss
  | .vcvtsd2ss _ => .vcvtsd2ss
  | .cvtsi2sd _ => .cvtsi2sd
  | .vcvtsi2sd _ => .vcvtsi2sd
  | .cvtsi2ss _ => .cvtsi2ss
  | .vcvtsi2ss _ => .vcvtsi2ss
  | .cvtss2sd _ => .cvtss2sd
  | .vcvtss2sd _ => .vcvtss2sd
  | .cvtss2si _ => .cvtss2si
  | .vcvtss2si _ => .vcvtss2si
  | .vcvtss2usi _ => .vcvtss2usi
  | .cvttpd2dq _ => .cvttpd2dq
  | .vcvttpd2dq _ => .vcvttpd2dq
  | .vcvttpd2qq _ => .vcvttpd2qq
  | .vcvttpd2udq _ => .vcvttpd2udq
  | .vcvttpd2uqq _ => .vcvttpd2uqq
  | .cvttps2dq _ => .cvttps2dq
  | .vcvttps2dq _ => .vcvttps2dq
  | .vcvttps2udq _ => .vcvttps2udq
  | .vcvttps2qq _ => .vcvttps2qq
  | .vcvttps2uqq _ => .vcvttps2uqq
  | .cvttsd2si _ => .cvttsd2si
  | .vcvttsd2si _ => .vcvttsd2si
  | .vcvttsd2usi _ => .vcvttsd2usi
  | .cvttss2si _ => .cvttss2si
  | .vcvttss2si _ => .vcvttss2si
  | .vcvttss2usi _ => .vcvttss2usi
  | .vcvtudq2pd _ => .vcvtudq2pd
  | .vcvtudq2ps _ => .vcvtudq2ps
  | .vcvtuqq2pd _ => .vcvtuqq2pd
  | .vcvtuqq2ps _ => .vcvtuqq2ps
  | .vcvtusi2sd _ => .vcvtusi2sd
  | .vcvtusi2ss _ => .vcvtusi2ss
  | .vdbpsadbw _ => .vdbpsadbw
  | .vexpandpd _ => .vexpandpd
  | .vexpandps _ => .vexpandps
  | .vextractf128 _ => .vextractf128
  | .vextractf32x4 _ => .vextractf32x4
  | .vextractf32x4z _ => .vextractf32x4z
  | .vextractf64x2 _ => .vextractf64x2
  | .vextractf32x8 _ => .vextractf32x8
  | .vextractf64x4z _ => .vextractf64x4z
  | .vextracti128 _ => .vextracti128
  | .vextracti32x4 _ => .vextracti32x4
  | .vextracti32x4z _ => .vextracti32x4z
  | .vextracti64x2 _ => .vextracti64x2
  | .vextracti32x8 _ => .vextracti32x8
  | .vextracti64x4z _ => .vextracti64x4z
  | .extractps _ => .extractps
  | .vextractps _ => .vextractps
  | .vfixupimmpd _ => .vfixupimmpd
  | .vfixupimmps _ => .vfixupimmps
  | .vfixupimmsd _ => .vfixupimmsd
  | .vfixupimmss _ => .vfixupimmss
  | .vfmadd132pd _ => .vfmadd132pd
  | .vfmadd213pd _ => .vfmadd213pd
  | .vfmadd231pd _ => .vfmadd231pd
  | .vfmadd132ps _ => .vfmadd132ps
  | .vfmadd213ps _ => .vfmadd213ps
  | .vfmadd231ps _ => .vfmadd231ps
  | .vfmadd132sd _ => .vfmadd132sd
  | .vfmadd213sd _ => .vfmadd213sd
  | .vfmadd231sd _ => .vfmadd231sd
  | .vfmadd132ss _ => .vfmadd132ss
  | .vfmadd213ss _ => .vfmadd213ss
  | .vfmadd231ss _ => .vfmadd231ss
  | .vfmaddsub132pd _ => .vfmaddsub132pd
  | .vfmaddsub213pd _ => .vfmaddsub213pd
  | .vfmaddsub231pd _ => .vfmaddsub231pd
  | .vfmaddsub132ps _ => .vfmaddsub132ps
  | .vfmaddsub213ps _ => .vfmaddsub213ps
  | .vfmaddsub231ps _ => .vfmaddsub231ps
  | .vfmsubadd132pd _ => .vfmsubadd132pd
  | .vfmsubadd213pd _ => .vfmsubadd213pd
  | .vfmsubadd231pd _ => .vfmsubadd231pd
  | .vfmsubadd132ps _ => .vfmsubadd132ps
  | .vfmsubadd213ps _ => .vfmsubadd213ps
  | .vfmsubadd231ps _ => .vfmsubadd231ps
  | .vfmsub132pd _ => .vfmsub132pd
  | .vfmsub213pd _ => .vfmsub213pd
  | .vfmsub231pd _ => .vfmsub231pd
  | .vfmsub132ps _ => .vfmsub132ps
  | .vfmsub213ps _ => .vfmsub213ps
  | .vfmsub231ps _ => .vfmsub231ps
  | .vfmsub132sd _ => .vfmsub132sd
  | .vfmsub213sd _ => .vfmsub213sd
  | .vfmsub231sd _ => .vfmsub231sd
  | .vfmsub132ss _ => .vfmsub132ss
  | .vfmsub213ss _ => .vfmsub213ss
  | .vfmsub231ss _ => .vfmsub231ss
  | .vfnmadd132pd _ => .vfnmadd132pd
  | .vfnmadd213pd _ => .vfnmadd213pd
  | .vfnmadd231pd _ => .vfnmadd231pd
  | .vfnmadd132ps _ => .vfnmadd132ps
  | .vfnmadd213ps _ => .vfnmadd213ps
  | .vfnmadd231ps _ => .vfnmadd231ps
  | .vfnmadd132sd _ => .vfnmadd132sd
  | .vfnmadd213sd _ => .vfnmadd213sd
  | .vfnmadd231sd _ => .vfnmadd231sd
  | .vfnmadd132ss _ => .vfnmadd132ss
  | .vfnmadd213ss _ => .vfnmadd213ss
  | .vfnmadd231ss _ => .vfnmadd231ss
  | .vfnmsub132pd _ => .vfnmsub132pd
  | .vfnmsub213pd _ => .vfnmsub213pd
  | .vfnmsub231pd _ => .vfnmsub231pd
  | .vfnmsub132ps _ => .vfnmsub132ps
  | .vfnmsub213ps _ => .vfnmsub213ps
  | .vfnmsub231ps _ => .vfnmsub231ps
  | .vfnmsub132sd _ => .vfnmsub132sd
  | .vfnmsub213sd _ => .vfnmsub213sd
  | .vfnmsub231sd _ => .vfnmsub231sd
  | .vfnmsub132ss _ => .vfnmsub132ss
  | .vfnmsub213ss _ => .vfnmsub213ss
  | .vfnmsub231ss _ => .vfnmsub231ss
  | .vfpclasspd _ => .vfpclasspd
  | .vfpclassps _ => .vfpclassps
  | .vfpclasssd _ => .vfpclasssd
  | .vfpclassss _ => .vfpclassss
  | .vpgatherdd _ => .vpgatherdd
  | .vpgatherdq _ => .vpgatherdq
  | .vpgatherqd _ => .vpgatherqd
  | .vpgatherqq _ => .vpgatherqq
  | .vgatherdps _ => .vgatherdps
  | .vgatherdpd _ => .vgatherdpd
  | .vgatherqps _ => .vgatherqps
  | .vgatherqpd _ => .vgatherqpd
  | .vgetexppd _ => .vgetexppd
  | .vgetexpps _ => .vgetexpps
  | .vgetexpsd _ => .vgetexpsd
  | .vgetexpss _ => .vgetexpss
  | .vgetmantpd _ => .vgetmantpd
  | .vgetmantps _ => .vgetmantps
  | .vgetmantsd _ => .vgetmantsd
  | .vgetmantss _ => .vgetmantss
  | .vinsertf128 _ => .vinsertf128
  | .vinsertf32x4 _ => .vinsertf32x4
  | .vinsertf64x2 _ => .vinsertf64x2
  | .vinsertf32x8 _ => .vinsertf32x8
  | .vinsertf64x4 _ => .vinsertf64x4
  | .vinserti128 _ => .vinserti128
  | .vinserti32x4 _ => .vinserti32x4
  | .vinserti64x2 _ => .vinserti64x2
  | .vinserti32x8 _ => .vinserti32x8
  | .vinserti64x4 _ => .vinserti64x4
  | .insertps _ => .insertps
  | .vinsertps _ => .vinsertps
  | .maxpd _ => .maxpd
  | .vmaxpd _ => .vmaxpd
  | .maxps _ => .maxps
  | .vmaxps _ => .vmaxps
  | .maxsd _ => .maxsd
  | .vmaxsd _ => .vmaxsd
  | .maxss _ => .maxss
  | .vmaxss _ => .vmaxss
  | .minpd _ => .minpd
  | .vminpd _ => .vminpd
  | .minps _ => .minps
  | .vminps _ => .vminps
  | .minsd _ => .minsd
  | .vminsd _ => .vminsd
  | .minss _ => .minss
  | .vminss _ => .vminss
  | .movapd _ => .movapd
  | .vmovapd _ => .vmovapd
  | .movaps _ => .movaps
  | .vmovaps _ => .vmovaps
  | .movd _ => .movd
  | .vmovd _ => .vmovd
  | .movq _ => .movq
  | .vmovq _ => .vmovq
  | .movddup _ => .movddup
  | .vmovddup _ => .vmovddup
  | .movdqa _ => .movdqa
  | .vmovdqa _ => .vmovdqa
  | .vmovdqa32 _ => .vmovdqa32
  | .vmovdqa64 _ => .vmovdqa64
  | .movdqu _ => .movdqu
  | .vmovdqu _ => .vmovdqu
  | .vmovdqu8 _ => .vmovdqu8
  | .vmovdqu16 _ => .vmovdqu16
  | .vmovdqu32 _ => .vmovdqu32
  | .vmovdqu64 _ => .vmovdqu64
  | .movhlps _ => .movhlps
  | .vmovhlps _ => .vmovhlps
  | .movhpd _ => .movhpd
  | .vmovhpd _ => .vmovhpd
  | .movhps _ => .movhps
  | .vmovhps _ => .vmovhps
  | .movlhps _ => .movlhps
  | .vmovlhps _ => .vmovlhps
  | .movlpd _ => .movlpd
  | .vmovlpd _ => .vmovlpd
  | .movlps _ => .movlps
  | .vmovlps _ => .vmovlps
  | .movntdqa _ => .movntdqa
  | .vmovntdqa _ => .vmovntdqa
  | .movntdq _ => .movntdq
  | .vmovntdq _ => .vmovntdq
  | .movntpd _ => .movntpd
  | .vmovntpd _ => .vmovntpd
  | .movntps _ => .movntps
  | .vmovntps _ => .vmovntps
  | .movsd _ => .movsd
  | .vmovsd _ => .vmovsd
  | .movshdup _ => .movshdup
  | .vmovshdup _ => .vmovshdup
  | .movsldup _ => .movsldup
  | .vmovsldup _ => .vmovsldup
  | .movss _ => .movss
  | .vmovss _ => .vmovss
  | .movupd _ => .movupd
  | .vmovupd _ => .vmovupd
  | .movups _ => .movups
  | .vmovups _ => .vmovups
  | .psadbw _ => .psadbw
  | .vpsadbw _ => .vpsadbw
  | .mulpd _ => .mulpd
  | .vmulpd _ => .vmulpd
  | .mulps _ => .mulps
  | .vmulps _ => .vmulps
  | .mulsd _ => .mulsd
  | .vmulsd _ => .vmulsd
  | .mulss _ => .mulss
  | .vmulss _ => .vmulss
  | .orpd _ => .orpd
  | .vorpd _ => .vorpd
  | .orps _ => .orps
  | .vorps _ => .vorps
  | .pabsb _ => .pabsb
  | .vpabsb _ => .vpabsb
  | .pabsw _ => .pabsw
  | .vpabsw _ => .vpabsw
  | .pabsd _ => .pabsd
  | .vpabsd _ => .vpabsd
  | .vpabsq _ => .vpabsq
  | .packsswb _ => .packsswb
  | .vpacksswb _ => .vpacksswb
  | .packssdw _ => .packssdw
  | .vpackssdw _ => .vpackssdw
  | .packusdw _ => .packusdw
  | .vpackusdw _ => .vpackusdw
  | .packuswb _ => .packuswb
  | .vpackuswb _ => .vpackuswb
  | .paddb _ => .paddb
  | .vpaddb _ => .vpaddb
  | .paddw _ => .paddw
  | .vpaddw _ => .vpaddw
  | .paddd _ => .paddd
  | .vpaddd _ => .vpaddd
  | .paddq _ => .paddq
  | .vpaddq _ => .vpaddq
  | .paddsb _ => .paddsb
  | .vpaddsb _ => .vpaddsb
  | .paddsw _ => .paddsw
  | .vpaddsw _ => .vpaddsw
  | .paddusb _ => .paddusb
  | .vpaddusb _ => .vpaddusb
  | .paddusw _ => .paddusw
  | .vpaddusw _ => .vpaddusw
  | .palignr _ => .palignr
  | .vpalignr _ => .vpalignr
  | .pand _ => .pand
  | .vpand _ => .vpand
  | .vpandd _ => .vpandd
  | .vpandq _ => .vpandq
  | .pandn _ => .pandn
  | .vpandn _ => .vpandn
  | .vpandnd _ => .vpandnd
  | .vpandnq _ => .vpandnq
  | .pavgb _ => .pavgb
  | .vpavgb _ => .vpavgb
  | .pavgw _ => .pavgw
  | .vpavgw _ => .vpavgw
  | .vpbroadcastmb2q _ => .vpbroadcastmb2q
  | .vpbroadcastmw2d _ => .vpbroadcastmw2d
  | .pcmpeqb _ => .pcmpeqb
  | .vpcmpeqb _ => .vpcmpeqb
  | .pcmpeqw _ => .pcmpeqw
  | .vpcmpeqw _ => .vpcmpeqw
  | .pcmpeqd _ => .pcmpeqd
  | .vpcmpeqd _ => .vpcmpeqd
  | .pcmpeqq _ => .pcmpeqq
  | .vpcmpeqq _ => .vpcmpeqq
  | .pcmpgtb _ => .pcmpgtb
  | .vpcmpgtb _ => .vpcmpgtb
  | .pcmpgtw _ => .pcmpgtw
  | .vpcmpgtw _ => .vpcmpgtw
  | .pcmpgtd _ => .pcmpgtd
  | .vpcmpgtd _ => .vpcmpgtd
  | .pcmpgtq _ => .pcmpgtq
  | .vpcmpgtq _ => .vpcmpgtq
  | .vpcmpb _ => .vpcmpb
  | .vpcmpub _ => .vpcmpub
  | .vpcmpd _ => .vpcmpd
  | .vpcmpud _ => .vpcmpud
  | .vpcmpq _ => .vpcmpq
  | .vpcmpuq _ => .vpcmpuq
  | .vpcmpw _ => .vpcmpw
  | .vpcmpuw _ => .vpcmpuw
  | .vpcompressd _ => .vpcompressd
  | .vpcompressq _ => .vpcompressq
  | .vpconflictd _ => .vpconflictd
  | .vpconflictq _ => .vpconflictq
  | .vpermb _ => .vpermb
  | .vpermd _ => .vpermd
  | .vpermw _ => .vpermw
  | .vpermi2b _ => .vpermi2b
  | .vpermi2w _ => .vpermi2w
  | .vpermi2d _ => .vpermi2d
  | .vpermi2q _ => .vpermi2q
  | .vpermi2ps _ => .vpermi2ps
  | .vpermi2pd _ => .vpermi2pd
  | .vpermt2b _ => .vpermt2b
  | .vpermt2w _ => .vpermt2w
  | .vpermt2d _ => .vpermt2d
  | .vpermt2q _ => .vpermt2q
  | .vpermt2ps _ => .vpermt2ps
  | .vpermt2pd _ => .vpermt2pd
  | .vpermilpd _ => .vpermilpd
  | .vpermilps _ => .vpermilps
  | .vpermpd _ => .vpermpd
  | .vpermps _ => .vpermps
  | .vpermq _ => .vpermq
  | .vpexpandd _ => .vpexpandd
  | .vpexpandq _ => .vpexpandq
  | .pextrb _ => .pextrb
  | .vpextrb _ => .vpextrb
  | .pextrw _ => .pextrw
  | .vpextrw _ => .vpextrw
  | .pextrd _ => .pextrd
  | .vpextrd _ => .vpextrd
  | .pextrq _ => .pextrq
  | .vpextrq _ => .vpextrq
  | .vplzcntd _ => .vplzcntd
  | .vplzcntq _ => .vplzcntq
  | .pmaddubsw _ => .pmaddubsw
  | .vpmaddubsw _ => .vpmaddubsw
  | .pmaddwd _ => .pmaddwd
  | .vpmaddwd _ => .vpmaddwd
  | .pinsrb _ => .pinsrb
  | .vpinsrb _ => .vpinsrb
  | .pinsrw _ => .pinsrw
  | .vpinsrw _ => .vpinsrw
  | .pinsrd _ => .pinsrd
  | .vpinsrd _ => .vpinsrd
  | .pinsrq _ => .pinsrq
  | .vpinsrq _ => .vpinsrq
  | .vpmadd52luq _ => .vpmadd52luq
  | .vpmadd52huq _ => .vpmadd52huq
  | .pmaxsb _ => .pmaxsb
  | .vpmaxsb _ => .vpmaxsb
  | .pmaxsw _ => .pmaxsw
  | .vpmaxsw _ => .vpmaxsw
  | .pmaxsd _ => .pmaxsd
  | .vpmaxsd _ => .vpmaxsd
  | .vpmaxsq _ => .vpmaxsq
  | .pmaxub _ => .pmaxub
  | .vpmaxub _ => .vpmaxub
  | .pmaxuw _ => .pmaxuw
  | .vpmaxuw _ => .vpmaxuw
  | .pmaxud _ => .pmaxud
  | .vpmaxud _ => .vpmaxud
  | .vpmaxuq _ => .vpmaxuq
  | .pminsb _ => .pminsb
  | .vpminsb _ => .vpminsb
  | .pminsw _ => .pminsw
  | .vpminsw _ => .vpminsw
  | .pminsd _ => .pminsd
  | .vpminsd _ => .vpminsd
  | .vpminsq _ => .vpminsq
  | .pminub _ => .pminub
  | .vpminub _ => .vpminub
  | .pminuw _ => .pminuw
  | .vpminuw _ => .vpminuw
  | .pminud _ => .pminud
  | .vpminud _ => .vpminud
  | .vpminuq _ => .vpminuq
  | .vpmovm2b _ => .vpmovm2b
  | .vpmovm2w _ => .vpmovm2w
  | .vpmovm2d _ => .vpmovm2d
  | .vpmovm2q _ => .vpmovm2q
  | .vpmovb2m _ => .vpmovb2m
  | .vpmovw2m _ => .vpmovw2m
  | .vpmovd2m _ => .vpmovd2m
  | .vpmovq2m _ => .vpmovq2m
  | .vpmovqb _ => .vpmovqb
  | .vpmovsqb _ => .vpmovsqb
  | .vpmovusqb _ => .vpmovusqb
  | .vpmovqw _ => .vpmovqw
  | .vpmovsqw _ => .vpmovsqw
  | .vpmovusqw _ => .vpmovusqw
  | .vpmovqd _ => .vpmovqd
  | .vpmovsqd _ => .vpmovsqd
  | .vpmovusqd _ => .vpmovusqd
  | .vpmovdb _ => .vpmovdb
  | .vpmovsdb _ => .vpmovsdb
  | .vpmovusdb _ => .vpmovusdb
  | .vpmovdw _ => .vpmovdw
  | .vpmovsdw _ => .vpmovsdw
  | .vpmovusdw _ => .vpmovusdw
  | .vpmovwb _ => .vpmovwb
  | .vpmovswb _ => .vpmovswb
  | .vpmovuswb _ => .vpmovuswb
  | .pmovsxbw _ => .pmovsxbw
  | .vpmovsxbw _ => .vpmovsxbw
  | .pmovsxbd _ => .pmovsxbd
  | .vpmovsxbd _ => .vpmovsxbd
  | .pmovsxbq _ => .pmovsxbq
  | .vpmovsxbq _ => .vpmovsxbq
  | .pmovsxwd _ => .pmovsxwd
  | .vpmovsxwd _ => .vpmovsxwd
  | .pmovsxwq _ => .pmovsxwq
  | .vpmovsxwq _ => .vpmovsxwq
  | .pmovsxdq _ => .pmovsxdq
  | .vpmovsxdq _ => .vpmovsxdq
  | .pmovzxbw _ => .pmovzxbw
  | .vpmovzxbw _ => .vpmovzxbw
  | .pmovzxbd _ => .pmovzxbd
  | .vpmovzxbd _ => .vpmovzxbd
  | .pmovzxbq _ => .pmovzxbq
  | .vpmovzxbq _ => .vpmovzxbq
  | .pmovzxwd _ => .pmovzxwd
  | .vpmovzxwd _ => .vpmovzxwd
  | .pmovzxwq _ => .pmovzxwq
  | .vpmovzxwq _ => .vpmovzxwq
  | .pmovzxdq _ => .pmovzxdq
  | .vpmovzxdq _ => .vpmovzxdq
  | .pmuldq _ => .pmuldq
  | .vpmuldq _ => .vpmuldq
  | .pmulhrsw _ => .pmulhrsw
  | .vpmulhrsw _ => .vpmulhrsw
  | .pmulhuw _ => .pmulhuw
  | .vpmulhuw _ => .vpmulhuw
  | .pmulhw _ => .pmulhw
  | .vpmulhw _ => .vpmulhw
  | .pmulld _ => .pmulld
  | .vpmulld _ => .vpmulld
  | .vpmullq _ => .vpmullq
  | .pmullw _ => .pmullw
  | .vpmullw _ => .vpmullw
  | .vpmultishiftqb _ => .vpmultishiftqb
  | .pmuludq _ => .pmuludq
  | .vpmuludq _ => .vpmuludq
  | .por _ => .por
  | .vpor _ => .vpor
  | .vpord _ => .vpord
  | .vporq _ => .vporq
  | .vprold _ => .vprold
  | .vprolvd _ => .vprolvd
  | .vprolq _ => .vprolq
  | .vprolvq _ => .vprolvq
  | .vprord _ => .vprord
  | .vprorvd _ => .vprorvd
  | .vprorq _ => .vprorq
  | .vprorvq _ => .vprorvq
  | .vpscatterdd _ => .vpscatterdd
  | .vpscatterdq _ => .vpscatterdq
  | .vpscatterqd _ => .vpscatterqd
  | .vpscatterqq _ => .vpscatterqq
  | .pshufb _ => .pshufb
  | .vpshufb _ => .vpshufb
  | .pshufhw _ => .pshufhw
  | .vpshufhw _ => .vpshufhw
  | .pshuflw _ => .pshuflw
  | .vpshuflw _ => .vpshuflw
  | .pshufd _ => .pshufd
  | .vpshufd _ => .vpshufd
  | .pslldq _ => .pslldq
  | .vpslldq _ => .vpslldq
  | .psllw _ => .psllw
  | .vpsllw _ => .vpsllw
  | .pslld _ => .pslld
  | .vpslld _ => .vpslld
  | .psllq _ => .psllq
  | .vpsllq _ => .vpsllq
  | .psraw _ => .psraw
  | .vpsraw _ => .vpsraw
  | .psrad _ => .psrad
  | .vpsrad _ => .vpsrad
  | .vpsraq _ => .vpsraq
  | .psrldq _ => .psrldq
  | .vpsrldq _ => .vpsrldq
  | .psrlw _ => .psrlw
  | .vpsrlw _ => .vpsrlw
  | .psrld _ => .psrld
  | .vpsrld _ => .vpsrld
  | .psrlq _ => .psrlq
  | .vpsrlq _ => .vpsrlq
  | .vpsllvw _ => .vpsllvw
  | .vpsllvd _ => .vpsllvd
  | .vpsllvq _ => .vpsllvq
  | .vpsrlvw _ => .vpsrlvw
  | .vpsrlvd _ => .vpsrlvd
  | .vpsrlvq _ => .vpsrlvq
  | .psubb _ => .psubb
  | .vpsubb _ => .vpsubb
  | .psubw _ => .psubw
  | .vpsubw _ => .vpsubw
  | .psubd _ => .psubd
  | .vpsubd _ => .vpsubd
  | .psubq _ => .psubq
  | .vpsubq _ => .vpsubq
  | .psubsb _ => .psubsb
  | .vpsubsb _ => .vpsubsb
  | .psubsw _ => .psubsw
  | .vpsubsw _ => .vpsubsw
  | .psubusb _ => .psubusb
  | .vpsubusb _ => .vpsubusb
  | .psubusw _ => .psubusw
  | .vpsubusw _ => .vpsubusw
  | .vptestnmb _ => .vptestnmb
  | .vptestnmw _ => .vptestnmw
  | .vptestnmd _ => .vptestnmd
  | .vptestnmq _ => .vptestnmq
  | .punpckhbw _ => .punpckhbw
  | .vpunpckhbw _ => .vpunpckhbw
  | .punpckhwd _ => .punpckhwd
  | .vpunpckhwd _ => .vpunpckhwd
  | .punpckhdq _ => .punpckhdq
  | .vpunpckhdq _ => .vpunpckhdq
  | .punpckhqdq _ => .punpckhqdq
  | .vpunpckhqdq _ => .vpunpckhqdq
  | .punpcklbw _ => .punpcklbw
  | .vpunpcklbw _ => .vpunpcklbw
  | .punpcklwd _ => .punpcklwd
  | .vpunpcklwd _ => .vpunpcklwd
  | .punpckldq _ => .punpckldq
  | .vpunpckldq _ => .vpunpckldq
  | .punpcklqdq _ => .punpcklqdq
  | .vpunpcklqdq _ => .vpunpcklqdq
  | .vshuff32x4 _ => .vshuff32x4
  | .vshuff64x2 _ => .vshuff64x2
  | .vshufi32x4 _ => .vshufi32x4
  | .vshufi64x2 _ => .vshufi64x2
  | .shufpd _ => .shufpd
  | .vshufpd _ => .vshufpd
  | .shufps _ => .shufps
  | .vshufps _ => .vshufps
  | .sqrtpd _ => .sqrtpd
  | .vsqrtpd _ => .vsqrtpd
  | .sqrtps _ => .sqrtps
  | .vsqrtps _ => .vsqrtps
  | .sqrtsd _ => .sqrtsd
  | .vsqrtsd _ => .vsqrtsd
  | .sqrtss _ => .sqrtss
  | .vsqrtss _ => .vsqrtss
  | .vpternlogd _ => .vpternlogd
  | .vpternlogq _ => .vpternlogq
  | .vptestmb _ => .vptestmb
  | .vptestmw _ => .vptestmw
  | .vptestmd _ => .vptestmd
  | .vptestmq _ => .vptestmq
  | .vpsravw _ => .vpsravw
  | .vpsravd _ => .vpsravd
  | .vpsravq _ => .vpsravq
  | .pxor _ => .pxor
  | .vpxor _ => .vpxor
  | .vpxord _ => .vpxord
  | .vpxorq _ => .vpxorq
  | .vrangepd _ => .vrangepd
  | .vrangeps _ => .vrangeps
  | .vrangesd _ => .vrangesd
  | .vrangess _ => .vrangess
  | .vrcp14pd _ => .vrcp14pd
  | .vrcp14sd _ => .vrcp14sd
  | .vrcp14ps _ => .vrcp14ps
  | .vrcp14ss _ => .vrcp14ss
  | .vreducepd _ => .vreducepd
  | .vreducesd _ => .vreducesd
  | .vreduceps _ => .vreduceps
  | .vreducess _ => .vreducess
  | .vrndscalepd _ => .vrndscalepd
  | .vrndscalesd _ => .vrndscalesd
  | .vrndscaleps _ => .vrndscaleps
  | .vrndscaless _ => .vrndscaless
  | .vrsqrt14pd _ => .vrsqrt14pd
  | .vrsqrt14sd _ => .vrsqrt14sd
  | .vrsqrt14ps _ => .vrsqrt14ps
  | .vrsqrt14ss _ => .vrsqrt14ss
  | .vscalefpd _ => .vscalefpd
  | .vscalefsd _ => .vscalefsd
  | .vscalefps _ => .vscalefps
  | .vscalefss _ => .vscalefss
  | .vscatterdps _ => .vscatterdps
  | .vscatterdpd _ => .vscatterdpd
  | .vscatterqps _ => .vscatterqps
  | .vscatterqpd _ => .vscatterqpd
  | .subpd _ => .subpd
  | .vsubpd _ => .vsubpd
  | .subps _ => .subps
  | .vsubps _ => .vsubps
  | .subsd _ => .subsd
  | .vsubsd _ => .vsubsd
  | .subss _ => .subss
  | .vsubss _ => .vsubss
  | .ucomisd _ => .ucomisd
  | .vucomisd _ => .vucomisd
  | .ucomiss _ => .ucomiss
  | .vucomiss _ => .vucomiss
  | .unpckhpd _ => .unpckhpd
  | .vunpckhpd _ => .vunpckhpd
  | .unpckhps _ => .unpckhps
  | .vunpckhps _ => .vunpckhps
  | .unpcklpd _ => .unpcklpd
  | .vunpcklpd _ => .vunpcklpd
  | .unpcklps _ => .unpcklps
  | .vunpcklps _ => .vunpcklps
  | .xorpd _ => .xorpd
  | .vxorpd _ => .vxorpd
  | .xorps _ => .xorps
  | .vxorps _ => .vxorps
  | .kaddw _ => .kaddw
  | .kaddb _ => .kaddb
  | .kaddq _ => .kaddq
  | .kaddd _ => .kaddd
  | .kandw _ => .kandw
  | .kandb _ => .kandb
  | .kandq _ => .kandq
  | .kandd _ => .kandd
  | .kandnw _ => .kandnw
  | .kandnb _ => .kandnb
  | .kandnq _ => .kandnq
  | .kandnd _ => .kandnd
  | .korw _ => .korw
  | .korb _ => .korb
  | .korq _ => .korq
  | .kord _ => .kord
  | .kxnorw _ => .kxnorw
  | .kxnorb _ => .kxnorb
  | .kxnorq _ => .kxnorq
  | .kxnord _ => .kxnord
  | .kxorw _ => .kxorw
  | .kxorb _ => .kxorb
  | .kxorq _ => .kxorq
  | .kxord _ => .kxord
  | .knotw _ => .knotw
  | .knotb _ => .knotb
  | .knotq _ => .knotq
  | .knotd _ => .knotd
  | .kmovw _ => .kmovw
  | .kmovb _ => .kmovb
  | .kmovq _ => .kmovq
  | .kmovd _ => .kmovd
  | .kunpckbw _ => .kunpckbw
  | .kunpckwd _ => .kunpckwd
  | .kunpckdq _ => .kunpckdq
  | .kortestw _ => .kortestw
  | .kortestb _ => .kortestb
  | .kortestq _ => .kortestq
  | .kortestd _ => .kortestd
  | .ktestw _ => .ktestw
  | .ktestb _ => .ktestb
  | .ktestq _ => .ktestq
  | .ktestd _ => .ktestd
  | .kshiftlw _ => .kshiftlw
  | .kshiftlb _ => .kshiftlb
  | .kshiftlq _ => .kshiftlq
  | .kshiftld _ => .kshiftld
  | .kshiftrw _ => .kshiftrw
  | .kshiftrb _ => .kshiftrb
  | .kshiftrq _ => .kshiftrq
  | .kshiftrd _ => .kshiftrd
  | .vexp2pd _ => .vexp2pd
  | .vexp2ps _ => .vexp2ps
  | .vrcp28pd _ => .vrcp28pd
  | .vrcp28sd _ => .vrcp28sd
  | .vrcp28ps _ => .vrcp28ps
  | .vrcp28ss _ => .vrcp28ss
  | .vrsqrt28pd _ => .vrsqrt28pd
  | .vrsqrt28sd _ => .vrsqrt28sd
  | .vrsqrt28ps _ => .vrsqrt28ps
  | .vrsqrt28ss _ => .vrsqrt28ss
  | .vgatherpf0dps _ => .vgatherpf0dps
  | .vgatherpf0qps _ => .vgatherpf0qps
  | .vgatherpf0dpd _ => .vgatherpf0dpd
  | .vgatherpf0qpd _ => .vgatherpf0qpd
  | .vgatherpf1dps _ => .vgatherpf1dps
  | .vgatherpf1qps _ => .vgatherpf1qps
  | .vgatherpf1dpd _ => .vgatherpf1dpd
  | .vgatherpf1qpd _ => .vgatherpf1qpd
  | .vscatterpf0dps _ => .vscatterpf0dps
  | .vscatterpf0qps _ => .vscatterpf0qps
  | .vscatterpf0dpd _ => .vscatterpf0dpd
  | .vscatterpf0qpd _ => .vscatterpf0qpd
  | .vscatterpf1dps _ => .vscatterpf1dps
  | .vscatterpf1qps _ => .vscatterpf1qps
  | .vscatterpf1dpd _ => .vscatterpf1dpd
  | .vscatterpf1qpd _ => .vscatterpf1qpd
  | .sha1rnds4 _ => .sha1rnds4
  | .sha1nexte _ => .sha1nexte
  | .sha1msg1 _ => .sha1msg1
  | .sha1msg2 _ => .sha1msg2
  | .sha256rnds2 _ => .sha256rnds2
  | .sha256msg1 _ => .sha256msg1
  | .sha256msg2 _ => .sha256msg2
  | .prefetchwt1 _ => .prefetchwt1
  | .clwb _ => .clwb
  | .pcommit => .pcommit

/-- The fields of an instruction; `none` for CPUID and PCOMMIT. -/
def operandsOf (i : Instr) : Option Operands :=
  match i with
  | .cpuid => none
  | .addpd o => some o
  | .vaddpd o => some o
  | .addps o => some o
  | .vaddps o => some o
  | .addsd o => some o
  | .vaddsd o => some o
  | .addss o => some o
  | .vaddss o => some o
  | .valignd o => some o
  | .valignq o => some o
  | .vblendmpd o => some o
  | .vblendmps o => some o
  | .vpblendmb o => some o
  | .vpblendmw o => some o
  | .vpblendmd o => some o
  | .vpblendmq o => some o
  | .andpd o => some o
  | .vandpd o => some o
  | .andps o => some o
  | .vandps o => some o
  | .andnpd o => some o
  | .vandnpd o => some o
  | .andnps o => some o
  | .vandnps o => some o
  | .vbroadcastss o => some o
  | .vbroadcastsd o => some o
  | .vbroadcastf128 o => some o
  | .vbroadcastf32x2 o => some o
  | .vbroadcastf32x4 o => some o
  | .vbroadcastf64x2 o => some o
  | .vbroadcastf32x8 o => some o
  | .vbroadcastf64x4 o => some o
  | .vpbroadcastb o => some o
  | .vpbroadcastw o => some o
  | .vpbroadcastd o => some o
  | .vpbroadcastq o => some o
  | .vbroadcasti32x2 o => some o
  | .vbroadcasti128 o => some o
  | .vbroadcasti32x4 o => some o
  | .vbroadcasti64x2 o => some o
  | .vbroadcasti32x8 o => some o
  | .vbroadcasti64x4 o => some o
  | .cmppd o => some o
  | .vcmppd o => some o
  | .cmpps o => some o
  | .vcmpps o => some o
  | .cmpsd o => some o
  | .vcmpsd o => some o
  | .cmpss o => some o
  | .vcmpss o => some o
  | .comisd o => some o
  | .vcomisd o => some o
  | .comiss o => some o
  | .vcomiss o => some o
  | .divpd o => some o
  | .vdivpd o => some o
  | .divps o => some o
  | .vdivps o => some o
  | .divsd o => some o
  | .vdivsd o => some o
  | .divss o => some o
  | .vdivss o => some o
  | .vcompresspd o => some o
  | .vcompressps o => some o
  | .cvtdq2pd o => some o
  | .vcvtdq2pd o => some o
  | .cvtdq2ps o => some o
  | .vcvtdq2ps o => some o
  | .cvtpd2dq o => some o
  | .vcvtpd2dq o => some o
  | .cvtpd2ps o => some o
  | .vcvtpd2ps o => some o
  | .vcvtpd2qq o => some o
  | .vcvtpd2udq o => some o
  | .vcvtpd2uqq o => some o
  | .vcvtph2ps o => some o
  | .vcvtps2ph o => some o
  | .cvtps2dq o => some o
  | .vcvtps2dq o => some o
  | .vcvtps2udq o => some o
  | .vcvtps2qq o => some o
  | .vcvtps2uqq o => some o
  | .cvtps2pd o => some o
  | .vcvtps2pd o => some o
  | .vcvtqq2pd o => some o
  | .vcvtqq2ps o => some o
  | .cvtsd2si o => some o
  | .vcvtsd2si o => some o
  | .vcvtsd2usi o => some o
  | .cvtsd2ss o => some o
  | .vcvtsd2ss o => some o
  | .cvtsi2sd o => some o
  | .vcvtsi2sd o => some o
  | .cvtsi2ss o => some o
  | .vcvtsi2ss o => some o
  | .cvtss2sd o => some o
  | .vcvtss2sd o => some o
  | .cvtss2si o => some o
  | .vcvtss2si o => some o
  | .vcvtss2usi o => some o
  | .cvttpd2dq o => some o
  | .vcvttpd2dq o => some o
  | .vcvttpd2qq o => some o
  | .vcvttpd2udq o => some o
  | .vcvttpd2uqq o => some o
  | .cvttps2dq o => some o
  | .vcvttps2dq o => some o
  | .vcvttps2udq o => some o
  | .vcvttps2qq o => some o
  | .vcvttps2uqq o => some o
  | .cvttsd2si o => some o
  | .vcvttsd2si o => some o
  | .vcvttsd2usi o => some o
  | .cvttss2si o => some o
  | .vcvttss2si o => some o
  | .vcvttss2usi o => some o
  | .vcvtudq2pd o => some o
  | .vcvtudq2ps o => some o
  | .vcvtuqq2pd o => some o
  | .vcvtuqq2ps o => some o
  | .vcvtusi2sd o => some o
  | .vcvtusi2ss o => some o
  | .vdbpsadbw o => some o
  | .vexpandpd o => some o
  | .vexpandps o => some o
  | .vextractf128 o => some o
  | .vextractf32x4 o => some o
  | .vextractf32x4z o => some o
  | .vextractf64x2 o => some o
  | .vextractf32x8 o => some o
  | .vextractf64x4z o => some o
  | .vextracti128 o => some o
  | .vextracti32x4 o => some o
  | .vextracti32x4z o => some o
  | .vextracti64x2 o => some o
  | .vextracti32x8 o => some o
  | .vextracti64x4z o => some o
  | .extractps o => some o
  | .vextractps o => some o
  | .vfixupimmpd o => some o
  | .vfixupimmps o => some o
  | .vfixupimmsd o => some o
  | .vfixupimmss o => some o
  | .vfmadd132pd o => some o
  | .vfmadd213pd o => some o
  | .vfmadd231pd o => some o
  | .vfmadd132ps o => some o
  | .vfmadd213ps o => some o
  | .vfmadd231ps o => some o
  | .vfmadd132sd o => some o
  | .vfmadd213sd o => some o
  | .vfmadd231sd o => some o
  | .vfmadd132ss o => some o
  | .vfmadd213ss o => some o
  | .vfmadd231ss o => some o
  | .vfmaddsub132pd o => some o
  | .vfmaddsub213pd o => some o
  | .vfmaddsub231pd o => some o
  | .vfmaddsub132ps o => some o
  | .vfmaddsub213ps o => some o
  | .vfmaddsub231ps o => some o
  | .vfmsubadd132pd o => some o
  | .vfmsubadd213pd o => some o
  | .vfmsubadd231pd o => some o
  | .vfmsubadd132ps o => some o
  | .vfmsubadd213ps o => some o
  | .vfmsubadd231ps o => some o
  | .vfmsub132pd o => some o
  | .vfmsub213pd o => some o
  | .vfmsub231pd o => some o
  | .vfmsub132ps o => some o
  | .vfmsub213ps o => some o
  | .vfmsub231ps o => some o
  | .vfmsub132sd o => some o
  | .vfmsub213sd o => some o
  | .vfmsub231sd o => some o
  | .vfmsub132ss o => some o
  | .vfmsub213ss o => some o
  | .vfmsub231ss o => some o
  | .vfnmadd132pd o => some o
  | .vfnmadd213pd o => some o
  | .vfnmadd231pd o => some o
  | .vfnmadd132ps o => some o
  | .vfnmadd213ps o => some o
  | .vfnmadd231ps o => some o
  | .vfnmadd132sd o => some o
  | .vfnmadd213sd o => some o
  | .vfnmadd231sd o => some o
  | .vfnmadd132ss o => some o
  | .vfnmadd213ss o => some o
  | .vfnmadd231ss o => some o
  | .vfnmsub132pd o => some o
  | .vfnmsub213pd o => some o
  | .vfnmsub231pd o => some o
  | .vfnmsub132ps o => some o
  | .vfnmsub213ps o => some o
  | .vfnmsub231ps o => some o
  | .vfnmsub132sd o => some o
  | .vfnmsub213sd o => some o
  | .vfnmsub231sd o => some o
  | .vfnmsub132ss o => some o
  | .vfnmsub213ss o => some o
  | .vfnmsub231ss o => some o
  | .vfpclasspd o => some o
  | .vfpclassps o => some o
  | .vfpclasssd o => some o
  | .vfpclassss o => some o
  | .vpgatherdd o => some o
  | .vpgatherdq o => some o
  | .vpgatherqd o => some o
  | .vpgatherqq o => some o
  | .vgatherdps o => some o
  | .vgatherdpd o => some o
  | .vgatherqps o => some o
  | .vgatherqpd o => some o
  | .vgetexppd o => some o
  | .vgetexpps o => some o
  | .vgetexpsd o => some o
  | .vgetexpss o => some o
  | .vgetmantpd o => some o
  | .vgetmantps o => some o
  | .vgetmantsd o => some o
  | .vgetmantss o => some o
  | .vinsertf128 o => some o
  | .vinsertf32x4 o => some o
  | .vinsertf64x2 o => some o
  | .vinsertf32x8 o => some o
  | .vinsertf64x4 o => some o
  | .vinserti128 o => some o
  | .vinserti32x4 o => some o
  | .vinserti64x2 o => some o
  | .vinserti32x8 o => some o
  | .vinserti64x4 o => some o
  | .insertps o => some o
  | .vinsertps o => some o
  | .maxpd o => some o
  | .vmaxpd o => some o
  | .maxps o => some o
  | .vmaxps o => some o
  | .maxsd o => some o
  | .vmaxsd o => some o
  | .maxss o => some o
  | .vmaxss o => some o
  | .minpd o => some o
  | .vminpd o => some o
  | .minps o => some o
  | .vminps o => some o
  | .minsd o => some o
  | .vminsd o => some o
  | .minss o => some o
  | .vminss o => some o
  | .movapd o => some o
  | .vmovapd o => some o
  | .movaps o => some o
  | .vmovaps o => some o
  | .movd o => some o
  | .vmovd o => some o
  | .movq o => some o
  | .vmovq o => some o
  | .movddup o => some o
  | .vmovddup o => some o
  | .movdqa o => some o
  | .vmovdqa o => some o
  | .vmovdqa32 o => some o
  | .vmovdqa64 o => some o
  | .movdqu o => some o
  | .vmovdqu o => some o
  | .vmovdqu8 o => some o
  | .vmovdqu16 o => some o
  | .vmovdqu32 o => some o
  | .vmovdqu64 o => some o
  | .movhlps o => some o
  | .vmovhlps o => some o
  | .movhpd o => some o
  | .vmovhpd o => some o
  | .movhps o => some o
  | .vmovhps o => some o
  | .movlhps o => some o
  | .vmovlhps o => some o
  | .movlpd o => some o
  | .vmovlpd o => some o
  | .movlps o => some o
  | .vmovlps o => some o
  | .movntdqa o => some o
  | .vmovntdqa o => some o
  | .movntdq o => some o
  | .vmovntdq o => some o
  | .movntpd o => some o
  | .vmovntpd o => some o
  | .movntps o => some o
  | .vmovntps o => some o
  | .movsd o => some o
  | .vmovsd o => some o
  | .movshdup o => some o
  | .vmovshdup o => some o
  | .movsldup o => some o
  | .vmovsldup o => some o
  | .movss o => some o
  | .vmovss o => some o
  | .movupd o => some o
  | .vmovupd o => some o
  | .movups o => some o
  | .vmovups o => some o
  | .psadbw o => some o
  | .vpsadbw o => some o
  | .mulpd o => some o
  | .vmulpd o => some o
  | .mulps o => some o
  | .vmulps o => some o
  | .mulsd o => some o
  | .vmulsd o => some o
  | .mulss o => some o
  | .vmulss o => some o
  | .orpd o => some o
  | .vorpd o => some o
  | .orps o => some o
  | .vorps o => some o
  | .pabsb o => some o
  | .vpabsb o => some o
  | .pabsw o => some o
  | .vpabsw o => some o
  | .pabsd o => some o
  | .vpabsd o => some o
  | .vpabsq o => some o
  | .packsswb o => some o
  | .vpacksswb o => some o
  | .packssdw o => some o
  | .vpackssdw o => some o
  | .packusdw o => some o
  | .vpackusdw o => some o
  | .packuswb o => some o
  | .vpackuswb o => some o
  | .paddb o => some o
  | .vpaddb o => some o
  | .paddw o => some o
  | .vpaddw o => some o
  | .paddd o => some o
  | .vpaddd o => some o
  | .paddq o => some o
  | .vpaddq o => some o
  | .paddsb o => some o
  | .vpaddsb o => some o
  | .paddsw o => some o
  | .vpaddsw o => some o
  | .paddusb o => some o
  | .vpaddusb o => some o
  | .paddusw o => some o
  | .vpaddusw o => some o
  | .palignr o => some o
  | .vpalignr o => some o
  | .pand o => some o
  | .vpand o => some o
  | .vpandd o => some o
  | .vpandq o => some o
  | .pandn o => some o
  | .vpandn o => some o
  | .vpandnd o => some o
  | .vpandnq o => some o
  | .pavgb o => some o
  | .vpavgb o => some o
  | .pavgw o => some o
  | .vpavgw o => some o
  | .vpbroadcastmb2q o => some o
  | .vpbroadcastmw2d o => some o
  | .pcmpeqb o => some o
  | .vpcmpeqb o => some o
  | .pcmpeqw o => some o
  | .vpcmpeqw o => some o
  | .pcmpeqd o => some o
  | .vpcmpeqd o => some o
  | .pcmpeqq o => some o
  | .vpcmpeqq o => some o
  | .pcmpgtb o => some o
  | .vpcmpgtb o => some o
  | .pcmpgtw o => some o
  | .vpcmpgtw o => some o
  | .pcmpgtd o => some o
  | .vpcmpgtd o => some o
  | .pcmpgtq o => some o
  | .vpcmpgtq o => some o
  | .vpcmpb o => some o
  | .vpcmpub o => some o
  | .vpcmpd o => some o
  | .vpcmpud o => some o
  | .vpcmpq o => some o
  | .vpcmpuq o => some o
  | .vpcmpw o => some o
  | .vpcmpuw o => some o
  | .vpcompressd o => some o
  | .vpcompressq o => some o
  | .vpconflictd o => some o
  | .vpconflictq o => some o
  | .vpermb o => some o
  | .vpermd o => some o
  | .vpermw o => some o
  | .vpermi2b o => some o
  | .vpermi2w o => some o
  | .vpermi2d o => some o
  | .vpermi2q o => some o
  | .vpermi2ps o => some o
  | .vpermi2pd o => some o
  | .vpermt2b o => some o
  | .vpermt2w o => some o
  | .vpermt2d o => some o
  | .vpermt2q o => some o
  | .vpermt2ps o => some o
  | .vpermt2pd o => some o
  | .vpermilpd o => some o
  | .vpermilps o => some o
  | .vpermpd o => some o
  | .vpermps o => some o
  | .vpermq o => some o
  | .vpexpandd o => some o
  | .vpexpandq o => some o
  | .pextrb o => some o
  | .vpextrb o => some o
  | .pextrw o => some o
  | .vpextrw o => some o
  | .pextrd o => some o
  | .vpextrd o => some o
  | .pextrq o => some o
  | .vpextrq o => some o
  | .vplzcntd o => some o
  | .vplzcntq o => some o
  | .pmaddubsw o => some o
  | .vpmaddubsw o => some o
  | .pmaddwd o => some o
  | .vpmaddwd o => some o
  | .pinsrb o => some o
  | .vpinsrb o => some o
  | .pinsrw o => some o
  | .vpinsrw o => some o
  | .pinsrd o => some o
  | .vpinsrd o => some o
  | .pinsrq o => some o
  | .vpinsrq o => some o
  | .vpmadd52luq o => some o
  | .vpmadd52huq o => some o
  | .pmaxsb o => some o
  | .vpmaxsb o => some o
  | .pmaxsw o => some o
  | .vpmaxsw o => some o
  | .pmaxsd o => some o
  | .vpmaxsd o => some o
  | .vpmaxsq o => some o
  | .pmaxub o => some o
  | .vpmaxub o => some o
  | .pmaxuw o => some o
  | .vpmaxuw o => some o
  | .pmaxud o => some o
  | .vpmaxud o => some o
  | .vpmaxuq o => some o
  | .pminsb o => some o
  | .vpminsb o => some o
  | .pminsw o => some o
  | .vpminsw o => some o
  | .pminsd o => some o
  | .vpminsd o => some o
  | .vpminsq o => some o
  | .pminub o => some o
  | .vpminub o => some o
  | .pminuw o => some o
  | .vpminuw o => some o
  | .pminud o => some o
  | .vpminud o => some o
  | .vpminuq o => some o
  | .vpmovm2b o => some o
  | .vpmovm2w o => some o
  | .vpmovm2d o => some o
  | .vpmovm2q o => some o
  | .vpmovb2m o => some o
  | .vpmovw2m o => some o
  | .vpmovd2m o => some o
  | .vpmovq2m o => some o
  | .vpmovqb o => some o
  | .vpmovsqb o => some o
  | .vpmovusqb o => some o
  | .vpmovqw o => some o
  | .vpmovsqw o => some o
  | .vpmovusqw o => some o
  | .vpmovqd o => some o
  | .vpmovsqd o => some o
  | .vpmovusqd o => some o
  | .vpmovdb o => some o
  | .vpmovsdb o => some o
  | .vpmovusdb o => some o
  | .vpmovdw o => some o
  | .vpmovsdw o => some o
  | .vpmovusdw o => some o
  | .vpmovwb o => some o
  | .vpmovswb o => some o
  | .vpmovuswb o => some o
  | .pmovsxbw o => some o
  | .vpmovsxbw o => some o
  | .pmovsxbd o => some o
  | .vpmovsxbd o => some o
  | .pmovsxbq o => some o
  | .vpmovsxbq o => some o
  | .pmovsxwd o => some o
  | .vpmovsxwd o => some o
  | .pmovsxwq o => some o
  | .vpmovsxwq o => some o
  | .pmovsxdq o => some o
  | .vpmovsxdq o => some o
  | .pmovzxbw o => some o
  | .vpmovzxbw o => some o
  | .pmovzxbd o => some o
  | .vpmovzxbd o => some o
  | .pmovzxbq o => some o
  | .vpmovzxbq o => some o
  | .pmovzxwd o => some o
  | .vpmovzxwd o => some o
  | .pmovzxwq o => some o
  | .vpmovzxwq o => some o
  | .pmovzxdq o => some o
  | .vpmovzxdq o => some o
  | .pmuldq o => some o
  | .vpmuldq o => some o
  | .pmulhrsw o => some o
  | .vpmulhrsw o => some o
  | .pmulhuw o => some o
  | .vpmulhuw o => some o
  | .pmulhw o => some o
  | .vpmulhw o => some o
  | .pmulld o => some o
  | .vpmulld o => some o
  | .vpmullq o => some o
  | .pmullw o => some o
  | .vpmullw o => some o
  | .vpmultishiftqb o => some o
  | .pmuludq o => some o
  | .vpmuludq o => some o
  | .por o => some o
  | .vpor o => some o
  | .vpord o => some o
  | .vporq o => some o
  | .vprold o => some o
  | .vprolvd o => some o
  | .vprolq o => some o
  | .vprolvq o => some o
  | .vprord o => some o
  | .vprorvd o => some o
  | .vprorq o => some o
  | .vprorvq o => some o
  | .vpscatterdd o => some o
  | .vpscatterdq o => some o
  | .vpscatterqd o => some o
  | .vpscatterqq o => some o
  | .pshufb o => some o
  | .vpshufb o => some o
  | .pshufhw o => some o
  | .vpshufhw o => some o
  | .pshuflw o => some o
  | .vpshuflw o => some o
  | .pshufd o => some o
  | .vpshufd o => some o
  | .pslldq o => some o
  | .vpslldq o => some o
  | .psllw o => some o
  | .vpsllw o => some o
  | .pslld o => some o
  | .vpslld o => some o
  | .psllq o => some o
  | .vpsllq o => some o
  | .psraw o => some o
  | .vpsraw o => some o
  | .psrad o => some o
  | .vpsrad o => some o
  | .vpsraq o => some o
  | .psrldq o => some o
  | .vpsrldq o => some o
  | .psrlw o => some o
  | .vpsrlw o => some o
  | .psrld o => some o
  | .vpsrld o => some o
  | .psrlq o => some o
  | .vpsrlq o => some o
  | .vpsllvw o => some o
  | .vpsllvd o => some o
  | .vpsllvq o => some o
  | .vpsrlvw o => some o
  | .vpsrlvd o => some o
  | .vpsrlvq o => some o
  | .psubb o => some o
  | .vpsubb o => some o
  | .psubw o => some o
  | .vpsubw o => some o
  | .psubd o => some o
  | .vpsubd o => some o
  | .psubq o => some o
  | .vpsubq o => some o
  | .psubsb o => some o
  | .vpsubsb o => some o
  | .psubsw o => some o
  | .vpsubsw o => some o
  | .psubusb o => some o
  | .vpsubusb o => some o
  | .psubusw o => some o
  | .vpsubusw o => some o
  | .vptestnmb o => some o
  | .vptestnmw o => some o
  | .vptestnmd o => some o
  | .vptestnmq o => some o
  | .punpckhbw o => some o
  | .vpunpckhbw o => some o
  | .punpckhwd o => some o
  | .vpunpckhwd o => some o
  | .punpckhdq o => some o
  | .vpunpckhdq o => some o
  | .punpckhqdq o => some o
  | .vpunpckhqdq o => some o
  | .punpcklbw o => some o
  | .vpunpcklbw o => some o
  | .punpcklwd o => some o
  | .vpunpcklwd o => some o
  | .punpckldq o => some o
  | .vpunpckldq o => some o
  | .punpcklqdq o => some o
  | .vpunpcklqdq o => some o
  | .vshuff32x4 o => some o
  | .vshuff64x2 o => some o
  | .vshufi32x4 o => some o
  | .vshufi64x2 o => some o
  | .shufpd o => some o
  | .vshufpd o => some o
  | .shufps o => some o
  | .vshufps o => some o
  | .sqrtpd o => some o
  | .vsqrtpd o => some o
  | .sqrtps o => some o
  | .vsqrtps o => some o
  | .sqrtsd o => some o
  | .vsqrtsd o => some o
  | .sqrtss o => some o
  | .vsqrtss o => some o
  | .vpternlogd o => some o
  | .vpternlogq o => some o
  | .vptestmb o => some o
  | .vptestmw o => some o
  | .vptestmd o => some o
  | .vptestmq o => some o
  | .vpsravw o => some o
  | .vpsravd o => some o
  | .vpsravq o => some o
  | .pxor o => some o
  | .vpxor o => some o
  | .vpxord o => some o
  | .vpxorq o => some o
  | .vrangepd o => some o
  | .vrangeps o => some o
  | .vrangesd o => some o
  | .vrangess o => some o
  | .vrcp14pd o => some o
  | .vrcp14sd o => some o
  | .vrcp14ps o => some o
  | .vrcp14ss o => some o
  | .vreducepd o => some o
  | .vreducesd o => some o
  | .vreduceps o => some o
  | .vreducess o => some o
  | .vrndscalepd o => some o
  | .vrndscalesd o => some o
  | .vrndscaleps o => some o
  | .vrndscaless o => some o
  | .vrsqrt14pd o => some o
  | .vrsqrt14sd o => some o
  | .vrsqrt14ps o => some o
  | .vrsqrt14ss o => some o
  | .vscalefpd o => some o
  | .vscalefsd o => some o
  | .vscalefps o => some o
  | .vscalefss o => some o
  | .vscatterdps o => some o
  | .vscatterdpd o => some o
  | .vscatterqps o => some o
  | .vscatterqpd o => some o
  | .subpd o => some o
  | .vsubpd o => some o
  | .subps o => some o
  | .vsubps o => some o
  | .subsd o => some o
  | .vsubsd o => some o
  | .subss o => some o
  | .vsubss o => some o
  | .ucomisd o => some o
  | .vucomisd o => some o
  | .ucomiss o => some o
  | .vucomiss o => some o
  | .unpckhpd o => some o
  | .vunpckhpd o => some o
  | .unpckhps o => some o
  | .vunpckhps o => some o
  | .unpcklpd o => some o
  | .vunpcklpd o => some o
  | .unpcklps o => some o
  | .vunpcklps o => some o
  | .xorpd o => some o
  | .vxorpd o => some o
  | .xorps o => some o
  | .vxorps o => some o
  | .kaddw o => some o
  | .kaddb o => some o
  | .kaddq o => some o
  | .kaddd o => some o
  | .kandw o => some o
  | .kandb o => some o
  | .kandq o => some o
  | .kandd o => some o
  | .kandnw o => some o
  | .kandnb o => some o
  | .kandnq o => some o
  | .kandnd o => some o
  | .korw o => some o
  | .korb o => some o
  | .korq o => some o
  | .kord o => some o
  | .kxnorw o => some o
  | .kxnorb o => some o
  | .kxnorq o => some o
  | .kxnord o => some o
  | .kxorw o => some o
  | .kxorb o => some o
  | .kxorq o => some o
  | .kxord o => some o
  | .knotw o => some o
  | .knotb o => some o
  | .knotq o => some o
  | .knotd o => some o
  | .kmovw o => some o
  | .kmovb o => some o
  | .kmovq o => some o
  | .kmovd o => some o
  | .kunpckbw o => some o
  | .kunpckwd o => some o
  | .kunpckdq o => some o
  | .kortestw o => some o
  | .kortestb o => some o
  | .kortestq o => some o
  | .kortestd o => some o
  | .ktestw o => some o
  | .ktestb o => some o
  | .ktestq o => some o
  | .ktestd o => some o
  | .kshiftlw o => some o
  | .kshiftlb o => some o
  | .kshiftlq o => some o
  | .kshiftld o => some o
  | .kshiftrw o => some o
  | .kshiftrb o => some o
  | .kshiftrq o => some o
  | .kshiftrd o => some o
  | .vexp2pd o => some o
  | .vexp2ps o => some o
  | .vrcp28pd o => some o
  | .vrcp28sd o => some o
  | .vrcp28ps o => some o
  | .vrcp28ss o => some o
  | .vrsqrt28pd o => some o
  | .vrsqrt28sd o => some o
  | .vrsqrt28ps o => some o
  | .vrsqrt28ss o => some o
  | .vgatherpf0dps o => some o
  | .vgatherpf0qps o => some o
  | .vgatherpf0dpd o => some o
  | .vgatherpf0qpd o => some o
  | .vgatherpf1dps o => some o
  | .vgatherpf1qps o => some o
  | .vgatherpf1dpd o => some o
  | .vgatherpf1qpd o => some o
  | .vscatterpf0dps o => some o
  | .vscatterpf0qps o => some o
  | .vscatterpf0dpd o => some o
  | .vscatterpf0qpd o => some o
  | .vscatterpf1dps o => some o
  | .vscatterpf1qps o => some o
  | .vscatterpf1dpd o => some o
  | .vscatterpf1qpd o => some o
  | .sha1rnds4 o => some o
  | .sha1nexte o => some o
  | .sha1msg1 o => some o
  | .sha1msg2 o => some o
  | .sha256rnds2 o => some o
  | .sha256msg1 o => some o
  | .sha256msg2 o => some o
  | .prefetchwt1 o => some o
  | .clwb o => some o
  | .pcommit => none

end Sys2Proof.Machine
end

