-- ==== Sys2Proof/Machine/DecodeTable.lean ====
section
/-! DEFINITION. The opcode table as the decoder reads it (R150 to R152): for each encoding system, opcode map and SIMD
prefix, the opcode bytes in rising order with the instruction they may be. -/

namespace Sys2Proof.Machine

/-- One opcode byte of one instruction. -/
structure Entry where
  opcode : Nat
  name : Mnemonic
deriving DecidableEq, Repr

namespace Table

/-- LEGACY, map 0F, prefix np. -/
def legacy0FNp : List Entry :=
  [⟨0x0D, .prefetchwt1⟩, ⟨0x10, .movups⟩, ⟨0x11, .movups⟩, ⟨0x12, .movhlps⟩, ⟨0x12, .movlps⟩, ⟨0x13, .movlps⟩,
   ⟨0x14, .unpcklps⟩, ⟨0x15, .unpckhps⟩, ⟨0x16, .movhps⟩, ⟨0x16, .movlhps⟩, ⟨0x17, .movhps⟩, ⟨0x28, .movaps⟩,
   ⟨0x29, .movaps⟩, ⟨0x2B, .movntps⟩, ⟨0x2E, .ucomiss⟩, ⟨0x2F, .comiss⟩, ⟨0x51, .sqrtps⟩, ⟨0x54, .andps⟩,
   ⟨0x55, .andnps⟩, ⟨0x56, .orps⟩, ⟨0x57, .xorps⟩, ⟨0x58, .addps⟩, ⟨0x59, .mulps⟩, ⟨0x5A, .cvtps2pd⟩,
   ⟨0x5B, .cvtdq2ps⟩, ⟨0x5C, .subps⟩, ⟨0x5D, .minps⟩, ⟨0x5E, .divps⟩, ⟨0x5F, .maxps⟩, ⟨0xC2, .cmpps⟩,
   ⟨0xC6, .shufps⟩]

/-- LEGACY, map 0F, prefix p66. -/
def legacy0FP66 : List Entry :=
  [⟨0x10, .movupd⟩, ⟨0x11, .movupd⟩, ⟨0x12, .movlpd⟩, ⟨0x13, .movlpd⟩, ⟨0x14, .unpcklpd⟩, ⟨0x15, .unpckhpd⟩,
   ⟨0x16, .movhpd⟩, ⟨0x17, .movhpd⟩, ⟨0x28, .movapd⟩, ⟨0x29, .movapd⟩, ⟨0x2B, .movntpd⟩, ⟨0x2E, .ucomisd⟩,
   ⟨0x2F, .comisd⟩, ⟨0x51, .sqrtpd⟩, ⟨0x54, .andpd⟩, ⟨0x55, .andnpd⟩, ⟨0x56, .orpd⟩, ⟨0x57, .xorpd⟩,
   ⟨0x58, .addpd⟩, ⟨0x59, .mulpd⟩, ⟨0x5A, .cvtpd2ps⟩, ⟨0x5B, .cvtps2dq⟩, ⟨0x5C, .subpd⟩, ⟨0x5D, .minpd⟩,
   ⟨0x5E, .divpd⟩, ⟨0x5F, .maxpd⟩, ⟨0x60, .punpcklbw⟩, ⟨0x61, .punpcklwd⟩, ⟨0x62, .punpckldq⟩, ⟨0x63, .packsswb⟩,
   ⟨0x64, .pcmpgtb⟩, ⟨0x65, .pcmpgtw⟩, ⟨0x66, .pcmpgtd⟩, ⟨0x67, .packuswb⟩, ⟨0x68, .punpckhbw⟩, ⟨0x69, .punpckhwd⟩,
   ⟨0x6A, .punpckhdq⟩, ⟨0x6B, .packssdw⟩, ⟨0x6C, .punpcklqdq⟩, ⟨0x6D, .punpckhqdq⟩, ⟨0x6E, .movd⟩, ⟨0x6E, .movq⟩,
   ⟨0x6F, .movdqa⟩, ⟨0x70, .pshufd⟩, ⟨0x71, .psllw⟩, ⟨0x71, .psraw⟩, ⟨0x71, .psrlw⟩, ⟨0x72, .pslld⟩,
   ⟨0x72, .psrad⟩, ⟨0x72, .psrld⟩, ⟨0x73, .pslldq⟩, ⟨0x73, .psllq⟩, ⟨0x73, .psrldq⟩, ⟨0x73, .psrlq⟩,
   ⟨0x74, .pcmpeqb⟩, ⟨0x75, .pcmpeqw⟩, ⟨0x76, .pcmpeqd⟩, ⟨0x7E, .movd⟩, ⟨0x7E, .movq⟩, ⟨0x7F, .movdqa⟩] ++
  [⟨0xAE, .clwb⟩, ⟨0xC2, .cmppd⟩, ⟨0xC4, .pinsrw⟩, ⟨0xC5, .pextrw⟩, ⟨0xC6, .shufpd⟩, ⟨0xD1, .psrlw⟩,
   ⟨0xD2, .psrld⟩, ⟨0xD3, .psrlq⟩, ⟨0xD4, .paddq⟩, ⟨0xD5, .pmullw⟩, ⟨0xD6, .movq⟩, ⟨0xD8, .psubusb⟩,
   ⟨0xD9, .psubusw⟩, ⟨0xDA, .pminub⟩, ⟨0xDB, .pand⟩, ⟨0xDC, .paddusb⟩, ⟨0xDD, .paddusw⟩, ⟨0xDE, .pmaxub⟩,
   ⟨0xDF, .pandn⟩, ⟨0xE0, .pavgb⟩, ⟨0xE1, .psraw⟩, ⟨0xE2, .psrad⟩, ⟨0xE3, .pavgw⟩, ⟨0xE4, .pmulhuw⟩,
   ⟨0xE5, .pmulhw⟩, ⟨0xE6, .cvttpd2dq⟩, ⟨0xE7, .movntdq⟩, ⟨0xE8, .psubsb⟩, ⟨0xE9, .psubsw⟩, ⟨0xEA, .pminsw⟩,
   ⟨0xEB, .por⟩, ⟨0xEC, .paddsb⟩, ⟨0xED, .paddsw⟩, ⟨0xEE, .pmaxsw⟩, ⟨0xEF, .pxor⟩, ⟨0xF1, .psllw⟩, ⟨0xF2, .pslld⟩,
   ⟨0xF3, .psllq⟩, ⟨0xF4, .pmuludq⟩, ⟨0xF5, .pmaddwd⟩, ⟨0xF6, .psadbw⟩, ⟨0xF8, .psubb⟩, ⟨0xF9, .psubw⟩,
   ⟨0xFA, .psubd⟩, ⟨0xFB, .psubq⟩, ⟨0xFC, .paddb⟩, ⟨0xFD, .paddw⟩, ⟨0xFE, .paddd⟩]

/-- LEGACY, map 0F, prefix pF3. -/
def legacy0FPF3 : List Entry :=
  [⟨0x10, .movss⟩, ⟨0x11, .movss⟩, ⟨0x12, .movsldup⟩, ⟨0x16, .movshdup⟩, ⟨0x2A, .cvtsi2ss⟩, ⟨0x2C, .cvttss2si⟩,
   ⟨0x2D, .cvtss2si⟩, ⟨0x51, .sqrtss⟩, ⟨0x58, .addss⟩, ⟨0x59, .mulss⟩, ⟨0x5A, .cvtss2sd⟩, ⟨0x5B, .cvttps2dq⟩,
   ⟨0x5C, .subss⟩, ⟨0x5D, .minss⟩, ⟨0x5E, .divss⟩, ⟨0x5F, .maxss⟩, ⟨0x6F, .movdqu⟩, ⟨0x70, .pshufhw⟩,
   ⟨0x7E, .movq⟩, ⟨0x7F, .movdqu⟩, ⟨0xC2, .cmpss⟩, ⟨0xE6, .cvtdq2pd⟩]

/-- LEGACY, map 0F, prefix pF2. -/
def legacy0FPF2 : List Entry :=
  [⟨0x10, .movsd⟩, ⟨0x11, .movsd⟩, ⟨0x12, .movddup⟩, ⟨0x2A, .cvtsi2sd⟩, ⟨0x2C, .cvttsd2si⟩, ⟨0x2D, .cvtsd2si⟩,
   ⟨0x51, .sqrtsd⟩, ⟨0x58, .addsd⟩, ⟨0x59, .mulsd⟩, ⟨0x5A, .cvtsd2ss⟩, ⟨0x5C, .subsd⟩, ⟨0x5D, .minsd⟩,
   ⟨0x5E, .divsd⟩, ⟨0x5F, .maxsd⟩, ⟨0x70, .pshuflw⟩, ⟨0xC2, .cmpsd⟩, ⟨0xE6, .cvtpd2dq⟩]

/-- LEGACY, map 0F38, prefix np. -/
def legacy0F38Np : List Entry :=
  [⟨0xC8, .sha1nexte⟩, ⟨0xC9, .sha1msg1⟩, ⟨0xCA, .sha1msg2⟩, ⟨0xCB, .sha256rnds2⟩, ⟨0xCC, .sha256msg1⟩,
   ⟨0xCD, .sha256msg2⟩]

/-- LEGACY, map 0F38, prefix p66. -/
def legacy0F38P66 : List Entry :=
  [⟨0x00, .pshufb⟩, ⟨0x04, .pmaddubsw⟩, ⟨0x0B, .pmulhrsw⟩, ⟨0x1C, .pabsb⟩, ⟨0x1D, .pabsw⟩, ⟨0x1E, .pabsd⟩,
   ⟨0x20, .pmovsxbw⟩, ⟨0x21, .pmovsxbd⟩, ⟨0x22, .pmovsxbq⟩, ⟨0x23, .pmovsxwd⟩, ⟨0x24, .pmovsxwq⟩,
   ⟨0x25, .pmovsxdq⟩, ⟨0x28, .pmuldq⟩, ⟨0x29, .pcmpeqq⟩, ⟨0x2A, .movntdqa⟩, ⟨0x2B, .packusdw⟩, ⟨0x30, .pmovzxbw⟩,
   ⟨0x31, .pmovzxbd⟩, ⟨0x32, .pmovzxbq⟩, ⟨0x33, .pmovzxwd⟩, ⟨0x34, .pmovzxwq⟩, ⟨0x35, .pmovzxdq⟩, ⟨0x37, .pcmpgtq⟩,
   ⟨0x38, .pminsb⟩, ⟨0x39, .pminsd⟩, ⟨0x3A, .pminuw⟩, ⟨0x3B, .pminud⟩, ⟨0x3C, .pmaxsb⟩, ⟨0x3D, .pmaxsd⟩,
   ⟨0x3E, .pmaxuw⟩, ⟨0x3F, .pmaxud⟩, ⟨0x40, .pmulld⟩]

/-- LEGACY, map 0F3A, prefix np. -/
def legacy0F3ANp : List Entry :=
  [⟨0xCC, .sha1rnds4⟩]

/-- LEGACY, map 0F3A, prefix p66. -/
def legacy0F3AP66 : List Entry :=
  [⟨0x0F, .palignr⟩, ⟨0x14, .pextrb⟩, ⟨0x15, .pextrw⟩, ⟨0x16, .pextrd⟩, ⟨0x16, .pextrq⟩, ⟨0x17, .extractps⟩,
   ⟨0x20, .pinsrb⟩, ⟨0x21, .insertps⟩, ⟨0x22, .pinsrd⟩, ⟨0x22, .pinsrq⟩]

/-- VEX, map 0F, prefix np. -/
def vex0FNp : List Entry :=
  [⟨0x10, .vmovups⟩, ⟨0x11, .vmovups⟩, ⟨0x12, .vmovhlps⟩, ⟨0x12, .vmovlps⟩, ⟨0x13, .vmovlps⟩, ⟨0x14, .vunpcklps⟩,
   ⟨0x15, .vunpckhps⟩, ⟨0x16, .vmovhps⟩, ⟨0x16, .vmovlhps⟩, ⟨0x17, .vmovhps⟩, ⟨0x28, .vmovaps⟩, ⟨0x29, .vmovaps⟩,
   ⟨0x2B, .vmovntps⟩, ⟨0x2E, .vucomiss⟩, ⟨0x2F, .vcomiss⟩, ⟨0x41, .kandw⟩, ⟨0x41, .kandq⟩, ⟨0x42, .kandnw⟩,
   ⟨0x42, .kandnq⟩, ⟨0x44, .knotw⟩, ⟨0x44, .knotq⟩, ⟨0x45, .korw⟩, ⟨0x45, .korq⟩, ⟨0x46, .kxnorw⟩, ⟨0x46, .kxnorq⟩,
   ⟨0x47, .kxorw⟩, ⟨0x47, .kxorq⟩, ⟨0x4A, .kaddw⟩, ⟨0x4A, .kaddq⟩, ⟨0x4B, .kunpckwd⟩, ⟨0x4B, .kunpckdq⟩,
   ⟨0x51, .vsqrtps⟩, ⟨0x54, .vandps⟩, ⟨0x55, .vandnps⟩, ⟨0x56, .vorps⟩, ⟨0x57, .vxorps⟩, ⟨0x58, .vaddps⟩,
   ⟨0x59, .vmulps⟩, ⟨0x5A, .vcvtps2pd⟩, ⟨0x5B, .vcvtdq2ps⟩, ⟨0x5C, .vsubps⟩, ⟨0x5D, .vminps⟩, ⟨0x5E, .vdivps⟩,
   ⟨0x5F, .vmaxps⟩, ⟨0x90, .kmovw⟩, ⟨0x90, .kmovq⟩, ⟨0x91, .kmovw⟩, ⟨0x91, .kmovq⟩, ⟨0x92, .kmovw⟩, ⟨0x93, .kmovw⟩,
   ⟨0x98, .kortestw⟩, ⟨0x98, .kortestq⟩, ⟨0x99, .ktestw⟩, ⟨0x99, .ktestq⟩, ⟨0xC2, .vcmpps⟩, ⟨0xC6, .vshufps⟩]

/-- VEX, map 0F, prefix p66. -/
def vex0FP66 : List Entry :=
  [⟨0x10, .vmovupd⟩, ⟨0x11, .vmovupd⟩, ⟨0x12, .vmovlpd⟩, ⟨0x13, .vmovlpd⟩, ⟨0x14, .vunpcklpd⟩, ⟨0x15, .vunpckhpd⟩,
   ⟨0x16, .vmovhpd⟩, ⟨0x17, .vmovhpd⟩, ⟨0x28, .vmovapd⟩, ⟨0x29, .vmovapd⟩, ⟨0x2B, .vmovntpd⟩, ⟨0x2E, .vucomisd⟩,
   ⟨0x2F, .vcomisd⟩, ⟨0x41, .kandb⟩, ⟨0x41, .kandd⟩, ⟨0x42, .kandnb⟩, ⟨0x42, .kandnd⟩, ⟨0x44, .knotb⟩,
   ⟨0x44, .knotd⟩, ⟨0x45, .korb⟩, ⟨0x45, .kord⟩, ⟨0x46, .kxnorb⟩, ⟨0x46, .kxnord⟩, ⟨0x47, .kxorb⟩, ⟨0x47, .kxord⟩,
   ⟨0x4A, .kaddb⟩, ⟨0x4A, .kaddd⟩, ⟨0x4B, .kunpckbw⟩, ⟨0x51, .vsqrtpd⟩, ⟨0x54, .vandpd⟩, ⟨0x55, .vandnpd⟩,
   ⟨0x56, .vorpd⟩, ⟨0x57, .vxorpd⟩, ⟨0x58, .vaddpd⟩, ⟨0x59, .vmulpd⟩, ⟨0x5A, .vcvtpd2ps⟩, ⟨0x5B, .vcvtps2dq⟩,
   ⟨0x5C, .vsubpd⟩, ⟨0x5D, .vminpd⟩, ⟨0x5E, .vdivpd⟩, ⟨0x5F, .vmaxpd⟩, ⟨0x60, .vpunpcklbw⟩, ⟨0x61, .vpunpcklwd⟩,
   ⟨0x62, .vpunpckldq⟩, ⟨0x63, .vpacksswb⟩, ⟨0x64, .vpcmpgtb⟩, ⟨0x65, .vpcmpgtw⟩, ⟨0x66, .vpcmpgtd⟩,
   ⟨0x67, .vpackuswb⟩, ⟨0x68, .vpunpckhbw⟩, ⟨0x69, .vpunpckhwd⟩, ⟨0x6A, .vpunpckhdq⟩, ⟨0x6B, .vpackssdw⟩,
   ⟨0x6C, .vpunpcklqdq⟩, ⟨0x6D, .vpunpckhqdq⟩, ⟨0x6E, .vmovd⟩, ⟨0x6E, .vmovq⟩, ⟨0x6F, .vmovdqa⟩, ⟨0x70, .vpshufd⟩,
   ⟨0x71, .vpsllw⟩] ++
  [⟨0x71, .vpsraw⟩, ⟨0x71, .vpsrlw⟩, ⟨0x72, .vpslld⟩, ⟨0x72, .vpsrad⟩, ⟨0x72, .vpsrld⟩, ⟨0x73, .vpslldq⟩,
   ⟨0x73, .vpsllq⟩, ⟨0x73, .vpsrldq⟩, ⟨0x73, .vpsrlq⟩, ⟨0x74, .vpcmpeqb⟩, ⟨0x75, .vpcmpeqw⟩, ⟨0x76, .vpcmpeqd⟩,
   ⟨0x7E, .vmovd⟩, ⟨0x7E, .vmovq⟩, ⟨0x7F, .vmovdqa⟩, ⟨0x90, .kmovb⟩, ⟨0x90, .kmovd⟩, ⟨0x91, .kmovb⟩,
   ⟨0x91, .kmovd⟩, ⟨0x92, .kmovb⟩, ⟨0x93, .kmovb⟩, ⟨0x98, .kortestb⟩, ⟨0x98, .kortestd⟩, ⟨0x99, .ktestb⟩,
   ⟨0x99, .ktestd⟩, ⟨0xC2, .vcmppd⟩, ⟨0xC4, .vpinsrw⟩, ⟨0xC5, .vpextrw⟩, ⟨0xC6, .vshufpd⟩, ⟨0xD1, .vpsrlw⟩,
   ⟨0xD2, .vpsrld⟩, ⟨0xD3, .vpsrlq⟩, ⟨0xD4, .vpaddq⟩, ⟨0xD5, .vpmullw⟩, ⟨0xD6, .vmovq⟩, ⟨0xD8, .vpsubusb⟩,
   ⟨0xD9, .vpsubusw⟩, ⟨0xDA, .vpminub⟩, ⟨0xDB, .vpand⟩, ⟨0xDC, .vpaddusb⟩, ⟨0xDD, .vpaddusw⟩, ⟨0xDE, .vpmaxub⟩,
   ⟨0xDF, .vpandn⟩, ⟨0xE0, .vpavgb⟩, ⟨0xE1, .vpsraw⟩, ⟨0xE2, .vpsrad⟩, ⟨0xE3, .vpavgw⟩, ⟨0xE4, .vpmulhuw⟩,
   ⟨0xE5, .vpmulhw⟩, ⟨0xE6, .vcvttpd2dq⟩, ⟨0xE7, .vmovntdq⟩, ⟨0xE8, .vpsubsb⟩, ⟨0xE9, .vpsubsw⟩, ⟨0xEA, .vpminsw⟩,
   ⟨0xEB, .vpor⟩, ⟨0xEC, .vpaddsb⟩, ⟨0xED, .vpaddsw⟩, ⟨0xEE, .vpmaxsw⟩, ⟨0xEF, .vpxor⟩, ⟨0xF1, .vpsllw⟩] ++
  [⟨0xF2, .vpslld⟩, ⟨0xF3, .vpsllq⟩, ⟨0xF4, .vpmuludq⟩, ⟨0xF5, .vpmaddwd⟩, ⟨0xF6, .vpsadbw⟩, ⟨0xF8, .vpsubb⟩,
   ⟨0xF9, .vpsubw⟩, ⟨0xFA, .vpsubd⟩, ⟨0xFB, .vpsubq⟩, ⟨0xFC, .vpaddb⟩, ⟨0xFD, .vpaddw⟩, ⟨0xFE, .vpaddd⟩]

/-- VEX, map 0F, prefix pF3. -/
def vex0FPF3 : List Entry :=
  [⟨0x10, .vmovss⟩, ⟨0x11, .vmovss⟩, ⟨0x12, .vmovsldup⟩, ⟨0x16, .vmovshdup⟩, ⟨0x2A, .vcvtsi2ss⟩,
   ⟨0x2C, .vcvttss2si⟩, ⟨0x2D, .vcvtss2si⟩, ⟨0x51, .vsqrtss⟩, ⟨0x58, .vaddss⟩, ⟨0x59, .vmulss⟩, ⟨0x5A, .vcvtss2sd⟩,
   ⟨0x5B, .vcvttps2dq⟩, ⟨0x5C, .vsubss⟩, ⟨0x5D, .vminss⟩, ⟨0x5E, .vdivss⟩, ⟨0x5F, .vmaxss⟩, ⟨0x6F, .vmovdqu⟩,
   ⟨0x70, .vpshufhw⟩, ⟨0x7E, .vmovq⟩, ⟨0x7F, .vmovdqu⟩, ⟨0xC2, .vcmpss⟩, ⟨0xE6, .vcvtdq2pd⟩]

/-- VEX, map 0F, prefix pF2. -/
def vex0FPF2 : List Entry :=
  [⟨0x10, .vmovsd⟩, ⟨0x11, .vmovsd⟩, ⟨0x12, .vmovddup⟩, ⟨0x2A, .vcvtsi2sd⟩, ⟨0x2C, .vcvttsd2si⟩,
   ⟨0x2D, .vcvtsd2si⟩, ⟨0x51, .vsqrtsd⟩, ⟨0x58, .vaddsd⟩, ⟨0x59, .vmulsd⟩, ⟨0x5A, .vcvtsd2ss⟩, ⟨0x5C, .vsubsd⟩,
   ⟨0x5D, .vminsd⟩, ⟨0x5E, .vdivsd⟩, ⟨0x5F, .vmaxsd⟩, ⟨0x70, .vpshuflw⟩, ⟨0x92, .kmovq⟩, ⟨0x92, .kmovd⟩,
   ⟨0x93, .kmovq⟩, ⟨0x93, .kmovd⟩, ⟨0xC2, .vcmpsd⟩, ⟨0xE6, .vcvtpd2dq⟩]

/-- VEX, map 0F38, prefix p66. -/
def vex0F38P66 : List Entry :=
  [⟨0x00, .vpshufb⟩, ⟨0x04, .vpmaddubsw⟩, ⟨0x0B, .vpmulhrsw⟩, ⟨0x0C, .vpermilps⟩, ⟨0x0D, .vpermilpd⟩,
   ⟨0x13, .vcvtph2ps⟩, ⟨0x16, .vpermps⟩, ⟨0x18, .vbroadcastss⟩, ⟨0x19, .vbroadcastsd⟩, ⟨0x1A, .vbroadcastf128⟩,
   ⟨0x1C, .vpabsb⟩, ⟨0x1D, .vpabsw⟩, ⟨0x1E, .vpabsd⟩, ⟨0x20, .vpmovsxbw⟩, ⟨0x21, .vpmovsxbd⟩, ⟨0x22, .vpmovsxbq⟩,
   ⟨0x23, .vpmovsxwd⟩, ⟨0x24, .vpmovsxwq⟩, ⟨0x25, .vpmovsxdq⟩, ⟨0x28, .vpmuldq⟩, ⟨0x29, .vpcmpeqq⟩,
   ⟨0x2A, .vmovntdqa⟩, ⟨0x2B, .vpackusdw⟩, ⟨0x30, .vpmovzxbw⟩, ⟨0x31, .vpmovzxbd⟩, ⟨0x32, .vpmovzxbq⟩,
   ⟨0x33, .vpmovzxwd⟩, ⟨0x34, .vpmovzxwq⟩, ⟨0x35, .vpmovzxdq⟩, ⟨0x36, .vpermd⟩, ⟨0x37, .vpcmpgtq⟩,
   ⟨0x38, .vpminsb⟩, ⟨0x39, .vpminsd⟩, ⟨0x3A, .vpminuw⟩, ⟨0x3B, .vpminud⟩, ⟨0x3C, .vpmaxsb⟩, ⟨0x3D, .vpmaxsd⟩,
   ⟨0x3E, .vpmaxuw⟩, ⟨0x3F, .vpmaxud⟩, ⟨0x40, .vpmulld⟩, ⟨0x45, .vpsrlvd⟩, ⟨0x45, .vpsrlvq⟩, ⟨0x46, .vpsravd⟩,
   ⟨0x47, .vpsllvd⟩, ⟨0x47, .vpsllvq⟩, ⟨0x58, .vpbroadcastd⟩, ⟨0x59, .vpbroadcastq⟩, ⟨0x5A, .vbroadcasti128⟩,
   ⟨0x78, .vpbroadcastb⟩, ⟨0x79, .vpbroadcastw⟩, ⟨0x96, .vfmaddsub132pd⟩, ⟨0x96, .vfmaddsub132ps⟩,
   ⟨0x97, .vfmsubadd132pd⟩, ⟨0x97, .vfmsubadd132ps⟩, ⟨0x98, .vfmadd132pd⟩, ⟨0x98, .vfmadd132ps⟩,
   ⟨0x99, .vfmadd132sd⟩, ⟨0x99, .vfmadd132ss⟩, ⟨0x9A, .vfmsub132pd⟩, ⟨0x9A, .vfmsub132ps⟩] ++
  [⟨0x9B, .vfmsub132sd⟩, ⟨0x9B, .vfmsub132ss⟩, ⟨0x9C, .vfnmadd132pd⟩, ⟨0x9C, .vfnmadd132ps⟩, ⟨0x9D, .vfnmadd132sd⟩,
   ⟨0x9D, .vfnmadd132ss⟩, ⟨0x9E, .vfnmsub132pd⟩, ⟨0x9E, .vfnmsub132ps⟩, ⟨0x9F, .vfnmsub132sd⟩,
   ⟨0x9F, .vfnmsub132ss⟩, ⟨0xA6, .vfmaddsub213pd⟩, ⟨0xA6, .vfmaddsub213ps⟩, ⟨0xA7, .vfmsubadd213pd⟩,
   ⟨0xA7, .vfmsubadd213ps⟩, ⟨0xA8, .vfmadd213pd⟩, ⟨0xA8, .vfmadd213ps⟩, ⟨0xA9, .vfmadd213sd⟩, ⟨0xA9, .vfmadd213ss⟩,
   ⟨0xAA, .vfmsub213pd⟩, ⟨0xAA, .vfmsub213ps⟩, ⟨0xAB, .vfmsub213sd⟩, ⟨0xAB, .vfmsub213ss⟩, ⟨0xAC, .vfnmadd213pd⟩,
   ⟨0xAC, .vfnmadd213ps⟩, ⟨0xAD, .vfnmadd213sd⟩, ⟨0xAD, .vfnmadd213ss⟩, ⟨0xAE, .vfnmsub213pd⟩,
   ⟨0xAE, .vfnmsub213ps⟩, ⟨0xAF, .vfnmsub213sd⟩, ⟨0xAF, .vfnmsub213ss⟩, ⟨0xB6, .vfmaddsub231pd⟩,
   ⟨0xB6, .vfmaddsub231ps⟩, ⟨0xB7, .vfmsubadd231pd⟩, ⟨0xB7, .vfmsubadd231ps⟩, ⟨0xB8, .vfmadd231pd⟩,
   ⟨0xB8, .vfmadd231ps⟩, ⟨0xB9, .vfmadd231sd⟩, ⟨0xB9, .vfmadd231ss⟩, ⟨0xBA, .vfmsub231pd⟩, ⟨0xBA, .vfmsub231ps⟩,
   ⟨0xBB, .vfmsub231sd⟩, ⟨0xBB, .vfmsub231ss⟩, ⟨0xBC, .vfnmadd231pd⟩, ⟨0xBC, .vfnmadd231ps⟩, ⟨0xBD, .vfnmadd231sd⟩,
   ⟨0xBD, .vfnmadd231ss⟩, ⟨0xBE, .vfnmsub231pd⟩, ⟨0xBE, .vfnmsub231ps⟩, ⟨0xBF, .vfnmsub231sd⟩,
   ⟨0xBF, .vfnmsub231ss⟩]

/-- VEX, map 0F3A, prefix p66. -/
def vex0F3AP66 : List Entry :=
  [⟨0x00, .vpermq⟩, ⟨0x01, .vpermpd⟩, ⟨0x04, .vpermilps⟩, ⟨0x05, .vpermilpd⟩, ⟨0x0F, .vpalignr⟩, ⟨0x14, .vpextrb⟩,
   ⟨0x15, .vpextrw⟩, ⟨0x16, .vpextrd⟩, ⟨0x16, .vpextrq⟩, ⟨0x17, .vextractps⟩, ⟨0x18, .vinsertf128⟩,
   ⟨0x19, .vextractf128⟩, ⟨0x1D, .vcvtps2ph⟩, ⟨0x20, .vpinsrb⟩, ⟨0x21, .vinsertps⟩, ⟨0x22, .vpinsrd⟩,
   ⟨0x22, .vpinsrq⟩, ⟨0x30, .kshiftrw⟩, ⟨0x30, .kshiftrb⟩, ⟨0x31, .kshiftrq⟩, ⟨0x31, .kshiftrd⟩, ⟨0x32, .kshiftlw⟩,
   ⟨0x32, .kshiftlb⟩, ⟨0x33, .kshiftlq⟩, ⟨0x33, .kshiftld⟩, ⟨0x38, .vinserti128⟩, ⟨0x39, .vextracti128⟩]

/-- EVEX, map 0F, prefix np. -/
def evex0FNp : List Entry :=
  [⟨0x10, .vmovups⟩, ⟨0x11, .vmovups⟩, ⟨0x12, .vmovhlps⟩, ⟨0x12, .vmovlps⟩, ⟨0x13, .vmovlps⟩, ⟨0x14, .vunpcklps⟩,
   ⟨0x15, .vunpckhps⟩, ⟨0x16, .vmovhps⟩, ⟨0x16, .vmovlhps⟩, ⟨0x17, .vmovhps⟩, ⟨0x28, .vmovaps⟩, ⟨0x29, .vmovaps⟩,
   ⟨0x2B, .vmovntps⟩, ⟨0x2E, .vucomiss⟩, ⟨0x2F, .vcomiss⟩, ⟨0x51, .vsqrtps⟩, ⟨0x54, .vandps⟩, ⟨0x55, .vandnps⟩,
   ⟨0x56, .vorps⟩, ⟨0x57, .vxorps⟩, ⟨0x58, .vaddps⟩, ⟨0x59, .vmulps⟩, ⟨0x5A, .vcvtps2pd⟩, ⟨0x5B, .vcvtdq2ps⟩,
   ⟨0x5B, .vcvtqq2ps⟩, ⟨0x5C, .vsubps⟩, ⟨0x5D, .vminps⟩, ⟨0x5E, .vdivps⟩, ⟨0x5F, .vmaxps⟩, ⟨0x78, .vcvttpd2udq⟩,
   ⟨0x78, .vcvttps2udq⟩, ⟨0x79, .vcvtpd2udq⟩, ⟨0x79, .vcvtps2udq⟩, ⟨0xC2, .vcmpps⟩, ⟨0xC6, .vshufps⟩]

/-- EVEX, map 0F, prefix p66. -/
def evex0FP66 : List Entry :=
  [⟨0x10, .vmovupd⟩, ⟨0x11, .vmovupd⟩, ⟨0x12, .vmovlpd⟩, ⟨0x13, .vmovlpd⟩, ⟨0x14, .vunpcklpd⟩, ⟨0x15, .vunpckhpd⟩,
   ⟨0x16, .vmovhpd⟩, ⟨0x17, .vmovhpd⟩, ⟨0x28, .vmovapd⟩, ⟨0x29, .vmovapd⟩, ⟨0x2B, .vmovntpd⟩, ⟨0x2E, .vucomisd⟩,
   ⟨0x2F, .vcomisd⟩, ⟨0x51, .vsqrtpd⟩, ⟨0x54, .vandpd⟩, ⟨0x55, .vandnpd⟩, ⟨0x56, .vorpd⟩, ⟨0x57, .vxorpd⟩,
   ⟨0x58, .vaddpd⟩, ⟨0x59, .vmulpd⟩, ⟨0x5A, .vcvtpd2ps⟩, ⟨0x5B, .vcvtps2dq⟩, ⟨0x5C, .vsubpd⟩, ⟨0x5D, .vminpd⟩,
   ⟨0x5E, .vdivpd⟩, ⟨0x5F, .vmaxpd⟩, ⟨0x60, .vpunpcklbw⟩, ⟨0x61, .vpunpcklwd⟩, ⟨0x62, .vpunpckldq⟩,
   ⟨0x63, .vpacksswb⟩, ⟨0x64, .vpcmpgtb⟩, ⟨0x65, .vpcmpgtw⟩, ⟨0x66, .vpcmpgtd⟩, ⟨0x67, .vpackuswb⟩,
   ⟨0x68, .vpunpckhbw⟩, ⟨0x69, .vpunpckhwd⟩, ⟨0x6A, .vpunpckhdq⟩, ⟨0x6B, .vpackssdw⟩, ⟨0x6C, .vpunpcklqdq⟩,
   ⟨0x6D, .vpunpckhqdq⟩, ⟨0x6E, .vmovd⟩, ⟨0x6E, .vmovq⟩, ⟨0x6F, .vmovdqa32⟩, ⟨0x6F, .vmovdqa64⟩, ⟨0x70, .vpshufd⟩,
   ⟨0x71, .vpsllw⟩, ⟨0x71, .vpsraw⟩, ⟨0x71, .vpsrlw⟩, ⟨0x72, .vprold⟩, ⟨0x72, .vprolq⟩, ⟨0x72, .vprord⟩,
   ⟨0x72, .vprorq⟩, ⟨0x72, .vpslld⟩, ⟨0x72, .vpsrad⟩, ⟨0x72, .vpsraq⟩, ⟨0x72, .vpsrld⟩, ⟨0x73, .vpslldq⟩,
   ⟨0x73, .vpsllq⟩, ⟨0x73, .vpsrldq⟩, ⟨0x73, .vpsrlq⟩] ++
  [⟨0x74, .vpcmpeqb⟩, ⟨0x75, .vpcmpeqw⟩, ⟨0x76, .vpcmpeqd⟩, ⟨0x78, .vcvttpd2uqq⟩, ⟨0x78, .vcvttps2uqq⟩,
   ⟨0x79, .vcvtpd2uqq⟩, ⟨0x79, .vcvtps2uqq⟩, ⟨0x7A, .vcvttpd2qq⟩, ⟨0x7A, .vcvttps2qq⟩, ⟨0x7B, .vcvtpd2qq⟩,
   ⟨0x7B, .vcvtps2qq⟩, ⟨0x7E, .vmovd⟩, ⟨0x7E, .vmovq⟩, ⟨0x7F, .vmovdqa32⟩, ⟨0x7F, .vmovdqa64⟩, ⟨0xC2, .vcmppd⟩,
   ⟨0xC4, .vpinsrw⟩, ⟨0xC5, .vpextrw⟩, ⟨0xC6, .vshufpd⟩, ⟨0xD1, .vpsrlw⟩, ⟨0xD2, .vpsrld⟩, ⟨0xD3, .vpsrlq⟩,
   ⟨0xD4, .vpaddq⟩, ⟨0xD5, .vpmullw⟩, ⟨0xD6, .vmovq⟩, ⟨0xD8, .vpsubusb⟩, ⟨0xD9, .vpsubusw⟩, ⟨0xDA, .vpminub⟩,
   ⟨0xDB, .vpandd⟩, ⟨0xDB, .vpandq⟩, ⟨0xDC, .vpaddusb⟩, ⟨0xDD, .vpaddusw⟩, ⟨0xDE, .vpmaxub⟩, ⟨0xDF, .vpandnd⟩,
   ⟨0xDF, .vpandnq⟩, ⟨0xE0, .vpavgb⟩, ⟨0xE1, .vpsraw⟩, ⟨0xE2, .vpsrad⟩, ⟨0xE2, .vpsraq⟩, ⟨0xE3, .vpavgw⟩,
   ⟨0xE4, .vpmulhuw⟩, ⟨0xE5, .vpmulhw⟩, ⟨0xE6, .vcvttpd2dq⟩, ⟨0xE7, .vmovntdq⟩, ⟨0xE8, .vpsubsb⟩, ⟨0xE9, .vpsubsw⟩,
   ⟨0xEA, .vpminsw⟩, ⟨0xEB, .vpord⟩, ⟨0xEB, .vporq⟩, ⟨0xEC, .vpaddsb⟩, ⟨0xED, .vpaddsw⟩, ⟨0xEE, .vpmaxsw⟩,
   ⟨0xEF, .vpxord⟩, ⟨0xEF, .vpxorq⟩, ⟨0xF1, .vpsllw⟩, ⟨0xF2, .vpslld⟩, ⟨0xF3, .vpsllq⟩, ⟨0xF4, .vpmuludq⟩,
   ⟨0xF5, .vpmaddwd⟩, ⟨0xF6, .vpsadbw⟩] ++
  [⟨0xF8, .vpsubb⟩, ⟨0xF9, .vpsubw⟩, ⟨0xFA, .vpsubd⟩, ⟨0xFB, .vpsubq⟩, ⟨0xFC, .vpaddb⟩, ⟨0xFD, .vpaddw⟩,
   ⟨0xFE, .vpaddd⟩]

/-- EVEX, map 0F, prefix pF3. -/
def evex0FPF3 : List Entry :=
  [⟨0x10, .vmovss⟩, ⟨0x11, .vmovss⟩, ⟨0x12, .vmovsldup⟩, ⟨0x16, .vmovshdup⟩, ⟨0x2A, .vcvtsi2ss⟩,
   ⟨0x2C, .vcvttss2si⟩, ⟨0x2D, .vcvtss2si⟩, ⟨0x51, .vsqrtss⟩, ⟨0x58, .vaddss⟩, ⟨0x59, .vmulss⟩, ⟨0x5A, .vcvtss2sd⟩,
   ⟨0x5B, .vcvttps2dq⟩, ⟨0x5C, .vsubss⟩, ⟨0x5D, .vminss⟩, ⟨0x5E, .vdivss⟩, ⟨0x5F, .vmaxss⟩, ⟨0x6F, .vmovdqu32⟩,
   ⟨0x6F, .vmovdqu64⟩, ⟨0x70, .vpshufhw⟩, ⟨0x78, .vcvttss2usi⟩, ⟨0x79, .vcvtss2usi⟩, ⟨0x7A, .vcvtudq2pd⟩,
   ⟨0x7A, .vcvtuqq2pd⟩, ⟨0x7B, .vcvtusi2ss⟩, ⟨0x7E, .vmovq⟩, ⟨0x7F, .vmovdqu32⟩, ⟨0x7F, .vmovdqu64⟩,
   ⟨0xC2, .vcmpss⟩, ⟨0xE6, .vcvtdq2pd⟩, ⟨0xE6, .vcvtqq2pd⟩]

/-- EVEX, map 0F, prefix pF2. -/
def evex0FPF2 : List Entry :=
  [⟨0x10, .vmovsd⟩, ⟨0x11, .vmovsd⟩, ⟨0x12, .vmovddup⟩, ⟨0x2A, .vcvtsi2sd⟩, ⟨0x2C, .vcvttsd2si⟩,
   ⟨0x2D, .vcvtsd2si⟩, ⟨0x51, .vsqrtsd⟩, ⟨0x58, .vaddsd⟩, ⟨0x59, .vmulsd⟩, ⟨0x5A, .vcvtsd2ss⟩, ⟨0x5C, .vsubsd⟩,
   ⟨0x5D, .vminsd⟩, ⟨0x5E, .vdivsd⟩, ⟨0x5F, .vmaxsd⟩, ⟨0x6F, .vmovdqu8⟩, ⟨0x6F, .vmovdqu16⟩, ⟨0x70, .vpshuflw⟩,
   ⟨0x78, .vcvttsd2usi⟩, ⟨0x79, .vcvtsd2usi⟩, ⟨0x7A, .vcvtudq2ps⟩, ⟨0x7A, .vcvtuqq2ps⟩, ⟨0x7B, .vcvtusi2sd⟩,
   ⟨0x7F, .vmovdqu8⟩, ⟨0x7F, .vmovdqu16⟩, ⟨0xC2, .vcmpsd⟩, ⟨0xE6, .vcvtpd2dq⟩]

/-- EVEX, map 0F38, prefix p66. -/
def evex0F38P66 : List Entry :=
  [⟨0x00, .vpshufb⟩, ⟨0x04, .vpmaddubsw⟩, ⟨0x0B, .vpmulhrsw⟩, ⟨0x0C, .vpermilps⟩, ⟨0x0D, .vpermilpd⟩,
   ⟨0x10, .vpsrlvw⟩, ⟨0x11, .vpsravw⟩, ⟨0x12, .vpsllvw⟩, ⟨0x13, .vcvtph2ps⟩, ⟨0x14, .vprorvd⟩, ⟨0x14, .vprorvq⟩,
   ⟨0x15, .vprolvd⟩, ⟨0x15, .vprolvq⟩, ⟨0x16, .vpermpd⟩, ⟨0x16, .vpermps⟩, ⟨0x18, .vbroadcastss⟩,
   ⟨0x19, .vbroadcastsd⟩, ⟨0x19, .vbroadcastf32x2⟩, ⟨0x1A, .vbroadcastf32x4⟩, ⟨0x1A, .vbroadcastf64x2⟩,
   ⟨0x1B, .vbroadcastf32x8⟩, ⟨0x1B, .vbroadcastf64x4⟩, ⟨0x1C, .vpabsb⟩, ⟨0x1D, .vpabsw⟩, ⟨0x1E, .vpabsd⟩,
   ⟨0x1F, .vpabsq⟩, ⟨0x20, .vpmovsxbw⟩, ⟨0x21, .vpmovsxbd⟩, ⟨0x22, .vpmovsxbq⟩, ⟨0x23, .vpmovsxwd⟩,
   ⟨0x24, .vpmovsxwq⟩, ⟨0x25, .vpmovsxdq⟩, ⟨0x26, .vptestmb⟩, ⟨0x26, .vptestmw⟩, ⟨0x27, .vptestmd⟩,
   ⟨0x27, .vptestmq⟩, ⟨0x28, .vpmuldq⟩, ⟨0x29, .vpcmpeqq⟩, ⟨0x2A, .vmovntdqa⟩, ⟨0x2B, .vpackusdw⟩,
   ⟨0x2C, .vscalefpd⟩, ⟨0x2C, .vscalefps⟩, ⟨0x2D, .vscalefsd⟩, ⟨0x2D, .vscalefss⟩, ⟨0x30, .vpmovzxbw⟩,
   ⟨0x31, .vpmovzxbd⟩, ⟨0x32, .vpmovzxbq⟩, ⟨0x33, .vpmovzxwd⟩, ⟨0x34, .vpmovzxwq⟩, ⟨0x35, .vpmovzxdq⟩,
   ⟨0x36, .vpermd⟩, ⟨0x36, .vpermq⟩, ⟨0x37, .vpcmpgtq⟩, ⟨0x38, .vpminsb⟩, ⟨0x39, .vpminsd⟩, ⟨0x39, .vpminsq⟩,
   ⟨0x3A, .vpminuw⟩, ⟨0x3B, .vpminud⟩, ⟨0x3B, .vpminuq⟩, ⟨0x3C, .vpmaxsb⟩] ++
  [⟨0x3D, .vpmaxsd⟩, ⟨0x3D, .vpmaxsq⟩, ⟨0x3E, .vpmaxuw⟩, ⟨0x3F, .vpmaxud⟩, ⟨0x3F, .vpmaxuq⟩, ⟨0x40, .vpmulld⟩,
   ⟨0x40, .vpmullq⟩, ⟨0x42, .vgetexppd⟩, ⟨0x42, .vgetexpps⟩, ⟨0x43, .vgetexpsd⟩, ⟨0x43, .vgetexpss⟩,
   ⟨0x44, .vplzcntd⟩, ⟨0x44, .vplzcntq⟩, ⟨0x45, .vpsrlvd⟩, ⟨0x45, .vpsrlvq⟩, ⟨0x46, .vpsravd⟩, ⟨0x46, .vpsravq⟩,
   ⟨0x47, .vpsllvd⟩, ⟨0x47, .vpsllvq⟩, ⟨0x4C, .vrcp14pd⟩, ⟨0x4C, .vrcp14ps⟩, ⟨0x4D, .vrcp14sd⟩, ⟨0x4D, .vrcp14ss⟩,
   ⟨0x4E, .vrsqrt14pd⟩, ⟨0x4E, .vrsqrt14ps⟩, ⟨0x4F, .vrsqrt14sd⟩, ⟨0x4F, .vrsqrt14ss⟩, ⟨0x58, .vpbroadcastd⟩,
   ⟨0x59, .vpbroadcastq⟩, ⟨0x59, .vbroadcasti32x2⟩, ⟨0x5A, .vbroadcasti32x4⟩, ⟨0x5A, .vbroadcasti64x2⟩,
   ⟨0x5B, .vbroadcasti32x8⟩, ⟨0x5B, .vbroadcasti64x4⟩, ⟨0x64, .vpblendmd⟩, ⟨0x64, .vpblendmq⟩, ⟨0x65, .vblendmpd⟩,
   ⟨0x65, .vblendmps⟩, ⟨0x66, .vpblendmb⟩, ⟨0x66, .vpblendmw⟩, ⟨0x75, .vpermi2b⟩, ⟨0x75, .vpermi2w⟩,
   ⟨0x76, .vpermi2d⟩, ⟨0x76, .vpermi2q⟩, ⟨0x77, .vpermi2ps⟩, ⟨0x77, .vpermi2pd⟩, ⟨0x78, .vpbroadcastb⟩,
   ⟨0x79, .vpbroadcastw⟩, ⟨0x7A, .vpbroadcastb⟩, ⟨0x7B, .vpbroadcastw⟩, ⟨0x7C, .vpbroadcastd⟩,
   ⟨0x7C, .vpbroadcastq⟩, ⟨0x7D, .vpermt2b⟩, ⟨0x7D, .vpermt2w⟩, ⟨0x7E, .vpermt2d⟩, ⟨0x7E, .vpermt2q⟩,
   ⟨0x7F, .vpermt2ps⟩, ⟨0x7F, .vpermt2pd⟩, ⟨0x83, .vpmultishiftqb⟩, ⟨0x88, .vexpandpd⟩] ++
  [⟨0x88, .vexpandps⟩, ⟨0x89, .vpexpandd⟩, ⟨0x89, .vpexpandq⟩, ⟨0x8A, .vcompresspd⟩, ⟨0x8A, .vcompressps⟩,
   ⟨0x8B, .vpcompressd⟩, ⟨0x8B, .vpcompressq⟩, ⟨0x8D, .vpermb⟩, ⟨0x8D, .vpermw⟩, ⟨0x90, .vpgatherdd⟩,
   ⟨0x90, .vpgatherdq⟩, ⟨0x91, .vpgatherqd⟩, ⟨0x91, .vpgatherqq⟩, ⟨0x92, .vgatherdps⟩, ⟨0x92, .vgatherdpd⟩,
   ⟨0x93, .vgatherqps⟩, ⟨0x93, .vgatherqpd⟩, ⟨0x96, .vfmaddsub132pd⟩, ⟨0x96, .vfmaddsub132ps⟩,
   ⟨0x97, .vfmsubadd132pd⟩, ⟨0x97, .vfmsubadd132ps⟩, ⟨0x98, .vfmadd132pd⟩, ⟨0x98, .vfmadd132ps⟩,
   ⟨0x99, .vfmadd132sd⟩, ⟨0x99, .vfmadd132ss⟩, ⟨0x9A, .vfmsub132pd⟩, ⟨0x9A, .vfmsub132ps⟩, ⟨0x9B, .vfmsub132sd⟩,
   ⟨0x9B, .vfmsub132ss⟩, ⟨0x9C, .vfnmadd132pd⟩, ⟨0x9C, .vfnmadd132ps⟩, ⟨0x9D, .vfnmadd132sd⟩,
   ⟨0x9D, .vfnmadd132ss⟩, ⟨0x9E, .vfnmsub132pd⟩, ⟨0x9E, .vfnmsub132ps⟩, ⟨0x9F, .vfnmsub132sd⟩,
   ⟨0x9F, .vfnmsub132ss⟩, ⟨0xA0, .vpscatterdd⟩, ⟨0xA0, .vpscatterdq⟩, ⟨0xA1, .vpscatterqd⟩, ⟨0xA1, .vpscatterqq⟩,
   ⟨0xA2, .vscatterdps⟩, ⟨0xA2, .vscatterdpd⟩, ⟨0xA3, .vscatterqps⟩, ⟨0xA3, .vscatterqpd⟩, ⟨0xA6, .vfmaddsub213pd⟩,
   ⟨0xA6, .vfmaddsub213ps⟩, ⟨0xA7, .vfmsubadd213pd⟩, ⟨0xA7, .vfmsubadd213ps⟩, ⟨0xA8, .vfmadd213pd⟩,
   ⟨0xA8, .vfmadd213ps⟩, ⟨0xA9, .vfmadd213sd⟩, ⟨0xA9, .vfmadd213ss⟩, ⟨0xAA, .vfmsub213pd⟩, ⟨0xAA, .vfmsub213ps⟩,
   ⟨0xAB, .vfmsub213sd⟩, ⟨0xAB, .vfmsub213ss⟩, ⟨0xAC, .vfnmadd213pd⟩, ⟨0xAC, .vfnmadd213ps⟩, ⟨0xAD, .vfnmadd213sd⟩] ++
  [⟨0xAD, .vfnmadd213ss⟩, ⟨0xAE, .vfnmsub213pd⟩, ⟨0xAE, .vfnmsub213ps⟩, ⟨0xAF, .vfnmsub213sd⟩,
   ⟨0xAF, .vfnmsub213ss⟩, ⟨0xB4, .vpmadd52luq⟩, ⟨0xB5, .vpmadd52huq⟩, ⟨0xB6, .vfmaddsub231pd⟩,
   ⟨0xB6, .vfmaddsub231ps⟩, ⟨0xB7, .vfmsubadd231pd⟩, ⟨0xB7, .vfmsubadd231ps⟩, ⟨0xB8, .vfmadd231pd⟩,
   ⟨0xB8, .vfmadd231ps⟩, ⟨0xB9, .vfmadd231sd⟩, ⟨0xB9, .vfmadd231ss⟩, ⟨0xBA, .vfmsub231pd⟩, ⟨0xBA, .vfmsub231ps⟩,
   ⟨0xBB, .vfmsub231sd⟩, ⟨0xBB, .vfmsub231ss⟩, ⟨0xBC, .vfnmadd231pd⟩, ⟨0xBC, .vfnmadd231ps⟩, ⟨0xBD, .vfnmadd231sd⟩,
   ⟨0xBD, .vfnmadd231ss⟩, ⟨0xBE, .vfnmsub231pd⟩, ⟨0xBE, .vfnmsub231ps⟩, ⟨0xBF, .vfnmsub231sd⟩,
   ⟨0xBF, .vfnmsub231ss⟩, ⟨0xC4, .vpconflictd⟩, ⟨0xC4, .vpconflictq⟩, ⟨0xC6, .vgatherpf0dps⟩,
   ⟨0xC6, .vgatherpf0dpd⟩, ⟨0xC6, .vgatherpf1dps⟩, ⟨0xC6, .vgatherpf1dpd⟩, ⟨0xC6, .vscatterpf0dps⟩,
   ⟨0xC6, .vscatterpf0dpd⟩, ⟨0xC6, .vscatterpf1dps⟩, ⟨0xC6, .vscatterpf1dpd⟩, ⟨0xC7, .vgatherpf0qps⟩,
   ⟨0xC7, .vgatherpf0qpd⟩, ⟨0xC7, .vgatherpf1qps⟩, ⟨0xC7, .vgatherpf1qpd⟩, ⟨0xC7, .vscatterpf0qps⟩,
   ⟨0xC7, .vscatterpf0qpd⟩, ⟨0xC7, .vscatterpf1qps⟩, ⟨0xC7, .vscatterpf1qpd⟩, ⟨0xC8, .vexp2pd⟩, ⟨0xC8, .vexp2ps⟩,
   ⟨0xCA, .vrcp28pd⟩, ⟨0xCA, .vrcp28ps⟩, ⟨0xCB, .vrcp28sd⟩, ⟨0xCB, .vrcp28ss⟩, ⟨0xCC, .vrsqrt28pd⟩,
   ⟨0xCC, .vrsqrt28ps⟩, ⟨0xCD, .vrsqrt28sd⟩, ⟨0xCD, .vrsqrt28ss⟩]

/-- EVEX, map 0F38, prefix pF3. -/
def evex0F38PF3 : List Entry :=
  [⟨0x10, .vpmovuswb⟩, ⟨0x11, .vpmovusdb⟩, ⟨0x12, .vpmovusqb⟩, ⟨0x13, .vpmovusdw⟩, ⟨0x14, .vpmovusqw⟩,
   ⟨0x15, .vpmovusqd⟩, ⟨0x20, .vpmovswb⟩, ⟨0x21, .vpmovsdb⟩, ⟨0x22, .vpmovsqb⟩, ⟨0x23, .vpmovsdw⟩,
   ⟨0x24, .vpmovsqw⟩, ⟨0x25, .vpmovsqd⟩, ⟨0x26, .vptestnmb⟩, ⟨0x26, .vptestnmw⟩, ⟨0x27, .vptestnmd⟩,
   ⟨0x27, .vptestnmq⟩, ⟨0x28, .vpmovm2b⟩, ⟨0x28, .vpmovm2w⟩, ⟨0x29, .vpmovb2m⟩, ⟨0x29, .vpmovw2m⟩,
   ⟨0x2A, .vpbroadcastmb2q⟩, ⟨0x30, .vpmovwb⟩, ⟨0x31, .vpmovdb⟩, ⟨0x32, .vpmovqb⟩, ⟨0x33, .vpmovdw⟩,
   ⟨0x34, .vpmovqw⟩, ⟨0x35, .vpmovqd⟩, ⟨0x38, .vpmovm2d⟩, ⟨0x38, .vpmovm2q⟩, ⟨0x39, .vpmovd2m⟩, ⟨0x39, .vpmovq2m⟩,
   ⟨0x3A, .vpbroadcastmw2d⟩]

/-- EVEX, map 0F3A, prefix p66. -/
def evex0F3AP66 : List Entry :=
  [⟨0x00, .vpermq⟩, ⟨0x01, .vpermpd⟩, ⟨0x03, .valignd⟩, ⟨0x03, .valignq⟩, ⟨0x04, .vpermilps⟩, ⟨0x05, .vpermilpd⟩,
   ⟨0x08, .vrndscaleps⟩, ⟨0x09, .vrndscalepd⟩, ⟨0x0A, .vrndscaless⟩, ⟨0x0B, .vrndscalesd⟩, ⟨0x0F, .vpalignr⟩,
   ⟨0x14, .vpextrb⟩, ⟨0x15, .vpextrw⟩, ⟨0x16, .vpextrd⟩, ⟨0x16, .vpextrq⟩, ⟨0x17, .vextractps⟩,
   ⟨0x18, .vinsertf32x4⟩, ⟨0x18, .vinsertf64x2⟩, ⟨0x19, .vextractf32x4⟩, ⟨0x19, .vextractf32x4z⟩,
   ⟨0x19, .vextractf64x2⟩, ⟨0x1A, .vinsertf32x8⟩, ⟨0x1A, .vinsertf64x4⟩, ⟨0x1B, .vextractf32x8⟩,
   ⟨0x1B, .vextractf64x4z⟩, ⟨0x1D, .vcvtps2ph⟩, ⟨0x1E, .vpcmpud⟩, ⟨0x1E, .vpcmpuq⟩, ⟨0x1F, .vpcmpd⟩,
   ⟨0x1F, .vpcmpq⟩, ⟨0x20, .vpinsrb⟩, ⟨0x21, .vinsertps⟩, ⟨0x22, .vpinsrd⟩, ⟨0x22, .vpinsrq⟩, ⟨0x23, .vshuff32x4⟩,
   ⟨0x23, .vshuff64x2⟩, ⟨0x25, .vpternlogd⟩, ⟨0x25, .vpternlogq⟩, ⟨0x26, .vgetmantpd⟩, ⟨0x26, .vgetmantps⟩,
   ⟨0x27, .vgetmantsd⟩, ⟨0x27, .vgetmantss⟩, ⟨0x38, .vinserti32x4⟩, ⟨0x38, .vinserti64x2⟩, ⟨0x39, .vextracti32x4⟩,
   ⟨0x39, .vextracti32x4z⟩, ⟨0x39, .vextracti64x2⟩, ⟨0x3A, .vinserti32x8⟩, ⟨0x3A, .vinserti64x4⟩,
   ⟨0x3B, .vextracti32x8⟩, ⟨0x3B, .vextracti64x4z⟩, ⟨0x3E, .vpcmpub⟩, ⟨0x3E, .vpcmpuw⟩, ⟨0x3F, .vpcmpb⟩,
   ⟨0x3F, .vpcmpw⟩, ⟨0x42, .vdbpsadbw⟩, ⟨0x43, .vshufi32x4⟩, ⟨0x43, .vshufi64x2⟩, ⟨0x50, .vrangepd⟩,
   ⟨0x50, .vrangeps⟩] ++
  [⟨0x51, .vrangesd⟩, ⟨0x51, .vrangess⟩, ⟨0x54, .vfixupimmpd⟩, ⟨0x54, .vfixupimmps⟩, ⟨0x55, .vfixupimmsd⟩,
   ⟨0x55, .vfixupimmss⟩, ⟨0x56, .vreducepd⟩, ⟨0x56, .vreduceps⟩, ⟨0x57, .vreducesd⟩, ⟨0x57, .vreducess⟩,
   ⟨0x66, .vfpclasspd⟩, ⟨0x66, .vfpclassps⟩, ⟨0x67, .vfpclasssd⟩, ⟨0x67, .vfpclassss⟩]

end Table

/-- The entries of one encoding system, opcode map and SIMD prefix. -/
def table (space : Space) (map : OpMap) (pp : Pfx) : List Entry :=
  match space, map, pp with
  | .legacy, .m0F, .np => Table.legacy0FNp
  | .legacy, .m0F, .p66 => Table.legacy0FP66
  | .legacy, .m0F, .pF3 => Table.legacy0FPF3
  | .legacy, .m0F, .pF2 => Table.legacy0FPF2
  | .legacy, .m0F38, .np => Table.legacy0F38Np
  | .legacy, .m0F38, .p66 => Table.legacy0F38P66
  | .legacy, .m0F38, .pF3 => []
  | .legacy, .m0F38, .pF2 => []
  | .legacy, .m0F3A, .np => Table.legacy0F3ANp
  | .legacy, .m0F3A, .p66 => Table.legacy0F3AP66
  | .legacy, .m0F3A, .pF3 => []
  | .legacy, .m0F3A, .pF2 => []
  | .vex, .m0F, .np => Table.vex0FNp
  | .vex, .m0F, .p66 => Table.vex0FP66
  | .vex, .m0F, .pF3 => Table.vex0FPF3
  | .vex, .m0F, .pF2 => Table.vex0FPF2
  | .vex, .m0F38, .np => []
  | .vex, .m0F38, .p66 => Table.vex0F38P66
  | .vex, .m0F38, .pF3 => []
  | .vex, .m0F38, .pF2 => []
  | .vex, .m0F3A, .np => []
  | .vex, .m0F3A, .p66 => Table.vex0F3AP66
  | .vex, .m0F3A, .pF3 => []
  | .vex, .m0F3A, .pF2 => []
  | .evex, .m0F, .np => Table.evex0FNp
  | .evex, .m0F, .p66 => Table.evex0FP66
  | .evex, .m0F, .pF3 => Table.evex0FPF3
  | .evex, .m0F, .pF2 => Table.evex0FPF2
  | .evex, .m0F38, .np => []
  | .evex, .m0F38, .p66 => Table.evex0F38P66
  | .evex, .m0F38, .pF3 => Table.evex0F38PF3
  | .evex, .m0F38, .pF2 => []
  | .evex, .m0F3A, .np => []
  | .evex, .m0F3A, .p66 => Table.evex0F3AP66
  | .evex, .m0F3A, .pF3 => []
  | .evex, .m0F3A, .pF2 => []

end Sys2Proof.Machine
end

