-- ==== Sys2Proof/WellFormed.lean ====
section
/-! DEFINITION. Which instructions an encoding exists for (spec/30_encoding.md R110 to R145), each condition a check of its
own. The encodings are those of 64-bit mode, where every field has its full range. -/

namespace Sys2Proof

open Machine

/-- A register number lies in the file the row's role selects (R118, R120, R145). -/
def regOk (space : Space) (use : RegUse) (n : Fin 32) : Bool :=
  match use with
  | .none | .ext _ => n == 0
  | .kreg => n.val < 8
  | .gpr => n.val < 16
  | .vec => if space == .evex then true else n.val < 16

/-- The address size exists in 64-bit mode (R130). -/
def asizeOk (m : MemOp) : Bool := m.asize != .a16

/-- The displacement is a sign-extended disp32 (R130). -/
def dispOk (m : MemOp) : Bool := (m.disp.setWidth 32).signExtend 64 == m.disp

/-- The index and the base fit the SIB byte (R131, R134): a VSIB operand has a vector index and no RIP base; any other has
a general register other than RSP, or none and then no scale; a RIP-relative one has none. -/
def indexOk (vsib : Bool) (m : MemOp) : Bool :=
  match m.index with
  | none => !vsib && m.scale == 0
  | some x => m.base != .rip && (vsib || (x.val < 16 && x != 4))

/-- The r/m operand can be encoded. -/
def rmOk (r : Row) (o : Operands) : Bool :=
  match o.rm with
  | .reg n => regOk o.space r.rm n
  | .mem m => asizeOk m && dispOk m && indexOk r.vsib m

/-- An immediate byte stands only where the row has one (R112). -/
def immOk (r : Row) (o : Operands) : Bool := r.imm || o.imm == 0

/-- Fields an encoding system does not have are zero (R140, R145). -/
def spaceOk (o : Operands) : Bool :=
  match o.space with
  | .legacy => o.ll == 0 && !o.b && !o.z && o.aaa == 0
  | .vex => o.ll.toNat < 2 && !o.b && !o.z && o.aaa == 0
  | .evex => true

/-- The fields fit the row. -/
def fieldsOk (r : Row) (o : Operands) : Bool :=
  regOk o.space r.reg o.reg && regOk o.space r.vv o.vvvv && rmOk r o && immOk r o && spaceOk o

/-- The instruction has an encoding: a row of its own matches it and its fields fit that row. -/
def wellFormed (i : Instr) : Bool :=
  match operandsOf i with
  | none => true
  | some o => (mnemonicOf i).rows.any fun r => r.accepts o && fieldsOk r o

end Sys2Proof
end

