-- ==== Sys2Proof/Decode.lean ====
section
/-! DEFINITION. The decoder, total on any bytes (spec/30_encoding.md R110 to R152), then the encoder of well-formed
instructions from the same tables. -/

namespace Sys2Proof

open Machine

/-! ### What reading an instruction depends on and how it can end -/

/-- The part of the operating mode the bytes' meaning depends on (R12, R115, R130). -/
structure DecodeMode where
  /-- 64-bit mode -/
  long : Bool
  /-- real-address or virtual-8086 mode -/
  real : Bool
  /-- outside 64-bit mode, 16-bit addresses are the default -/
  code16 : Bool
deriving DecidableEq, Repr

/-- 64-bit mode. -/
def DecodeMode.mode64 : DecodeMode := ⟨true, false, false⟩

/-- Why bytes are no instruction of this spec. -/
inductive Stop where
  /-- the bytes end inside the instruction -/
  | more
  /-- #UD: a reserved field or prefix combination (R116 to R125, R134, R141, R143), or no row (R151, D23, D28) -/
  | ud
  /-- legacy opcode bytes outside this spec (R151, U1) -/
  | unknown
  /-- PREFETCHWT1's opcode with a reserved ModR/M byte (R151, U2) -/
  | unpredictable
deriving DecidableEq, Repr

/-- An instruction's name and fields, and its length in bytes. -/
structure Decoded where
  name : Mnemonic
  ops : Operands
  len : Nat
deriving DecidableEq, Repr

/-! ### Legacy prefixes and REX -/

/-- The prefix bytes before the opcode (R110, R117, R145). -/
structure Prefixes where
  p66 : Bool := false
  /-- the last of F2 and F3 -/
  rep : Option Pfx := none
  addr : Bool := false
  lock : Bool := false
  seg : Option SegReg := none
  /-- a REX prefix immediately before the opcode -/
  rex : Option Byte := none
  /-- a REX prefix anywhere among the prefixes -/
  anyRex : Bool := false
deriving DecidableEq, Repr

/-- One legacy prefix byte; a REX before it loses its effect on a legacy instruction (R145). PRESUMED: of several segment
overrides the last one counts; the spec is silent (R133, notes/assumptions/19.md). -/
def Prefixes.add (p : Prefixes) (b : Byte) : Option Prefixes :=
  let p := { p with rex := none }
  match b.toNat with
  | 0x66 => some { p with p66 := true }
  | 0xF2 => some { p with rep := some .pF2 }
  | 0xF3 => some { p with rep := some .pF3 }
  | 0x67 => some { p with addr := true }
  | 0xF0 => some { p with lock := true }
  | 0x26 => some { p with seg := some .es }
  | 0x2E => some { p with seg := some .cs }
  | 0x36 => some { p with seg := some .ss }
  | 0x3E => some { p with seg := some .ds }
  | 0x64 => some { p with seg := some .fs }
  | 0x65 => some { p with seg := some .gs }
  | _ => none

/-- Step (1) of R150: consume the prefixes. REX exists in 64-bit mode only. -/
def takePrefixes (long : Bool) : Prefixes → List Byte → Prefixes × List Byte
  | p, [] => (p, [])
  | p, b :: bs =>
    match p.add b with
    | some q => takePrefixes long q bs
    | none => if long && b.toNat / 16 == 4 then takePrefixes long { p with rex := some b, anyRex := true } bs else (p, b :: bs)

/-- The SIMD prefix of a legacy instruction: F2 or F3, else 66, else none (R145). -/
def Prefixes.simd (p : Prefixes) : Pfx := p.rep.getD (if p.p66 then .p66 else .np)

/-- No VEX or EVEX prefix may follow these: LOCK, 66, F2, F3, or any REX, even one that other prefixes follow (R117,
R1510 (d), R1532). -/
def Prefixes.forbidVex (p : Prefixes) : Bool := p.lock || p.p66 || p.rep.isSome || p.anyRex

/-- The address size (R130). -/
def Prefixes.asize (p : Prefixes) (m : DecodeMode) : ASize :=
  if m.long then (if p.addr then .a32 else .a64)
  else if p.addr != m.code16 then .a16 else .a32

/-! ### The fields a REX, VEX or EVEX prefix carries -/

/-- The prefix fields with their inversions undone (R113, R114, R140, R145); what a form lacks is zero. -/
structure Ext where
  space : Space
  map : OpMap
  pp : Pfx
  w : Bool
  ll : BitVec 2
  b : Bool
  z : Bool
  aaa : Fin 8
  /-- R' -/
  r4 : Bool
  /-- R -/
  r3 : Bool
  x : Bool
  /-- B -/
  b3 : Bool
  /-- V' and vvvv -/
  v : Fin 32
deriving DecidableEq, Repr

/-- The SIMD prefix a pp field stands for (R113). -/
def ppOf (n : Nat) : Pfx :=
  match n % 4 with
  | 0 => .np
  | 1 => .p66
  | 2 => .pF3
  | _ => .pF2

/-- The opcode map an mm or mmmmm field stands for (R113, R140). -/
def mapOf (n : Nat) : Option OpMap :=
  match n with
  | 1 => some .m0F
  | 2 => some .m0F38
  | 3 => some .m0F3A
  | _ => none

/-- The EVEX payload (R113, R116). -/
def evexExt (p0 p1 p2 : Byte) : Option Ext :=
  if p0.getLsbD 2 || p0.getLsbD 3 || !p1.getLsbD 2 then none
  else (mapOf (p0.toNat % 4)).map fun map =>
    { space := .evex
      map := map
      pp := ppOf p1.toNat
      w := p1.getLsbD 7
      ll := p2.extractLsb' 5 2
      b := p2.getLsbD 4
      z := p2.getLsbD 7
      aaa := Fin.ofNat 8 p2.toNat
      r4 := !p0.getLsbD 4
      r3 := !p0.getLsbD 7
      x := !p0.getLsbD 6
      b3 := !p0.getLsbD 5
      v := Fin.ofNat 32 ((if p2.getLsbD 3 then 0 else 16) + (15 - p1.toNat / 8 % 16)) }

/-- The fields of a VEX prefix in its three-byte form (R140). -/
def vexExt (p0 p1 : Byte) : Option Ext :=
  (mapOf (p0.toNat % 32)).map fun map =>
    { space := .vex
      map := map
      pp := ppOf p1.toNat
      w := p1.getLsbD 7
      ll := if p1.getLsbD 2 then 1 else 0
      b := false
      z := false
      aaa := 0
      r4 := false
      r3 := !p0.getLsbD 7
      x := !p0.getLsbD 6
      b3 := !p0.getLsbD 5
      v := Fin.ofNat 32 (15 - p1.toNat / 8 % 16) }

/-- The two-byte form of VEX (R140): map 0F, W = 0, X = B = 1 stored. -/
def vex2Ext (p0 : Byte) : Ext :=
  { space := .vex
    map := .m0F
    pp := ppOf p0.toNat
    w := false
    ll := if p0.getLsbD 2 then 1 else 0
    b := false
    z := false
    aaa := 0
    r4 := false
    r3 := !p0.getLsbD 7
    x := false
    b3 := false
    v := Fin.ofNat 32 (15 - p0.toNat / 8 % 16) }

/-- The fields of a legacy instruction, from REX (R145). -/
def legacyExt (p : Prefixes) (map : OpMap) : Ext :=
  let r := p.rex.getD 0
  { space := .legacy
    map := map
    pp := p.simd
    w := r.getLsbD 3
    ll := 0
    b := false
    z := false
    aaa := 0
    r4 := false
    r3 := r.getLsbD 2
    x := r.getLsbD 1
    b3 := r.getLsbD 0
    v := 0 }

/-! ### Register operands -/

/-- A register number from its parts. -/
def number (b4 b3 : Bool) (n : Nat) : Fin 32 := Fin.ofNat 32 ((if b4 then 16 else 0) + (if b3 then 8 else 0) + n)

/-- ModRM.reg (R118, R119, R120): outside 64-bit mode three bits; in it, R and R' must be clear for an opmask register and
R' for a general register. -/
def regField (m : DecodeMode) (e : Ext) (use : RegUse) (n : Nat) : Option (Fin 32) :=
  match use with
  | .none | .ext _ => some 0
  | .vec => some (if m.long then number e.r4 e.r3 n else number false false n)
  | .gpr => if m.long then (if e.r4 then none else some (number false e.r3 n)) else some (number false false n)
  | .kreg => if m.long && (e.r3 || e.r4) then none else some (number false false n)

/-- vvvv and V' (R118 to R121, R143): zero where the row has no such operand, V' then free for a VSIB row; outside 64-bit
mode V' must be clear and a vector register has three bits. -/
def vField (m : DecodeMode) (e : Ext) (use : RegUse) (vsib : Bool) : Option (Fin 32) :=
  if !m.long && e.v.val ≥ 16 then none
  else match use with
    | .vec => some (if m.long then e.v else Fin.ofNat 32 (e.v.val % 8))
    | .kreg => if e.v.val % 16 ≥ 8 then none else some e.v
    | _ => if e.v.val % 16 = 0 && (vsib || e.v.val < 16) then some 0 else none

/-- A register r/m operand (R118, R119, R120, D20): X is bit 4 of an EVEX vector register and ignored otherwise. -/
def rmField (m : DecodeMode) (e : Ext) (use : RegUse) (n : Nat) : Fin 32 :=
  match use with
  | .vec => if m.long then number (e.space == .evex && e.x) e.b3 n else number false false n
  | .gpr => if m.long then number false e.b3 n else number false false n
  | _ => number false false n

/-! ### Memory operands -/

/-- A little-endian number from bytes (R70, R110). -/
def leNat : List Byte → Nat
  | [] => 0
  | b :: bs => b.toNat + 256 * leNat bs

/-- A displacement of `n` bytes, sign-extended. -/
def takeDisp (n : Nat) (bs : List Byte) : Except Stop (Word × List Byte) :=
  if bs.length < n then .error .more
  else .ok ((BitVec.ofNat (8 * n) (leNat (bs.take n))).signExtend 64, bs.drop n)

/-- The segment of a memory operand: SS for a base of rBP or rSP, else DS, unless a prefix overrides it (R133). -/
def segOf (p : Prefixes) (base : Base) : SegReg :=
  p.seg.getD (if base = .gpr 4 || base = .gpr 5 then .ss else .ds)

/-- The displacement mod calls for: disp8 scaled by `n8` (R132), or disp32 (R130). -/
def takeModDisp (md n8 : Nat) (bs : List Byte) : Except Stop (Word × List Byte) :=
  match md with
  | 0 => .ok (0, bs)
  | 1 => (takeDisp 1 bs).map fun d => (d.1 * BitVec.ofNat 64 n8, d.2)
  | _ => takeDisp 4 bs

/-- The base registers of the eight 16-bit forms (R130): base and index. -/
def base16 : Nat → Base × Option (Fin 32)
  | 0 => (.gpr 3, some 6)
  | 1 => (.gpr 3, some 7)
  | 2 => (.gpr 5, some 6)
  | 3 => (.gpr 5, some 7)
  | 4 => (.gpr 6, none)
  | 5 => (.gpr 7, none)
  | 6 => (.gpr 5, none)
  | _ => (.gpr 3, none)

/-- A 16-bit memory operand (R130); VSIB rows do not have it (R134). -/
def decodeMem16 (p : Prefixes) (vsib : Bool) (n8 md n : Nat) (bs : List Byte) : Except Stop (MemOp × List Byte) :=
  if vsib then .error .ud
  else if md = 0 && n = 6 then
    (takeDisp 2 bs).map fun d => (⟨segOf p .none, .a16, .none, none, 0, d.1⟩, d.2)
  else
    let (base, index) := base16 n
    let disp : Except Stop (Word × List Byte) := match md with
      | 0 => .ok (0, bs)
      | 1 => (takeDisp 1 bs).map fun d => (d.1 * BitVec.ofNat 64 n8, d.2)
      | _ => takeDisp 2 bs
    disp.map fun d => (⟨segOf p base, .a16, base, index, 0, d.1⟩, d.2)

/-- A memory operand with a SIB byte (R131, R134). -/
def decodeSib (p : Prefixes) (a : ASize) (e : Ext) (vsib : Bool) (n8 md : Nat) (bs : List Byte) :
    Except Stop (MemOp × List Byte) :=
  match bs with
  | [] => .error .more
  | sib :: bs =>
    let i := sib.toNat / 8 % 8
    let n := sib.toNat % 8
    let index : Option (Fin 32) :=
      if vsib then some (number (e.v.val ≥ 16) e.x i) else if i = 4 && !e.x then none else some (number false e.x i)
    let scale : Fin 4 := if index.isSome then Fin.ofNat 4 (sib.toNat / 64) else 0
    let noBase := n = 5 && md = 0
    let base : Base := if noBase then .none else .gpr (Fin.ofNat 16 ((if e.b3 then 8 else 0) + n))
    (takeModDisp (if noBase then 2 else md) n8 bs).map fun d => (⟨segOf p base, a, base, index, scale, d.1⟩, d.2)

/-- A memory operand of any kind (R130 to R134). Outside 64-bit mode X and B are clear in every form (R119, D20). -/
def decodeMem (m : DecodeMode) (p : Prefixes) (e : Ext) (vsib : Bool) (n8 md n : Nat) (bs : List Byte) :
    Except Stop (MemOp × List Byte) :=
  let a := p.asize m
  let e := if m.long then e else { e with x := false, b3 := false }
  if a = .a16 then decodeMem16 p vsib n8 md n bs
  else if n = 4 then decodeSib p a e vsib n8 md bs
  else if vsib then .error .ud
  else if md = 0 && n = 5 then
    let base : Base := if m.long then .rip else .none
    (takeDisp 4 bs).map fun d => (⟨segOf p base, a, base, none, 0, d.1⟩, d.2)
  else
    let base : Base := .gpr (Fin.ofNat 16 ((if e.b3 then 8 else 0) + n))
    (takeModDisp md n8 bs).map fun d => (⟨segOf p base, a, base, none, 0, d.1⟩, d.2)

/-! ### Selecting the row -/

/-- ModRM.reg is the row's opcode extension, if it has one (R145). -/
def digitOk (r : Row) (g : Nat) : Bool :=
  match r.reg with
  | .ext n => n == g
  | _ => true

/-- The fields that select a row, before the operands are known (R150). -/
def shape (e : Ext) (w : Bool) (op : Byte) (isReg : Bool) : Operands :=
  { space := e.space, pp := e.pp, opcode := op, w := w, ll := e.ll, b := e.b, z := e.z, aaa := e.aaa
    reg := 0, vvvv := 0, rm := if isReg then .reg 0 else .mem ⟨.ds, .a64, .none, none, 0, 0⟩, imm := 0 }

/-- The instructions an opcode byte may be. -/
def candidates (e : Ext) (op : Byte) : List Entry := (table e.space e.map e.pp).filter fun t => t.opcode == op.toNat

/-- The rows of an opcode byte: those of its system, prefix and opcode, with the digit ModRM.reg holds. -/
def entryRows (t : Entry) (e : Ext) (g : Nat) : List Row :=
  t.name.rows.filter fun r => r.space == e.space && r.pp == e.pp && r.opcode == t.opcode && digitOk r g

/-- The W bit that selects a row: outside 64-bit mode it is ignored where W = 1 would only promote a general register to 64
bits (R142). -/
def effectiveW (m : DecodeMode) (e : Ext) (cs : List Entry) (g : Nat) : Bool :=
  e.w && (m.long || !cs.any fun t => (entryRows t e g).any fun r => r.w == .w1 && r.only64 && !r.isOpmask)

/-- The first instruction with a row that matches, and the row (R150, R152). -/
def pick (o : Operands) (e : Ext) (g : Nat) : List Entry → Option (Mnemonic × Row)
  | [] => none
  | t :: ts =>
    match (entryRows t e g).find? fun r => r.accepts o with
    | some r => some (t.name, r)
    | none => pick o e g ts

/-- What bytes that match no row are (R151): #UD under VEX and EVEX; in legacy space #UD where a row with this digit exists
(D28), else outside the spec. -/
def noRow (e : Ext) (op : Byte) (g : Nat) (cs : List Entry) : Stop :=
  if e.space == .legacy then
    if e.map == .m0F && e.pp == .np && op == 0x0D then .unpredictable
    else if cs.any fun t => !(entryRows t e g).isEmpty then .ud
    else .unknown
  else .ud

/-! ### The decoder -/

/-- The operands of a row from the bytes after ModR/M, and the bytes that remain. -/
def decodeOperands (m : DecodeMode) (p : Prefixes) (e : Ext) (o : Operands) (r : Row) (mrm : Byte) (bs : List Byte) :
    Except Stop (Operands × List Byte) :=
  let md := mrm.toNat / 64
  let g := mrm.toNat / 8 % 8
  let n := mrm.toNat % 8
  match regField m e r.reg g, vField m e r.vv r.vsib with
  | some reg, some v =>
    let rm : Except Stop (RM × List Byte) :=
      if md = 3 then .ok (.reg (rmField m e r.rm n), bs)
      else
        let n8 := if e.space == .evex then r.disp8N (r.vl o) o.b else 1
        (decodeMem m p e r.vsib n8 md n bs).map fun x => (.mem x.1, x.2)
    match rm with
    | .error s => .error s
    | .ok (rm, bs) =>
      if r.imm then
        match bs with
        | [] => .error .more
        | b :: bs => .ok ({ o with reg := reg, vvvv := v, rm := rm, imm := b }, bs)
      else .ok ({ o with reg := reg, vvvv := v, rm := rm }, bs)
  | _, _ => .error .ud

/-- From the opcode byte on: an instruction's name, its fields and the bytes after it. -/
def decodeOpcode (m : DecodeMode) (p : Prefixes) (e : Ext) (bs : List Byte) :
    Except Stop (Mnemonic × Operands × List Byte) :=
  match bs with
  | [] => .error .more
  | op :: bs =>
    if e.space == .legacy && e.map == .m0F && op == 0xA2 then
      (if p.lock then .error .ud else .ok (.cpuid, shape e false op true, bs))
    else
      let cs := candidates e op
      if cs.isEmpty then .error (if e.space == .legacy then .unknown else .ud)
      else match bs with
        | [] => .error .more
        | mrm :: bs =>
          if e.space == .legacy && e.map == .m0F && e.pp == .p66 && op == 0xAE && mrm == 0xF8 then
            (if p.lock then .error .ud else .ok (.pcommit, shape e false op true, bs))
          else
            let g := mrm.toNat / 8 % 8
            let o := shape e (effectiveW m e cs g) op (mrm.toNat / 64 == 3)
            match pick o e g cs with
            | none => .error (noRow e op g cs)
            | some (name, r) =>
              if p.lock then .error .ud
              else match decodeOperands m p e o r mrm bs with
                | .error s => .error s
                | .ok (o, bs) => .ok (name, o, bs)

/-- Steps (2) to (4) of R150: which encoding system the bytes after the prefixes belong to. Outside 64-bit mode 62H, C4H and
C5H start a VEX or EVEX prefix only before a byte whose top two bits are 11b (R115, R140); in real-address and
virtual-8086 mode that is #UD (R117). -/
def decodeSystem (m : DecodeMode) (p : Prefixes) (bs : List Byte) : Except Stop (Mnemonic × Operands × List Byte) :=
  match bs with
  | [] => .error .more
  | b :: bs =>
    if b == 0x62 || b == 0xC4 || b == 0xC5 then
      match bs with
      | [] => .error .more
      | p0 :: bs =>
        if !m.long && p0.toNat / 64 != 3 then .error .unknown
        else if m.real || p.forbidVex then .error .ud
        else if b == 0xC5 then decodeOpcode m p (vex2Ext p0) bs
        else if b == 0xC4 then
          match bs with
          | [] => .error .more
          | p1 :: bs =>
            match vexExt p0 p1 with
            | none => .error .ud
            | some e => decodeOpcode m p e bs
        else
          match bs with
          | p1 :: p2 :: bs =>
            match evexExt p0 p1 p2 with
            | none => .error .ud
            | some e => decodeOpcode m p e bs
          | _ => .error .more
    else if b == 0x0F then
      match bs with
      | [] => .error .more
      | b :: bs' =>
        if b == 0x38 then decodeOpcode m p (legacyExt p .m0F38) bs'
        else if b == 0x3A then decodeOpcode m p (legacyExt p .m0F3A) bs'
        else decodeOpcode m p (legacyExt p .m0F) (b :: bs')
    else .error .unknown

/-- THE DECODER: name, fields and length of the instruction at the head of the bytes. -/
def decodeFields (m : DecodeMode) (bs : List Byte) : Except Stop Decoded :=
  let (p, rest) := takePrefixes m.long {} bs
  match decodeSystem m p rest with
  | .error s => .error s
  | .ok (name, o, after) => .ok ⟨name, o, bs.length - after.length⟩

/-- The instruction at the head of the bytes, and its length. -/
noncomputable def decode (m : DecodeMode) (bs : List Byte) : Except Stop (Instr × Nat) :=
  match decodeFields m bs with
  | .error s => .error s
  | .ok d => .ok (d.name.make d.ops, d.len)

/-! ### The words of the opcode table -/

/-- `n` bytes of a number, the most significant first. -/
def bytesBig (w : Nat) : Nat → List Byte
  | 0 => []
  | n + 1 => BitVec.ofNat 8 (w / 256 ^ n) :: bytesBig w n

/-- `n` bytes of a number, the least significant first. -/
def bytesLittle (w : Nat) : Nat → List Byte
  | 0 => []
  | n + 1 => BitVec.ofNat 8 w :: bytesLittle (w / 256) n

/-- The longest instruction in bytes (R112). -/
def maxLen : Nat := 15

/-- The bytes of a table word (notes/assumptions/15.md): the table numbers the bits of an instruction as one number whose
FIRST byte is the most significant, so that reading comes first; a word it makes no instruction of is read with its first
byte least significant. Bytes the table has no bits for are zero. -/
def tableBytes (nbits w : Nat) : List Byte :=
  let n := (nbits + 7) / 8
  let pad := List.replicate (maxLen - n) (0 : Byte)
  let big := bytesBig w n ++ pad
  match decodeFields .mode64 big with
  | .ok _ => big
  | .error _ => bytesLittle w n ++ pad

/-- The instruction the decoder reads, in 64-bit mode, from an instruction whose bits are `w`. -/
noncomputable def decodeTableWord (nbits w : Nat) : Option Instr :=
  match decode .mode64 (tableBytes nbits w) with
  | .ok (i, _) => some i
  | .error _ => none

/-! ### The encoder -/

/-- A byte from its bits' number. -/
def byte (n : Nat) : Byte := BitVec.ofNat 8 n

/-- One bit at a position. -/
def bitAt (b : Bool) (k : Nat) : Nat := if b then 2 ^ k else 0

/-- The pp field of a SIMD prefix (R113). -/
def ppCode : Pfx → Nat
  | .np => 0
  | .p66 => 1
  | .pF3 => 2
  | .pF2 => 3

/-- The mm field of an opcode map (R113). -/
def mapCode : OpMap → Nat
  | .m0F => 1
  | .m0F38 => 2
  | .m0F3A => 3

/-- A segment override, where the segment is not the default one. -/
def segBytes (m : MemOp) : List Byte :=
  if m.seg = segOf {} m.base then []
  else match m.seg with
    | .es => [0x26]
    | .cs => [0x2E]
    | .ss => [0x36]
    | .ds => [0x3E]
    | .fs => [0x64]
    | .gs => [0x65]

/-- The address-size prefix of 64-bit mode. -/
def addrBytes (m : MemOp) : List Byte := if m.asize = .a32 then [0x67] else []

/-- The prefixes a memory operand needs. -/
def memPrefixes (o : Operands) : List Byte :=
  match o.rm with
  | .reg _ => []
  | .mem m => segBytes m ++ addrBytes m

/-- The number in ModRM.reg: the opcode extension or the register. -/
def regCode (r : Row) (o : Operands) : Nat :=
  match r.reg with
  | .ext n => n
  | _ => o.reg.val

/-- The bits X, B and V' that the r/m operand contributes, not inverted. -/
structure RmBits where
  x : Bool
  b3 : Bool
  v4 : Bool
deriving DecidableEq, Repr

/-- Those bits: of a register number, or of the base and index of a memory operand (R118). -/
def rmBits (o : Operands) : RmBits :=
  match o.rm with
  | .reg n => ⟨n.val ≥ 16, n.val % 16 ≥ 8, false⟩
  | .mem m =>
    let i := (m.index.getD 0).val
    ⟨i % 16 ≥ 8, match m.base with
      | .gpr n => n.val ≥ 8
      | _ => false, i ≥ 16⟩

/-- The four bytes of a disp32. -/
def dispBytes (d : Word) : List Byte := bytesLittle (d.toNat % 2 ^ 32) 4

/-- ModR/M, SIB and displacement (R130, R131, R134): a base register always with disp32. -/
def modrmBytes (r : Row) (o : Operands) : List Byte :=
  let g := regCode r o % 8 * 8
  match o.rm with
  | .reg n => [byte (0xC0 + g + n.val % 8)]
  | .mem m =>
    let sib := fun (base : Nat) =>
      byte (m.scale.val * 64 + (match m.index with
        | some x => x.val % 8
        | none => 4) * 8 + base)
    match m.base with
    | .rip => byte (g + 5) :: dispBytes m.disp
    | .none => byte (g + 4) :: sib 5 :: dispBytes m.disp
    | .gpr n =>
      if m.index.isNone && n.val % 8 ≠ 4 then byte (0x80 + g + n.val % 8) :: dispBytes m.disp
      else byte (0x80 + g + 4) :: sib (n.val % 8) :: dispBytes m.disp

/-- The bytes of a legacy instruction before ModR/M (R145); REX only where one of its bits is set. -/
def legacyHead (r : Row) (o : Operands) : List Byte :=
  let s := rmBits o
  let rex := bitAt o.w 3 + bitAt (regCode r o ≥ 8) 2 + bitAt s.x 1 + bitAt s.b3 0
  (match o.pp with
    | .np => []
    | .p66 => [0x66]
    | .pF3 => [0xF3]
    | .pF2 => [0xF2]) ++
  (if rex = 0 then [] else [byte (0x40 + rex)]) ++
  (match r.map with
    | .m0F => [0x0F]
    | .m0F38 => [0x0F, 0x38]
    | .m0F3A => [0x0F, 0x3A]) ++ [o.opcode]

/-- The three-byte VEX prefix and the opcode (R140). -/
def vexHead (r : Row) (o : Operands) : List Byte :=
  let s := rmBits o
  [0xC4,
   byte (bitAt (regCode r o % 16 < 8) 7 + bitAt (!s.x) 6 + bitAt (!s.b3) 5 + mapCode r.map),
   byte (bitAt o.w 7 + (15 - o.vvvv.val % 16) * 8 + o.ll.toNat % 2 * 4 + ppCode o.pp),
   o.opcode]

/-- The EVEX prefix and the opcode (R113). -/
def evexHead (r : Row) (o : Operands) : List Byte :=
  let s := rmBits o
  let v4 := if r.vsib then s.v4 else o.vvvv.val ≥ 16
  [0x62,
   byte (bitAt (regCode r o % 16 < 8) 7 + bitAt (!s.x) 6 + bitAt (!s.b3) 5 + bitAt (regCode r o < 16) 4 + mapCode r.map),
   byte (bitAt o.w 7 + (15 - o.vvvv.val % 16) * 8 + 4 + ppCode o.pp),
   byte (bitAt o.z 7 + o.ll.toNat * 32 + bitAt o.b 4 + bitAt (!v4) 3 + o.aaa.val),
   o.opcode]

/-- The bytes of an instruction on one row. -/
def encodeRow (r : Row) (o : Operands) : List Byte :=
  memPrefixes o ++
  (match o.space with
    | .legacy => legacyHead r o
    | .vex => vexHead r o
    | .evex => evexHead r o) ++
  modrmBytes r o ++ (if r.imm then [o.imm] else [])

/-- The bytes of a well-formed instruction; empty for one that no row matches. -/
def encode (i : Instr) : List Byte :=
  match operandsOf i with
  | none =>
    match mnemonicOf i with
    | .cpuid => [0x0F, 0xA2]
    | _ => [0x66, 0x0F, 0xAE, 0xF8]
  | some o =>
    match (mnemonicOf i).rows.find? fun r => r.accepts o with
    | none => []
    | some r => encodeRow r o

end Sys2Proof
end

