-- ==== Sys2Proof/Machine/Fetch.lean ====
section
/-! DEFINITION. Fetching an instruction's bytes and moving past them (spec/10_state.md R22, spec/20_memory.md R107,
spec/30_encoding.md R112, D2, D14). -/

namespace Sys2Proof.Machine

/-- The mode as the decoder sees it. -/
def State.decodeMode (s : State) : DecodeMode := ⟨s.mode == .long64, s.mode.isReal, s.code16⟩

/-- The instruction address `n` bytes on (D2): modulo 2^64 in 64-bit mode, else 2^32, 2^16 with a 16-bit code segment. -/
def State.advance (s : State) (a : Word) (n : Nat) : Word :=
  let b := a + BitVec.ofNat 64 n
  if s.mode = .long64 then b else if s.code16 then b &&& 0xFFFF else b &&& 0xFFFFFFFF

/-- Up to `n` instruction bytes from an address, each through `Translate` (D14, D15), and the fault that ends them. -/
def State.fetchFrom (s : State) : Nat → Word → List Byte × Option Abort
  | 0, _ => ([], none)
  | n + 1, a =>
    match s.translate .fetch a with
    | .error e => ([], some e)
    | .ok p =>
      let (bs, e) := s.fetchFrom n (s.advance a 1)
      (s.mem.get p :: bs, e)

/-- The linear address of the instruction: the significant bits of the instruction pointer (R22, D2). -/
def State.fetchAddr (s : State) : Word := s.advance s.pc 0

/-- The bytes at the instruction pointer, at most the longest instruction's (R112). -/
def State.fetch (s : State) : List Byte × Option Abort := s.fetchFrom maxLen s.fetchAddr

/-- What becomes of bytes that are no instruction: #UD; the fault of the byte that is missing, or #GP(0) where the
instruction is longer than 15 bytes (R112); a refusal outside the spec (U1, U2). -/
def State.stopped (s : State) (stop : Stop) (fault : Option Abort) : Host.Outcome State Fault Refusal :=
  match stop with
  | .ud => .next (s.raise { exc := .ud })
  | .more => .next (s.raise (fault.getD { exc := .gp }))
  | .unknown => .refused .unknownOpcode
  | .unpredictable => .refused .unpredictablePrefetch

/-- Place bytes in memory from a linear address on, as the environment does. -/
def State.placeBytes (s : State) : Word → List Byte → State
  | _, [] => s
  | a, b :: bs =>
    let t := match s.translate .fetch a with
      | .ok p => { s with mem := s.mem.set p b }
      | .error _ => s
    t.placeBytes (s.advance a 1) bs

end Sys2Proof.Machine
end

