-- ==== Sys2Proof/Machine/Run.lean ====
section
/-! DEFINITION. The meaning of a name with fields: `exec` of the instruction they make (Sys2Proof/Laws/Exec.lean proves
that), without building it. -/

namespace Sys2Proof.Machine

/-- The meaning of the instruction of this name with these fields. -/
def Mnemonic.run (m : Mnemonic) (o : Operands) (s : State) : Host.Outcome State Fault Refusal :=
  match m with
  | .cpuid => execCpuid s
  | .addpd => execAddpd o s
  | .vaddpd => execVaddpd o s
  | .addps => execAddps o s
  | .vaddps => execVaddps o s
  | .addsd => execAddsd o s
  | .vaddsd => execVaddsd o s
  | .addss => execAddss o s
  | .vaddss => execVaddss o s
  | .valignd => execValignd o s
  | .valignq => execValignq o s
  | .vblendmpd => execVblendmpd o s
  | .vblendmps => execVblendmps o s
  | .vpblendmb => execVpblendmb o s
  | .vpblendmw => execVpblendmw o s
  | .vpblendmd => execVpblendmd o s
  | .vpblendmq => execVpblendmq o s
  | .andpd => execAndpd o s
  | .vandpd => execVandpd o s
  | .andps => execAndps o s
  | .vandps => execVandps o s
  | .andnpd => execAndnpd o s
  | .vandnpd => execVandnpd o s
  | .andnps => execAndnps o s
  | .vandnps => execVandnps o s
  | .vbroadcastss => execVbroadcastss o s
  | .vbroadcastsd => execVbroadcastsd o s
  | .vbroadcastf128 => execVbroadcastf128 o s
  | .vbroadcastf32x2 => execVbroadcastf32x2 o s
  | .vbroadcastf32x4 => execVbroadcastf32x4 o s
  | .vbroadcastf64x2 => execVbroadcastf64x2 o s
  | .vbroadcastf32x8 => execVbroadcastf32x8 o s
  | .vbroadcastf64x4 => execVbroadcastf64x4 o s
  | .vpbroadcastb => execVpbroadcastb o s
  | .vpbroadcastw => execVpbroadcastw o s
  | .vpbroadcastd => execVpbroadcastd o s
  | .vpbroadcastq => execVpbroadcastq o s
  | .vbroadcasti32x2 => execVbroadcasti32x2 o s
  | .vbroadcasti128 => execVbroadcasti128 o s
  | .vbroadcasti32x4 => execVbroadcasti32x4 o s
  | .vbroadcasti64x2 => execVbroadcasti64x2 o s
  | .vbroadcasti32x8 => execVbroadcasti32x8 o s
  | .vbroadcasti64x4 => execVbroadcasti64x4 o s
  | .cmppd => execCmppd o s
  | .vcmppd => execVcmppd o s
  | .cmpps => execCmpps o s
  | .vcmpps => execVcmpps o s
  | .cmpsd => execCmpsd o s
  | .vcmpsd => execVcmpsd o s
  | .cmpss => execCmpss o s
  | .vcmpss => execVcmpss o s
  | .comisd => execComisd o s
  | .vcomisd => execVcomisd o s
  | .comiss => execComiss o s
  | .vcomiss => execVcomiss o s
  | .divpd => execDivpd o s
  | .vdivpd => execVdivpd o s
  | .divps => execDivps o s
  | .vdivps => execVdivps o s
  | .divsd => execDivsd o s
  | .vdivsd => execVdivsd o s
  | .divss => execDivss o s
  | .vdivss => execVdivss o s
  | .vcompresspd => execVcompresspd o s
  | .vcompressps => execVcompressps o s
  | .cvtdq2pd => execCvtdq2pd o s
  | .vcvtdq2pd => execVcvtdq2pd o s
  | .cvtdq2ps => execCvtdq2ps o s
  | .vcvtdq2ps => execVcvtdq2ps o s
  | .cvtpd2dq => execCvtpd2dq o s
  | .vcvtpd2dq => execVcvtpd2dq o s
  | .cvtpd2ps => execCvtpd2ps o s
  | .vcvtpd2ps => execVcvtpd2ps o s
  | .vcvtpd2qq => execVcvtpd2qq o s
  | .vcvtpd2udq => execVcvtpd2udq o s
  | .vcvtpd2uqq => execVcvtpd2uqq o s
  | .vcvtph2ps => execVcvtph2ps o s
  | .vcvtps2ph => execVcvtps2ph o s
  | .cvtps2dq => execCvtps2dq o s
  | .vcvtps2dq => execVcvtps2dq o s
  | .vcvtps2udq => execVcvtps2udq o s
  | .vcvtps2qq => execVcvtps2qq o s
  | .vcvtps2uqq => execVcvtps2uqq o s
  | .cvtps2pd => execCvtps2pd o s
  | .vcvtps2pd => execVcvtps2pd o s
  | .vcvtqq2pd => execVcvtqq2pd o s
  | .vcvtqq2ps => execVcvtqq2ps o s
  | .cvtsd2si => execCvtsd2si o s
  | .vcvtsd2si => execVcvtsd2si o s
  | .vcvtsd2usi => execVcvtsd2usi o s
  | .cvtsd2ss => execCvtsd2ss o s
  | .vcvtsd2ss => execVcvtsd2ss o s
  | .cvtsi2sd => execCvtsi2sd o s
  | .vcvtsi2sd => execVcvtsi2sd o s
  | .cvtsi2ss => execCvtsi2ss o s
  | .vcvtsi2ss => execVcvtsi2ss o s
  | .cvtss2sd => execCvtss2sd o s
  | .vcvtss2sd => execVcvtss2sd o s
  | .cvtss2si => execCvtss2si o s
  | .vcvtss2si => execVcvtss2si o s
  | .vcvtss2usi => execVcvtss2usi o s
  | .cvttpd2dq => execCvttpd2dq o s
  | .vcvttpd2dq => execVcvttpd2dq o s
  | .vcvttpd2qq => execVcvttpd2qq o s
  | .vcvttpd2udq => execVcvttpd2udq o s
  | .vcvttpd2uqq => execVcvttpd2uqq o s
  | .cvttps2dq => execCvttps2dq o s
  | .vcvttps2dq => execVcvttps2dq o s
  | .vcvttps2udq => execVcvttps2udq o s
  | .vcvttps2qq => execVcvttps2qq o s
  | .vcvttps2uqq => execVcvttps2uqq o s
  | .cvttsd2si => execCvttsd2si o s
  | .vcvttsd2si => execVcvttsd2si o s
  | .vcvttsd2usi => execVcvttsd2usi o s
  | .cvttss2si => execCvttss2si o s
  | .vcvttss2si => execVcvttss2si o s
  | .vcvttss2usi => execVcvttss2usi o s
  | .vcvtudq2pd => execVcvtudq2pd o s
  | .vcvtudq2ps => execVcvtudq2ps o s
  | .vcvtuqq2pd => execVcvtuqq2pd o s
  | .vcvtuqq2ps => execVcvtuqq2ps o s
  | .vcvtusi2sd => execVcvtusi2sd o s
  | .vcvtusi2ss => execVcvtusi2ss o s
  | .vdbpsadbw => execVdbpsadbw o s
  | .vexpandpd => execVexpandpd o s
  | .vexpandps => execVexpandps o s
  | .vextractf128 => execVextractf128 o s
  | .vextractf32x4 => execVextractf32x4 o s
  | .vextractf32x4z => execVextractf32x4z o s
  | .vextractf64x2 => execVextractf64x2 o s
  | .vextractf32x8 => execVextractf32x8 o s
  | .vextractf64x4z => execVextractf64x4z o s
  | .vextracti128 => execVextracti128 o s
  | .vextracti32x4 => execVextracti32x4 o s
  | .vextracti32x4z => execVextracti32x4z o s
  | .vextracti64x2 => execVextracti64x2 o s
  | .vextracti32x8 => execVextracti32x8 o s
  | .vextracti64x4z => execVextracti64x4z o s
  | .extractps => execExtractps o s
  | .vextractps => execVextractps o s
  | .vfixupimmpd => execVfixupimmpd o s
  | .vfixupimmps => execVfixupimmps o s
  | .vfixupimmsd => execVfixupimmsd o s
  | .vfixupimmss => execVfixupimmss o s
  | .vfmadd132pd => execVfmadd132pd o s
  | .vfmadd213pd => execVfmadd213pd o s
  | .vfmadd231pd => execVfmadd231pd o s
  | .vfmadd132ps => execVfmadd132ps o s
  | .vfmadd213ps => execVfmadd213ps o s
  | .vfmadd231ps => execVfmadd231ps o s
  | .vfmadd132sd => execVfmadd132sd o s
  | .vfmadd213sd => execVfmadd213sd o s
  | .vfmadd231sd => execVfmadd231sd o s
  | .vfmadd132ss => execVfmadd132ss o s
  | .vfmadd213ss => execVfmadd213ss o s
  | .vfmadd231ss => execVfmadd231ss o s
  | .vfmaddsub132pd => execVfmaddsub132pd o s
  | .vfmaddsub213pd => execVfmaddsub213pd o s
  | .vfmaddsub231pd => execVfmaddsub231pd o s
  | .vfmaddsub132ps => execVfmaddsub132ps o s
  | .vfmaddsub213ps => execVfmaddsub213ps o s
  | .vfmaddsub231ps => execVfmaddsub231ps o s
  | .vfmsubadd132pd => execVfmsubadd132pd o s
  | .vfmsubadd213pd => execVfmsubadd213pd o s
  | .vfmsubadd231pd => execVfmsubadd231pd o s
  | .vfmsubadd132ps => execVfmsubadd132ps o s
  | .vfmsubadd213ps => execVfmsubadd213ps o s
  | .vfmsubadd231ps => execVfmsubadd231ps o s
  | .vfmsub132pd => execVfmsub132pd o s
  | .vfmsub213pd => execVfmsub213pd o s
  | .vfmsub231pd => execVfmsub231pd o s
  | .vfmsub132ps => execVfmsub132ps o s
  | .vfmsub213ps => execVfmsub213ps o s
  | .vfmsub231ps => execVfmsub231ps o s
  | .vfmsub132sd => execVfmsub132sd o s
  | .vfmsub213sd => execVfmsub213sd o s
  | .vfmsub231sd => execVfmsub231sd o s
  | .vfmsub132ss => execVfmsub132ss o s
  | .vfmsub213ss => execVfmsub213ss o s
  | .vfmsub231ss => execVfmsub231ss o s
  | .vfnmadd132pd => execVfnmadd132pd o s
  | .vfnmadd213pd => execVfnmadd213pd o s
  | .vfnmadd231pd => execVfnmadd231pd o s
  | .vfnmadd132ps => execVfnmadd132ps o s
  | .vfnmadd213ps => execVfnmadd213ps o s
  | .vfnmadd231ps => execVfnmadd231ps o s
  | .vfnmadd132sd => execVfnmadd132sd o s
  | .vfnmadd213sd => execVfnmadd213sd o s
  | .vfnmadd231sd => execVfnmadd231sd o s
  | .vfnmadd132ss => execVfnmadd132ss o s
  | .vfnmadd213ss => execVfnmadd213ss o s
  | .vfnmadd231ss => execVfnmadd231ss o s
  | .vfnmsub132pd => execVfnmsub132pd o s
  | .vfnmsub213pd => execVfnmsub213pd o s
  | .vfnmsub231pd => execVfnmsub231pd o s
  | .vfnmsub132ps => execVfnmsub132ps o s
  | .vfnmsub213ps => execVfnmsub213ps o s
  | .vfnmsub231ps => execVfnmsub231ps o s
  | .vfnmsub132sd => execVfnmsub132sd o s
  | .vfnmsub213sd => execVfnmsub213sd o s
  | .vfnmsub231sd => execVfnmsub231sd o s
  | .vfnmsub132ss => execVfnmsub132ss o s
  | .vfnmsub213ss => execVfnmsub213ss o s
  | .vfnmsub231ss => execVfnmsub231ss o s
  | .vfpclasspd => execVfpclasspd o s
  | .vfpclassps => execVfpclassps o s
  | .vfpclasssd => execVfpclasssd o s
  | .vfpclassss => execVfpclassss o s
  | .vpgatherdd => execVpgatherdd o s
  | .vpgatherdq => execVpgatherdq o s
  | .vpgatherqd => execVpgatherqd o s
  | .vpgatherqq => execVpgatherqq o s
  | .vgatherdps => execVgatherdps o s
  | .vgatherdpd => execVgatherdpd o s
  | .vgatherqps => execVgatherqps o s
  | .vgatherqpd => execVgatherqpd o s
  | .vgetexppd => execVgetexppd o s
  | .vgetexpps => execVgetexpps o s
  | .vgetexpsd => execVgetexpsd o s
  | .vgetexpss => execVgetexpss o s
  | .vgetmantpd => execVgetmantpd o s
  | .vgetmantps => execVgetmantps o s
  | .vgetmantsd => execVgetmantsd o s
  | .vgetmantss => execVgetmantss o s
  | .vinsertf128 => execVinsertf128 o s
  | .vinsertf32x4 => execVinsertf32x4 o s
  | .vinsertf64x2 => execVinsertf64x2 o s
  | .vinsertf32x8 => execVinsertf32x8 o s
  | .vinsertf64x4 => execVinsertf64x4 o s
  | .vinserti128 => execVinserti128 o s
  | .vinserti32x4 => execVinserti32x4 o s
  | .vinserti64x2 => execVinserti64x2 o s
  | .vinserti32x8 => execVinserti32x8 o s
  | .vinserti64x4 => execVinserti64x4 o s
  | .insertps => execInsertps o s
  | .vinsertps => execVinsertps o s
  | .maxpd => execMaxpd o s
  | .vmaxpd => execVmaxpd o s
  | .maxps => execMaxps o s
  | .vmaxps => execVmaxps o s
  | .maxsd => execMaxsd o s
  | .vmaxsd => execVmaxsd o s
  | .maxss => execMaxss o s
  | .vmaxss => execVmaxss o s
  | .minpd => execMinpd o s
  | .vminpd => execVminpd o s
  | .minps => execMinps o s
  | .vminps => execVminps o s
  | .minsd => execMinsd o s
  | .vminsd => execVminsd o s
  | .minss => execMinss o s
  | .vminss => execVminss o s
  | .movapd => execMovapd o s
  | .vmovapd => execVmovapd o s
  | .movaps => execMovaps o s
  | .vmovaps => execVmovaps o s
  | .movd => execMovd o s
  | .vmovd => execVmovd o s
  | .movq => execMovq o s
  | .vmovq => execVmovq o s
  | .movddup => execMovddup o s
  | .vmovddup => execVmovddup o s
  | .movdqa => execMovdqa o s
  | .vmovdqa => execVmovdqa o s
  | .vmovdqa32 => execVmovdqa32 o s
  | .vmovdqa64 => execVmovdqa64 o s
  | .movdqu => execMovdqu o s
  | .vmovdqu => execVmovdqu o s
  | .vmovdqu8 => execVmovdqu8 o s
  | .vmovdqu16 => execVmovdqu16 o s
  | .vmovdqu32 => execVmovdqu32 o s
  | .vmovdqu64 => execVmovdqu64 o s
  | .movhlps => execMovhlps o s
  | .vmovhlps => execVmovhlps o s
  | .movhpd => execMovhpd o s
  | .vmovhpd => execVmovhpd o s
  | .movhps => execMovhps o s
  | .vmovhps => execVmovhps o s
  | .movlhps => execMovlhps o s
  | .vmovlhps => execVmovlhps o s
  | .movlpd => execMovlpd o s
  | .vmovlpd => execVmovlpd o s
  | .movlps => execMovlps o s
  | .vmovlps => execVmovlps o s
  | .movntdqa => execMovntdqa o s
  | .vmovntdqa => execVmovntdqa o s
  | .movntdq => execMovntdq o s
  | .vmovntdq => execVmovntdq o s
  | .movntpd => execMovntpd o s
  | .vmovntpd => execVmovntpd o s
  | .movntps => execMovntps o s
  | .vmovntps => execVmovntps o s
  | .movsd => execMovsd o s
  | .vmovsd => execVmovsd o s
  | .movshdup => execMovshdup o s
  | .vmovshdup => execVmovshdup o s
  | .movsldup => execMovsldup o s
  | .vmovsldup => execVmovsldup o s
  | .movss => execMovss o s
  | .vmovss => execVmovss o s
  | .movupd => execMovupd o s
  | .vmovupd => execVmovupd o s
  | .movups => execMovups o s
  | .vmovups => execVmovups o s
  | .psadbw => execPsadbw o s
  | .vpsadbw => execVpsadbw o s
  | .mulpd => execMulpd o s
  | .vmulpd => execVmulpd o s
  | .mulps => execMulps o s
  | .vmulps => execVmulps o s
  | .mulsd => execMulsd o s
  | .vmulsd => execVmulsd o s
  | .mulss => execMulss o s
  | .vmulss => execVmulss o s
  | .orpd => execOrpd o s
  | .vorpd => execVorpd o s
  | .orps => execOrps o s
  | .vorps => execVorps o s
  | .pabsb => execPabsb o s
  | .vpabsb => execVpabsb o s
  | .pabsw => execPabsw o s
  | .vpabsw => execVpabsw o s
  | .pabsd => execPabsd o s
  | .vpabsd => execVpabsd o s
  | .vpabsq => execVpabsq o s
  | .packsswb => execPacksswb o s
  | .vpacksswb => execVpacksswb o s
  | .packssdw => execPackssdw o s
  | .vpackssdw => execVpackssdw o s
  | .packusdw => execPackusdw o s
  | .vpackusdw => execVpackusdw o s
  | .packuswb => execPackuswb o s
  | .vpackuswb => execVpackuswb o s
  | .paddb => execPaddb o s
  | .vpaddb => execVpaddb o s
  | .paddw => execPaddw o s
  | .vpaddw => execVpaddw o s
  | .paddd => execPaddd o s
  | .vpaddd => execVpaddd o s
  | .paddq => execPaddq o s
  | .vpaddq => execVpaddq o s
  | .paddsb => execPaddsb o s
  | .vpaddsb => execVpaddsb o s
  | .paddsw => execPaddsw o s
  | .vpaddsw => execVpaddsw o s
  | .paddusb => execPaddusb o s
  | .vpaddusb => execVpaddusb o s
  | .paddusw => execPaddusw o s
  | .vpaddusw => execVpaddusw o s
  | .palignr => execPalignr o s
  | .vpalignr => execVpalignr o s
  | .pand => execPand o s
  | .vpand => execVpand o s
  | .vpandd => execVpandd o s
  | .vpandq => execVpandq o s
  | .pandn => execPandn o s
  | .vpandn => execVpandn o s
  | .vpandnd => execVpandnd o s
  | .vpandnq => execVpandnq o s
  | .pavgb => execPavgb o s
  | .vpavgb => execVpavgb o s
  | .pavgw => execPavgw o s
  | .vpavgw => execVpavgw o s
  | .vpbroadcastmb2q => execVpbroadcastmb2q o s
  | .vpbroadcastmw2d => execVpbroadcastmw2d o s
  | .pcmpeqb => execPcmpeqb o s
  | .vpcmpeqb => execVpcmpeqb o s
  | .pcmpeqw => execPcmpeqw o s
  | .vpcmpeqw => execVpcmpeqw o s
  | .pcmpeqd => execPcmpeqd o s
  | .vpcmpeqd => execVpcmpeqd o s
  | .pcmpeqq => execPcmpeqq o s
  | .vpcmpeqq => execVpcmpeqq o s
  | .pcmpgtb => execPcmpgtb o s
  | .vpcmpgtb => execVpcmpgtb o s
  | .pcmpgtw => execPcmpgtw o s
  | .vpcmpgtw => execVpcmpgtw o s
  | .pcmpgtd => execPcmpgtd o s
  | .vpcmpgtd => execVpcmpgtd o s
  | .pcmpgtq => execPcmpgtq o s
  | .vpcmpgtq => execVpcmpgtq o s
  | .vpcmpb => execVpcmpb o s
  | .vpcmpub => execVpcmpub o s
  | .vpcmpd => execVpcmpd o s
  | .vpcmpud => execVpcmpud o s
  | .vpcmpq => execVpcmpq o s
  | .vpcmpuq => execVpcmpuq o s
  | .vpcmpw => execVpcmpw o s
  | .vpcmpuw => execVpcmpuw o s
  | .vpcompressd => execVpcompressd o s
  | .vpcompressq => execVpcompressq o s
  | .vpconflictd => execVpconflictd o s
  | .vpconflictq => execVpconflictq o s
  | .vpermb => execVpermb o s
  | .vpermd => execVpermd o s
  | .vpermw => execVpermw o s
  | .vpermi2b => execVpermi2b o s
  | .vpermi2w => execVpermi2w o s
  | .vpermi2d => execVpermi2d o s
  | .vpermi2q => execVpermi2q o s
  | .vpermi2ps => execVpermi2ps o s
  | .vpermi2pd => execVpermi2pd o s
  | .vpermt2b => execVpermt2b o s
  | .vpermt2w => execVpermt2w o s
  | .vpermt2d => execVpermt2d o s
  | .vpermt2q => execVpermt2q o s
  | .vpermt2ps => execVpermt2ps o s
  | .vpermt2pd => execVpermt2pd o s
  | .vpermilpd => execVpermilpd o s
  | .vpermilps => execVpermilps o s
  | .vpermpd => execVpermpd o s
  | .vpermps => execVpermps o s
  | .vpermq => execVpermq o s
  | .vpexpandd => execVpexpandd o s
  | .vpexpandq => execVpexpandq o s
  | .pextrb => execPextrb o s
  | .vpextrb => execVpextrb o s
  | .pextrw => execPextrw o s
  | .vpextrw => execVpextrw o s
  | .pextrd => execPextrd o s
  | .vpextrd => execVpextrd o s
  | .pextrq => execPextrq o s
  | .vpextrq => execVpextrq o s
  | .vplzcntd => execVplzcntd o s
  | .vplzcntq => execVplzcntq o s
  | .pmaddubsw => execPmaddubsw o s
  | .vpmaddubsw => execVpmaddubsw o s
  | .pmaddwd => execPmaddwd o s
  | .vpmaddwd => execVpmaddwd o s
  | .pinsrb => execPinsrb o s
  | .vpinsrb => execVpinsrb o s
  | .pinsrw => execPinsrw o s
  | .vpinsrw => execVpinsrw o s
  | .pinsrd => execPinsrd o s
  | .vpinsrd => execVpinsrd o s
  | .pinsrq => execPinsrq o s
  | .vpinsrq => execVpinsrq o s
  | .vpmadd52luq => execVpmadd52luq o s
  | .vpmadd52huq => execVpmadd52huq o s
  | .pmaxsb => execPmaxsb o s
  | .vpmaxsb => execVpmaxsb o s
  | .pmaxsw => execPmaxsw o s
  | .vpmaxsw => execVpmaxsw o s
  | .pmaxsd => execPmaxsd o s
  | .vpmaxsd => execVpmaxsd o s
  | .vpmaxsq => execVpmaxsq o s
  | .pmaxub => execPmaxub o s
  | .vpmaxub => execVpmaxub o s
  | .pmaxuw => execPmaxuw o s
  | .vpmaxuw => execVpmaxuw o s
  | .pmaxud => execPmaxud o s
  | .vpmaxud => execVpmaxud o s
  | .vpmaxuq => execVpmaxuq o s
  | .pminsb => execPminsb o s
  | .vpminsb => execVpminsb o s
  | .pminsw => execPminsw o s
  | .vpminsw => execVpminsw o s
  | .pminsd => execPminsd o s
  | .vpminsd => execVpminsd o s
  | .vpminsq => execVpminsq o s
  | .pminub => execPminub o s
  | .vpminub => execVpminub o s
  | .pminuw => execPminuw o s
  | .vpminuw => execVpminuw o s
  | .pminud => execPminud o s
  | .vpminud => execVpminud o s
  | .vpminuq => execVpminuq o s
  | .vpmovm2b => execVpmovm2b o s
  | .vpmovm2w => execVpmovm2w o s
  | .vpmovm2d => execVpmovm2d o s
  | .vpmovm2q => execVpmovm2q o s
  | .vpmovb2m => execVpmovb2m o s
  | .vpmovw2m => execVpmovw2m o s
  | .vpmovd2m => execVpmovd2m o s
  | .vpmovq2m => execVpmovq2m o s
  | .vpmovqb => execVpmovqb o s
  | .vpmovsqb => execVpmovsqb o s
  | .vpmovusqb => execVpmovusqb o s
  | .vpmovqw => execVpmovqw o s
  | .vpmovsqw => execVpmovsqw o s
  | .vpmovusqw => execVpmovusqw o s
  | .vpmovqd => execVpmovqd o s
  | .vpmovsqd => execVpmovsqd o s
  | .vpmovusqd => execVpmovusqd o s
  | .vpmovdb => execVpmovdb o s
  | .vpmovsdb => execVpmovsdb o s
  | .vpmovusdb => execVpmovusdb o s
  | .vpmovdw => execVpmovdw o s
  | .vpmovsdw => execVpmovsdw o s
  | .vpmovusdw => execVpmovusdw o s
  | .vpmovwb => execVpmovwb o s
  | .vpmovswb => execVpmovswb o s
  | .vpmovuswb => execVpmovuswb o s
  | .pmovsxbw => execPmovsxbw o s
  | .vpmovsxbw => execVpmovsxbw o s
  | .pmovsxbd => execPmovsxbd o s
  | .vpmovsxbd => execVpmovsxbd o s
  | .pmovsxbq => execPmovsxbq o s
  | .vpmovsxbq => execVpmovsxbq o s
  | .pmovsxwd => execPmovsxwd o s
  | .vpmovsxwd => execVpmovsxwd o s
  | .pmovsxwq => execPmovsxwq o s
  | .vpmovsxwq => execVpmovsxwq o s
  | .pmovsxdq => execPmovsxdq o s
  | .vpmovsxdq => execVpmovsxdq o s
  | .pmovzxbw => execPmovzxbw o s
  | .vpmovzxbw => execVpmovzxbw o s
  | .pmovzxbd => execPmovzxbd o s
  | .vpmovzxbd => execVpmovzxbd o s
  | .pmovzxbq => execPmovzxbq o s
  | .vpmovzxbq => execVpmovzxbq o s
  | .pmovzxwd => execPmovzxwd o s
  | .vpmovzxwd => execVpmovzxwd o s
  | .pmovzxwq => execPmovzxwq o s
  | .vpmovzxwq => execVpmovzxwq o s
  | .pmovzxdq => execPmovzxdq o s
  | .vpmovzxdq => execVpmovzxdq o s
  | .pmuldq => execPmuldq o s
  | .vpmuldq => execVpmuldq o s
  | .pmulhrsw => execPmulhrsw o s
  | .vpmulhrsw => execVpmulhrsw o s
  | .pmulhuw => execPmulhuw o s
  | .vpmulhuw => execVpmulhuw o s
  | .pmulhw => execPmulhw o s
  | .vpmulhw => execVpmulhw o s
  | .pmulld => execPmulld o s
  | .vpmulld => execVpmulld o s
  | .vpmullq => execVpmullq o s
  | .pmullw => execPmullw o s
  | .vpmullw => execVpmullw o s
  | .vpmultishiftqb => execVpmultishiftqb o s
  | .pmuludq => execPmuludq o s
  | .vpmuludq => execVpmuludq o s
  | .por => execPor o s
  | .vpor => execVpor o s
  | .vpord => execVpord o s
  | .vporq => execVporq o s
  | .vprold => execVprold o s
  | .vprolvd => execVprolvd o s
  | .vprolq => execVprolq o s
  | .vprolvq => execVprolvq o s
  | .vprord => execVprord o s
  | .vprorvd => execVprorvd o s
  | .vprorq => execVprorq o s
  | .vprorvq => execVprorvq o s
  | .vpscatterdd => execVpscatterdd o s
  | .vpscatterdq => execVpscatterdq o s
  | .vpscatterqd => execVpscatterqd o s
  | .vpscatterqq => execVpscatterqq o s
  | .pshufb => execPshufb o s
  | .vpshufb => execVpshufb o s
  | .pshufhw => execPshufhw o s
  | .vpshufhw => execVpshufhw o s
  | .pshuflw => execPshuflw o s
  | .vpshuflw => execVpshuflw o s
  | .pshufd => execPshufd o s
  | .vpshufd => execVpshufd o s
  | .pslldq => execPslldq o s
  | .vpslldq => execVpslldq o s
  | .psllw => execPsllw o s
  | .vpsllw => execVpsllw o s
  | .pslld => execPslld o s
  | .vpslld => execVpslld o s
  | .psllq => execPsllq o s
  | .vpsllq => execVpsllq o s
  | .psraw => execPsraw o s
  | .vpsraw => execVpsraw o s
  | .psrad => execPsrad o s
  | .vpsrad => execVpsrad o s
  | .vpsraq => execVpsraq o s
  | .psrldq => execPsrldq o s
  | .vpsrldq => execVpsrldq o s
  | .psrlw => execPsrlw o s
  | .vpsrlw => execVpsrlw o s
  | .psrld => execPsrld o s
  | .vpsrld => execVpsrld o s
  | .psrlq => execPsrlq o s
  | .vpsrlq => execVpsrlq o s
  | .vpsllvw => execVpsllvw o s
  | .vpsllvd => execVpsllvd o s
  | .vpsllvq => execVpsllvq o s
  | .vpsrlvw => execVpsrlvw o s
  | .vpsrlvd => execVpsrlvd o s
  | .vpsrlvq => execVpsrlvq o s
  | .psubb => execPsubb o s
  | .vpsubb => execVpsubb o s
  | .psubw => execPsubw o s
  | .vpsubw => execVpsubw o s
  | .psubd => execPsubd o s
  | .vpsubd => execVpsubd o s
  | .psubq => execPsubq o s
  | .vpsubq => execVpsubq o s
  | .psubsb => execPsubsb o s
  | .vpsubsb => execVpsubsb o s
  | .psubsw => execPsubsw o s
  | .vpsubsw => execVpsubsw o s
  | .psubusb => execPsubusb o s
  | .vpsubusb => execVpsubusb o s
  | .psubusw => execPsubusw o s
  | .vpsubusw => execVpsubusw o s
  | .vptestnmb => execVptestnmb o s
  | .vptestnmw => execVptestnmw o s
  | .vptestnmd => execVptestnmd o s
  | .vptestnmq => execVptestnmq o s
  | .punpckhbw => execPunpckhbw o s
  | .vpunpckhbw => execVpunpckhbw o s
  | .punpckhwd => execPunpckhwd o s
  | .vpunpckhwd => execVpunpckhwd o s
  | .punpckhdq => execPunpckhdq o s
  | .vpunpckhdq => execVpunpckhdq o s
  | .punpckhqdq => execPunpckhqdq o s
  | .vpunpckhqdq => execVpunpckhqdq o s
  | .punpcklbw => execPunpcklbw o s
  | .vpunpcklbw => execVpunpcklbw o s
  | .punpcklwd => execPunpcklwd o s
  | .vpunpcklwd => execVpunpcklwd o s
  | .punpckldq => execPunpckldq o s
  | .vpunpckldq => execVpunpckldq o s
  | .punpcklqdq => execPunpcklqdq o s
  | .vpunpcklqdq => execVpunpcklqdq o s
  | .vshuff32x4 => execVshuff32x4 o s
  | .vshuff64x2 => execVshuff64x2 o s
  | .vshufi32x4 => execVshufi32x4 o s
  | .vshufi64x2 => execVshufi64x2 o s
  | .shufpd => execShufpd o s
  | .vshufpd => execVshufpd o s
  | .shufps => execShufps o s
  | .vshufps => execVshufps o s
  | .sqrtpd => execSqrtpd o s
  | .vsqrtpd => execVsqrtpd o s
  | .sqrtps => execSqrtps o s
  | .vsqrtps => execVsqrtps o s
  | .sqrtsd => execSqrtsd o s
  | .vsqrtsd => execVsqrtsd o s
  | .sqrtss => execSqrtss o s
  | .vsqrtss => execVsqrtss o s
  | .vpternlogd => execVpternlogd o s
  | .vpternlogq => execVpternlogq o s
  | .vptestmb => execVptestmb o s
  | .vptestmw => execVptestmw o s
  | .vptestmd => execVptestmd o s
  | .vptestmq => execVptestmq o s
  | .vpsravw => execVpsravw o s
  | .vpsravd => execVpsravd o s
  | .vpsravq => execVpsravq o s
  | .pxor => execPxor o s
  | .vpxor => execVpxor o s
  | .vpxord => execVpxord o s
  | .vpxorq => execVpxorq o s
  | .vrangepd => execVrangepd o s
  | .vrangeps => execVrangeps o s
  | .vrangesd => execVrangesd o s
  | .vrangess => execVrangess o s
  | .vrcp14pd => execVrcp14pd o s
  | .vrcp14sd => execVrcp14sd o s
  | .vrcp14ps => execVrcp14ps o s
  | .vrcp14ss => execVrcp14ss o s
  | .vreducepd => execVreducepd o s
  | .vreducesd => execVreducesd o s
  | .vreduceps => execVreduceps o s
  | .vreducess => execVreducess o s
  | .vrndscalepd => execVrndscalepd o s
  | .vrndscalesd => execVrndscalesd o s
  | .vrndscaleps => execVrndscaleps o s
  | .vrndscaless => execVrndscaless o s
  | .vrsqrt14pd => execVrsqrt14pd o s
  | .vrsqrt14sd => execVrsqrt14sd o s
  | .vrsqrt14ps => execVrsqrt14ps o s
  | .vrsqrt14ss => execVrsqrt14ss o s
  | .vscalefpd => execVscalefpd o s
  | .vscalefsd => execVscalefsd o s
  | .vscalefps => execVscalefps o s
  | .vscalefss => execVscalefss o s
  | .vscatterdps => execVscatterdps o s
  | .vscatterdpd => execVscatterdpd o s
  | .vscatterqps => execVscatterqps o s
  | .vscatterqpd => execVscatterqpd o s
  | .subpd => execSubpd o s
  | .vsubpd => execVsubpd o s
  | .subps => execSubps o s
  | .vsubps => execVsubps o s
  | .subsd => execSubsd o s
  | .vsubsd => execVsubsd o s
  | .subss => execSubss o s
  | .vsubss => execVsubss o s
  | .ucomisd => execUcomisd o s
  | .vucomisd => execVucomisd o s
  | .ucomiss => execUcomiss o s
  | .vucomiss => execVucomiss o s
  | .unpckhpd => execUnpckhpd o s
  | .vunpckhpd => execVunpckhpd o s
  | .unpckhps => execUnpckhps o s
  | .vunpckhps => execVunpckhps o s
  | .unpcklpd => execUnpcklpd o s
  | .vunpcklpd => execVunpcklpd o s
  | .unpcklps => execUnpcklps o s
  | .vunpcklps => execVunpcklps o s
  | .xorpd => execXorpd o s
  | .vxorpd => execVxorpd o s
  | .xorps => execXorps o s
  | .vxorps => execVxorps o s
  | .kaddw => execKaddw o s
  | .kaddb => execKaddb o s
  | .kaddq => execKaddq o s
  | .kaddd => execKaddd o s
  | .kandw => execKandw o s
  | .kandb => execKandb o s
  | .kandq => execKandq o s
  | .kandd => execKandd o s
  | .kandnw => execKandnw o s
  | .kandnb => execKandnb o s
  | .kandnq => execKandnq o s
  | .kandnd => execKandnd o s
  | .korw => execKorw o s
  | .korb => execKorb o s
  | .korq => execKorq o s
  | .kord => execKord o s
  | .kxnorw => execKxnorw o s
  | .kxnorb => execKxnorb o s
  | .kxnorq => execKxnorq o s
  | .kxnord => execKxnord o s
  | .kxorw => execKxorw o s
  | .kxorb => execKxorb o s
  | .kxorq => execKxorq o s
  | .kxord => execKxord o s
  | .knotw => execKnotw o s
  | .knotb => execKnotb o s
  | .knotq => execKnotq o s
  | .knotd => execKnotd o s
  | .kmovw => execKmovw o s
  | .kmovb => execKmovb o s
  | .kmovq => execKmovq o s
  | .kmovd => execKmovd o s
  | .kunpckbw => execKunpckbw o s
  | .kunpckwd => execKunpckwd o s
  | .kunpckdq => execKunpckdq o s
  | .kortestw => execKortestw o s
  | .kortestb => execKortestb o s
  | .kortestq => execKortestq o s
  | .kortestd => execKortestd o s
  | .ktestw => execKtestw o s
  | .ktestb => execKtestb o s
  | .ktestq => execKtestq o s
  | .ktestd => execKtestd o s
  | .kshiftlw => execKshiftlw o s
  | .kshiftlb => execKshiftlb o s
  | .kshiftlq => execKshiftlq o s
  | .kshiftld => execKshiftld o s
  | .kshiftrw => execKshiftrw o s
  | .kshiftrb => execKshiftrb o s
  | .kshiftrq => execKshiftrq o s
  | .kshiftrd => execKshiftrd o s
  | .vexp2pd => execVexp2pd o s
  | .vexp2ps => execVexp2ps o s
  | .vrcp28pd => execVrcp28pd o s
  | .vrcp28sd => execVrcp28sd o s
  | .vrcp28ps => execVrcp28ps o s
  | .vrcp28ss => execVrcp28ss o s
  | .vrsqrt28pd => execVrsqrt28pd o s
  | .vrsqrt28sd => execVrsqrt28sd o s
  | .vrsqrt28ps => execVrsqrt28ps o s
  | .vrsqrt28ss => execVrsqrt28ss o s
  | .vgatherpf0dps => execVgatherpf0dps o s
  | .vgatherpf0qps => execVgatherpf0qps o s
  | .vgatherpf0dpd => execVgatherpf0dpd o s
  | .vgatherpf0qpd => execVgatherpf0qpd o s
  | .vgatherpf1dps => execVgatherpf1dps o s
  | .vgatherpf1qps => execVgatherpf1qps o s
  | .vgatherpf1dpd => execVgatherpf1dpd o s
  | .vgatherpf1qpd => execVgatherpf1qpd o s
  | .vscatterpf0dps => execVscatterpf0dps o s
  | .vscatterpf0qps => execVscatterpf0qps o s
  | .vscatterpf0dpd => execVscatterpf0dpd o s
  | .vscatterpf0qpd => execVscatterpf0qpd o s
  | .vscatterpf1dps => execVscatterpf1dps o s
  | .vscatterpf1qps => execVscatterpf1qps o s
  | .vscatterpf1dpd => execVscatterpf1dpd o s
  | .vscatterpf1qpd => execVscatterpf1qpd o s
  | .sha1rnds4 => execSha1rnds4 o s
  | .sha1nexte => execSha1nexte o s
  | .sha1msg1 => execSha1msg1 o s
  | .sha1msg2 => execSha1msg2 o s
  | .sha256rnds2 => execSha256rnds2 o s
  | .sha256msg1 => execSha256msg1 o s
  | .sha256msg2 => execSha256msg2 o s
  | .prefetchwt1 => execPrefetchwt1 o s
  | .clwb => execClwb o s
  | .pcommit => execPcommit s

end Sys2Proof.Machine
end

