-- ==== Sys2Proof/Machine/Step.lean ====
section
/-! DEFINITION. One step of the machine: fetch, decode, execute (spec/30_encoding.md R150), and the terminal trapped state
of D30. -/

namespace Sys2Proof.Machine

/-- One step. In the trapped state nothing more happens (D30), and a mode the part lacks runs nothing (R235,
notes/assumptions/38.md). Otherwise the bytes at the instruction pointer are decoded, and the instruction's meaning runs with
`npc` at the next instruction: `exec` of the decoded instruction (Sys2Proof/Laws/Exec.lean). -/
def step (s : State) : Host.Outcome State Fault Refusal :=
  match s.event with
  | some e => .fault (.trapped e)
  | none =>
    if !s.modeExists then .refused .noSuchMode else
    let f := s.fetch
    match decodeFields s.decodeMode f.1 with
    | .error stop => s.stopped stop f.2
    | .ok d => d.name.run d.ops { s with npc := s.advance s.pc d.len }

/-- The state with the instruction of a table word placed at the instruction pointer (notes/assumptions/15.md), ready to be
fetched by the next step. -/
def State.withFetchWord (s : State) (nbits w : Nat) : State :=
  ({ s with event := none }).placeBytes s.fetchAddr (tableBytes nbits w)

end Sys2Proof.Machine
end

