-- ==== Sys2Proof/Machine/Environment.lean ====
section
/-! DEFINITION. What system software outside the opcode table does to the state this spec describes: fences, flushes and
serialization (spec/20_memory.md R99, R101), entering a mode (spec/40_cpuid.md R235), writing CR0, CR4, XCR0 and IA32_XSS
(spec/10_state.md R30, spec/40_cpuid.md R225, R244), saving and restoring state components (R37 to R41), and the VM-entry
check (R36). No instruction of the table calls these; `step` never does. -/

namespace Sys2Proof.Machine

/-! ### Fences, flushes and serializing instructions -/

/-- SFENCE, MFENCE, XCHG and LOCK-prefixed instructions as far as the durability of stores goes (R99, R103, R104): what came
before is globally visible. -/
def State.storeFence (s : State) : State := s.serialize

/-- CLFLUSH on the cache line of a physical address (R101, R106), as far as the durability of stores goes. DESIGN CHOICE: it
asks no flag, for R243 names CLFLUSHOPT's only (notes/assumptions/10.md). -/
def State.clflush (s : State) (a : Nat) : State := s.flushLine a

/-- CLFLUSHOPT, the same (R101, R106), and #UD where CPUID.(07H,0):EBX[23] is 0 (R243). -/
def State.clflushopt (s : State) (a : Nat) : Except Abort State :=
  if s.hasFeature .clflushopt then .ok (s.flushLine a) else .error { exc := .ud }

/-- OUT as far as this spec describes it: it is serializing (R99). The device is outside the spec. -/
def State.portOut (s : State) : State := s.serialize

/-- MOV to CR0, a serializing instruction (R99). The spec names EM, TS and AM of CR0 (R33) and no value that it refuses. -/
def State.setCr0 (s : State) (v : Word) : State := { s.serialize with cr0 := v }

/-- Firmware enables PCOMMIT by WRMSR, a serializing instruction (R99): IA32_FEATURE_CONTROL bits 19 and 0 (R35, R1606). -/
def State.enablePcommit (s : State) : State := { s.serialize with featureControl := s.featureControl ||| 0x80001 }

/-- WRMSR to IA32_MISC_ENABLES, a serializing instruction (R99, R214). -/
def State.setMiscEnables (s : State) (v : Word) : State := { s.serialize with miscEnables := v }

/-- WRMSR to IA32_XSS, a serializing instruction (R99): "IA32_XSS[n] can be set to 1 only if ECX[n] is 1" (R225). DESIGN
CHOICE: another value is #GP(0); the spec does not say what it raises (notes/assumptions/35.md). -/
def State.setXss (s : State) (v : Word) : Except Abort State :=
  if s.xssOk v then .ok { s.serialize with xss := v } else .error { exc := .gp }

/-! ### XCR0 and VM entry -/

/-- Enter an operating mode, where the part has it: 64-bit mode by CPUID.80000001H:EDX[29] (R235). How software enters a
mode is outside the spec. -/
def State.enterMode (s : State) (m : Mode) : Option State :=
  if ({ s with mode := m }).modeExists then some { s with mode := m } else none

/-- CR4.OSXSAVE may be 1: CPUID.01H:ECX.XSAVE[26] is (R244). -/
def State.cr4Ok (s : State) (v : Word) : Bool := !v.getLsbD 18 || (cpuidEntry s.cpu 1 0).ecx.getLsbD 26

/-- MOV to CR4, a serializing instruction (R99). DESIGN CHOICE: setting OSXSAVE on a part without XSAVE, which R244 forbids
without saying what happens, is #GP(0) (notes/assumptions/35.md). -/
def State.setCr4 (s : State) (v : Word) : Except Abort State :=
  if s.cr4Ok v then .ok { s.serialize with cr4 := v } else .error { exc := .gp }

/-- A value XCR0 may hold: bit 0 set, no bit the part does not report, bits 7:5 only all together and with bits 2:1 (R30,
R31, R244). -/
def State.xcr0Ok (s : State) (v : Word) : Bool :=
  v.getLsbD 0 && (v &&& ~~~s.xcr0Bits) == 0 && ((v &&& 0xE0) == 0 || (v &&& 0xE6) == 0xE6)

/-- XSETBV with ECX = 0 (R30, R32): #UD with CR4.OSXSAVE = 0, #GP for a value with bit 0 clear. DESIGN CHOICE: #GP too at a
CPL other than 0 ("XSETBV is privileged", N21) and for every other value that R30 and R244 say may not be set; the spec does
not list what XSETBV rejects (N21, notes/assumptions/35.md). -/
def State.setXcr0 (s : State) (v : Word) : Except Abort State :=
  if !s.cr4.getLsbD 18 then .error { exc := .ud }
  else if s.cpl != 0 || !s.xcr0Ok v then .error { exc := .gp }
  else .ok { s with xcr0 := v }

/-- IA32_VMX_PROCBASED_CTL2 bit 53: always the same as CPUID.07H:EBX.PCOMMIT (R36). -/
def State.vmxProcbasedCtl2 (s : State) : Word := if s.pcommitEnabled then 1#64 <<< 53 else 0

/-- VM entry passes the check of the "PCOMMIT exiting" control (R36). -/
def State.vmEntryOk (s : State) : Bool := !s.vmxControls2.getLsbD 21 || s.vmxProcbasedCtl2.getLsbD 53

/-! ### The XSAVE area (R38): physical addresses from `a` on -/

/-- Store the low `n` bytes of a value. -/
def State.storeImage (s : State) (a n : Nat) (v : ZWord) : State :=
  s.storeBytes false v ((List.range n).map fun i => (i, a + i))

/-- The value of `n` bytes. -/
def State.loadImage (s : State) (a n : Nat) : ZWord := fromBytes ((List.range n).map fun i => (i, s.mem.get (a + i)))

/-- XSTATE_BV: bytes 7:0 of the header at offset 512 (R38). -/
def State.xstateBv (s : State) (a : Nat) : Word := (s.loadImage (a + 512) 8).setWidth 64

/-- XSAVE_OFFSET of a component (R7, R38): CPUID.(0DH,i):EBX. -/
def State.xsaveOffset (s : State) (i : Nat) : Nat := (s.cpuidStored 0xD (BitVec.ofNat 32 i)).ebx.toNat

/-- XSAVE_SIZE of a component (R7, R38): CPUID.(0DH,i):EAX. -/
def State.xsaveSize (s : State) (i : Nat) : Nat := (s.cpuidStored 0xD (BitVec.ofNat 32 i)).eax.toNat

/-- Where a component of vector registers lies (R37, R38): its first register, from which bit, how many bytes of each of its
sixteen registers, its offset and its size in the area. -/
structure Component where
  first : Nat
  lo : Nat
  bytes : Nat
  offset : Nat
  size : Nat
deriving DecidableEq, Repr

/-- The components in vector registers: XMM (in the legacy area, notes/assumptions/27.md), YMM_Hi128, ZMM_Hi256 and Hi16_ZMM
(R37, R38), the last three where leaf 0DH says. -/
def State.component (s : State) (i : Nat) : Option Component :=
  match i with
  | 1 => some ⟨0, 0, 16, 160, 256⟩
  | 2 => some ⟨0, 128, 16, s.xsaveOffset 2, s.xsaveSize 2⟩
  | 6 => some ⟨0, 256, 32, s.xsaveOffset 6, s.xsaveSize 6⟩
  | 7 => some ⟨16, 0, 64, s.xsaveOffset 7, s.xsaveSize 7⟩
  | _ => none

/-- The registers of a component by their position in it: those whose image lies within its size. -/
def Component.images (c : Component) : List Nat := (List.range 16).filter fun j => c.bytes * (j + 1) ≤ c.size

/-- The part of a register that belongs to a component. -/
def Component.part (c : Component) (v : ZWord) : ZWord := lowBits (8 * c.bytes) (v >>> c.lo)

/-- A register with that part replaced. -/
def Component.replace (c : Component) (v x : ZWord) : ZWord :=
  (v &&& ~~~(lowBits (8 * c.bytes) (BitVec.allOnes 512) <<< c.lo)) ||| (lowBits (8 * c.bytes) x <<< c.lo)

/-- Save a component of vector registers (R38, R39). -/
def State.saveComponent (s : State) (a : Nat) (c : Component) : State :=
  c.images.foldl (fun t j =>
    t.storeImage (a + c.offset + c.bytes * j) c.bytes (c.part (s.getZ (Fin.ofNat 32 (c.first + j))))) s

/-- Load a component of vector registers (R39, R40). -/
def State.loadComponent (s : State) (a : Nat) (c : Component) : State :=
  c.images.foldl (fun t j =>
    let r := Fin.ofNat 32 (c.first + j)
    t.setZ r (c.replace (t.getZ r) (s.loadImage (a + c.offset + c.bytes * j) c.bytes))) s

/-- The processor-supplied initial value of a component of vector registers (R41): zero in sixteen registers in 64-bit mode,
in registers 0 to 7 otherwise; ZMM16 to ZMM31 outside 64-bit mode are a free value (U15, notes/assumptions/36.md). -/
def State.initComponent (s : State) (c : Component) : State :=
  if c.first = 0 then
    (List.range (if s.mode = .long64 then 16 else 8)).foldl (fun t j =>
      let r := Fin.ofNat 32 j
      t.setZ r (c.replace (t.getZ r) 0)) s
  else
    (List.range 16).foldl (fun t j =>
      let r := Fin.ofNat 32 (c.first + j)
      t.setZ r (if s.mode = .long64 then 0 else Config.xrstorHi16 r.val (t.getZ r))) s

/-- The rows of R40 that "are not specified", (1,0,1,0) and (1,1,1,0): bit 2 of the mask and of XCR0 set, bit 1 of XCR0
clear. What XSAVE stores there is open (notes/assumptions/36.md). -/
def State.ymmAlone (s : State) (m : Word) : Bool := m.getLsbD 2 && s.xcr0.getLsbD 2 && !s.xcr0.getLsbD 1

/-- XSAVE stores component `i` under the instruction mask `m` (R39, R40). In the rows of `ymmAlone` opaque constants say
whether YMM_Hi128, and in the one with bit 1 of the mask set whether XMM, is stored. -/
def State.xsaves (s : State) (m : Word) (i : Nat) : Bool :=
  if s.ymmAlone m && i == 2 then Config.xsaveYmmAlone (m.getLsbD 1)
  else if s.ymmAlone m && i == 1 then m.getLsbD 1 && Config.xsaveXmmAlone
  else m.getLsbD i && s.xcr0.getLsbD i

/-- XSAVE stores MXCSR under the instruction mask `m` (R40); in the rows of `ymmAlone` as an opaque constant says. -/
def State.xsavesMxcsr (s : State) (m : Word) : Bool :=
  if s.ymmAlone m then Config.xsaveMxcsrAlone (m.getLsbD 1)
  else (m.getLsbD 1 && s.xcr0.getLsbD 1) || (m.getLsbD 2 && s.xcr0.getLsbD 2)

/-- The opmask registers XSAVE and XRSTOR move (R38): eight bytes each, those that lie within the component's size. -/
def State.opmaskImages (s : State) : List Nat := (List.range 8).filter fun n => 8 * (n + 1) ≤ s.xsaveSize 5

/-- XSAVE to the area at `a` with instruction mask `m` (R39, R40): the components the mask and XCR0 enable, MXCSR, and their
bits of XSTATE_BV. -/
def State.xsave (s : State) (a : Nat) (m : Word) : State :=
  let s1 := if s.xsavesMxcsr m then s.storeImage (a + 24) 4 (s.mxcsr.setWidth 512) else s
  let s2 := [1, 2, 6, 7].foldl (fun t i =>
    match s.component i with
    | some c => if s.xsaves m i then t.saveComponent a c else t
    | none => t) s1
  let s3 := if s.xsaves m 5 then
      s.opmaskImages.foldl (fun t n =>
        t.storeImage (a + s.xsaveOffset 5 + 8 * n) 8 ((s.getK (Fin.ofNat 32 n)).setWidth 512)) s2
    else s2
  let bits := [1, 2, 5, 6, 7].foldl (fun (v : Word) i => if s.xsaves m i then v ||| (1#64 <<< i) else v) (s.xstateBv a)
  s3.storeImage (a + 512) 8 (bits.setWidth 512)

/-- XRSTOR restores component `i` under the instruction mask `m`: by the mask alone for XMM and YMM_Hi128 (R40), by the mask
and XCR0 for the others. DESIGN CHOICE: one of components 5 to 7 that the mask asks for and XCR0 does not enable is unchanged;
R39 defines its RFBM with XCR0 and words XRSTOR by the mask alone (notes/assumptions/36.md). -/
def State.xrstors (s : State) (m : Word) (i : Nat) : Bool := m.getLsbD i && (i ≤ 2 || s.xcr0.getLsbD i)

/-- XRSTOR (R39 to R41): a component asked for is loaded where XSTATE_BV has its bit, else initialised; MXCSR is loaded and
checked whenever bit 1 or 2 of the mask is set. DESIGN CHOICE: a reserved bit that is set there is #GP(0) with nothing
restored; R28 and R40 say only that the bits are checked (N14, notes/assumptions/36.md). DESIGN CHOICE: the header's bytes 23:8,
which "must be zero" (R38), are not checked; the spec does not say what happens where they are not (the same entry). The opmask registers' initial value
outside 64-bit mode is a free value (U15, the same entry). -/
def State.xrstor (s : State) (a : Nat) (m : Word) : Except Abort State :=
  let v := s.xstateBv a
  let x : BitVec 32 := (s.loadImage (a + 24) 4).setWidth 32
  if (m.getLsbD 1 || m.getLsbD 2) && x.extractLsb' 16 16 != 0 then .error { exc := .gp }
  else
    let s1 := if m.getLsbD 1 || m.getLsbD 2 then { s with mxcsr := x } else s
    let s2 := [1, 2, 6, 7].foldl (fun t i =>
      match s.component i with
      | some c => if s.xrstors m i then (if v.getLsbD i then t.loadComponent a c else t.initComponent c) else t
      | none => t) s1
    .ok (if !s.xrstors m 5 then s2
      else if v.getLsbD 5 then
        s.opmaskImages.foldl (fun t n =>
          t.setK (Fin.ofNat 32 n) ((s.loadImage (a + s.xsaveOffset 5 + 8 * n) 8).setWidth 64)) s2
      else
        (List.range 8).foldl (fun t n =>
          let r := Fin.ofNat 32 n
          t.setK r (if s.mode = .long64 then 0 else Config.xrstorOpmask n (t.getK r))) s2)

end Sys2Proof.Machine
end

