-- ==== Sys2Proof/Safety.lean ====
section
/-! DEFINITION. What counts as a safe run, the invariant of the machine, and the terms statements speak in: what an
instruction wrote, and what it left as it was. -/

namespace Sys2Proof.Machine

/-! ### Runs and the invariant -/

/-- The machine still executes instructions: no exception and no VM exit is pending (D30). -/
def State.running (s : State) : Bool := s.event.isNone

/-- The machine waits for `Deliver` with this exception at the address of the instruction that raised it (R1501, R1505). -/
def State.trappedWith (s : State) (e : Exc) : Prop := ∃ t, s.event = some (.trap t) ∧ t.exc = e ∧ t.pc = s.pc

/-- The addresses of a durability ledger rise strictly above a bound. -/
def ledgerAbove : Option Nat → List (Nat × Durability) → Bool
  | _, [] => true
  | lo, (a, _) :: m => (match lo with
      | none => true
      | some l => l < a) && ledgerAbove (some a) m

/-- The ledger is in canonical form. -/
def ledgerOk (m : List (Nat × Durability)) : Bool := ledgerAbove none m

/-- What system software owns is as the part allows: 64-bit mode only where it exists (R235), CR4.OSXSAVE only with XSAVE
(R244), in XCR0 bit 0 and a legal set of state components (R30, R244), in IA32_XSS no bit that CPUID does not report
(R225). -/
def State.legal (s : State) : Bool := s.modeExists && s.cr4Ok s.cr4 && s.xcr0Ok s.xcr0 && s.xssOk s.xss

/-- What every step keeps: memory and the ledger in their canonical forms, MXCSR's reserved bits clear (R28), and a legal
mode, CR4, XCR0 and IA32_XSS. -/
def State.Inv (s : State) : Prop :=
  s.mem.wf = true ∧ ledgerOk s.durability = true ∧ s.mxcsr.extractLsb' 16 16 = 0 ∧ s.legal = true

/-- A safe run of `n` steps: no exception, no fault and no refusal. -/
def Safe : Nat → State → Prop
  | 0, s => s.running = true
  | n + 1, s => s.running = true ∧ ∃ t, step s = .next t ∧ Safe n t

/-! ### When an instruction executes -/

/-- The machine runs, the checks before execution pass for these fields, and they select this row (R150, R1510, R1540). -/
def State.selects (s : State) (rows : List Row) (o : Operands) (r : Row) : Prop :=
  s.event = none ∧ s.gate rows o = .ok r

/-- These conditions raise nothing: SAE is in force, or each of them is masked in MXCSR (R1550, R1560). -/
def State.quiet (s : State) (r : Row) (o : Operands) (f : FpFlags) : Prop :=
  r.rounding o = true ∨ f &&& s.unmasked = 0

/-- These conditions raise #XM or #UD: no SAE, and one of them is unmasked (R1550, R1551). -/
def State.alarmed (s : State) (r : Row) (o : Operands) (f : FpFlags) : Prop :=
  r.rounding o = false ∧ f &&& s.unmasked ≠ 0

/-- MXCSR after an instruction that reported these conditions: its flags set, or unchanged under SAE (R28, R1560). -/
def State.mxcsrAfter (s : State) (r : Row) (o : Operands) (f : FpFlags) : BitVec 32 :=
  if r.rounding o then s.mxcsr else s.mxcsr ||| f.setWidth 32

/-- The state in which an exception raised by unmasked conditions leaves the machine: the flags set, nothing else written,
#XM pending, or #UD where CR4.OSXMMEXCPT = 0 (R1551). -/
def State.alarm (s : State) (f : FpFlags) : State :=
  { s with
    mxcsr := s.mxcsr ||| f.setWidth 32
    event := some (.trap { exc := if s.cr4.getLsbD 10 then .xm else .ud, pc := s.pc, addr := none, rf := false }) }

/-- The physical address of each byte a store of `n` elements of width `w` accesses, or its fault: the checks of the store
on the effective address of the operand (R84, R85, R1540). -/
def State.storeTargets (s : State) (r : Row) (o : Operands) (m : MemOp) (w n : Nat) : Except Abort (List (Nat × Nat)) :=
  s.checkMem .write m.seg (s.ea m) (elemOffs w n (s.accessMask r o)) (r.alignArg (n * w / 8)) (r.acArg (n * w / 8))

/-- The same for a store of `n` bytes whatever the writemask. -/
def State.plainTargets (s : State) (r : Row) (m : MemOp) (n : Nat) : Except Abort (List (Nat × Nat)) :=
  s.checkMem .write m.seg (s.ea m) (List.range n) 1 (r.acArg n)

/-- The linear addresses of the bytes of element `j` of a vector memory operand: data of width `w`, indices of `isize` bits
(R134, R505). -/
def State.elemReads (s : State) (m : MemOp) (isize w j : Nat) : List Word :=
  (List.range (w / 8)).map (s.linear m.seg (s.vsibAddr m isize j))

/-- The same of those of `n` elements that `on` selects, the lowest element first. -/
def State.elemsReads (s : State) (m : MemOp) (isize w n : Nat) (on : Nat → Bool) : List Word :=
  ((List.range n).filter on).flatMap (s.elemReads m isize w)

/-! ### What was written -/

/-- `n` elements of width `w` of vector register `d` were written under the writemask: a masked-off element is zero or
keeps its value (R122, R301). Above them the register is zero, but for a legacy form from bit `vl` on (R25). Every other
vector register is unchanged. -/
def VecWritten (s t : State) (o : Operands) (d : Fin 32) (vl w n : Nat) (f : Nat → BitVec w) : Prop :=
  (∀ j < n, elem w j (t.getZ d) =
    if (s.writemask o).getLsbD j then f j else if o.z then 0 else elem w j (s.getZ d)) ∧
  (∀ i < 512, w * n ≤ i →
    (t.getZ d).getLsbD i = (decide (o.space = .legacy ∧ vl ≤ i) && (s.getZ d).getLsbD i)) ∧
  ∀ x, x ≠ d → t.getZ x = s.getZ x

/-- Element 0 of the destination was written under the writemask; bits 127 and below above it are those of `upper`, bits
from 128 on zero or, for a legacy form, unchanged (R25, R303 to R305). -/
def ScalarWritten (s t : State) (o : Operands) (d : Fin 32) (w : Nat) (upper : ZWord) (x : BitVec w) : Prop :=
  elem w 0 (t.getZ d) = (if (s.writemask o).getLsbD 0 then x else if o.z then 0 else elem w 0 (s.getZ d)) ∧
  (∀ i < 128, w ≤ i → (t.getZ d).getLsbD i = upper.getLsbD i) ∧
  (∀ i < 512, 128 ≤ i → (t.getZ d).getLsbD i = (decide (o.space = .legacy) && (s.getZ d).getLsbD i)) ∧
  ∀ x, x ≠ d → t.getZ x = s.getZ x

/-- Bits 127:0 of a vector register hold `v`; above them R25. -/
def XmmWritten (s t : State) (o : Operands) (d : Fin 32) (v : ZWord) : Prop :=
  (∀ i < 128, (t.getZ d).getLsbD i = v.getLsbD i) ∧
  (∀ i < 512, 128 ≤ i → (t.getZ d).getLsbD i = (decide (o.space = .legacy) && (s.getZ d).getLsbD i)) ∧
  ∀ x, x ≠ d → t.getZ x = s.getZ x

/-- Opmask register `d` holds `n` result bits, zero where the writemask is, zero above (R27). -/
def MaskWritten (s t : State) (o : Operands) (d : Fin 32) (n : Nat) (f : Nat → Bool) : Prop :=
  (∀ i < 64, (t.getK d).getLsbD i = (decide (i < n) && (s.writemask o).getLsbD i && f i)) ∧
  ∀ x : Fin 32, x.val % 8 ≠ d.val % 8 → t.getK x = s.getK x

/-- Opmask register `d` holds `v`; the others are unchanged. -/
def KWritten (s t : State) (d : Fin 32) (v : KWord) : Prop :=
  t.getK d = v ∧ ∀ x : Fin 32, x.val % 8 ≠ d.val % 8 → t.getK x = s.getK x

/-- General register `d` holds `v`; the others are unchanged. -/
def GprWritten (s t : State) (d : Fin 32) (v : Word) : Prop :=
  t.getGpr d = v ∧ ∀ x : Fin 32, x.val % 16 ≠ d.val % 16 → t.getGpr x = s.getGpr x

/-- The stores R101 accepts to memory without a flush: to WT, WC or UC memory, and non-temporal ones to WB memory. -/
abbrev NeedsNoFlush (s : State) (nt : Bool) (a : Nat) : Prop :=
  s.memType a = .wb ∧ nt = true ∨ s.memType a = .wt ∨ s.memType a = .wc ∨ s.memType a = .uc

/-- The entries of the ledger of persistent stores after a store, a non-temporal one (`nt`) or an ordinary one, to the
physical addresses `hit` (R96, R101): one of them in a persistent range has the entry of a store that a fence accepts to
memory where the memory is WT, WC or UC, or is WB and the store was non-temporal, and else of one that is only globally visible;
every other entry is as it was. Said of a ledger in canonical form (notes/assumptions/10.md, 40.md). -/
def LedgerWritten (s t : State) (nt : Bool) (hit : Nat → Prop) : Prop :=
  ledgerOk s.durability = true → ∀ a d, (a, d) ∈ t.durability ↔
    (hit a ∧ s.isPmem a = true ∧ d = if NeedsNoFlush s nt a then .draining else .stored) ∨
    (¬(hit a ∧ s.isPmem a = true) ∧ (a, d) ∈ s.durability)

/-- The bytes of `v` were stored, non-temporally or not, at the physical addresses `ps` pairs with their offsets: each address
holds its byte (where no two bytes go to one address), every other address reads as before, and the ledger of persistent
stores has the entries of this store. -/
def Stored (s t : State) (nt : Bool) (v : ZWord) (ps : List (Nat × Nat)) : Prop :=
  (s.mem.wf = true → (ps.map (·.2)).Nodup → ∀ p ∈ ps, t.mem.get p.2 = byteAt p.1 v) ∧
  (∀ a, (∀ p ∈ ps, p.2 ≠ a) → t.mem.get a = s.mem.get a) ∧
  LedgerWritten s t nt fun a => ∃ p ∈ ps, p.2 = a

/-! ### What was left as it was: everything but the fields named, and the pc is at the next instruction -/

/-- Every byte of memory reads as before. -/
def SameBytes (s t : State) : Prop := ∀ a, t.mem.get a = s.mem.get a

/-- Only vector registers changed. -/
def ZmmOnly (s t : State) : Prop := SameBytes s t ∧ t = { s with zmm := t.zmm, pc := s.npc }

/-- Only vector registers and MXCSR changed. -/
def ZmmMxcsrOnly (s t : State) : Prop := SameBytes s t ∧ t = { s with zmm := t.zmm, mxcsr := t.mxcsr, pc := s.npc }

/-- Only opmask registers changed. -/
def KOnly (s t : State) : Prop := SameBytes s t ∧ t = { s with k := t.k, pc := s.npc }

/-- Only opmask registers and MXCSR changed. -/
def KMxcsrOnly (s t : State) : Prop := SameBytes s t ∧ t = { s with k := t.k, mxcsr := t.mxcsr, pc := s.npc }

/-- Only vector and opmask registers changed. -/
def ZmmKOnly (s t : State) : Prop := SameBytes s t ∧ t = { s with zmm := t.zmm, k := t.k, pc := s.npc }

/-- Only general registers changed. -/
def GprOnly (s t : State) : Prop := SameBytes s t ∧ t = { s with gpr := t.gpr, pc := s.npc }

/-- Only general registers and MXCSR changed. -/
def GprMxcsrOnly (s t : State) : Prop := SameBytes s t ∧ t = { s with gpr := t.gpr, mxcsr := t.mxcsr, pc := s.npc }

/-- Only EFLAGS and MXCSR changed. -/
def EflagsMxcsrOnly (s t : State) : Prop :=
  SameBytes s t ∧ t = { s with eflags := t.eflags, mxcsr := t.mxcsr, pc := s.npc }

/-- Only memory and the ledger of persistent stores changed; which bytes and which entries, `Stored` says. -/
def MemOnly (s t : State) : Prop := t = { s with mem := t.mem, durability := t.durability, pc := s.npc }

/-- Only memory, the ledger of persistent stores, and MXCSR changed. -/
def MemMxcsrOnly (s t : State) : Prop :=
  t = { s with mem := t.mem, durability := t.durability, mxcsr := t.mxcsr, pc := s.npc }

/-- EFLAGS with CF, PF and ZF as given, AF, SF and OF clear, every other bit as it was (R23). -/
def EflagsSet (s t : State) (zf pf cf : Bool) : Prop :=
  ∀ i < 32, t.eflags.getLsbD i =
    if i = 0 then cf else if i = 2 then pf else if i = 6 then zf
    else if i = 4 ∨ i = 7 ∨ i = 11 then false else s.eflags.getLsbD i

/-! ### Alignment and fault suppression -/

/-- The linear address of the memory operand is a multiple of the operand's size, the vector length, where the row asks for
it (R74, R77). -/
def State.alignedFor (s : State) (r : Row) (o : Operands) (m : MemOp) : Prop :=
  r.aligned = true → (s.segBase m.seg + s.ea m).toNat % (r.vl o / 8) = 0

/-- On its rows that ask for alignment an instruction whose memory operand is misaligned raises #GP(0), and nothing else
happens (R74, R77). -/
def TrapsMisaligned (make : Operands → Instr) (rows : List Row) : Prop :=
  ∀ (o : Operands) (s : State) (r : Row) (m : MemOp), s.selects rows o r → o.rm = .mem m → r.broadcasts o = false →
    ¬ s.alignedFor r o m → exec (make o) s = .next (s.raise { exc := .gp })

/-- The row suppresses the memory faults of masked-off elements, its memory operand `m` is aligned if it has to be, and each of
the first `n` elements is masked off (R85). -/
def State.suppressed (s : State) (rows : List Row) (o : Operands) (r : Row) (m : MemOp) (n : Nat) : Prop :=
  s.selects rows o r ∧ o.rm = .mem m ∧ r.cls.suppress = true ∧ s.alignedFor r o m ∧
    ∀ j < n, (s.writemask o).getLsbD j = false

/-- Whatever the address of its memory operand, an instruction whose `n` elements are all masked off completes, and the next
state is as `P` says. -/
def Suppresses (make : Operands → Instr) (rows : List Row) (n : Row → Operands → Nat)
    (P : State → State → Operands → Row → Prop) : Prop :=
  ∀ (o : Operands) (s : State) (r : Row) (m : MemOp), s.suppressed rows o r m (n r o) →
    ∃ t, exec (make o) s = .next t ∧ P s t o r

/-- All `n` elements of width `w` of the vector destination are zero or as they were, and nothing else changed. -/
def VecKept (w : Nat) (n : Row → Operands → Nat) (s t : State) (o : Operands) (r : Row) : Prop :=
  VecWritten s t o o.reg (r.vl o) w (n r o) (fun _ => 0) ∧ ZmmOnly s t

/-- The low element of the vector destination is zero or as it was, beside the bits of `upper`, and nothing else changed. -/
def ScalarKept (w : Nat) (upper : State → Row → Operands → ZWord) (s t : State) (o : Operands) (r : Row) : Prop :=
  ScalarWritten s t o o.reg w (upper s r o) 0 ∧ ZmmOnly s t

/-- The opmask destination is zero, and nothing else changed. -/
def MaskCleared (s t : State) (o : Operands) (_ : Row) : Prop := KWritten s t o.reg 0 ∧ KOnly s t

/-- Nothing but the pc changed. -/
def NothingWritten (s t : State) (_ : Operands) (_ : Row) : Prop := t = { s with pc := s.npc }

end Sys2Proof.Machine
end

