-- ==== Sys2Proof/Certificates/Slice0/Tables.lean ====
section
/-! DEFINITION. The instructions that the statements of Obligations.lean speak of, in groups of one shape: each entry is a
constructor of `Instr`, its rows of the opcode table, and what its operation is on elements. (The tables are noncomputable
because Lean runs no code that builds an `Instr`.) -/

namespace Sys2Proof.Claims

open Machine

/-- An instruction with its rows. -/
structure Named where
  make : Operands → Instr
  rows : List Row

/-- Prefetches and gather and scatter hints (R1410, R1480). -/
noncomputable def hintTable : List Named :=
  [⟨.vgatherpf0dps, Rows.vgatherpf0dps⟩,
   ⟨.vgatherpf0qps, Rows.vgatherpf0qps⟩,
   ⟨.vgatherpf0dpd, Rows.vgatherpf0dpd⟩,
   ⟨.vgatherpf0qpd, Rows.vgatherpf0qpd⟩,
   ⟨.vgatherpf1dps, Rows.vgatherpf1dps⟩,
   ⟨.vgatherpf1qps, Rows.vgatherpf1qps⟩,
   ⟨.vgatherpf1dpd, Rows.vgatherpf1dpd⟩,
   ⟨.vgatherpf1qpd, Rows.vgatherpf1qpd⟩,
   ⟨.vscatterpf0dps, Rows.vscatterpf0dps⟩,
   ⟨.vscatterpf0qps, Rows.vscatterpf0qps⟩,
   ⟨.vscatterpf0dpd, Rows.vscatterpf0dpd⟩,
   ⟨.vscatterpf0qpd, Rows.vscatterpf0qpd⟩,
   ⟨.vscatterpf1dps, Rows.vscatterpf1dps⟩,
   ⟨.vscatterpf1qps, Rows.vscatterpf1qps⟩,
   ⟨.vscatterpf1dpd, Rows.vscatterpf1dpd⟩,
   ⟨.vscatterpf1qpd, Rows.vscatterpf1qpd⟩,
   ⟨.prefetchwt1, Rows.prefetchwt1⟩]

/-- INSERTPS (R526). -/
noncomputable def insertPsTable : List Named :=
  [⟨.insertps, Rows.insertps⟩,
   ⟨.vinsertps, Rows.vinsertps⟩]

/-- MOVDDUP (R555). -/
noncomputable def moveDupTable : List Named :=
  [⟨.movddup, Rows.movddup⟩,
   ⟨.vmovddup, Rows.vmovddup⟩]

/-- VCVTPS2PH (R370). -/
noncomputable def cvtToHalfTable : List Named :=
  [⟨.vcvtps2ph, Rows.vcvtps2ph⟩]

/-- An instruction with its element width. -/
structure Sized where
  make : Operands → Instr
  rows : List Row
  w : Nat

/-- VBLENDM and VPBLENDM (R325 to R327). -/
noncomputable def blendTable : List Sized :=
  [⟨.vblendmpd, Rows.vblendmpd, 64⟩,
   ⟨.vblendmps, Rows.vblendmps, 32⟩,
   ⟨.vpblendmb, Rows.vpblendmb, 8⟩,
   ⟨.vpblendmw, Rows.vpblendmw, 16⟩,
   ⟨.vpblendmd, Rows.vpblendmd, 32⟩,
   ⟨.vpblendmq, Rows.vpblendmq, 64⟩]

/-- VCOMPRESS and VPCOMPRESS (R352, R656). -/
noncomputable def compressTable : List Sized :=
  [⟨.vcompresspd, Rows.vcompresspd, 64⟩,
   ⟨.vcompressps, Rows.vcompressps, 32⟩,
   ⟨.vpcompressd, Rows.vpcompressd, 32⟩,
   ⟨.vpcompressq, Rows.vpcompressq, 64⟩]

/-- VEXPAND and VPEXPAND (R419, R692). -/
noncomputable def expandTable : List Sized :=
  [⟨.vexpandpd, Rows.vexpandpd, 64⟩,
   ⟨.vexpandps, Rows.vexpandps, 32⟩,
   ⟨.vpexpandd, Rows.vpexpandd, 32⟩,
   ⟨.vpexpandq, Rows.vpexpandq, 64⟩]

/-- VPCONFLICT (R657). -/
noncomputable def conflictsTable : List Sized :=
  [⟨.vpconflictd, Rows.vpconflictd, 32⟩,
   ⟨.vpconflictq, Rows.vpconflictq, 64⟩]

/-- VPMOV*2M (R734 to R737). -/
noncomputable def toMaskTable : List Sized :=
  [⟨.vpmovb2m, Rows.vpmovb2m, 8⟩,
   ⟨.vpmovw2m, Rows.vpmovw2m, 16⟩,
   ⟨.vpmovd2m, Rows.vpmovd2m, 32⟩,
   ⟨.vpmovq2m, Rows.vpmovq2m, 64⟩]

/-- KMOV (R1338 to R1341). -/
noncomputable def maskMoveTable : List Sized :=
  [⟨.kmovw, Rows.kmovw, 16⟩,
   ⟨.kmovb, Rows.kmovb, 8⟩,
   ⟨.kmovq, Rows.kmovq, 64⟩,
   ⟨.kmovd, Rows.kmovd, 32⟩]

/-- KUNPCK (R1343 to R1345). -/
noncomputable def maskUnpackTable : List Sized :=
  [⟨.kunpckbw, Rows.kunpckbw, 8⟩,
   ⟨.kunpckwd, Rows.kunpckwd, 16⟩,
   ⟨.kunpckdq, Rows.kunpckdq, 32⟩]

/-- KORTEST (R1346 to R1349). -/
noncomputable def maskOrTestTable : List Sized :=
  [⟨.kortestw, Rows.kortestw, 16⟩,
   ⟨.kortestb, Rows.kortestb, 8⟩,
   ⟨.kortestq, Rows.kortestq, 64⟩,
   ⟨.kortestd, Rows.kortestd, 32⟩]

/-- KTEST (R1350 to R1353). -/
noncomputable def maskTestTable : List Sized :=
  [⟨.ktestw, Rows.ktestw, 16⟩,
   ⟨.ktestb, Rows.ktestb, 8⟩,
   ⟨.ktestq, Rows.ktestq, 64⟩,
   ⟨.ktestd, Rows.ktestd, 32⟩]

/-- PEXTR and EXTRACTPS (R423, R693 to R696). -/
noncomputable def extractElemTable : List Sized :=
  [⟨.extractps, Rows.extractps, 32⟩,
   ⟨.vextractps, Rows.vextractps, 32⟩,
   ⟨.pextrb, Rows.pextrb, 8⟩,
   ⟨.vpextrb, Rows.vpextrb, 8⟩,
   ⟨.pextrw, Rows.pextrw, 16⟩,
   ⟨.vpextrw, Rows.vpextrw, 16⟩,
   ⟨.pextrd, Rows.pextrd, 32⟩,
   ⟨.vpextrd, Rows.vpextrd, 32⟩,
   ⟨.pextrq, Rows.pextrq, 64⟩,
   ⟨.vpextrq, Rows.vpextrq, 64⟩]

/-- PINSR (R701 to R704). -/
noncomputable def insertElemTable : List Sized :=
  [⟨.pinsrb, Rows.pinsrb, 8⟩,
   ⟨.vpinsrb, Rows.vpinsrb, 8⟩,
   ⟨.pinsrw, Rows.pinsrw, 16⟩,
   ⟨.vpinsrw, Rows.vpinsrw, 16⟩,
   ⟨.pinsrd, Rows.pinsrd, 32⟩,
   ⟨.vpinsrd, Rows.vpinsrd, 32⟩,
   ⟨.pinsrq, Rows.pinsrq, 64⟩,
   ⟨.vpinsrq, Rows.vpinsrq, 64⟩]

/-- MOVD and MOVQ (R552 to R554). -/
noncomputable def moveLowTable : List Sized :=
  [⟨.movd, Rows.movd, 32⟩,
   ⟨.vmovd, Rows.vmovd, 32⟩,
   ⟨.movq, Rows.movq, 64⟩,
   ⟨.vmovq, Rows.vmovq, 64⟩]

/-- MOVSS and MOVSD (R574, R577). -/
noncomputable def moveScalarTable : List Sized :=
  [⟨.movsd, Rows.movsd, 64⟩,
   ⟨.vmovsd, Rows.vmovsd, 64⟩,
   ⟨.movss, Rows.movss, 32⟩,
   ⟨.vmovss, Rows.vmovss, 32⟩]

/-- Element by element from two sources. -/
structure Lanewise where
  make : Operands → Instr
  rows : List Row
  w : Nat
  f : BitVec w → BitVec w → BitVec w

/-- Integer and logical operations on elements of two sources. -/
noncomputable def lanewiseTable : List Lanewise :=
  [⟨.andpd, Rows.andpd, 64, fun a b => a &&& b⟩,
   ⟨.vandpd, Rows.vandpd, 64, fun a b => a &&& b⟩,
   ⟨.andps, Rows.andps, 32, fun a b => a &&& b⟩,
   ⟨.vandps, Rows.vandps, 32, fun a b => a &&& b⟩,
   ⟨.andnpd, Rows.andnpd, 64, fun a b => ~~~a &&& b⟩,
   ⟨.vandnpd, Rows.vandnpd, 64, fun a b => ~~~a &&& b⟩,
   ⟨.andnps, Rows.andnps, 32, fun a b => ~~~a &&& b⟩,
   ⟨.vandnps, Rows.vandnps, 32, fun a b => ~~~a &&& b⟩,
   ⟨.orpd, Rows.orpd, 64, fun a b => a ||| b⟩,
   ⟨.vorpd, Rows.vorpd, 64, fun a b => a ||| b⟩,
   ⟨.orps, Rows.orps, 32, fun a b => a ||| b⟩,
   ⟨.vorps, Rows.vorps, 32, fun a b => a ||| b⟩,
   ⟨.paddb, Rows.paddb, 8, fun a b => a + b⟩,
   ⟨.vpaddb, Rows.vpaddb, 8, fun a b => a + b⟩,
   ⟨.paddw, Rows.paddw, 16, fun a b => a + b⟩,
   ⟨.vpaddw, Rows.vpaddw, 16, fun a b => a + b⟩,
   ⟨.paddd, Rows.paddd, 32, fun a b => a + b⟩,
   ⟨.vpaddd, Rows.vpaddd, 32, fun a b => a + b⟩,
   ⟨.paddq, Rows.paddq, 64, fun a b => a + b⟩,
   ⟨.vpaddq, Rows.vpaddq, 64, fun a b => a + b⟩,
   ⟨.paddsb, Rows.paddsb, 8, fun a b => satS 8 (a.toInt + b.toInt)⟩,
   ⟨.vpaddsb, Rows.vpaddsb, 8, fun a b => satS 8 (a.toInt + b.toInt)⟩,
   ⟨.paddsw, Rows.paddsw, 16, fun a b => satS 16 (a.toInt + b.toInt)⟩,
   ⟨.vpaddsw, Rows.vpaddsw, 16, fun a b => satS 16 (a.toInt + b.toInt)⟩,
   ⟨.paddusb, Rows.paddusb, 8, fun a b => satU 8 ((a.toNat : Int) + b.toNat)⟩,
   ⟨.vpaddusb, Rows.vpaddusb, 8, fun a b => satU 8 ((a.toNat : Int) + b.toNat)⟩,
   ⟨.paddusw, Rows.paddusw, 16, fun a b => satU 16 ((a.toNat : Int) + b.toNat)⟩,
   ⟨.vpaddusw, Rows.vpaddusw, 16, fun a b => satU 16 ((a.toNat : Int) + b.toNat)⟩,
   ⟨.pand, Rows.pand, 64, fun a b => a &&& b⟩,
   ⟨.vpand, Rows.vpand, 64, fun a b => a &&& b⟩,
   ⟨.vpandd, Rows.vpandd, 32, fun a b => a &&& b⟩,
   ⟨.vpandq, Rows.vpandq, 64, fun a b => a &&& b⟩,
   ⟨.pandn, Rows.pandn, 64, fun a b => ~~~a &&& b⟩,
   ⟨.vpandn, Rows.vpandn, 64, fun a b => ~~~a &&& b⟩,
   ⟨.vpandnd, Rows.vpandnd, 32, fun a b => ~~~a &&& b⟩,
   ⟨.vpandnq, Rows.vpandnq, 64, fun a b => ~~~a &&& b⟩,
   ⟨.pavgb, Rows.pavgb, 8, avg⟩,
   ⟨.vpavgb, Rows.vpavgb, 8, avg⟩,
   ⟨.pavgw, Rows.pavgw, 16, avg⟩,
   ⟨.vpavgw, Rows.vpavgw, 16, avg⟩] ++
  [⟨.pmaxsb, Rows.pmaxsb, 8, maxS⟩,
   ⟨.vpmaxsb, Rows.vpmaxsb, 8, maxS⟩,
   ⟨.pmaxsw, Rows.pmaxsw, 16, maxS⟩,
   ⟨.vpmaxsw, Rows.vpmaxsw, 16, maxS⟩,
   ⟨.pmaxsd, Rows.pmaxsd, 32, maxS⟩,
   ⟨.vpmaxsd, Rows.vpmaxsd, 32, maxS⟩,
   ⟨.vpmaxsq, Rows.vpmaxsq, 64, maxS⟩,
   ⟨.pmaxub, Rows.pmaxub, 8, maxU⟩,
   ⟨.vpmaxub, Rows.vpmaxub, 8, maxU⟩,
   ⟨.pmaxuw, Rows.pmaxuw, 16, maxU⟩,
   ⟨.vpmaxuw, Rows.vpmaxuw, 16, maxU⟩,
   ⟨.pmaxud, Rows.pmaxud, 32, maxU⟩,
   ⟨.vpmaxud, Rows.vpmaxud, 32, maxU⟩,
   ⟨.vpmaxuq, Rows.vpmaxuq, 64, maxU⟩,
   ⟨.pminsb, Rows.pminsb, 8, minS⟩,
   ⟨.vpminsb, Rows.vpminsb, 8, minS⟩,
   ⟨.pminsw, Rows.pminsw, 16, minS⟩,
   ⟨.vpminsw, Rows.vpminsw, 16, minS⟩,
   ⟨.pminsd, Rows.pminsd, 32, minS⟩,
   ⟨.vpminsd, Rows.vpminsd, 32, minS⟩,
   ⟨.vpminsq, Rows.vpminsq, 64, minS⟩,
   ⟨.pminub, Rows.pminub, 8, minU⟩,
   ⟨.vpminub, Rows.vpminub, 8, minU⟩,
   ⟨.pminuw, Rows.pminuw, 16, minU⟩,
   ⟨.vpminuw, Rows.vpminuw, 16, minU⟩,
   ⟨.pminud, Rows.pminud, 32, minU⟩,
   ⟨.vpminud, Rows.vpminud, 32, minU⟩,
   ⟨.vpminuq, Rows.vpminuq, 64, minU⟩,
   ⟨.pmuldq, Rows.pmuldq, 64, mulLowS⟩,
   ⟨.vpmuldq, Rows.vpmuldq, 64, mulLowS⟩,
   ⟨.pmulhrsw, Rows.pmulhrsw, 16, mulHrs⟩,
   ⟨.vpmulhrsw, Rows.vpmulhrsw, 16, mulHrs⟩,
   ⟨.pmulhuw, Rows.pmulhuw, 16, mulHighU⟩,
   ⟨.vpmulhuw, Rows.vpmulhuw, 16, mulHighU⟩,
   ⟨.pmulhw, Rows.pmulhw, 16, mulHighS⟩,
   ⟨.vpmulhw, Rows.vpmulhw, 16, mulHighS⟩,
   ⟨.pmulld, Rows.pmulld, 32, fun a b => a * b⟩,
   ⟨.vpmulld, Rows.vpmulld, 32, fun a b => a * b⟩,
   ⟨.vpmullq, Rows.vpmullq, 64, fun a b => a * b⟩,
   ⟨.pmullw, Rows.pmullw, 16, fun a b => a * b⟩] ++
  [⟨.vpmullw, Rows.vpmullw, 16, fun a b => a * b⟩,
   ⟨.pmuludq, Rows.pmuludq, 64, mulLowU⟩,
   ⟨.vpmuludq, Rows.vpmuludq, 64, mulLowU⟩,
   ⟨.por, Rows.por, 64, fun a b => a ||| b⟩,
   ⟨.vpor, Rows.vpor, 64, fun a b => a ||| b⟩,
   ⟨.vpord, Rows.vpord, 32, fun a b => a ||| b⟩,
   ⟨.vporq, Rows.vporq, 64, fun a b => a ||| b⟩,
   ⟨.psubb, Rows.psubb, 8, fun a b => a - b⟩,
   ⟨.vpsubb, Rows.vpsubb, 8, fun a b => a - b⟩,
   ⟨.psubw, Rows.psubw, 16, fun a b => a - b⟩,
   ⟨.vpsubw, Rows.vpsubw, 16, fun a b => a - b⟩,
   ⟨.psubd, Rows.psubd, 32, fun a b => a - b⟩,
   ⟨.vpsubd, Rows.vpsubd, 32, fun a b => a - b⟩,
   ⟨.psubq, Rows.psubq, 64, fun a b => a - b⟩,
   ⟨.vpsubq, Rows.vpsubq, 64, fun a b => a - b⟩,
   ⟨.psubsb, Rows.psubsb, 8, fun a b => satS 8 (a.toInt - b.toInt)⟩,
   ⟨.vpsubsb, Rows.vpsubsb, 8, fun a b => satS 8 (a.toInt - b.toInt)⟩,
   ⟨.psubsw, Rows.psubsw, 16, fun a b => satS 16 (a.toInt - b.toInt)⟩,
   ⟨.vpsubsw, Rows.vpsubsw, 16, fun a b => satS 16 (a.toInt - b.toInt)⟩,
   ⟨.psubusb, Rows.psubusb, 8, fun a b => satU 8 ((a.toNat : Int) - b.toNat)⟩,
   ⟨.vpsubusb, Rows.vpsubusb, 8, fun a b => satU 8 ((a.toNat : Int) - b.toNat)⟩,
   ⟨.psubusw, Rows.psubusw, 16, fun a b => satU 16 ((a.toNat : Int) - b.toNat)⟩,
   ⟨.vpsubusw, Rows.vpsubusw, 16, fun a b => satU 16 ((a.toNat : Int) - b.toNat)⟩,
   ⟨.pxor, Rows.pxor, 64, fun a b => a ^^^ b⟩,
   ⟨.vpxor, Rows.vpxor, 64, fun a b => a ^^^ b⟩,
   ⟨.vpxord, Rows.vpxord, 32, fun a b => a ^^^ b⟩,
   ⟨.vpxorq, Rows.vpxorq, 64, fun a b => a ^^^ b⟩,
   ⟨.xorpd, Rows.xorpd, 64, fun a b => a ^^^ b⟩,
   ⟨.vxorpd, Rows.vxorpd, 64, fun a b => a ^^^ b⟩,
   ⟨.xorps, Rows.xorps, 32, fun a b => a ^^^ b⟩,
   ⟨.vxorps, Rows.vxorps, 32, fun a b => a ^^^ b⟩]

/-- Shifts and rotates of each element by its own count (R783, R816). -/
noncomputable def lanewiseShiftTable : List Lanewise :=
  [⟨.vprolvd, Rows.vprolvd, 32, fun x c => rol x c.toNat⟩,
   ⟨.vprolvq, Rows.vprolvq, 64, fun x c => rol x c.toNat⟩,
   ⟨.vprorvd, Rows.vprorvd, 32, fun x c => ror x c.toNat⟩,
   ⟨.vprorvq, Rows.vprorvq, 64, fun x c => ror x c.toNat⟩,
   ⟨.vpsllvw, Rows.vpsllvw, 16, fun x c => sll x c.toNat⟩,
   ⟨.vpsllvd, Rows.vpsllvd, 32, fun x c => sll x c.toNat⟩,
   ⟨.vpsllvq, Rows.vpsllvq, 64, fun x c => sll x c.toNat⟩,
   ⟨.vpsrlvw, Rows.vpsrlvw, 16, fun x c => srl x c.toNat⟩,
   ⟨.vpsrlvd, Rows.vpsrlvd, 32, fun x c => srl x c.toNat⟩,
   ⟨.vpsrlvq, Rows.vpsrlvq, 64, fun x c => srl x c.toNat⟩,
   ⟨.vpsravw, Rows.vpsravw, 16, fun x c => sra x c.toNat⟩,
   ⟨.vpsravd, Rows.vpsravd, 32, fun x c => sra x c.toNat⟩,
   ⟨.vpsravq, Rows.vpsravq, 64, fun x c => sra x c.toNat⟩]

/-- Opmask operations on two sources (R1300, R1301). -/
noncomputable def mask2Table : List Lanewise :=
  [⟨.kaddw, Rows.kaddw, 16, fun a b => a + b⟩,
   ⟨.kaddb, Rows.kaddb, 8, fun a b => a + b⟩,
   ⟨.kaddq, Rows.kaddq, 64, fun a b => a + b⟩,
   ⟨.kaddd, Rows.kaddd, 32, fun a b => a + b⟩,
   ⟨.kandw, Rows.kandw, 16, fun a b => a &&& b⟩,
   ⟨.kandb, Rows.kandb, 8, fun a b => a &&& b⟩,
   ⟨.kandq, Rows.kandq, 64, fun a b => a &&& b⟩,
   ⟨.kandd, Rows.kandd, 32, fun a b => a &&& b⟩,
   ⟨.kandnw, Rows.kandnw, 16, fun a b => ~~~a &&& b⟩,
   ⟨.kandnb, Rows.kandnb, 8, fun a b => ~~~a &&& b⟩,
   ⟨.kandnq, Rows.kandnq, 64, fun a b => ~~~a &&& b⟩,
   ⟨.kandnd, Rows.kandnd, 32, fun a b => ~~~a &&& b⟩,
   ⟨.korw, Rows.korw, 16, fun a b => a ||| b⟩,
   ⟨.korb, Rows.korb, 8, fun a b => a ||| b⟩,
   ⟨.korq, Rows.korq, 64, fun a b => a ||| b⟩,
   ⟨.kord, Rows.kord, 32, fun a b => a ||| b⟩,
   ⟨.kxnorw, Rows.kxnorw, 16, fun a b => ~~~(a ^^^ b)⟩,
   ⟨.kxnorb, Rows.kxnorb, 8, fun a b => ~~~(a ^^^ b)⟩,
   ⟨.kxnorq, Rows.kxnorq, 64, fun a b => ~~~(a ^^^ b)⟩,
   ⟨.kxnord, Rows.kxnord, 32, fun a b => ~~~(a ^^^ b)⟩,
   ⟨.kxorw, Rows.kxorw, 16, fun a b => a ^^^ b⟩,
   ⟨.kxorb, Rows.kxorb, 8, fun a b => a ^^^ b⟩,
   ⟨.kxorq, Rows.kxorq, 64, fun a b => a ^^^ b⟩,
   ⟨.kxord, Rows.kxord, 32, fun a b => a ^^^ b⟩]

/-- An element of a mask operation. -/
structure OfMask where
  make : Operands → Instr
  rows : List Row
  w : Nat
  f : Operands → BitVec w → BitVec w

/-- KNOT and the opmask shifts. -/
noncomputable def mask1Table : List OfMask :=
  [⟨.knotw, Rows.knotw, 16, fun _ a => ~~~a⟩,
   ⟨.knotb, Rows.knotb, 8, fun _ a => ~~~a⟩,
   ⟨.knotq, Rows.knotq, 64, fun _ a => ~~~a⟩,
   ⟨.knotd, Rows.knotd, 32, fun _ a => ~~~a⟩,
   ⟨.kshiftlw, Rows.kshiftlw, 16, fun o => shiftMask true o.imm⟩,
   ⟨.kshiftlb, Rows.kshiftlb, 8, fun o => shiftMask true o.imm⟩,
   ⟨.kshiftlq, Rows.kshiftlq, 64, fun o => shiftMask true o.imm⟩,
   ⟨.kshiftld, Rows.kshiftld, 32, fun o => shiftMask true o.imm⟩,
   ⟨.kshiftrw, Rows.kshiftrw, 16, fun o => shiftMask false o.imm⟩,
   ⟨.kshiftrb, Rows.kshiftrb, 8, fun o => shiftMask false o.imm⟩,
   ⟨.kshiftrq, Rows.kshiftrq, 64, fun o => shiftMask false o.imm⟩,
   ⟨.kshiftrd, Rows.kshiftrd, 32, fun o => shiftMask false o.imm⟩]

/-- Result elements from two whole sources. -/
structure TwoSource where
  make : Operands → Instr
  rows : List Row
  w : Nat
  g : Row → Operands → ZWord → ZWord → Nat → BitVec w

/-- Permutes, shuffles, packs, unpacks and sums of two sources. -/
noncomputable def twoSourceTable : List TwoSource :=
  [⟨.valignd, Rows.valignd, 32, fun r o => alignElems 32 (r.count o 32) o.imm⟩,
   ⟨.valignq, Rows.valignq, 64, fun r o => alignElems 64 (r.count o 64) o.imm⟩,
   ⟨.vdbpsadbw, Rows.vdbpsadbw, 16, fun _ o => dbSumAbsDiff o.imm⟩,
   ⟨.movhlps, Rows.movhlps, 64, fun _ _ a b j => if j = 0 then elem 64 1 b else elem 64 1 a⟩,
   ⟨.vmovhlps, Rows.vmovhlps, 64, fun _ _ a b j => if j = 0 then elem 64 1 b else elem 64 1 a⟩,
   ⟨.movlhps, Rows.movlhps, 64, fun _ _ a b j => if j = 0 then elem 64 0 a else elem 64 0 b⟩,
   ⟨.vmovlhps, Rows.vmovlhps, 64, fun _ _ a b j => if j = 0 then elem 64 0 a else elem 64 0 b⟩,
   ⟨.psadbw, Rows.psadbw, 64, fun _ _ => sumAbsDiff⟩,
   ⟨.vpsadbw, Rows.vpsadbw, 64, fun _ _ => sumAbsDiff⟩,
   ⟨.packsswb, Rows.packsswb, 8, fun _ _ => packLanes 16 fun x => satS 8 x.toInt⟩,
   ⟨.vpacksswb, Rows.vpacksswb, 8, fun _ _ => packLanes 16 fun x => satS 8 x.toInt⟩,
   ⟨.packssdw, Rows.packssdw, 16, fun _ _ => packLanes 32 fun x => satS 16 x.toInt⟩,
   ⟨.vpackssdw, Rows.vpackssdw, 16, fun _ _ => packLanes 32 fun x => satS 16 x.toInt⟩,
   ⟨.packusdw, Rows.packusdw, 16, fun _ _ => packLanes 32 fun x => satU 16 x.toInt⟩,
   ⟨.vpackusdw, Rows.vpackusdw, 16, fun _ _ => packLanes 32 fun x => satU 16 x.toInt⟩,
   ⟨.packuswb, Rows.packuswb, 8, fun _ _ => packLanes 16 fun x => satU 8 x.toInt⟩,
   ⟨.vpackuswb, Rows.vpackuswb, 8, fun _ _ => packLanes 16 fun x => satU 8 x.toInt⟩,
   ⟨.palignr, Rows.palignr, 8, fun _ o => alignBytes o.imm⟩,
   ⟨.vpalignr, Rows.vpalignr, 8, fun _ o => alignBytes o.imm⟩,
   ⟨.vpermb, Rows.vpermb, 8, fun r o => permute 8 (r.count o 8)⟩,
   ⟨.vpermd, Rows.vpermd, 32, fun r o => permute 32 (r.count o 32)⟩,
   ⟨.vpermw, Rows.vpermw, 16, fun r o => permute 16 (r.count o 16)⟩,
   ⟨.vpermps, Rows.vpermps, 32, fun r o => permute 32 (r.count o 32)⟩,
   ⟨.pmaddubsw, Rows.pmaddubsw, 16, fun _ _ => maddUbs⟩,
   ⟨.vpmaddubsw, Rows.vpmaddubsw, 16, fun _ _ => maddUbs⟩,
   ⟨.pmaddwd, Rows.pmaddwd, 32, fun _ _ => maddWd⟩,
   ⟨.vpmaddwd, Rows.vpmaddwd, 32, fun _ _ => maddWd⟩,
   ⟨.vpmultishiftqb, Rows.vpmultishiftqb, 8, fun _ _ => multishift⟩,
   ⟨.pshufb, Rows.pshufb, 8, fun _ _ => shuffleBytes⟩,
   ⟨.vpshufb, Rows.vpshufb, 8, fun _ _ => shuffleBytes⟩,
   ⟨.punpckhbw, Rows.punpckhbw, 8, fun _ _ => unpack 8 true⟩,
   ⟨.vpunpckhbw, Rows.vpunpckhbw, 8, fun _ _ => unpack 8 true⟩,
   ⟨.punpckhwd, Rows.punpckhwd, 16, fun _ _ => unpack 16 true⟩,
   ⟨.vpunpckhwd, Rows.vpunpckhwd, 16, fun _ _ => unpack 16 true⟩,
   ⟨.punpckhdq, Rows.punpckhdq, 32, fun _ _ => unpack 32 true⟩,
   ⟨.vpunpckhdq, Rows.vpunpckhdq, 32, fun _ _ => unpack 32 true⟩,
   ⟨.punpckhqdq, Rows.punpckhqdq, 64, fun _ _ => unpack 64 true⟩,
   ⟨.vpunpckhqdq, Rows.vpunpckhqdq, 64, fun _ _ => unpack 64 true⟩,
   ⟨.punpcklbw, Rows.punpcklbw, 8, fun _ _ => unpack 8 false⟩,
   ⟨.vpunpcklbw, Rows.vpunpcklbw, 8, fun _ _ => unpack 8 false⟩] ++
  [⟨.punpcklwd, Rows.punpcklwd, 16, fun _ _ => unpack 16 false⟩,
   ⟨.vpunpcklwd, Rows.vpunpcklwd, 16, fun _ _ => unpack 16 false⟩,
   ⟨.punpckldq, Rows.punpckldq, 32, fun _ _ => unpack 32 false⟩,
   ⟨.vpunpckldq, Rows.vpunpckldq, 32, fun _ _ => unpack 32 false⟩,
   ⟨.punpcklqdq, Rows.punpcklqdq, 64, fun _ _ => unpack 64 false⟩,
   ⟨.vpunpcklqdq, Rows.vpunpcklqdq, 64, fun _ _ => unpack 64 false⟩,
   ⟨.vshuff32x4, Rows.vshuff32x4, 32, fun r o => shufLanes 32 (r.vl o) o.imm⟩,
   ⟨.vshuff64x2, Rows.vshuff64x2, 64, fun r o => shufLanes 64 (r.vl o) o.imm⟩,
   ⟨.vshufi32x4, Rows.vshufi32x4, 32, fun r o => shufLanes 32 (r.vl o) o.imm⟩,
   ⟨.vshufi64x2, Rows.vshufi64x2, 64, fun r o => shufLanes 64 (r.vl o) o.imm⟩,
   ⟨.shufpd, Rows.shufpd, 64, fun _ o => shufPd o.imm⟩,
   ⟨.vshufpd, Rows.vshufpd, 64, fun _ o => shufPd o.imm⟩,
   ⟨.shufps, Rows.shufps, 32, fun _ o => shufPs o.imm⟩,
   ⟨.vshufps, Rows.vshufps, 32, fun _ o => shufPs o.imm⟩,
   ⟨.unpckhpd, Rows.unpckhpd, 64, fun _ _ => unpack 64 true⟩,
   ⟨.vunpckhpd, Rows.vunpckhpd, 64, fun _ _ => unpack 64 true⟩,
   ⟨.unpckhps, Rows.unpckhps, 32, fun _ _ => unpack 32 true⟩,
   ⟨.vunpckhps, Rows.vunpckhps, 32, fun _ _ => unpack 32 true⟩,
   ⟨.unpcklpd, Rows.unpcklpd, 64, fun _ _ => unpack 64 false⟩,
   ⟨.vunpcklpd, Rows.vunpcklpd, 64, fun _ _ => unpack 64 false⟩,
   ⟨.unpcklps, Rows.unpcklps, 32, fun _ _ => unpack 32 false⟩,
   ⟨.vunpcklps, Rows.vunpcklps, 32, fun _ _ => unpack 32 false⟩]

/-- Permutes whose control is a source or the immediate byte (R670, R686, R687). -/
noncomputable def mixedTable : List TwoSource :=
  [⟨.vpermilpd, Rows.vpermilpd, 64, fun r o a b => if r.imm then permilPdImm o.imm b else permilPdVar a b⟩,
   ⟨.vpermilps, Rows.vpermilps, 32, fun r o a b => if r.imm then shuffleDwords o.imm b else permilPsVar a b⟩,
   ⟨.vpermpd, Rows.vpermpd, 64, fun r o a b => if r.imm then permuteHalves o.imm b else permute 64 (r.count o 64) a b⟩,
   ⟨.vpermq, Rows.vpermq, 64, fun r o a b => if r.imm then permuteHalves o.imm b else permute 64 (r.count o 64) a b⟩]

/-- Result elements from one whole source. -/
structure OneSource where
  make : Operands → Instr
  rows : List Row
  w : Nat
  g : Operands → FpEnv → ZWord → Nat → BitVec w

/-- Shuffles, absolute values, leading zeros and approximations of one source. -/
noncomputable def oneSourceTable : List OneSource :=
  [⟨.movshdup, Rows.movshdup, 32, fun _ _ b j => elem 32 (j / 2 * 2 + 1) b⟩,
   ⟨.vmovshdup, Rows.vmovshdup, 32, fun _ _ b j => elem 32 (j / 2 * 2 + 1) b⟩,
   ⟨.movsldup, Rows.movsldup, 32, fun _ _ b j => elem 32 (j / 2 * 2) b⟩,
   ⟨.vmovsldup, Rows.vmovsldup, 32, fun _ _ b j => elem 32 (j / 2 * 2) b⟩,
   ⟨.pabsb, Rows.pabsb, 8, fun _ _ b j => absBits (elem 8 j b)⟩,
   ⟨.vpabsb, Rows.vpabsb, 8, fun _ _ b j => absBits (elem 8 j b)⟩,
   ⟨.pabsw, Rows.pabsw, 16, fun _ _ b j => absBits (elem 16 j b)⟩,
   ⟨.vpabsw, Rows.vpabsw, 16, fun _ _ b j => absBits (elem 16 j b)⟩,
   ⟨.pabsd, Rows.pabsd, 32, fun _ _ b j => absBits (elem 32 j b)⟩,
   ⟨.vpabsd, Rows.vpabsd, 32, fun _ _ b j => absBits (elem 32 j b)⟩,
   ⟨.vpabsq, Rows.vpabsq, 64, fun _ _ b j => absBits (elem 64 j b)⟩,
   ⟨.vplzcntd, Rows.vplzcntd, 32, fun _ _ b j => lzcnt (elem 32 j b)⟩,
   ⟨.vplzcntq, Rows.vplzcntq, 64, fun _ _ b j => lzcnt (elem 64 j b)⟩,
   ⟨.pshufhw, Rows.pshufhw, 16, fun o _ => shuffleWords true o.imm⟩,
   ⟨.vpshufhw, Rows.vpshufhw, 16, fun o _ => shuffleWords true o.imm⟩,
   ⟨.pshuflw, Rows.pshuflw, 16, fun o _ => shuffleWords false o.imm⟩,
   ⟨.vpshuflw, Rows.vpshuflw, 16, fun o _ => shuffleWords false o.imm⟩,
   ⟨.pshufd, Rows.pshufd, 32, fun o _ => shuffleDwords o.imm⟩,
   ⟨.vpshufd, Rows.vpshufd, 32, fun o _ => shuffleDwords o.imm⟩,
   ⟨.vrcp14pd, Rows.vrcp14pd, 64, fun _ env b j => f64.rcp14 env Config.rcp14d (elem 64 j b)⟩,
   ⟨.vrcp14ps, Rows.vrcp14ps, 32, fun _ env b j => f32.rcp14 env Config.rcp14s (elem 32 j b)⟩,
   ⟨.vrsqrt14pd, Rows.vrsqrt14pd, 64, fun _ env b j => f64.rsqrt14 env Config.rsqrt14d (elem 64 j b)⟩,
   ⟨.vrsqrt14ps, Rows.vrsqrt14ps, 32, fun _ env b j => f32.rsqrt14 env Config.rsqrt14s (elem 32 j b)⟩]

/-- Result elements from the old destination and two sources. -/
structure ThreeSource where
  make : Operands → Instr
  rows : List Row
  w : Nat
  g : Row → Operands → ZWord → ZWord → ZWord → Nat → BitVec w

/-- Two-table permutes, 52-bit multiply-add, ternary logic. -/
noncomputable def threeSourceTable : List ThreeSource :=
  [⟨.vpermi2b, Rows.vpermi2b, 8, fun r o d a b => permute2 8 (r.count o 8) d a b⟩,
   ⟨.vpermi2w, Rows.vpermi2w, 16, fun r o d a b => permute2 16 (r.count o 16) d a b⟩,
   ⟨.vpermi2d, Rows.vpermi2d, 32, fun r o d a b => permute2 32 (r.count o 32) d a b⟩,
   ⟨.vpermi2q, Rows.vpermi2q, 64, fun r o d a b => permute2 64 (r.count o 64) d a b⟩,
   ⟨.vpermi2ps, Rows.vpermi2ps, 32, fun r o d a b => permute2 32 (r.count o 32) d a b⟩,
   ⟨.vpermi2pd, Rows.vpermi2pd, 64, fun r o d a b => permute2 64 (r.count o 64) d a b⟩,
   ⟨.vpermt2b, Rows.vpermt2b, 8, fun r o d a b => permute2 8 (r.count o 8) a d b⟩,
   ⟨.vpermt2w, Rows.vpermt2w, 16, fun r o d a b => permute2 16 (r.count o 16) a d b⟩,
   ⟨.vpermt2d, Rows.vpermt2d, 32, fun r o d a b => permute2 32 (r.count o 32) a d b⟩,
   ⟨.vpermt2q, Rows.vpermt2q, 64, fun r o d a b => permute2 64 (r.count o 64) a d b⟩,
   ⟨.vpermt2ps, Rows.vpermt2ps, 32, fun r o d a b => permute2 32 (r.count o 32) a d b⟩,
   ⟨.vpermt2pd, Rows.vpermt2pd, 64, fun r o d a b => permute2 64 (r.count o 64) a d b⟩,
   ⟨.vpmadd52luq, Rows.vpmadd52luq, 64, fun _ _ d a b j => madd52 false (elem 64 j d) (elem 64 j a) (elem 64 j b)⟩,
   ⟨.vpmadd52huq, Rows.vpmadd52huq, 64, fun _ _ d a b j => madd52 true (elem 64 j d) (elem 64 j a) (elem 64 j b)⟩,
   ⟨.vpternlogd, Rows.vpternlogd, 32, fun _ o a b c j => ternLog o.imm (elem 32 j a) (elem 32 j b) (elem 32 j c)⟩,
   ⟨.vpternlogq, Rows.vpternlogq, 64, fun _ o a b c j => ternLog o.imm (elem 64 j a) (elem 64 j b) (elem 64 j c)⟩]

/-- Elements of width `w` from elements of width `v`. -/
structure Converting where
  make : Operands → Instr
  rows : List Row
  v : Nat
  w : Nat
  f : BitVec v → BitVec w

/-- PMOVSX and PMOVZX (R758). -/
noncomputable def wideningTable : List Converting :=
  [⟨.pmovsxbw, Rows.pmovsxbw, 8, 16, fun x => x.signExtend 16⟩,
   ⟨.vpmovsxbw, Rows.vpmovsxbw, 8, 16, fun x => x.signExtend 16⟩,
   ⟨.pmovsxbd, Rows.pmovsxbd, 8, 32, fun x => x.signExtend 32⟩,
   ⟨.vpmovsxbd, Rows.vpmovsxbd, 8, 32, fun x => x.signExtend 32⟩,
   ⟨.pmovsxbq, Rows.pmovsxbq, 8, 64, fun x => x.signExtend 64⟩,
   ⟨.vpmovsxbq, Rows.vpmovsxbq, 8, 64, fun x => x.signExtend 64⟩,
   ⟨.pmovsxwd, Rows.pmovsxwd, 16, 32, fun x => x.signExtend 32⟩,
   ⟨.vpmovsxwd, Rows.vpmovsxwd, 16, 32, fun x => x.signExtend 32⟩,
   ⟨.pmovsxwq, Rows.pmovsxwq, 16, 64, fun x => x.signExtend 64⟩,
   ⟨.vpmovsxwq, Rows.vpmovsxwq, 16, 64, fun x => x.signExtend 64⟩,
   ⟨.pmovsxdq, Rows.pmovsxdq, 32, 64, fun x => x.signExtend 64⟩,
   ⟨.vpmovsxdq, Rows.vpmovsxdq, 32, 64, fun x => x.signExtend 64⟩,
   ⟨.pmovzxbw, Rows.pmovzxbw, 8, 16, fun x => x.setWidth 16⟩,
   ⟨.vpmovzxbw, Rows.vpmovzxbw, 8, 16, fun x => x.setWidth 16⟩,
   ⟨.pmovzxbd, Rows.pmovzxbd, 8, 32, fun x => x.setWidth 32⟩,
   ⟨.vpmovzxbd, Rows.vpmovzxbd, 8, 32, fun x => x.setWidth 32⟩,
   ⟨.pmovzxbq, Rows.pmovzxbq, 8, 64, fun x => x.setWidth 64⟩,
   ⟨.vpmovzxbq, Rows.vpmovzxbq, 8, 64, fun x => x.setWidth 64⟩,
   ⟨.pmovzxwd, Rows.pmovzxwd, 16, 32, fun x => x.setWidth 32⟩,
   ⟨.vpmovzxwd, Rows.vpmovzxwd, 16, 32, fun x => x.setWidth 32⟩,
   ⟨.pmovzxwq, Rows.pmovzxwq, 16, 64, fun x => x.setWidth 64⟩,
   ⟨.vpmovzxwq, Rows.vpmovzxwq, 16, 64, fun x => x.setWidth 64⟩,
   ⟨.pmovzxdq, Rows.pmovzxdq, 32, 64, fun x => x.setWidth 64⟩,
   ⟨.vpmovzxdq, Rows.vpmovzxdq, 32, 64, fun x => x.setWidth 64⟩]

/-- VPMOV down-conversions (R738). -/
noncomputable def narrowingTable : List Converting :=
  [⟨.vpmovqb, Rows.vpmovqb, 64, 8, fun x => x.setWidth 8⟩,
   ⟨.vpmovsqb, Rows.vpmovsqb, 64, 8, fun x => satS 8 x.toInt⟩,
   ⟨.vpmovusqb, Rows.vpmovusqb, 64, 8, fun x => satU 8 x.toNat⟩,
   ⟨.vpmovqw, Rows.vpmovqw, 64, 16, fun x => x.setWidth 16⟩,
   ⟨.vpmovsqw, Rows.vpmovsqw, 64, 16, fun x => satS 16 x.toInt⟩,
   ⟨.vpmovusqw, Rows.vpmovusqw, 64, 16, fun x => satU 16 x.toNat⟩,
   ⟨.vpmovqd, Rows.vpmovqd, 64, 32, fun x => x.setWidth 32⟩,
   ⟨.vpmovsqd, Rows.vpmovsqd, 64, 32, fun x => satS 32 x.toInt⟩,
   ⟨.vpmovusqd, Rows.vpmovusqd, 64, 32, fun x => satU 32 x.toNat⟩,
   ⟨.vpmovdb, Rows.vpmovdb, 32, 8, fun x => x.setWidth 8⟩,
   ⟨.vpmovsdb, Rows.vpmovsdb, 32, 8, fun x => satS 8 x.toInt⟩,
   ⟨.vpmovusdb, Rows.vpmovusdb, 32, 8, fun x => satU 8 x.toNat⟩,
   ⟨.vpmovdw, Rows.vpmovdw, 32, 16, fun x => x.setWidth 16⟩,
   ⟨.vpmovsdw, Rows.vpmovsdw, 32, 16, fun x => satS 16 x.toInt⟩,
   ⟨.vpmovusdw, Rows.vpmovusdw, 32, 16, fun x => satU 16 x.toNat⟩,
   ⟨.vpmovwb, Rows.vpmovwb, 16, 8, fun x => x.setWidth 8⟩,
   ⟨.vpmovswb, Rows.vpmovswb, 16, 8, fun x => satS 8 x.toInt⟩,
   ⟨.vpmovuswb, Rows.vpmovuswb, 16, 8, fun x => satU 8 x.toNat⟩]

/-- A predicate on elements of two sources. -/
structure Comparing where
  make : Operands → Instr
  rows : List Row
  w : Nat
  p : Operands → BitVec w → BitVec w → Bool

/-- Integer compares and tests. -/
noncomputable def comparingTable : List Comparing :=
  [⟨.pcmpeqb, Rows.pcmpeqb, 8, fun _ a b => a == b⟩,
   ⟨.vpcmpeqb, Rows.vpcmpeqb, 8, fun _ a b => a == b⟩,
   ⟨.pcmpeqw, Rows.pcmpeqw, 16, fun _ a b => a == b⟩,
   ⟨.vpcmpeqw, Rows.vpcmpeqw, 16, fun _ a b => a == b⟩,
   ⟨.pcmpeqd, Rows.pcmpeqd, 32, fun _ a b => a == b⟩,
   ⟨.vpcmpeqd, Rows.vpcmpeqd, 32, fun _ a b => a == b⟩,
   ⟨.pcmpeqq, Rows.pcmpeqq, 64, fun _ a b => a == b⟩,
   ⟨.vpcmpeqq, Rows.vpcmpeqq, 64, fun _ a b => a == b⟩,
   ⟨.pcmpgtb, Rows.pcmpgtb, 8, fun _ a b => b.slt a⟩,
   ⟨.vpcmpgtb, Rows.vpcmpgtb, 8, fun _ a b => b.slt a⟩,
   ⟨.pcmpgtw, Rows.pcmpgtw, 16, fun _ a b => b.slt a⟩,
   ⟨.vpcmpgtw, Rows.vpcmpgtw, 16, fun _ a b => b.slt a⟩,
   ⟨.pcmpgtd, Rows.pcmpgtd, 32, fun _ a b => b.slt a⟩,
   ⟨.vpcmpgtd, Rows.vpcmpgtd, 32, fun _ a b => b.slt a⟩,
   ⟨.pcmpgtq, Rows.pcmpgtq, 64, fun _ a b => b.slt a⟩,
   ⟨.vpcmpgtq, Rows.vpcmpgtq, 64, fun _ a b => b.slt a⟩,
   ⟨.vpcmpb, Rows.vpcmpb, 8, fun o => cmpPred true o.imm⟩,
   ⟨.vpcmpub, Rows.vpcmpub, 8, fun o => cmpPred false o.imm⟩,
   ⟨.vpcmpd, Rows.vpcmpd, 32, fun o => cmpPred true o.imm⟩,
   ⟨.vpcmpud, Rows.vpcmpud, 32, fun o => cmpPred false o.imm⟩,
   ⟨.vpcmpq, Rows.vpcmpq, 64, fun o => cmpPred true o.imm⟩,
   ⟨.vpcmpuq, Rows.vpcmpuq, 64, fun o => cmpPred false o.imm⟩,
   ⟨.vpcmpw, Rows.vpcmpw, 16, fun o => cmpPred true o.imm⟩,
   ⟨.vpcmpuw, Rows.vpcmpuw, 16, fun o => cmpPred false o.imm⟩,
   ⟨.vptestnmb, Rows.vptestnmb, 8, fun _ a b => a &&& b == 0⟩,
   ⟨.vptestnmw, Rows.vptestnmw, 16, fun _ a b => a &&& b == 0⟩,
   ⟨.vptestnmd, Rows.vptestnmd, 32, fun _ a b => a &&& b == 0⟩,
   ⟨.vptestnmq, Rows.vptestnmq, 64, fun _ a b => a &&& b == 0⟩,
   ⟨.vptestmb, Rows.vptestmb, 8, fun _ a b => a &&& b != 0⟩,
   ⟨.vptestmw, Rows.vptestmw, 16, fun _ a b => a &&& b != 0⟩,
   ⟨.vptestmd, Rows.vptestmd, 32, fun _ a b => a &&& b != 0⟩,
   ⟨.vptestmq, Rows.vptestmq, 64, fun _ a b => a &&& b != 0⟩]

/-- A shift of each element by one count. -/
structure Shifting where
  make : Operands → Instr
  rows : List Row
  w : Nat
  f : BitVec w → Nat → BitVec w

/-- Shifts and rotates by one count (R805, R783). -/
noncomputable def uniformShiftTable : List Shifting :=
  [⟨.vprold, Rows.vprold, 32, rol⟩,
   ⟨.vprolq, Rows.vprolq, 64, rol⟩,
   ⟨.vprord, Rows.vprord, 32, ror⟩,
   ⟨.vprorq, Rows.vprorq, 64, ror⟩,
   ⟨.psllw, Rows.psllw, 16, sll⟩,
   ⟨.vpsllw, Rows.vpsllw, 16, sll⟩,
   ⟨.pslld, Rows.pslld, 32, sll⟩,
   ⟨.vpslld, Rows.vpslld, 32, sll⟩,
   ⟨.psllq, Rows.psllq, 64, sll⟩,
   ⟨.vpsllq, Rows.vpsllq, 64, sll⟩,
   ⟨.psraw, Rows.psraw, 16, sra⟩,
   ⟨.vpsraw, Rows.vpsraw, 16, sra⟩,
   ⟨.psrad, Rows.psrad, 32, sra⟩,
   ⟨.vpsrad, Rows.vpsrad, 32, sra⟩,
   ⟨.vpsraq, Rows.vpsraq, 64, sra⟩,
   ⟨.psrlw, Rows.psrlw, 16, srl⟩,
   ⟨.vpsrlw, Rows.vpsrlw, 16, srl⟩,
   ⟨.psrld, Rows.psrld, 32, srl⟩,
   ⟨.vpsrld, Rows.vpsrld, 32, srl⟩,
   ⟨.psrlq, Rows.psrlq, 64, srl⟩,
   ⟨.vpsrlq, Rows.vpsrlq, 64, srl⟩]

/-- A shift of each 128-bit lane by bytes. -/
structure ByteShifting where
  make : Operands → Instr
  rows : List Row
  f : Operands → ZWord → Nat → BitVec 8

/-- PSLLDQ and PSRLDQ (R804, R812). -/
noncomputable def laneShiftTable : List ByteShifting :=
  [⟨.pslldq, Rows.pslldq, fun o => shiftLaneLeft o.imm⟩,
   ⟨.vpslldq, Rows.vpslldq, fun o => shiftLaneLeft o.imm⟩,
   ⟨.psrldq, Rows.psrldq, fun o => shiftLaneRight o.imm⟩,
   ⟨.vpsrldq, Rows.vpsrldq, fun o => shiftLaneRight o.imm⟩]

/-- A width and a block: the elements of a tuple, or the bits of a block. -/
structure Blockwise where
  make : Operands → Instr
  rows : List Row
  w : Nat
  n : Nat

/-- Broadcasts: element width and elements of the tuple (R332 to R334). -/
noncomputable def broadcastTable : List Blockwise :=
  [⟨.vbroadcastss, Rows.vbroadcastss, 32, 1⟩,
   ⟨.vbroadcastsd, Rows.vbroadcastsd, 64, 1⟩,
   ⟨.vbroadcastf128, Rows.vbroadcastf128, 128, 1⟩,
   ⟨.vbroadcastf32x2, Rows.vbroadcastf32x2, 32, 2⟩,
   ⟨.vbroadcastf32x4, Rows.vbroadcastf32x4, 32, 4⟩,
   ⟨.vbroadcastf64x2, Rows.vbroadcastf64x2, 64, 2⟩,
   ⟨.vbroadcastf32x8, Rows.vbroadcastf32x8, 32, 8⟩,
   ⟨.vbroadcastf64x4, Rows.vbroadcastf64x4, 64, 4⟩,
   ⟨.vpbroadcastb, Rows.vpbroadcastb, 8, 1⟩,
   ⟨.vpbroadcastw, Rows.vpbroadcastw, 16, 1⟩,
   ⟨.vpbroadcastd, Rows.vpbroadcastd, 32, 1⟩,
   ⟨.vpbroadcastq, Rows.vpbroadcastq, 64, 1⟩,
   ⟨.vbroadcasti32x2, Rows.vbroadcasti32x2, 32, 2⟩,
   ⟨.vbroadcasti128, Rows.vbroadcasti128, 128, 1⟩,
   ⟨.vbroadcasti32x4, Rows.vbroadcasti32x4, 32, 4⟩,
   ⟨.vbroadcasti64x2, Rows.vbroadcasti64x2, 64, 2⟩,
   ⟨.vbroadcasti32x8, Rows.vbroadcasti32x8, 32, 8⟩,
   ⟨.vbroadcasti64x4, Rows.vbroadcasti64x4, 64, 4⟩]

/-- VINSERT: element width and bits of the block (R524, R525). -/
noncomputable def insertBlockTable : List Blockwise :=
  [⟨.vinsertf128, Rows.vinsertf128, 64, 128⟩,
   ⟨.vinsertf32x4, Rows.vinsertf32x4, 32, 128⟩,
   ⟨.vinsertf64x2, Rows.vinsertf64x2, 64, 128⟩,
   ⟨.vinsertf32x8, Rows.vinsertf32x8, 32, 256⟩,
   ⟨.vinsertf64x4, Rows.vinsertf64x4, 64, 256⟩,
   ⟨.vinserti128, Rows.vinserti128, 64, 128⟩,
   ⟨.vinserti32x4, Rows.vinserti32x4, 32, 128⟩,
   ⟨.vinserti64x2, Rows.vinserti64x2, 64, 128⟩,
   ⟨.vinserti32x8, Rows.vinserti32x8, 32, 256⟩,
   ⟨.vinserti64x4, Rows.vinserti64x4, 64, 256⟩]

/-- VEXTRACT: element width and bits of the block (R421, R422). -/
noncomputable def extractBlockTable : List Blockwise :=
  [⟨.vextractf128, Rows.vextractf128, 64, 128⟩,
   ⟨.vextractf32x4, Rows.vextractf32x4, 32, 128⟩,
   ⟨.vextractf32x4z, Rows.vextractf32x4z, 32, 128⟩,
   ⟨.vextractf64x2, Rows.vextractf64x2, 64, 128⟩,
   ⟨.vextractf32x8, Rows.vextractf32x8, 32, 256⟩,
   ⟨.vextractf64x4z, Rows.vextractf64x4z, 64, 256⟩,
   ⟨.vextracti128, Rows.vextracti128, 64, 128⟩,
   ⟨.vextracti32x4, Rows.vextracti32x4, 32, 128⟩,
   ⟨.vextracti32x4z, Rows.vextracti32x4z, 32, 128⟩,
   ⟨.vextracti64x2, Rows.vextracti64x2, 64, 128⟩,
   ⟨.vextracti32x8, Rows.vextracti32x8, 32, 256⟩,
   ⟨.vextracti64x4z, Rows.vextracti64x4z, 64, 256⟩]

/-- Gathers: data and index width (R505). -/
noncomputable def gatherTable : List Blockwise :=
  [⟨.vpgatherdd, Rows.vpgatherdd, 32, 32⟩,
   ⟨.vpgatherdq, Rows.vpgatherdq, 64, 32⟩,
   ⟨.vpgatherqd, Rows.vpgatherqd, 32, 64⟩,
   ⟨.vpgatherqq, Rows.vpgatherqq, 64, 64⟩,
   ⟨.vgatherdps, Rows.vgatherdps, 32, 32⟩,
   ⟨.vgatherdpd, Rows.vgatherdpd, 64, 32⟩,
   ⟨.vgatherqps, Rows.vgatherqps, 32, 64⟩,
   ⟨.vgatherqpd, Rows.vgatherqpd, 64, 64⟩]

/-- Scatters: data and index width (R792). -/
noncomputable def scatterTable : List Blockwise :=
  [⟨.vpscatterdd, Rows.vpscatterdd, 32, 32⟩,
   ⟨.vpscatterdq, Rows.vpscatterdq, 64, 32⟩,
   ⟨.vpscatterqd, Rows.vpscatterqd, 32, 64⟩,
   ⟨.vpscatterqq, Rows.vpscatterqq, 64, 64⟩,
   ⟨.vscatterdps, Rows.vscatterdps, 32, 32⟩,
   ⟨.vscatterdpd, Rows.vscatterdpd, 64, 32⟩,
   ⟨.vscatterqps, Rows.vscatterqps, 32, 64⟩,
   ⟨.vscatterqpd, Rows.vscatterqpd, 64, 64⟩]

/-- A whole-register move, non-temporal or not. -/
structure Moving where
  make : Operands → Instr
  rows : List Row
  nt : Bool
  w : Nat

/-- Whole-register moves (R549). -/
noncomputable def moveFullTable : List Moving :=
  [⟨.movapd, Rows.movapd, false, 64⟩,
   ⟨.vmovapd, Rows.vmovapd, false, 64⟩,
   ⟨.movaps, Rows.movaps, false, 32⟩,
   ⟨.vmovaps, Rows.vmovaps, false, 32⟩,
   ⟨.movdqa, Rows.movdqa, false, 64⟩,
   ⟨.vmovdqa, Rows.vmovdqa, false, 64⟩,
   ⟨.vmovdqa32, Rows.vmovdqa32, false, 32⟩,
   ⟨.vmovdqa64, Rows.vmovdqa64, false, 64⟩,
   ⟨.movdqu, Rows.movdqu, false, 64⟩,
   ⟨.vmovdqu, Rows.vmovdqu, false, 64⟩,
   ⟨.vmovdqu8, Rows.vmovdqu8, false, 8⟩,
   ⟨.vmovdqu16, Rows.vmovdqu16, false, 16⟩,
   ⟨.vmovdqu32, Rows.vmovdqu32, false, 32⟩,
   ⟨.vmovdqu64, Rows.vmovdqu64, false, 64⟩,
   ⟨.movntdqa, Rows.movntdqa, false, 64⟩,
   ⟨.vmovntdqa, Rows.vmovntdqa, false, 64⟩,
   ⟨.movntdq, Rows.movntdq, true, 64⟩,
   ⟨.vmovntdq, Rows.vmovntdq, true, 64⟩,
   ⟨.movntpd, Rows.movntpd, true, 64⟩,
   ⟨.vmovntpd, Rows.vmovntpd, true, 64⟩,
   ⟨.movntps, Rows.movntps, true, 32⟩,
   ⟨.vmovntps, Rows.vmovntps, true, 32⟩,
   ⟨.movupd, Rows.movupd, false, 64⟩,
   ⟨.vmovupd, Rows.vmovupd, false, 64⟩,
   ⟨.movups, Rows.movups, false, 32⟩,
   ⟨.vmovups, Rows.vmovups, false, 32⟩]

/-- Elements from the bits of an opmask register. -/
structure FromMask where
  make : Operands → Instr
  rows : List Row
  w : Nat
  f : KWord → Nat → BitVec w

/-- VPMOVM2* and VPBROADCASTM (R635, R636, R730 to R733). -/
noncomputable def fromMaskTable : List FromMask :=
  [⟨.vpbroadcastmb2q, Rows.vpbroadcastmb2q, 64, fun k _ => k &&& 0xFF⟩,
   ⟨.vpbroadcastmw2d, Rows.vpbroadcastmw2d, 32, fun k _ => k.setWidth 32 &&& 0xFFFF⟩,
   ⟨.vpmovm2b, Rows.vpmovm2b, 8, fun k j => boolMask 8 (k.getLsbD j)⟩,
   ⟨.vpmovm2w, Rows.vpmovm2w, 16, fun k j => boolMask 16 (k.getLsbD j)⟩,
   ⟨.vpmovm2d, Rows.vpmovm2d, 32, fun k j => boolMask 32 (k.getLsbD j)⟩,
   ⟨.vpmovm2q, Rows.vpmovm2q, 64, fun k j => boolMask 64 (k.getLsbD j)⟩]

/-- A floating-point function of two operands. -/
structure FpTwo where
  make : Operands → Instr
  rows : List Row
  w : Nat
  op : Operands → FpEnv → BitVec w → BitVec w → FpRes w

/-- Packed floating-point operations. -/
noncomputable def fpPackedTable : List FpTwo :=
  [⟨.addpd, Rows.addpd, 64, fun _ => f64.add⟩,
   ⟨.vaddpd, Rows.vaddpd, 64, fun _ => f64.add⟩,
   ⟨.addps, Rows.addps, 32, fun _ => f32.add⟩,
   ⟨.vaddps, Rows.vaddps, 32, fun _ => f32.add⟩,
   ⟨.divpd, Rows.divpd, 64, fun _ => f64.div⟩,
   ⟨.vdivpd, Rows.vdivpd, 64, fun _ => f64.div⟩,
   ⟨.divps, Rows.divps, 32, fun _ => f32.div⟩,
   ⟨.vdivps, Rows.vdivps, 32, fun _ => f32.div⟩,
   ⟨.vgetexppd, Rows.vgetexppd, 64, fun _ env _ b => f64.getExp env b⟩,
   ⟨.vgetexpps, Rows.vgetexpps, 32, fun _ env _ b => f32.getExp env b⟩,
   ⟨.vgetmantpd, Rows.vgetmantpd, 64, fun o env _ b => f64.getMant env o.imm b⟩,
   ⟨.vgetmantps, Rows.vgetmantps, 32, fun o env _ b => f32.getMant env o.imm b⟩,
   ⟨.maxpd, Rows.maxpd, 64, fun _ => f64.minMax true⟩,
   ⟨.vmaxpd, Rows.vmaxpd, 64, fun _ => f64.minMax true⟩,
   ⟨.maxps, Rows.maxps, 32, fun _ => f32.minMax true⟩,
   ⟨.vmaxps, Rows.vmaxps, 32, fun _ => f32.minMax true⟩,
   ⟨.minpd, Rows.minpd, 64, fun _ => f64.minMax false⟩,
   ⟨.vminpd, Rows.vminpd, 64, fun _ => f64.minMax false⟩,
   ⟨.minps, Rows.minps, 32, fun _ => f32.minMax false⟩,
   ⟨.vminps, Rows.vminps, 32, fun _ => f32.minMax false⟩,
   ⟨.mulpd, Rows.mulpd, 64, fun _ => f64.mul⟩,
   ⟨.vmulpd, Rows.vmulpd, 64, fun _ => f64.mul⟩,
   ⟨.mulps, Rows.mulps, 32, fun _ => f32.mul⟩,
   ⟨.vmulps, Rows.vmulps, 32, fun _ => f32.mul⟩,
   ⟨.sqrtpd, Rows.sqrtpd, 64, fun _ env _ b => f64.sqrt env b⟩,
   ⟨.vsqrtpd, Rows.vsqrtpd, 64, fun _ env _ b => f64.sqrt env b⟩,
   ⟨.sqrtps, Rows.sqrtps, 32, fun _ env _ b => f32.sqrt env b⟩,
   ⟨.vsqrtps, Rows.vsqrtps, 32, fun _ env _ b => f32.sqrt env b⟩,
   ⟨.vrangepd, Rows.vrangepd, 64, fun o env => f64.range env o.imm⟩,
   ⟨.vrangeps, Rows.vrangeps, 32, fun o env => f32.range env o.imm⟩,
   ⟨.vreducepd, Rows.vreducepd, 64, fun o env _ b => f64.reduce env o.imm b⟩,
   ⟨.vreduceps, Rows.vreduceps, 32, fun o env _ b => f32.reduce env o.imm b⟩,
   ⟨.vrndscalepd, Rows.vrndscalepd, 64, fun o env _ b => f64.rndScale env o.imm b⟩,
   ⟨.vrndscaleps, Rows.vrndscaleps, 32, fun o env _ b => f32.rndScale env o.imm b⟩,
   ⟨.vscalefpd, Rows.vscalefpd, 64, fun _ => f64.scale⟩,
   ⟨.vscalefps, Rows.vscalefps, 32, fun _ => f32.scale⟩,
   ⟨.subpd, Rows.subpd, 64, fun _ => f64.sub⟩,
   ⟨.vsubpd, Rows.vsubpd, 64, fun _ => f64.sub⟩,
   ⟨.subps, Rows.subps, 32, fun _ => f32.sub⟩,
   ⟨.vsubps, Rows.vsubps, 32, fun _ => f32.sub⟩] ++
  [⟨.vexp2pd, Rows.vexp2pd, 64, fun _ env _ b => f64.exp2 env.rc Config.exp2d b⟩,
   ⟨.vexp2ps, Rows.vexp2ps, 32, fun _ env _ b => f32.exp2 env.rc Config.exp2s b⟩,
   ⟨.vrcp28pd, Rows.vrcp28pd, 64, fun _ _ _ b => f64.rcp28 Config.rcp28d b⟩,
   ⟨.vrcp28ps, Rows.vrcp28ps, 32, fun _ _ _ b => f32.rcp28 Config.rcp28s b⟩,
   ⟨.vrsqrt28pd, Rows.vrsqrt28pd, 64, fun _ _ _ b => f64.rsqrt28 Config.rsqrt28d b⟩,
   ⟨.vrsqrt28ps, Rows.vrsqrt28ps, 32, fun _ _ _ b => f32.rsqrt28 Config.rsqrt28s b⟩]

/-- Scalar floating-point operations. -/
noncomputable def fpScalarTable : List FpTwo :=
  [⟨.addsd, Rows.addsd, 64, fun _ => f64.add⟩,
   ⟨.vaddsd, Rows.vaddsd, 64, fun _ => f64.add⟩,
   ⟨.addss, Rows.addss, 32, fun _ => f32.add⟩,
   ⟨.vaddss, Rows.vaddss, 32, fun _ => f32.add⟩,
   ⟨.divsd, Rows.divsd, 64, fun _ => f64.div⟩,
   ⟨.vdivsd, Rows.vdivsd, 64, fun _ => f64.div⟩,
   ⟨.divss, Rows.divss, 32, fun _ => f32.div⟩,
   ⟨.vdivss, Rows.vdivss, 32, fun _ => f32.div⟩,
   ⟨.vgetexpsd, Rows.vgetexpsd, 64, fun _ env _ b => f64.getExp env b⟩,
   ⟨.vgetexpss, Rows.vgetexpss, 32, fun _ env _ b => f32.getExp env b⟩,
   ⟨.vgetmantsd, Rows.vgetmantsd, 64, fun o env _ b => f64.getMant env o.imm b⟩,
   ⟨.vgetmantss, Rows.vgetmantss, 32, fun o env _ b => f32.getMant env o.imm b⟩,
   ⟨.maxsd, Rows.maxsd, 64, fun _ => f64.minMax true⟩,
   ⟨.vmaxsd, Rows.vmaxsd, 64, fun _ => f64.minMax true⟩,
   ⟨.maxss, Rows.maxss, 32, fun _ => f32.minMax true⟩,
   ⟨.vmaxss, Rows.vmaxss, 32, fun _ => f32.minMax true⟩,
   ⟨.minsd, Rows.minsd, 64, fun _ => f64.minMax false⟩,
   ⟨.vminsd, Rows.vminsd, 64, fun _ => f64.minMax false⟩,
   ⟨.minss, Rows.minss, 32, fun _ => f32.minMax false⟩,
   ⟨.vminss, Rows.vminss, 32, fun _ => f32.minMax false⟩,
   ⟨.mulsd, Rows.mulsd, 64, fun _ => f64.mul⟩,
   ⟨.vmulsd, Rows.vmulsd, 64, fun _ => f64.mul⟩,
   ⟨.mulss, Rows.mulss, 32, fun _ => f32.mul⟩,
   ⟨.vmulss, Rows.vmulss, 32, fun _ => f32.mul⟩,
   ⟨.sqrtsd, Rows.sqrtsd, 64, fun _ env _ b => f64.sqrt env b⟩,
   ⟨.vsqrtsd, Rows.vsqrtsd, 64, fun _ env _ b => f64.sqrt env b⟩,
   ⟨.sqrtss, Rows.sqrtss, 32, fun _ env _ b => f32.sqrt env b⟩,
   ⟨.vsqrtss, Rows.vsqrtss, 32, fun _ env _ b => f32.sqrt env b⟩,
   ⟨.vrangesd, Rows.vrangesd, 64, fun o env => f64.range env o.imm⟩,
   ⟨.vrangess, Rows.vrangess, 32, fun o env => f32.range env o.imm⟩,
   ⟨.vreducesd, Rows.vreducesd, 64, fun o env _ b => f64.reduce env o.imm b⟩,
   ⟨.vreducess, Rows.vreducess, 32, fun o env _ b => f32.reduce env o.imm b⟩,
   ⟨.vrndscalesd, Rows.vrndscalesd, 64, fun o env _ b => f64.rndScale env o.imm b⟩,
   ⟨.vrndscaless, Rows.vrndscaless, 32, fun o env _ b => f32.rndScale env o.imm b⟩,
   ⟨.vscalefsd, Rows.vscalefsd, 64, fun _ => f64.scale⟩,
   ⟨.vscalefss, Rows.vscalefss, 32, fun _ => f32.scale⟩,
   ⟨.subsd, Rows.subsd, 64, fun _ => f64.sub⟩,
   ⟨.vsubsd, Rows.vsubsd, 64, fun _ => f64.sub⟩,
   ⟨.subss, Rows.subss, 32, fun _ => f32.sub⟩,
   ⟨.vsubss, Rows.vsubss, 32, fun _ => f32.sub⟩] ++
  [⟨.vrcp28sd, Rows.vrcp28sd, 64, fun _ _ _ b => f64.rcp28 Config.rcp28d b⟩,
   ⟨.vrcp28ss, Rows.vrcp28ss, 32, fun _ _ _ b => f32.rcp28 Config.rcp28s b⟩,
   ⟨.vrsqrt28sd, Rows.vrsqrt28sd, 64, fun _ _ _ b => f64.rsqrt28 Config.rsqrt28d b⟩,
   ⟨.vrsqrt28ss, Rows.vrsqrt28ss, 32, fun _ _ _ b => f32.rsqrt28 Config.rsqrt28s b⟩]

/-- A conversion to or from a floating-point format. -/
structure FpConvert where
  make : Operands → Instr
  rows : List Row
  v : Nat
  w : Nat
  op : FpEnv → BitVec v → FpRes w

/-- Packed conversions (R360). -/
noncomputable def fpConvertTable : List FpConvert :=
  [⟨.cvtdq2pd, Rows.cvtdq2pd, 32, 64, fun env x => f64.ofInteger env x.toInt⟩,
   ⟨.vcvtdq2pd, Rows.vcvtdq2pd, 32, 64, fun env x => f64.ofInteger env x.toInt⟩,
   ⟨.cvtdq2ps, Rows.cvtdq2ps, 32, 32, fun env x => f32.ofInteger env x.toInt⟩,
   ⟨.vcvtdq2ps, Rows.vcvtdq2ps, 32, 32, fun env x => f32.ofInteger env x.toInt⟩,
   ⟨.cvtpd2dq, Rows.cvtpd2dq, 64, 32, fun env x => f64.toInteger env false true 32 x⟩,
   ⟨.vcvtpd2dq, Rows.vcvtpd2dq, 64, 32, fun env x => f64.toInteger env false true 32 x⟩,
   ⟨.cvtpd2ps, Rows.cvtpd2ps, 64, 32, fun env => f64.convert f32 env true⟩,
   ⟨.vcvtpd2ps, Rows.vcvtpd2ps, 64, 32, fun env => f64.convert f32 env true⟩,
   ⟨.vcvtpd2qq, Rows.vcvtpd2qq, 64, 64, fun env x => f64.toInteger env false true 64 x⟩,
   ⟨.vcvtpd2udq, Rows.vcvtpd2udq, 64, 32, fun env x => f64.toInteger env false false 32 x⟩,
   ⟨.vcvtpd2uqq, Rows.vcvtpd2uqq, 64, 64, fun env x => f64.toInteger env false false 64 x⟩,
   ⟨.vcvtph2ps, Rows.vcvtph2ps, 16, 32, fun env => f16.convert f32 { env with daz := false } false⟩,
   ⟨.cvtps2dq, Rows.cvtps2dq, 32, 32, fun env x => f32.toInteger env false true 32 x⟩,
   ⟨.vcvtps2dq, Rows.vcvtps2dq, 32, 32, fun env x => f32.toInteger env false true 32 x⟩,
   ⟨.vcvtps2udq, Rows.vcvtps2udq, 32, 32, fun env x => f32.toInteger env false false 32 x⟩,
   ⟨.vcvtps2qq, Rows.vcvtps2qq, 32, 64, fun env x => f32.toInteger env false true 64 x⟩,
   ⟨.vcvtps2uqq, Rows.vcvtps2uqq, 32, 64, fun env x => f32.toInteger env false false 64 x⟩,
   ⟨.cvtps2pd, Rows.cvtps2pd, 32, 64, fun env => f32.convert f64 env true⟩,
   ⟨.vcvtps2pd, Rows.vcvtps2pd, 32, 64, fun env => f32.convert f64 env true⟩,
   ⟨.vcvtqq2pd, Rows.vcvtqq2pd, 64, 64, fun env x => f64.ofInteger env x.toInt⟩,
   ⟨.vcvtqq2ps, Rows.vcvtqq2ps, 64, 32, fun env x => f32.ofInteger env x.toInt⟩,
   ⟨.cvttpd2dq, Rows.cvttpd2dq, 64, 32, fun env x => f64.toInteger env true true 32 x⟩,
   ⟨.vcvttpd2dq, Rows.vcvttpd2dq, 64, 32, fun env x => f64.toInteger env true true 32 x⟩,
   ⟨.vcvttpd2qq, Rows.vcvttpd2qq, 64, 64, fun env x => f64.toInteger env true true 64 x⟩,
   ⟨.vcvttpd2udq, Rows.vcvttpd2udq, 64, 32, fun env x => f64.toInteger env true false 32 x⟩,
   ⟨.vcvttpd2uqq, Rows.vcvttpd2uqq, 64, 64, fun env x => f64.toInteger env true false 64 x⟩,
   ⟨.cvttps2dq, Rows.cvttps2dq, 32, 32, fun env x => f32.toInteger env true true 32 x⟩,
   ⟨.vcvttps2dq, Rows.vcvttps2dq, 32, 32, fun env x => f32.toInteger env true true 32 x⟩,
   ⟨.vcvttps2udq, Rows.vcvttps2udq, 32, 32, fun env x => f32.toInteger env true false 32 x⟩,
   ⟨.vcvttps2qq, Rows.vcvttps2qq, 32, 64, fun env x => f32.toInteger env true true 64 x⟩,
   ⟨.vcvttps2uqq, Rows.vcvttps2uqq, 32, 64, fun env x => f32.toInteger env true false 64 x⟩,
   ⟨.vcvtudq2pd, Rows.vcvtudq2pd, 32, 64, fun env x => f64.ofInteger env x.toNat⟩,
   ⟨.vcvtudq2ps, Rows.vcvtudq2ps, 32, 32, fun env x => f32.ofInteger env x.toNat⟩,
   ⟨.vcvtuqq2pd, Rows.vcvtuqq2pd, 64, 64, fun env x => f64.ofInteger env x.toNat⟩,
   ⟨.vcvtuqq2ps, Rows.vcvtuqq2ps, 64, 32, fun env x => f32.ofInteger env x.toNat⟩]

/-- Scalar conversions between formats (R380, R383). -/
noncomputable def fpConvertScalarTable : List FpConvert :=
  [⟨.cvtsd2ss, Rows.cvtsd2ss, 64, 32, fun env => f64.convert f32 env true⟩,
   ⟨.vcvtsd2ss, Rows.vcvtsd2ss, 64, 32, fun env => f64.convert f32 env true⟩,
   ⟨.cvtss2sd, Rows.cvtss2sd, 32, 64, fun env => f32.convert f64 env true⟩,
   ⟨.vcvtss2sd, Rows.vcvtss2sd, 32, 64, fun env => f32.convert f64 env true⟩]

/-- An approximation. -/
structure FpApprox where
  make : Operands → Instr
  rows : List Row
  w : Nat
  f : FpEnv → BitVec w → BitVec w

/-- VRCP14 and VRSQRT14 on the low element (R905, R920). -/
noncomputable def approxScalarTable : List FpApprox :=
  [⟨.vrcp14sd, Rows.vrcp14sd, 64, fun env x => f64.rcp14 env Config.rcp14d x⟩,
   ⟨.vrcp14ss, Rows.vrcp14ss, 32, fun env x => f32.rcp14 env Config.rcp14s x⟩,
   ⟨.vrsqrt14sd, Rows.vrsqrt14sd, 64, fun env x => f64.rsqrt14 env Config.rsqrt14d x⟩,
   ⟨.vrsqrt14ss, Rows.vrsqrt14ss, 32, fun env x => f32.rsqrt14 env Config.rsqrt14s x⟩]

/-- A fused multiply-add. -/
structure Fma where
  make : Operands → Instr
  rows : List Row
  w : Nat
  F : Fmt w
  form : FmaForm
  negProd : Bool
  negAdd : Nat → Bool

/-- Packed fused multiply-add (R430 to R432). -/
noncomputable def fmaVecTable : List Fma :=
  [⟨.vfmadd132pd, Rows.vfmadd132pd, 64, f64, .f132, false, fun _ => false⟩,
   ⟨.vfmadd213pd, Rows.vfmadd213pd, 64, f64, .f213, false, fun _ => false⟩,
   ⟨.vfmadd231pd, Rows.vfmadd231pd, 64, f64, .f231, false, fun _ => false⟩,
   ⟨.vfmadd132ps, Rows.vfmadd132ps, 32, f32, .f132, false, fun _ => false⟩,
   ⟨.vfmadd213ps, Rows.vfmadd213ps, 32, f32, .f213, false, fun _ => false⟩,
   ⟨.vfmadd231ps, Rows.vfmadd231ps, 32, f32, .f231, false, fun _ => false⟩,
   ⟨.vfmaddsub132pd, Rows.vfmaddsub132pd, 64, f64, .f132, false, fun j => j % 2 == 0⟩,
   ⟨.vfmaddsub213pd, Rows.vfmaddsub213pd, 64, f64, .f213, false, fun j => j % 2 == 0⟩,
   ⟨.vfmaddsub231pd, Rows.vfmaddsub231pd, 64, f64, .f231, false, fun j => j % 2 == 0⟩,
   ⟨.vfmaddsub132ps, Rows.vfmaddsub132ps, 32, f32, .f132, false, fun j => j % 2 == 0⟩,
   ⟨.vfmaddsub213ps, Rows.vfmaddsub213ps, 32, f32, .f213, false, fun j => j % 2 == 0⟩,
   ⟨.vfmaddsub231ps, Rows.vfmaddsub231ps, 32, f32, .f231, false, fun j => j % 2 == 0⟩,
   ⟨.vfmsubadd132pd, Rows.vfmsubadd132pd, 64, f64, .f132, false, fun j => j % 2 == 1⟩,
   ⟨.vfmsubadd213pd, Rows.vfmsubadd213pd, 64, f64, .f213, false, fun j => j % 2 == 1⟩,
   ⟨.vfmsubadd231pd, Rows.vfmsubadd231pd, 64, f64, .f231, false, fun j => j % 2 == 1⟩,
   ⟨.vfmsubadd132ps, Rows.vfmsubadd132ps, 32, f32, .f132, false, fun j => j % 2 == 1⟩,
   ⟨.vfmsubadd213ps, Rows.vfmsubadd213ps, 32, f32, .f213, false, fun j => j % 2 == 1⟩,
   ⟨.vfmsubadd231ps, Rows.vfmsubadd231ps, 32, f32, .f231, false, fun j => j % 2 == 1⟩,
   ⟨.vfmsub132pd, Rows.vfmsub132pd, 64, f64, .f132, false, fun _ => true⟩,
   ⟨.vfmsub213pd, Rows.vfmsub213pd, 64, f64, .f213, false, fun _ => true⟩,
   ⟨.vfmsub231pd, Rows.vfmsub231pd, 64, f64, .f231, false, fun _ => true⟩,
   ⟨.vfmsub132ps, Rows.vfmsub132ps, 32, f32, .f132, false, fun _ => true⟩,
   ⟨.vfmsub213ps, Rows.vfmsub213ps, 32, f32, .f213, false, fun _ => true⟩,
   ⟨.vfmsub231ps, Rows.vfmsub231ps, 32, f32, .f231, false, fun _ => true⟩,
   ⟨.vfnmadd132pd, Rows.vfnmadd132pd, 64, f64, .f132, true, fun _ => false⟩,
   ⟨.vfnmadd213pd, Rows.vfnmadd213pd, 64, f64, .f213, true, fun _ => false⟩,
   ⟨.vfnmadd231pd, Rows.vfnmadd231pd, 64, f64, .f231, true, fun _ => false⟩,
   ⟨.vfnmadd132ps, Rows.vfnmadd132ps, 32, f32, .f132, true, fun _ => false⟩,
   ⟨.vfnmadd213ps, Rows.vfnmadd213ps, 32, f32, .f213, true, fun _ => false⟩,
   ⟨.vfnmadd231ps, Rows.vfnmadd231ps, 32, f32, .f231, true, fun _ => false⟩,
   ⟨.vfnmsub132pd, Rows.vfnmsub132pd, 64, f64, .f132, true, fun _ => true⟩,
   ⟨.vfnmsub213pd, Rows.vfnmsub213pd, 64, f64, .f213, true, fun _ => true⟩,
   ⟨.vfnmsub231pd, Rows.vfnmsub231pd, 64, f64, .f231, true, fun _ => true⟩,
   ⟨.vfnmsub132ps, Rows.vfnmsub132ps, 32, f32, .f132, true, fun _ => true⟩,
   ⟨.vfnmsub213ps, Rows.vfnmsub213ps, 32, f32, .f213, true, fun _ => true⟩,
   ⟨.vfnmsub231ps, Rows.vfnmsub231ps, 32, f32, .f231, true, fun _ => true⟩]

/-- Scalar fused multiply-add. -/
noncomputable def fmaScalarTable : List Fma :=
  [⟨.vfmadd132sd, Rows.vfmadd132sd, 64, f64, .f132, false, fun _ => false⟩,
   ⟨.vfmadd213sd, Rows.vfmadd213sd, 64, f64, .f213, false, fun _ => false⟩,
   ⟨.vfmadd231sd, Rows.vfmadd231sd, 64, f64, .f231, false, fun _ => false⟩,
   ⟨.vfmadd132ss, Rows.vfmadd132ss, 32, f32, .f132, false, fun _ => false⟩,
   ⟨.vfmadd213ss, Rows.vfmadd213ss, 32, f32, .f213, false, fun _ => false⟩,
   ⟨.vfmadd231ss, Rows.vfmadd231ss, 32, f32, .f231, false, fun _ => false⟩,
   ⟨.vfmsub132sd, Rows.vfmsub132sd, 64, f64, .f132, false, fun _ => true⟩,
   ⟨.vfmsub213sd, Rows.vfmsub213sd, 64, f64, .f213, false, fun _ => true⟩,
   ⟨.vfmsub231sd, Rows.vfmsub231sd, 64, f64, .f231, false, fun _ => true⟩,
   ⟨.vfmsub132ss, Rows.vfmsub132ss, 32, f32, .f132, false, fun _ => true⟩,
   ⟨.vfmsub213ss, Rows.vfmsub213ss, 32, f32, .f213, false, fun _ => true⟩,
   ⟨.vfmsub231ss, Rows.vfmsub231ss, 32, f32, .f231, false, fun _ => true⟩,
   ⟨.vfnmadd132sd, Rows.vfnmadd132sd, 64, f64, .f132, true, fun _ => false⟩,
   ⟨.vfnmadd213sd, Rows.vfnmadd213sd, 64, f64, .f213, true, fun _ => false⟩,
   ⟨.vfnmadd231sd, Rows.vfnmadd231sd, 64, f64, .f231, true, fun _ => false⟩,
   ⟨.vfnmadd132ss, Rows.vfnmadd132ss, 32, f32, .f132, true, fun _ => false⟩,
   ⟨.vfnmadd213ss, Rows.vfnmadd213ss, 32, f32, .f213, true, fun _ => false⟩,
   ⟨.vfnmadd231ss, Rows.vfnmadd231ss, 32, f32, .f231, true, fun _ => false⟩,
   ⟨.vfnmsub132sd, Rows.vfnmsub132sd, 64, f64, .f132, true, fun _ => true⟩,
   ⟨.vfnmsub213sd, Rows.vfnmsub213sd, 64, f64, .f213, true, fun _ => true⟩,
   ⟨.vfnmsub231sd, Rows.vfnmsub231sd, 64, f64, .f231, true, fun _ => true⟩,
   ⟨.vfnmsub132ss, Rows.vfnmsub132ss, 32, f32, .f132, true, fun _ => true⟩,
   ⟨.vfnmsub213ss, Rows.vfnmsub213ss, 32, f32, .f213, true, fun _ => true⟩,
   ⟨.vfnmsub231ss, Rows.vfnmsub231ss, 32, f32, .f231, true, fun _ => true⟩]

/-- An instruction on one floating-point format. -/
structure OfFormat where
  make : Operands → Instr
  rows : List Row
  w : Nat
  F : Fmt w

/-- CMPPD and CMPPS (R342, R343). -/
noncomputable def fpCompareVecTable : List OfFormat :=
  [⟨.cmppd, Rows.cmppd, 64, f64⟩,
   ⟨.vcmppd, Rows.vcmppd, 64, f64⟩,
   ⟨.cmpps, Rows.cmpps, 32, f32⟩,
   ⟨.vcmpps, Rows.vcmpps, 32, f32⟩]

/-- CMPSD and CMPSS (R344, R345). -/
noncomputable def fpCompareScalarTable : List OfFormat :=
  [⟨.cmpsd, Rows.cmpsd, 64, f64⟩,
   ⟨.vcmpsd, Rows.vcmpsd, 64, f64⟩,
   ⟨.cmpss, Rows.cmpss, 32, f32⟩,
   ⟨.vcmpss, Rows.vcmpss, 32, f32⟩]

/-- VFIXUPIMMPD and VFIXUPIMMPS (R424 to R426). -/
noncomputable def fixupVecTable : List OfFormat :=
  [⟨.vfixupimmpd, Rows.vfixupimmpd, 64, f64⟩,
   ⟨.vfixupimmps, Rows.vfixupimmps, 32, f32⟩]

/-- VFIXUPIMMSD and VFIXUPIMMSS (R427, R428). -/
noncomputable def fixupScalarTable : List OfFormat :=
  [⟨.vfixupimmsd, Rows.vfixupimmsd, 64, f64⟩,
   ⟨.vfixupimmss, Rows.vfixupimmss, 32, f32⟩]

/-- The same with a choice. -/
structure OfFormatFlag where
  make : Operands → Instr
  rows : List Row
  w : Nat
  F : Fmt w
  flag : Bool

/-- VFPCLASS (R500 to R504): true for the scalar ones. -/
noncomputable def fpClassTable : List OfFormatFlag :=
  [⟨.vfpclasspd, Rows.vfpclasspd, 64, f64, false⟩,
   ⟨.vfpclassps, Rows.vfpclassps, 32, f32, false⟩,
   ⟨.vfpclasssd, Rows.vfpclasssd, 64, f64, true⟩,
   ⟨.vfpclassss, Rows.vfpclassss, 32, f32, true⟩]

/-- COMIS and UCOMIS (R346, R347, R974, R975): true for the ones that signal only signaling NaNs. -/
noncomputable def fpCompareFlagsTable : List OfFormatFlag :=
  [⟨.comisd, Rows.comisd, 64, f64, false⟩,
   ⟨.vcomisd, Rows.vcomisd, 64, f64, false⟩,
   ⟨.comiss, Rows.comiss, 32, f32, false⟩,
   ⟨.vcomiss, Rows.vcomiss, 32, f32, false⟩,
   ⟨.ucomisd, Rows.ucomisd, 64, f64, true⟩,
   ⟨.vucomisd, Rows.vucomisd, 64, f64, true⟩,
   ⟨.ucomiss, Rows.ucomiss, 32, f32, true⟩,
   ⟨.vucomiss, Rows.vucomiss, 32, f32, true⟩]

/-- Conversions from a general register (R381, R382, R416, R417): true for signed ones. -/
noncomputable def cvtFromGprTable : List OfFormatFlag :=
  [⟨.cvtsi2sd, Rows.cvtsi2sd, 64, f64, true⟩,
   ⟨.vcvtsi2sd, Rows.vcvtsi2sd, 64, f64, true⟩,
   ⟨.cvtsi2ss, Rows.cvtsi2ss, 32, f32, true⟩,
   ⟨.vcvtsi2ss, Rows.vcvtsi2ss, 32, f32, true⟩,
   ⟨.vcvtusi2sd, Rows.vcvtusi2sd, 64, f64, false⟩,
   ⟨.vcvtusi2ss, Rows.vcvtusi2ss, 32, f32, false⟩]

/-- A conversion to a general register: truncating or not, signed or not. -/
structure ToInteger where
  make : Operands → Instr
  rows : List Row
  w : Nat
  F : Fmt w
  trunc : Bool
  signed : Bool

/-- Conversions to a general register (R378, R379, R384, R385, R408 to R411). -/
noncomputable def cvtToGprTable : List ToInteger :=
  [⟨.cvtsd2si, Rows.cvtsd2si, 64, f64, false, true⟩,
   ⟨.vcvtsd2si, Rows.vcvtsd2si, 64, f64, false, true⟩,
   ⟨.vcvtsd2usi, Rows.vcvtsd2usi, 64, f64, false, false⟩,
   ⟨.cvtss2si, Rows.cvtss2si, 32, f32, false, true⟩,
   ⟨.vcvtss2si, Rows.vcvtss2si, 32, f32, false, true⟩,
   ⟨.vcvtss2usi, Rows.vcvtss2usi, 32, f32, false, false⟩,
   ⟨.cvttsd2si, Rows.cvttsd2si, 64, f64, true, true⟩,
   ⟨.vcvttsd2si, Rows.vcvttsd2si, 64, f64, true, true⟩,
   ⟨.vcvttsd2usi, Rows.vcvttsd2usi, 64, f64, true, false⟩,
   ⟨.cvttss2si, Rows.cvttss2si, 32, f32, true, true⟩,
   ⟨.vcvttss2si, Rows.vcvttss2si, 32, f32, true, true⟩,
   ⟨.vcvttss2usi, Rows.vcvttss2usi, 32, f32, true, false⟩]

/-- The high or the low half. -/
structure Half where
  make : Operands → Instr
  rows : List Row
  high : Bool

/-- MOVHPD, MOVHPS, MOVLPD, MOVLPS (R565 to R569): true for the high half. -/
noncomputable def moveHalfTable : List Half :=
  [⟨.movhpd, Rows.movhpd, true⟩,
   ⟨.vmovhpd, Rows.vmovhpd, true⟩,
   ⟨.movhps, Rows.movhps, true⟩,
   ⟨.vmovhps, Rows.vmovhps, true⟩,
   ⟨.movlpd, Rows.movlpd, false⟩,
   ⟨.vmovlpd, Rows.vmovlpd, false⟩,
   ⟨.movlps, Rows.movlps, false⟩,
   ⟨.vmovlps, Rows.vmovlps, false⟩]

/-- A SHA function of the first and second operand. -/
structure ShaStep where
  make : Operands → Instr
  rows : List Row
  f : Operands → State → ZWord → ZWord → ZWord

/-- The SHA instructions (R1452 to R1458). -/
noncomputable def shaTable : List ShaStep :=
  [⟨.sha1rnds4, Rows.sha1rnds4, fun o _ => Sha.sha1Rnds4 o.imm⟩,
   ⟨.sha1nexte, Rows.sha1nexte, fun _ _ => Sha.sha1NextE⟩,
   ⟨.sha1msg1, Rows.sha1msg1, fun _ _ => Sha.sha1Msg1⟩,
   ⟨.sha1msg2, Rows.sha1msg2, fun _ _ => Sha.sha1Msg2⟩,
   ⟨.sha256rnds2, Rows.sha256rnds2, fun _ s x y => Sha.sha256Rnds2 x y (s.getZ 0)⟩,
   ⟨.sha256msg1, Rows.sha256msg1, fun _ _ => Sha.sha256Msg1⟩,
   ⟨.sha256msg2, Rows.sha256msg2, fun _ _ => Sha.sha256Msg2⟩]

end Sys2Proof.Claims
end

