-- ==== Sys2Proof/Certificates/Slice0/Obligations.lean ====
section
/-! DEFINITION. The statements about this model. A statement about a group of instructions of one shape runs over a table of
Tables.lean, whose entries name the constructors; its hypotheses are on the state and the operands alone: the machine runs
and the checks before execution select a row (`State.selects`), the source is readable, or the bytes stored to are
writable. Where a source is read, `l` is the list of the linear addresses of its bytes, empty for a register, and the frame
starts from `s.marked l`: like every load, the instruction sets the accessed flags of their translations (R108), and nothing
else that the frame does not name (notes/assumptions/29.md). -/

open Sys2Proof Sys2Proof.Machine Sys2Proof.Claims

/-! ### Integer instructions on vector registers -/

/-- Integer arithmetic, logic, minimum, maximum and variable shifts on elements of two sources (R300 to R305): each element
of the destination is the function of the sources' elements, under the writemask. -/
def Obligations.LanewiseResult : Prop :=
  ∀ e ∈ lanewiseTable ++ lanewiseShiftTable, ∀ (o : Operands) (s : State) (r : Row) (b : ZWord) (l : List Word),
    s.selects e.rows o r → s.src r o e.w (r.count o e.w) = .ok (b, l) →
    ∃ t, exec (e.make o) s = .next t ∧
      VecWritten s t o o.reg (r.vl o) e.w (r.count o e.w) (fun j => e.f (elem e.w j (s.src1 r o)) (elem e.w j b)) ∧
      ZmmOnly (s.marked l) t

/-- Permutes, shuffles, packs, unpacks, alignments, sums (from two whole sources); shuffles, absolute values, leading-zero
counts and 14-bit approximations (from one); two-table permutes, 52-bit multiply-add and ternary logic (from the
destination's old contents and two sources). -/
def Obligations.WholeSourceResult : Prop :=
  (∀ e ∈ twoSourceTable ++ mixedTable, ∀ (o : Operands) (s : State) (r : Row) (b : ZWord) (l : List Word),
     s.selects e.rows o r → s.src r o e.w (r.count o e.w) = .ok (b, l) →
     ∃ t, exec (e.make o) s = .next t ∧
       VecWritten s t o o.reg (r.vl o) e.w (r.count o e.w) (e.g r o (s.src1 r o) b) ∧ ZmmOnly (s.marked l) t) ∧
  (∀ e ∈ oneSourceTable, ∀ (o : Operands) (s : State) (r : Row) (b : ZWord) (l : List Word),
     s.selects e.rows o r → s.src r o e.w (r.count o e.w) = .ok (b, l) →
     ∃ t, exec (e.make o) s = .next t ∧
       VecWritten s t o o.reg (r.vl o) e.w (r.count o e.w) (e.g o (s.fpEnv r o) b) ∧ ZmmOnly (s.marked l) t) ∧
  ∀ e ∈ threeSourceTable, ∀ (o : Operands) (s : State) (r : Row) (b : ZWord) (l : List Word),
    s.selects e.rows o r → s.src r o e.w (r.count o e.w) = .ok (b, l) →
    ∃ t, exec (e.make o) s = .next t ∧
      VecWritten s t o o.reg (r.vl o) e.w (r.count o e.w) (e.g r o (s.getZ o.reg) (s.src1 r o) b) ∧ ZmmOnly (s.marked l) t

/-- PMOVSX and PMOVZX (R758): the low elements of the source, extended. -/
def Obligations.WideningResult : Prop :=
  ∀ e ∈ wideningTable, ∀ (o : Operands) (s : State) (r : Row) (b : ZWord) (l : List Word),
    s.selects e.rows o r → s.src r o e.v (r.count o (max e.v e.w)) = .ok (b, l) →
    ∃ t, exec (e.make o) s = .next t ∧
      VecWritten s t o o.reg (r.vl o) e.w (r.count o (max e.v e.w)) (fun j => e.f (elem e.v j b)) ∧ ZmmOnly (s.marked l) t

/-- VPMOV down-conversions (R738): the narrowed elements go to a vector register, or to memory where the writemask is
set. -/
def Obligations.NarrowingResult : Prop :=
  ∀ e ∈ narrowingTable, ∀ (o : Operands) (s : State) (r : Row), s.selects e.rows o r →
    (∀ d, o.rm = .reg d → ∃ t, exec (e.make o) s = .next t ∧
      VecWritten s t o d (r.vl o) e.w (r.count o e.v) (fun j => e.f (elem e.v j (s.getZ o.reg))) ∧ ZmmOnly s t) ∧
    (∀ m ps, o.rm = .mem m → s.storeTargets r o m e.w (r.count o e.v) = .ok ps →
      ∃ t, exec (e.make o) s = .next t ∧
        Stored s t false (pack e.w (r.count o e.v) fun j => e.f (elem e.v j (s.getZ o.reg)))
          (ps.filter fun p => (s.writemask o).getLsbD (p.1 / (e.w / 8))) ∧ MemOnly s t)

/-- Integer compares and tests (R637, R646): an opmask destination receives one bit per element under the writemask, a
vector destination all ones or zeros. -/
def Obligations.CompareResult : Prop :=
  ∀ e ∈ comparingTable, ∀ (o : Operands) (s : State) (r : Row) (b : ZWord) (l : List Word),
    s.selects e.rows o r → s.src r o e.w (r.count o e.w) = .ok (b, l) →
    ∃ t, exec (e.make o) s = .next t ∧
      if r.reg = .kreg then
        MaskWritten s t o o.reg (r.count o e.w) (fun j => e.p o (elem e.w j (s.src1 r o)) (elem e.w j b)) ∧ KOnly (s.marked l) t
      else
        VecWritten s t o o.reg (r.vl o) e.w (r.count o e.w)
          (fun j => boolMask e.w (e.p o (elem e.w j (s.src1 r o)) (elem e.w j b))) ∧ ZmmOnly (s.marked l) t

/-- Shifts and rotates by one count (R805, R783): the low quadword of an XMM register or 128-bit memory operand, or the
immediate byte; with an immediate the destination is vvvv or, in a legacy form, the r/m register. PSLLDQ and PSRLDQ (R804, R812)
shift each lane by bytes. -/
def Obligations.UniformShiftResult : Prop :=
  (∀ e ∈ uniformShiftTable, ∀ (o : Operands) (s : State) (r : Row), s.selects e.rows o r →
     (∀ c l, r.reg = .vec → s.src r o 128 1 = .ok (c, l) → ∃ t, exec (e.make o) s = .next t ∧
       VecWritten s t o o.reg (r.vl o) e.w (r.count o e.w)
         (fun j => e.f (elem e.w j (s.src1 r o)) (elem 64 0 c).toNat) ∧ ZmmOnly (s.marked l) t) ∧
     (∀ d, r.reg ≠ .vec → o.space = .legacy → o.rm = .reg d → ∃ t, exec (e.make o) s = .next t ∧
       VecWritten s t o d (r.vl o) e.w (r.count o e.w) (fun j => e.f (elem e.w j (s.getZ d)) o.imm.toNat) ∧
       ZmmOnly s t) ∧
     (∀ b l, r.reg ≠ .vec → o.space ≠ .legacy → s.src r o e.w (r.count o e.w) = .ok (b, l) →
       ∃ t, exec (e.make o) s = .next t ∧
         VecWritten s t o o.vvvv (r.vl o) e.w (r.count o e.w) (fun j => e.f (elem e.w j b) o.imm.toNat) ∧ ZmmOnly (s.marked l) t)) ∧
  ∀ e ∈ laneShiftTable, ∀ (o : Operands) (s : State) (r : Row), s.selects e.rows o r →
    (∀ d, o.space = .legacy → o.rm = .reg d → ∃ t, exec (e.make o) s = .next t ∧
      VecWritten s t o d (r.vl o) 8 (r.count o 8) (e.f o (s.getZ d)) ∧ ZmmOnly s t) ∧
    (∀ b l, o.space ≠ .legacy → s.src r o 8 (r.count o 8) = .ok (b, l) → ∃ t, exec (e.make o) s = .next t ∧
      VecWritten s t o o.vvvv (r.vl o) 8 (r.count o 8) (e.f o b) ∧ ZmmOnly (s.marked l) t)

/-- Broadcasts (R332 to R334): element `j` is element `j mod t` of the tuple. MOVDDUP (R555): each even
quadword twice; the 128-bit form reads one quadword. -/
def Obligations.BroadcastResult : Prop :=
  (∀ e ∈ broadcastTable, ∀ (o : Operands) (s : State) (r : Row) (b : ZWord) (l : List Word),
     s.selects e.rows o r → s.tupleSource r o e.w e.n = .ok (b, l) →
     ∃ t, exec (e.make o) s = .next t ∧
       VecWritten s t o o.reg (r.vl o) e.w (r.count o e.w) (fun j => elem e.w (j % e.n) b) ∧ ZmmOnly (s.marked l) t) ∧
  ∀ e ∈ moveDupTable, ∀ (o : Operands) (s : State) (r : Row) (b : ZWord) (l : List Word),
    s.selects e.rows o r → s.src r o 64 (if r.count o 64 = 2 then 1 else r.count o 64) = .ok (b, l) →
    ∃ t, exec (e.make o) s = .next t ∧
      VecWritten s t o o.reg (r.vl o) 64 (r.count o 64) (fun j => elem 64 (j / 2 * 2) b) ∧ ZmmOnly (s.marked l) t

/-- VBLENDM and VPBLENDM (R325 to R327): the writemask chooses the second source; elsewhere the first source, or zero. -/
def Obligations.BlendResult : Prop :=
  ∀ e ∈ blendTable, ∀ (o : Operands) (s : State) (r : Row) (b : ZWord) (l : List Word),
    s.selects e.rows o r → s.src r o e.w (r.count o e.w) = .ok (b, l) →
    ∃ t, exec (e.make o) s = .next t ∧
      (∀ j < r.count o e.w, elem e.w j (t.getZ o.reg) =
        if (s.writemask o).getLsbD j then elem e.w j b else if o.z then 0 else elem e.w j (s.src1 r o)) ∧
      (∀ i < 512, r.vl o ≤ i →
        (t.getZ o.reg).getLsbD i = (decide (o.space = .legacy) && (s.getZ o.reg).getLsbD i)) ∧
      (∀ x, x ≠ o.reg → t.getZ x = s.getZ x) ∧ ZmmOnly (s.marked l) t

/-- Whole-register moves (R549, R96): a load or copy under the writemask; a store of the elements the writemask selects, which
for MOVNTDQ, MOVNTPD and MOVNTPS is a non-temporal one: no flush stands between it and its acceptance to memory (R101; the
ledger that shows it is notes/assumptions/10.md). -/
def Obligations.MoveFullResult : Prop :=
  ∀ e ∈ moveFullTable, ∀ (o : Operands) (s : State) (r : Row), s.selects e.rows o r →
    (∀ b l, r.memDst = false → s.src r o e.w (r.count o e.w) = .ok (b, l) → ∃ t, exec (e.make o) s = .next t ∧
      VecWritten s t o o.reg (r.vl o) e.w (r.count o e.w) (fun j => elem e.w j b) ∧ ZmmOnly (s.marked l) t) ∧
    (∀ d, r.memDst = true → o.rm = .reg d → ∃ t, exec (e.make o) s = .next t ∧
      VecWritten s t o d (r.vl o) e.w (r.count o e.w) (fun j => elem e.w j (s.getZ o.reg)) ∧ ZmmOnly s t) ∧
    (∀ m ps, r.memDst = true → o.rm = .mem m → s.storeTargets r o m e.w (r.count o e.w) = .ok ps →
      ∃ t, exec (e.make o) s = .next t ∧
        Stored s t e.nt (pack e.w (r.count o e.w) fun j => elem e.w j (s.getZ o.reg))
          (ps.filter fun p => (s.writemask o).getLsbD (p.1 / (e.w / 8))) ∧ MemOnly s t)

/-- VINSERT (R524, R525): one block of the first source replaced. VEXTRACT (R421, R422): one block of the source to a
register or to memory. -/
def Obligations.BlockResult : Prop :=
  (∀ e ∈ insertBlockTable, ∀ (o : Operands) (s : State) (r : Row) (b : ZWord) (l : List Word),
     s.selects e.rows o r → s.src r o e.n 1 = .ok (b, l) →
     ∃ t, exec (e.make o) s = .next t ∧
       VecWritten s t o o.reg (r.vl o) e.w (r.count o e.w)
         (replaceBlock e.w e.n (o.imm.toNat % (r.vl o / e.n)) (s.src1 r o) b) ∧ ZmmOnly (s.marked l) t) ∧
  ∀ e ∈ extractBlockTable, ∀ (o : Operands) (s : State) (r : Row), s.selects e.rows o r →
    (∀ d, o.rm = .reg d → ∃ t, exec (e.make o) s = .next t ∧
      VecWritten s t o d (r.vl o) e.w (e.n / e.w)
        (fun j => elem e.w (o.imm.toNat % (r.vl o / e.n) * (e.n / e.w) + j) (s.getZ o.reg)) ∧ ZmmOnly s t) ∧
    (∀ m ps, o.rm = .mem m → s.storeTargets r o m e.w (e.n / e.w) = .ok ps →
      ∃ t, exec (e.make o) s = .next t ∧
        Stored s t false (pack e.w (e.n / e.w) fun j =>
            elem e.w (o.imm.toNat % (r.vl o / e.n) * (e.n / e.w) + j) (s.getZ o.reg))
          (ps.filter fun p => (s.writemask o).getLsbD (p.1 / (e.w / 8))) ∧ MemOnly s t)

/-- VCOMPRESS (R352): the element the writemask selects as number `k` goes to position `k`; in a register the rest is
zero or unchanged, in memory only the selected elements are stored. VEXPAND (R419): consecutive source elements go to the
positions the writemask selects. -/
def Obligations.CompressExpandResult : Prop :=
  (∀ e ∈ compressTable, ∀ (o : Operands) (s : State) (r : Row), s.selects e.rows o r →
     (∀ d, o.rm = .reg d → ∃ t, exec (e.make o) s = .next t ∧
       (∀ j < r.count o e.w, (s.writemask o).getLsbD j = true →
         elem e.w (popCount j (s.writemask o)) (t.getZ d) = elem e.w j (s.getZ o.reg)) ∧
       (∀ j < r.count o e.w, s.selected o (r.count o e.w) ≤ j →
         elem e.w j (t.getZ d) = if o.z then 0 else elem e.w j (s.getZ d)) ∧
       (∀ i < 512, r.vl o ≤ i → (t.getZ d).getLsbD i = (decide (o.space = .legacy) && (s.getZ d).getLsbD i)) ∧
       (∀ x, x ≠ d → t.getZ x = s.getZ x) ∧ ZmmOnly s t) ∧
     (∀ m ps, o.rm = .mem m → s.plainTargets r m (s.selected o (r.count o e.w) * e.w / 8) = .ok ps →
       ∃ t, exec (e.make o) s = .next t ∧
         ∃ v : ZWord, (∀ j < r.count o e.w, (s.writemask o).getLsbD j = true →
             elem e.w (popCount j (s.writemask o)) v = elem e.w j (s.getZ o.reg)) ∧
           Stored s t false v ps ∧ MemOnly s t)) ∧
  ∀ e ∈ expandTable, ∀ (o : Operands) (s : State) (r : Row) (b : ZWord) (l : List Word),
    s.selects e.rows o r → s.expandSource r o e.w = .ok (b, l) →
    ∃ t, exec (e.make o) s = .next t ∧
      VecWritten s t o o.reg (r.vl o) e.w (r.count o e.w) (fun j => elem e.w (popCount j (s.writemask o)) b) ∧
      ZmmOnly (s.marked l) t

/-- VPCONFLICT (R657): bit `i` of result element `j` says that the lower element `i` of the source equals element `j`; a
masked-off memory element is compared as it reads. -/
def Obligations.ConflictResult : Prop :=
  ∀ e ∈ conflictsTable, ∀ (o : Operands) (s : State) (r : Row) (b v : ZWord) (l : List Word),
    s.selects e.rows o r → s.src r o e.w (r.count o e.w) = .ok (b, l) →
    (∀ j < r.count o e.w, elem e.w j v =
      match o.rm with
      | .reg _ => elem e.w j b
      | .mem m =>
        if r.broadcasts o = true ∨ s.active o j = true then elem e.w j b
        else (pack 8 (e.w / 8) fun i => s.peek m.seg (s.ea m) (e.w / 8 * j + i)).setWidth e.w) →
    ∃ t, exec (e.make o) s = .next t ∧
      VecWritten s t o o.reg (r.vl o) e.w (r.count o e.w)
        (fun j => (packMask j fun i => elem e.w i v == elem e.w j v).setWidth e.w) ∧ ZmmOnly (s.marked l) t

/-- VPMOVM2* and VPBROADCASTM (R635, R636, R730 to R733): vector elements from the bits of an opmask register. VPMOV*2M
(R734 to R737): the top bit of each element. -/
def Obligations.MaskVectorResult : Prop :=
  (∀ e ∈ fromMaskTable, ∀ (o : Operands) (s : State) (r : Row) (x : Fin 32),
     s.selects e.rows o r → o.rm = .reg x →
     ∃ t, exec (e.make o) s = .next t ∧
       VecWritten s t o o.reg (r.vl o) e.w (r.count o e.w) (e.f (s.getK x)) ∧ ZmmOnly s t) ∧
  ∀ e ∈ toMaskTable, ∀ (o : Operands) (s : State) (r : Row) (b : ZWord) (l : List Word),
    s.selects e.rows o r → s.src r o e.w (r.count o e.w) = .ok (b, l) →
    ∃ t, exec (e.make o) s = .next t ∧
      MaskWritten s t o o.reg (r.count o e.w) (fun j => (elem e.w j b).msb) ∧ KOnly (s.marked l) t

/-! ### Moves of parts of registers -/

/-- MOVD and MOVQ (R552 to R554): between an XMM register and a general register, an XMM register or memory. That a 32-bit
result is zero-extended in the general register in every mode is the model's reading: R552 says it of 64-bit mode
(notes/assumptions/16.md). -/
def Obligations.MoveLowResult : Prop :=
  ∀ e ∈ moveLowTable, ∀ (o : Operands) (s : State) (r : Row), s.selects e.rows o r →
    (∀ d, r.memDst = true → r.rm = .gpr → o.rm = .reg d → ∃ t, exec (e.make o) s = .next t ∧
      GprWritten s t d ((elem e.w 0 (s.getZ o.reg)).setWidth 64) ∧ GprOnly s t) ∧
    (∀ d, r.memDst = true → r.rm ≠ .gpr → o.rm = .reg d → ∃ t, exec (e.make o) s = .next t ∧
      XmmWritten s t o d ((elem e.w 0 (s.getZ o.reg)).setWidth 512) ∧ ZmmOnly s t) ∧
    (∀ m ps, r.memDst = true → o.rm = .mem m → s.plainTargets r m (e.w / 8) = .ok ps →
      ∃ t, exec (e.make o) s = .next t ∧ Stored s t false ((elem e.w 0 (s.getZ o.reg)).setWidth 512) ps ∧ MemOnly s t) ∧
    (∀ v l, r.memDst = false → r.rm = .gpr → s.srcGpr r o (e.w / 8) = .ok (v, l) → ∃ t, exec (e.make o) s = .next t ∧
      XmmWritten s t o o.reg ((v.setWidth e.w).setWidth 512) ∧ ZmmOnly (s.marked l) t) ∧
    (∀ b l, r.memDst = false → r.rm ≠ .gpr → s.src r o e.w 1 = .ok (b, l) → ∃ t, exec (e.make o) s = .next t ∧
      XmmWritten s t o o.reg ((elem e.w 0 b).setWidth 512) ∧ ZmmOnly (s.marked l) t)

/-- MOVHPD, MOVHPS, MOVLPD, MOVLPS (R565 to R569): one half loaded beside the other half of the first source, or one half
stored. -/
def Obligations.MoveHalfResult : Prop :=
  ∀ e ∈ moveHalfTable, ∀ (o : Operands) (s : State) (r : Row), s.selects e.rows o r →
    (∀ b l, r.memDst = false → s.src r o 64 1 = .ok (b, l) → ∃ t, exec (e.make o) s = .next t ∧
      XmmWritten s t o o.reg (setElem 64 (if e.high then 1 else 0) (elem 64 0 b) (s.src1 r o)) ∧ ZmmOnly (s.marked l) t) ∧
    (∀ m ps, r.memDst = true → o.rm = .mem m → s.plainTargets r m 8 = .ok ps → ∃ t, exec (e.make o) s = .next t ∧
      Stored s t false ((elem 64 (if e.high then 1 else 0) (s.getZ o.reg)).setWidth 512) ps ∧ MemOnly s t)

/-- MOVSS and MOVSD (R574, R577): a load zeroes above the element, a register move keeps the first source's bits there,
and opcode 11H writes the r/m operand. -/
def Obligations.MoveScalarResult : Prop :=
  ∀ e ∈ moveScalarTable, ∀ (o : Operands) (s : State) (r : Row), s.selects e.rows o r →
    (∀ m b l, o.rm = .mem m → r.memDst = false → s.src r o e.w 1 = .ok (b, l) → ∃ t, exec (e.make o) s = .next t ∧
      ScalarWritten s t o o.reg e.w 0 (elem e.w 0 b) ∧ ZmmOnly (s.marked l) t) ∧
    (∀ m ps, o.rm = .mem m → r.memDst = true → s.storeTargets r o m e.w 1 = .ok ps →
      ∃ t, exec (e.make o) s = .next t ∧
        Stored s t false ((elem e.w 0 (s.getZ o.reg)).setWidth 512)
          (ps.filter fun p => (s.writemask o).getLsbD (p.1 / (e.w / 8))) ∧ MemOnly s t) ∧
    (∀ d, o.rm = .reg d → o.opcode = 0x11 → ∃ t, exec (e.make o) s = .next t ∧
      ScalarWritten s t o d e.w (if r.vv = .vec then s.getZ o.vvvv else s.getZ d) (elem e.w 0 (s.getZ o.reg)) ∧
      ZmmOnly s t) ∧
    (∀ d, o.rm = .reg d → o.opcode ≠ 0x11 → ∃ t, exec (e.make o) s = .next t ∧
      ScalarWritten s t o o.reg e.w (s.src1 r o) (elem e.w 0 (s.getZ d)) ∧ ZmmOnly s t)

/-- PEXTR and EXTRACTPS (R423, R693 to R696): the element imm8 names, zero-extended into a general register, or stored.
PINSR (R701 to R704): the element imm8 names replaced. INSERTPS (R526): element imm8[7:6] of the source (element 0 of
memory) to position imm8[5:4]; then the elements of imm8[3:0] are zero. That an extract zero-extends to 64 bits in every mode is
the model's reading: R423 and R693 give bits 63:32 in 64-bit mode only (notes/assumptions/16.md). -/
def Obligations.ElementResult : Prop :=
  (∀ e ∈ extractElemTable, ∀ (o : Operands) (s : State) (r : Row), s.selects e.rows o r →
     (∀ d, r.memDst = true → o.rm = .reg d → ∃ t, exec (e.make o) s = .next t ∧
       GprWritten s t d ((elem e.w (o.imm.toNat % (128 / e.w)) (s.getZ o.reg)).setWidth 64) ∧ GprOnly s t) ∧
     (∀ x, r.memDst = false → o.rm = .reg x → ∃ t, exec (e.make o) s = .next t ∧
       GprWritten s t o.reg ((elem e.w (o.imm.toNat % (128 / e.w)) (s.getZ x)).setWidth 64) ∧ GprOnly s t) ∧
     (∀ m ps, o.rm = .mem m → s.plainTargets r m (e.w / 8) = .ok ps → ∃ t, exec (e.make o) s = .next t ∧
       Stored s t false ((elem e.w (o.imm.toNat % (128 / e.w)) (s.getZ o.reg)).setWidth 512) ps ∧ MemOnly s t)) ∧
  (∀ e ∈ insertElemTable, ∀ (o : Operands) (s : State) (r : Row) (v : Word) (l : List Word),
     s.selects e.rows o r → s.srcGpr r o (e.w / 8) = .ok (v, l) →
     ∃ t, exec (e.make o) s = .next t ∧
       XmmWritten s t o o.reg (setElem e.w (o.imm.toNat % (128 / e.w)) (v.setWidth e.w) (s.src1 r o)) ∧ ZmmOnly (s.marked l) t) ∧
  ∀ e ∈ insertPsTable, ∀ (o : Operands) (s : State) (r : Row) (b : ZWord) (l : List Word),
    s.selects e.rows o r → s.src r o 32 1 = .ok (b, l) →
    ∃ t, exec (e.make o) s = .next t ∧
      (∀ j < 4, elem 32 j (t.getZ o.reg) =
        if o.imm.getLsbD j then 0
        else if j = o.imm.toNat / 16 % 4 then elem 32 (if o.isReg then o.imm.toNat / 64 else 0) b
        else elem 32 j (s.src1 r o)) ∧
      (∀ i < 512, 128 ≤ i → (t.getZ o.reg).getLsbD i = (decide (o.space = .legacy) && (s.getZ o.reg).getLsbD i)) ∧
      (∀ x, x ≠ o.reg → t.getZ x = s.getZ x) ∧ ZmmOnly (s.marked l) t

/-! ### Floating point -/

/-- Packed floating-point operations (R301, R306 to R308, R1550 to R1560): the results under the writemask and MXCSR's
flags; an unmasked condition writes nothing but flags and raises its exception. The table holds VRCP28, VRSQRT28 and VEXP2,
whose value on an ordinary input is a free value held to the bound of its rule (notes/assumptions/13.md, 26.md): the statement
says only that it is that value. The operations are the model's readings in three points: which conditions are reported
(notes/assumptions/22.md), a denormal result of VREDUCE, which FZ does not flush (37.md), and VGETMANT of a negative denormal
with DAZ = 1 and the sign control that rejects negative numbers (44.md). -/
def Obligations.FpPackedResult : Prop :=
  ∀ e ∈ fpPackedTable, ∀ (o : Operands) (s : State) (r : Row) (b : ZWord) (l : List Word),
    s.selects e.rows o r → s.src r o e.w (r.count o e.w) = .ok (b, l) →
    let res := fun j => e.op o (s.fpEnv r o) (elem e.w j (s.src1 r o)) (elem e.w j b)
    let f := s.fpFlags o (r.count o e.w) res
    (s.quiet r o f → ∃ t, exec (e.make o) s = .next t ∧
      VecWritten s t o o.reg (r.vl o) e.w (r.count o e.w) (fun j => (res j).val) ∧
      t.mxcsr = s.mxcsrAfter r o f ∧ ZmmMxcsrOnly (s.marked l) t) ∧
    (s.alarmed r o f → exec (e.make o) s = .next (s.alarm f))

/-- Scalar floating-point operations (R303): bits 127 and below above the element come from the first source. The table holds
VRCP28SS, VRCP28SD, VRSQRT28SS and VRSQRT28SD, whose value on an ordinary input is a free value held to the bound of its rule
(notes/assumptions/13.md, 26.md). The model's readings are which conditions are reported (22.md), a denormal result of VREDUCESS
and VREDUCESD, which FZ does not flush (37.md), and VGETMANTSS and VGETMANTSD of a negative denormal with DAZ = 1 (44.md). -/
def Obligations.FpScalarResult : Prop :=
  ∀ e ∈ fpScalarTable, ∀ (o : Operands) (s : State) (r : Row) (b : ZWord) (l : List Word),
    s.selects e.rows o r → s.src r o e.w 1 = .ok (b, l) →
    let res := e.op o (s.fpEnv r o) (elem e.w 0 (s.src1 r o)) (elem e.w 0 b)
    let f := s.fpFlags o 1 fun _ => res
    (s.quiet r o f → ∃ t, exec (e.make o) s = .next t ∧
      ScalarWritten s t o o.reg e.w (s.src1 r o) res.val ∧ t.mxcsr = s.mxcsrAfter r o f ∧ ZmmMxcsrOnly (s.marked l) t) ∧
    (s.alarmed r o f → exec (e.make o) s = .next (s.alarm f))

/-- Packed conversions (R360): elements of width `w` from elements of width `v`. The model's readings are that a conversion to
integers takes a denormal source as an exact zero under DAZ, so with no precision condition (notes/assumptions/24.md), and which
conditions are reported (22.md). -/
def Obligations.FpConvertResult : Prop :=
  ∀ e ∈ fpConvertTable, ∀ (o : Operands) (s : State) (r : Row) (b : ZWord) (l : List Word),
    s.selects e.rows o r → s.src r o e.v (r.count o (max e.v e.w)) = .ok (b, l) →
    let res := fun j => e.op (s.fpEnv r o) (elem e.v j b)
    let f := s.fpFlags o (r.count o (max e.v e.w)) res
    (s.quiet r o f → ∃ t, exec (e.make o) s = .next t ∧
      VecWritten s t o o.reg (r.vl o) e.w (r.count o (max e.v e.w)) (fun j => (res j).val) ∧
      t.mxcsr = s.mxcsrAfter r o f ∧ ZmmMxcsrOnly (s.marked l) t) ∧
    (s.alarmed r o f → exec (e.make o) s = .next (s.alarm f))

/-- Scalar conversions between formats (R380, R383) and from general registers or memory (R381, R382, R416, R417). Which
conditions are reported is notes/assumptions/22.md. -/
def Obligations.ScalarConvertResult : Prop :=
  (∀ e ∈ fpConvertScalarTable, ∀ (o : Operands) (s : State) (r : Row) (b : ZWord) (l : List Word),
    s.selects e.rows o r → s.src r o e.v 1 = .ok (b, l) →
    let res := e.op (s.fpEnv r o) (elem e.v 0 b)
    let f := s.fpFlags o 1 fun _ => res
    (s.quiet r o f → ∃ t, exec (e.make o) s = .next t ∧
      ScalarWritten s t o o.reg e.w (s.src1 r o) res.val ∧ t.mxcsr = s.mxcsrAfter r o f ∧ ZmmMxcsrOnly (s.marked l) t) ∧
    (s.alarmed r o f → exec (e.make o) s = .next (s.alarm f))) ∧
  ∀ e ∈ cvtFromGprTable, ∀ (o : Operands) (s : State) (r : Row) (v : Word) (l : List Word),
    s.selects e.rows o r → s.srcGpr r o (if o.w then 8 else 4) = .ok (v, l) →
    let n : Int := if e.flag = false then v.toNat else if o.w then v.toInt else (v.setWidth 32).toInt
    let res := e.F.ofInteger (s.fpEnv r o) n
    let f := s.fpFlags o 1 fun _ => res
    (s.quiet r o f → ∃ t, exec (e.make o) s = .next t ∧
      ScalarWritten s t o o.reg e.w (s.src1 r o) res.val ∧ t.mxcsr = s.mxcsrAfter r o f ∧ ZmmMxcsrOnly (s.marked l) t) ∧
    (s.alarmed r o f → exec (e.make o) s = .next (s.alarm f))

/-- Conversions to a general register (R378, R379, R384, R385, R408 to R411): 64 bits with W = 1, else 32 bits
zero-extended, which R378 says of 64-bit mode and the model does in every mode (notes/assumptions/16.md). A denormal source is an
exact zero under DAZ, with no precision condition (24.md). -/
def Obligations.ToIntegerResult : Prop :=
  ∀ e ∈ cvtToGprTable, ∀ (o : Operands) (s : State) (r : Row) (b : ZWord) (l : List Word),
    s.selects e.rows o r → s.src r o e.w 1 = .ok (b, l) →
    let wide := e.F.toInteger (s.fpEnv r o) e.trunc e.signed 64 (elem e.w 0 b)
    let narrow := e.F.toInteger (s.fpEnv r o) e.trunc e.signed 32 (elem e.w 0 b)
    let f := s.reported (if o.w then wide.flags else narrow.flags)
    (s.quiet r o f → ∃ t, exec (e.make o) s = .next t ∧
      GprWritten s t o.reg (if o.w then wide.val else narrow.val.setWidth 64) ∧
      t.mxcsr = s.mxcsrAfter r o f ∧ GprMxcsrOnly (s.marked l) t) ∧
    (s.alarmed r o f → exec (e.make o) s = .next (s.alarm f))

/-- Fused multiply-add (R430 to R432): the form says which operands are multiplied; in a scalar form bits 127 and below above
the element stay the destination's. Which conditions are reported, and infinity times zero with a NaN addend, are the model's
readings (notes/assumptions/22.md, 23.md). -/
def Obligations.FmaResult : Prop :=
  (∀ e ∈ fmaVecTable, ∀ (o : Operands) (s : State) (r : Row) (b : ZWord) (l : List Word),
     s.selects e.rows o r → s.src r o e.w (r.count o e.w) = .ok (b, l) →
     let res := fun j =>
       let x := e.form.pick (elem e.w j (s.getZ o.reg)) (elem e.w j (s.getZ o.vvvv)) (elem e.w j b)
       e.F.fma (s.fpEnv r o) e.negProd (e.negAdd j) x.1 x.2.1 x.2.2
     let f := s.fpFlags o (r.count o e.w) res
     (s.quiet r o f → ∃ t, exec (e.make o) s = .next t ∧
       VecWritten s t o o.reg (r.vl o) e.w (r.count o e.w) (fun j => (res j).val) ∧
       t.mxcsr = s.mxcsrAfter r o f ∧ ZmmMxcsrOnly (s.marked l) t) ∧
     (s.alarmed r o f → exec (e.make o) s = .next (s.alarm f))) ∧
  ∀ e ∈ fmaScalarTable, ∀ (o : Operands) (s : State) (r : Row) (b : ZWord) (l : List Word),
    s.selects e.rows o r → s.src r o e.w 1 = .ok (b, l) →
    let x := e.form.pick (elem e.w 0 (s.getZ o.reg)) (elem e.w 0 (s.getZ o.vvvv)) (elem e.w 0 b)
    let res := e.F.fma (s.fpEnv r o) e.negProd (e.negAdd 0) x.1 x.2.1 x.2.2
    let f := s.fpFlags o 1 fun _ => res
    (s.quiet r o f → ∃ t, exec (e.make o) s = .next t ∧
      ScalarWritten s t o o.reg e.w (s.getZ o.reg) res.val ∧ t.mxcsr = s.mxcsrAfter r o f ∧ ZmmMxcsrOnly (s.marked l) t) ∧
    (s.alarmed r o f → exec (e.make o) s = .next (s.alarm f))

/-- CMPPD, CMPPS, CMPSD, CMPSS (R340, R342 to R345): all ones or zeros in a vector destination, one bit per element in an
opmask destination. That a denormal operand is reported beside a NaN is the model's reading (notes/assumptions/22.md). -/
def Obligations.FpCompareResult : Prop :=
  (∀ e ∈ fpCompareVecTable, ∀ (o : Operands) (s : State) (r : Row) (b : ZWord) (l : List Word),
     s.selects e.rows o r → s.src r o e.w (r.count o e.w) = .ok (b, l) →
     let p := if o.space = .legacy then o.imm.toNat % 8 else o.imm.toNat % 32
     let c := fun j => e.F.cmp (s.fpEnv r o).daz p (elem e.w j (s.src1 r o)) (elem e.w j b)
     let f := s.fpFlags o (r.count o e.w) fun j => (⟨boolMask e.w (c j).1, (c j).2⟩ : FpRes e.w)
     (s.quiet r o f → ∃ t, exec (e.make o) s = .next t ∧ t.mxcsr = s.mxcsrAfter r o f ∧
       if r.reg = .kreg then
         MaskWritten s t o o.reg (r.count o e.w) (fun j => (c j).1) ∧ KMxcsrOnly (s.marked l) t
       else
         VecWritten s t o o.reg (r.vl o) e.w (r.count o e.w) (fun j => boolMask e.w (c j).1) ∧ ZmmMxcsrOnly (s.marked l) t) ∧
     (s.alarmed r o f → exec (e.make o) s = .next (s.alarm f))) ∧
  ∀ e ∈ fpCompareScalarTable, ∀ (o : Operands) (s : State) (r : Row) (b : ZWord) (l : List Word),
    s.selects e.rows o r → s.src r o e.w 1 = .ok (b, l) →
    let p := if o.space = .legacy then o.imm.toNat % 8 else o.imm.toNat % 32
    let c := e.F.cmp (s.fpEnv r o).daz p (elem e.w 0 (s.src1 r o)) (elem e.w 0 b)
    let f := s.fpFlags o 1 fun _ => (⟨boolMask e.w c.1, c.2⟩ : FpRes e.w)
    (s.quiet r o f → ∃ t, exec (e.make o) s = .next t ∧ t.mxcsr = s.mxcsrAfter r o f ∧
      if r.reg = .kreg then MaskWritten s t o o.reg 1 (fun _ => c.1) ∧ KMxcsrOnly (s.marked l) t
      else ScalarWritten s t o o.reg e.w (s.src1 r o) (boolMask e.w c.1) ∧ ZmmMxcsrOnly (s.marked l) t) ∧
    (s.alarmed r o f → exec (e.make o) s = .next (s.alarm f))

/-- COMIS and UCOMIS (R346, R347, R974, R975): ZF, PF, CF by the comparison, OF, SF, AF clear; the quiet forms report
invalid for signaling NaNs only. That a denormal operand is reported beside a NaN is the model's reading
(notes/assumptions/22.md). -/
def Obligations.FpFlagsResult : Prop :=
  ∀ e ∈ fpCompareFlagsTable, ∀ (o : Operands) (s : State) (r : Row) (v : ZWord) (l : List Word),
    s.selects e.rows o r → s.src r o e.w 1 = .ok (v, l) →
    let daz := (s.fpEnv r o).daz
    let a := elem e.w 0 (s.getZ o.reg)
    let b := elem e.w 0 v
    let i := e.F.isSNaN a || e.F.isSNaN b || (!e.flag && (e.F.isNaN a || e.F.isNaN b))
    let f := s.reported ((if i then FpFlags.i else 0) ||| e.F.den daz a ||| e.F.den daz b)
    let c := e.F.compare daz a b
    (s.quiet r o f → ∃ t, exec (e.make o) s = .next t ∧
      EflagsSet s t (decide (c = .unordered ∨ c = .eq)) (decide (c = .unordered)) (decide (c = .unordered ∨ c = .lt)) ∧
      t.mxcsr = s.mxcsrAfter r o f ∧ EflagsMxcsrOnly (s.marked l) t) ∧
    (s.alarmed r o f → exec (e.make o) s = .next (s.alarm f))

/-- VFPCLASS (R500 to R504): one bit per element (one bit for the scalar forms), no flag of MXCSR. VRCP14 and VRSQRT14 on the
low element (R905, R920): no condition is reported. -/
def Obligations.NoReportResult : Prop :=
  (∀ e ∈ fpClassTable, ∀ (o : Operands) (s : State) (r : Row) (b : ZWord) (l : List Word),
     s.selects e.rows o r →
     let n := if e.flag then 1 else r.count o e.w
     s.src r o e.w n = .ok (b, l) →
     ∃ t, exec (e.make o) s = .next t ∧
       MaskWritten s t o o.reg n (fun j => e.F.classify (s.fpEnv r o).daz o.imm (elem e.w j b)) ∧ KOnly (s.marked l) t) ∧
  ∀ e ∈ approxScalarTable, ∀ (o : Operands) (s : State) (r : Row) (b : ZWord) (l : List Word),
    s.selects e.rows o r → s.src r o e.w 1 = .ok (b, l) →
    ∃ t, exec (e.make o) s = .next t ∧
      ScalarWritten s t o o.reg e.w (s.src1 r o) (e.f (s.fpEnv r o) (elem e.w 0 b)) ∧ ZmmOnly (s.marked l) t

/-- VFIXUPIMM (R424 to R428): the result by the table operand; its conditions set flags and raise nothing. -/
def Obligations.FixupResult : Prop :=
  (∀ e ∈ fixupVecTable, ∀ (o : Operands) (s : State) (r : Row) (b : ZWord) (l : List Word),
    s.selects e.rows o r → s.src r o e.w (r.count o e.w) = .ok (b, l) →
    let x := fun j =>
      e.F.fixup (s.fpEnv r o).daz o.imm (elem e.w j (s.getZ o.reg)) (elem e.w j (s.getZ o.vvvv)) (elem e.w j b)
    ∃ t, exec (e.make o) s = .next t ∧
      VecWritten s t o o.reg (r.vl o) e.w (r.count o e.w) (fun j => (x j).val) ∧
      t.mxcsr = s.mxcsrAfter r o (orFlags (fun j => if s.active o j then (x j).flags else 0) (r.count o e.w)) ∧
      ZmmMxcsrOnly (s.marked l) t) ∧
  ∀ e ∈ fixupScalarTable, ∀ (o : Operands) (s : State) (r : Row) (b : ZWord) (l : List Word),
    s.selects e.rows o r → s.src r o e.w 1 = .ok (b, l) →
    let x := e.F.fixup (s.fpEnv r o).daz o.imm (elem e.w 0 (s.getZ o.reg)) (elem e.w 0 (s.getZ o.vvvv)) (elem e.w 0 b)
    ∃ t, exec (e.make o) s = .next t ∧
      ScalarWritten s t o o.reg e.w (s.getZ o.vvvv) x.val ∧
      t.mxcsr = s.mxcsrAfter r o (if s.active o 0 then x.flags else 0) ∧ ZmmMxcsrOnly (s.marked l) t

/-- VCVTPS2PH (R370): half-precision results, rounded by imm8 or MXCSR, denormal ones kept whatever FZ says, to a register
or to memory. What a NaN becomes is the model's choice (notes/assumptions/42.md), which conditions are reported its reading
(22.md). -/
def Obligations.ToHalfResult : Prop :=
  ∀ e ∈ cvtToHalfTable, ∀ (o : Operands) (s : State) (r : Row), s.selects e.rows o r →
    let env : FpEnv := { s.fpEnv r o with rc := Fmt.immRc (s.fpEnv r o) o.imm, fz := false }
    let res := fun j => f32.convert f16 env true (elem 32 j (s.getZ o.reg))
    let f := s.fpFlags o (r.count o 32) res
    (∀ d, o.rm = .reg d →
      (s.quiet r o f → ∃ t, exec (e.make o) s = .next t ∧
        VecWritten s t o d (r.vl o) 16 (r.count o 32) (fun j => (res j).val) ∧
        t.mxcsr = s.mxcsrAfter r o f ∧ ZmmMxcsrOnly s t) ∧
      (s.alarmed r o f → exec (e.make o) s = .next (s.alarm f))) ∧
    ∀ m ps, o.rm = .mem m →
      s.checkMem .write m.seg (s.ea m) (elemOffs 16 (r.count o 32) (s.accessMask r o)) 1 (r.acArg (2 * r.count o 32)) = .ok ps →
      (f &&& s.unmasked = 0 → ∃ t, exec (e.make o) s = .next t ∧
        Stored s t false (pack 16 (r.count o 32) fun j => (res j).val) (ps.filter fun p => (s.writemask o).getLsbD (p.1 / 2)) ∧
        t.mxcsr = s.mxcsr ||| f.setWidth 32 ∧ MemMxcsrOnly s t) ∧
      (f &&& s.unmasked ≠ 0 → exec (e.make o) s = .next (s.alarm f))

/-! ### Opmask instructions -/

/-- Opmask operations on one or two sources (R1300, R1310 to R1337, R1343 to R1345, R1354 to R1361): the result is zero-extended to 64 bits. -/
def Obligations.OpmaskResult : Prop :=
  (∀ e ∈ mask2Table, ∀ (o : Operands) (s : State) (r : Row) (x : Fin 32), s.selects e.rows o r → o.rm = .reg x →
    ∃ t, exec (e.make o) s = .next t ∧
      KWritten s t o.reg ((e.f ((s.getK o.vvvv).setWidth e.w) ((s.getK x).setWidth e.w)).setWidth 64) ∧ KOnly s t) ∧
  (∀ e ∈ mask1Table, ∀ (o : Operands) (s : State) (r : Row) (x : Fin 32), s.selects e.rows o r → o.rm = .reg x →
    ∃ t, exec (e.make o) s = .next t ∧
      KWritten s t o.reg ((e.f o ((s.getK x).setWidth e.w)).setWidth 64) ∧ KOnly s t) ∧
  ∀ e ∈ maskUnpackTable, ∀ (o : Operands) (s : State) (r : Row) (x : Fin 32), s.selects e.rows o r → o.rm = .reg x →
    ∃ t, exec (e.make o) s = .next t ∧
      (∀ i < 64, (t.getK o.reg).getLsbD i =
        if i < e.w then (s.getK x).getLsbD i else if i < 2 * e.w then (s.getK o.vvvv).getLsbD (i - e.w) else false) ∧
      (∀ y : Fin 32, y.val % 8 ≠ o.reg.val % 8 → t.getK y = s.getK y) ∧ KOnly s t

/-- KORTEST and KTEST (R1346 to R1353): ZF for a zero OR or AND, CF for an OR of all ones, or when no bit of the r/m operand
lies outside the first. -/
def Obligations.OpmaskTestResult : Prop :=
  (∀ e ∈ maskOrTestTable, ∀ (o : Operands) (s : State) (r : Row) (x : Fin 32), s.selects e.rows o r → o.rm = .reg x →
    ∃ t, exec (e.make o) s = .next t ∧
      EflagsSet s t
        (decide (∀ i < e.w, (s.getK o.reg).getLsbD i = false ∧ (s.getK x).getLsbD i = false)) false
        (decide (∀ i < e.w, (s.getK o.reg).getLsbD i = true ∨ (s.getK x).getLsbD i = true)) ∧
      t.mxcsr = s.mxcsr ∧ EflagsMxcsrOnly s t) ∧
  ∀ e ∈ maskTestTable, ∀ (o : Operands) (s : State) (r : Row) (x : Fin 32), s.selects e.rows o r → o.rm = .reg x →
    ∃ t, exec (e.make o) s = .next t ∧
      EflagsSet s t
        (decide (∀ i < e.w, ((s.getK o.reg).getLsbD i && (s.getK x).getLsbD i) = false)) false
        (decide (∀ i < e.w, ((s.getK x).getLsbD i && !(s.getK o.reg).getLsbD i) = false)) ∧
      t.mxcsr = s.mxcsr ∧ EflagsMxcsrOnly s t

/-- KMOV (R1338 to R1342): between opmask registers, a general register and memory. That a general register is zero-extended to 64
bits in every mode is the model's reading: outside 64-bit mode R1338 gives it 32 bits (notes/assumptions/16.md). -/
def Obligations.OpmaskMoveResult : Prop :=
  ∀ e ∈ maskMoveTable, ∀ (o : Operands) (s : State) (r : Row), s.selects e.rows o r →
    (∀ m ps, r.memDst = true → o.rm = .mem m → s.plainTargets r m (e.w / 8) = .ok ps →
      ∃ t, exec (e.make o) s = .next t ∧ Stored s t false ((s.getK o.reg).setWidth 512) ps ∧ MemOnly s t) ∧
    (∀ x, r.memDst = false → r.reg = .gpr → o.rm = .reg x → ∃ t, exec (e.make o) s = .next t ∧
      GprWritten s t o.reg (((s.getK x).setWidth e.w).setWidth 64) ∧ GprOnly s t) ∧
    (∀ v l, r.memDst = false → r.reg ≠ .gpr → r.rm = .gpr → s.srcGpr r o (e.w / 8) = .ok (v, l) →
      ∃ t, exec (e.make o) s = .next t ∧ KWritten s t o.reg ((v.setWidth e.w).setWidth 64) ∧ KOnly (s.marked l) t) ∧
    (∀ x, r.memDst = false → r.reg ≠ .gpr → r.rm ≠ .gpr → o.rm = .reg x → ∃ t, exec (e.make o) s = .next t ∧
      KWritten s t o.reg (((s.getK x).setWidth e.w).setWidth 64) ∧ KOnly s t) ∧
    (∀ m v l, r.memDst = false → r.reg ≠ .gpr → r.rm ≠ .gpr → o.rm = .mem m →
      s.readOperand r m (List.range (e.w / 8)) (e.w / 8) = .ok (v, l) →
      ∃ t, exec (e.make o) s = .next t ∧ KWritten s t o.reg ((v.setWidth e.w).setWidth 64) ∧ KOnly (s.marked l) t)

/-! ### Gather, scatter, SHA, hints -/

/-- Gathers (R505) whose selected elements can all be read: each is loaded from its own address, the others keep their
values, the register is zero above the elements, the mask is cleared, and the translations of the addresses read are marked
as accessed (R108). A gather whose index register is its destination
raises #UD and does nothing (R1530). -/
def Obligations.GatherResult : Prop :=
  (∀ e ∈ gatherTable, ∀ (o : Operands) (s : State) (r : Row) (m : MemOp) (x : Nat → ZWord), s.selects e.rows o r →
     o.rm = .mem m →
     let n := r.vl o / max e.w e.n
     (∀ j < n, (s.k.get o.aaa).getLsbD j = true →
       s.readMem m.seg (s.vsibAddr m e.n j) (List.range (e.w / 8)) 1 0 = .ok (x j, s.elemReads m e.n e.w j)) →
     ∃ t, exec (e.make o) s = .next t ∧
       (∀ j < n, elem e.w j (t.getZ o.reg) =
         if (s.k.get o.aaa).getLsbD j then elem e.w 0 (x j) else elem e.w j (s.getZ o.reg)) ∧
       (∀ i < 512, e.w * n ≤ i → (t.getZ o.reg).getLsbD i = false) ∧
       (∀ y, y ≠ o.reg → t.getZ y = s.getZ y) ∧
       t.k.get o.aaa = 0 ∧ (∀ y, y ≠ o.aaa → t.k.get y = s.k.get y) ∧
       ZmmKOnly (s.marked (s.elemsReads m e.n e.w n fun j => (s.k.get o.aaa).getLsbD j)) t) ∧
  ∀ e ∈ gatherTable, ∀ (o : Operands) (s : State) (m : MemOp), o.rm = .mem m → m.index = some o.reg →
    exec (e.make o) s = .next (s.raise { exc := .ud })

/-- Scatters whose selected elements can all be written (R792): each selected element is stored at its own address, the
highest element staying where addresses coincide; the mask is cleared. Its stores are ordinary ones to the ledger of persistent
stores (R101, notes/assumptions/10.md). -/
def Obligations.ScatterResult : Prop :=
  ∀ e ∈ scatterTable, ∀ (o : Operands) (s : State) (r : Row) (m : MemOp) (ps : Nat → List (Nat × Nat)),
    s.selects e.rows o r → o.rm = .mem m →
    let n := r.vl o / max e.w e.n
    (∀ j < n, (s.k.get o.aaa).getLsbD j = true →
      s.checkMem .write m.seg (s.vsibAddr m e.n j) (List.range (e.w / 8)) 1 0 = .ok (ps j)) →
    ∃ t, exec (e.make o) s = .next t ∧
      (s.mem.wf = true → ∀ j < n, (s.k.get o.aaa).getLsbD j = true → ((ps j).map (·.2)).Nodup → ∀ p ∈ ps j,
        (∀ i < n, j < i → (s.k.get o.aaa).getLsbD i = true → ∀ q ∈ ps i, q.2 ≠ p.2) →
        t.mem.get p.2 = byteAt p.1 ((elem e.w j (s.getZ o.reg)).setWidth 512)) ∧
      (∀ a, (∀ j < n, (s.k.get o.aaa).getLsbD j = true → ∀ p ∈ ps j, p.2 ≠ a) → t.mem.get a = s.mem.get a) ∧
      t.k.get o.aaa = 0 ∧ (∀ y, y ≠ o.aaa → t.k.get y = s.k.get y) ∧
      (LedgerWritten s t false fun a => ∃ j < n, (s.k.get o.aaa).getLsbD j = true ∧ ∃ p ∈ ps j, p.2 = a) ∧
      t = { s with mem := t.mem, durability := t.durability, k := t.k, pc := s.npc }

/-- The SHA instructions (R1450 to R1458): a function of the two operands (and XMM0) in bits 127:0, the rest unchanged. -/
def Obligations.ShaResult : Prop :=
  ∀ e ∈ shaTable, ∀ (o : Operands) (s : State) (r : Row) (b : ZWord) (l : List Word),
    s.selects e.rows o r → s.src r o 128 1 = .ok (b, l) →
    ∃ t, exec (e.make o) s = .next t ∧
      (∀ i < 128, (t.getZ o.reg).getLsbD i = (e.f o s (s.getZ o.reg) b).getLsbD i) ∧
      (∀ i < 512, 128 ≤ i → (t.getZ o.reg).getLsbD i = (s.getZ o.reg).getLsbD i) ∧
      (∀ x, x ≠ o.reg → t.getZ x = s.getZ x) ∧ ZmmOnly (s.marked l) t

/-- Prefetches of every kind (R97, R1421 to R1436, R1480) change nothing but the instruction pointer, whatever their addresses. -/
def Obligations.HintResult : Prop :=
  ∀ e ∈ hintTable, ∀ (o : Operands) (s : State) (r : Row), s.selects e.rows o r →
    exec (e.make o) s = .next { s with pc := s.npc }

/-! ### CPUID, CLWB, PCOMMIT and persistent memory -/

/-- CPUID (R201, R239): the four registers receive the leaf's data zero-extended (outside 64-bit mode too:
notes/assumptions/16.md), IA32_BIOS_SIGN_ID the microcode revision;
nothing else changes but the model's ledger of persistent stores, in which the write-backs and commits before it have completed
(R99; the ledger is the model's choice, notes/assumptions/10.md). Leaf 0 (R203, R205, R214) gives the highest basic leaf and
the vendor string; the 3 it gives under BOOT_NT4 is the spec's decision D51. Whatever the table of the part holds, EAX[31:26] is
constant over the caches of leaf 04H (R215), ECX of leaf 0DH is the size for all of EDX:EAX, which EBX is too when XCR0 has
all of it (R224), and a byte of the brand string is NUL (R236, notes/assumptions/39.md). -/
def Obligations.CpuidResult : Prop :=
  (∀ s : State, s.event = none →
     let e := s.leafData (s.cpuidLeaf ((s.getGpr 0).setWidth 32)) ((s.getGpr 1).setWidth 32)
     ∃ t, exec .cpuid s = .next t ∧
       t.getGpr 0 = e.eax.setWidth 64 ∧ t.getGpr 3 = e.ebx.setWidth 64 ∧
       t.getGpr 1 = e.ecx.setWidth 64 ∧ t.getGpr 2 = e.edx.setWidth 64 ∧
       (∀ x : Fin 32, x.val < 16 → 4 ≤ x.val → t.getGpr x = s.getGpr x) ∧
       t.biosSignId.extractLsb' 32 32 = s.cpu.microcode ∧
       t.biosSignId.extractLsb' 0 32 = s.biosSignId.extractLsb' 0 32 ∧
       t.durability = s.serialize.durability ∧ SameBytes s t ∧
       t = { s with gpr := t.gpr, biosSignId := t.biosSignId, durability := t.durability, pc := s.npc }) ∧
  (∀ s : State, s.event = none → (s.getGpr 0).setWidth 32 = 0#32 →
    ∃ t, exec .cpuid s = .next t ∧
      t.getGpr 0 = (if s.miscEnables.getLsbD 22 then 3 else s.cpu.maxBasic).setWidth 64 ∧
      t.getGpr 3 = 0x756E6547 ∧ t.getGpr 1 = 0x6C65746E ∧ t.getGpr 2 = 0x49656E69) ∧
  ∀ s : State,
    (∀ i j : BitVec 32, (s.leafData 4 i).eax.extractLsb' 0 5 ≠ 0 → (s.leafData 4 j).eax.extractLsb' 0 5 ≠ 0 →
      (s.leafData 4 i).eax.extractLsb' 26 6 = (s.leafData 4 j).eax.extractLsb' 26 6) ∧
    (s.leafData 0xD 0).ecx = xsaveSize s.cpu s.xcr0Bits ∧
    (s.xcr0 = s.xcr0Bits → (s.leafData 0xD 0).ebx = (s.leafData 0xD 0).ecx) ∧
    ∃ leaf ∈ [0x80000002#32, 0x80000003#32, 0x80000004#32], ∃ x ∈ [(s.leafData leaf 0).eax, (s.leafData leaf 0).ebx,
      (s.leafData leaf 0).ecx, (s.leafData leaf 0).edx], ∃ i < 4, elem 8 i x = 0#8

/-- CLWB (R1481, R101, R106, R108): the stores to its line that were only globally visible are being written back (the ledger
of notes/assumptions/10.md); the accessed flag of the region that translates its address is set, no dirty flag is, no
other region changes (notes/assumptions/29.md); nothing else changes. The line is that of the translated address (47.md). -/
def Obligations.ClwbResult : Prop :=
  ∀ (o : Operands) (s : State) (r : Row) (m : MemOp) (p : Nat), s.selects Rows.clwb o r → o.rm = .mem m →
    s.checkMem .read m.seg (s.ea m) [0] 1 0 = .ok [(0, p)] →
    let line := p / s.lineSize * s.lineSize
    ∃ t, exec (.clwb o) s = .next t ∧
      (∀ a d, (a, d) ∈ t.durability ↔ ∃ d0, (a, d0) ∈ s.durability ∧
        d = if line ≤ a ∧ a < line + s.lineSize ∧ d0 = .stored then .draining else d0) ∧
      t.regions.length = s.regions.length ∧
      (∀ (n : Nat) (g h : Region), s.regions[n]? = some g → t.regions[n]? = some h →
        h = { g with accessed := g.accessed ||
          (g.holds (s.linear m.seg (s.ea m) 0) &&
            (s.regions.take n).all fun q => !q.holds (s.linear m.seg (s.ea m) 0)) }) ∧
      SameBytes s t ∧ t = { s with durability := t.durability, regions := t.regions, pc := s.npc }

/-- PCOMMIT (R1482, R1585, R1586): commits the accepted stores; #UD in an enclave or when not enabled; a VM exit with reason
41H when intercepted. -/
def Obligations.PcommitResult : Prop :=
  ∀ s : State, s.event = none →
    (s.inEnclave = true ∨ s.pcommitEnabled = false → exec .pcommit s = .next (s.raise { exc := .ud })) ∧
    (s.inEnclave = false → s.pcommitEnabled = true → s.vmxNonRoot = true → s.vmxControls2.getLsbD 21 = true →
      exec .pcommit s = .next { s with event := some (.vmExit 0x41) }) ∧
    (s.inEnclave = false → s.pcommitEnabled = true → s.vmxNonRoot = false ∨ s.vmxControls2.getLsbD 21 = false →
      ∃ t, exec .pcommit s = .next t ∧
        (∀ a d, (a, d) ∈ t.durability ↔ ∃ d0, (a, d0) ∈ s.durability ∧
          d = if d0 = .accepted then .committing else d0) ∧
        SameBytes s t ∧ t = { s with durability := t.durability, pc := s.npc })

/-- The sequence of R105 and R106: a store to persistent memory, CLWB, CLFLUSHOPT or CLFLUSH of its line, a fence, PCOMMIT
and a fence leave the byte persistent. A non-temporal store to WB memory, and any store to UC, WC or WT memory, needs no flush
(R101). CLFLUSHOPT does what CLFLUSH does, or is #UD without its flag (R243). MOV to CR0 or CR4, WRMSR and OUT do for the ledger
what a fence does (R99). The ledger and the memory types, WP among them, are the model's (notes/assumptions/10.md, 40.md). -/
def Obligations.FlushCommitPersists : Prop :=
  (∀ (s : State) (a line size : Nat), ledgerOk s.durability = true → (a, Durability.stored) ∈ s.durability →
    line ≤ a → a < line + size →
    (a, Durability.persistent) ∈ (((s.writeBackLine line size).serialize.commitStores).serialize).durability) ∧
  (∀ (s : State) (nt : Bool) (a : Nat) (v : Byte), s.isPmem a = true →
    (a, Durability.persistent) ∈ (((((s.storeByte nt a v).clflush a).serialize).commitStores).serialize).durability) ∧
  (∀ (s : State) (a : Nat), s.clflushopt a =
    if (cpuidEntry s.cpu 7 0).ebx.getLsbD 23 then .ok (s.clflush a) else .error { exc := .ud }) ∧
  (∀ (s : State) (nt : Bool) (a : Nat) (v : Byte), s.isPmem a = true → NeedsNoFlush s nt a →
    (a, Durability.persistent) ∈ ((((s.storeByte nt a v).serialize).commitStores).serialize).durability) ∧
  ∀ (s : State) (v : Word),
    (∀ t, s.setCr4 v = .ok t → t.durability = s.serialize.durability) ∧
    (∀ t, s.setXss v = .ok t → t.durability = s.serialize.durability) ∧
    (s.setCr0 v).durability = s.serialize.durability ∧ (s.setMiscEnables v).durability = s.serialize.durability ∧
    s.enablePcommit.durability = s.serialize.durability ∧ s.portOut.durability = s.serialize.durability

/-! ### Exceptions and the checks before execution -/

/-- No instruction stops the machine: every instruction answers a next state, with its effect or with an exception taken. That
a taken exception is a next state, with the event pending that stops the step after it (FaultsOnlyWhenTrapped), is the
model's reading of D30 (notes/assumptions/11.md). -/
def Obligations.ExecAnswersNext : Prop := ∀ (i : Instr) (s : State), ∃ t, exec i s = .next t

/-- The checks come first for every instruction with fields: where no row matches, a feature is absent, the state is not
enabled or CR0.TS is set, the exception of the check is all that happens (R150, R1510, R1540). -/
def Obligations.ChecksComeFirst : Prop :=
  ∀ (i : Instr) (o : Operands) (s : State) (a : Abort), operandsOf i = some o →
    s.gate (mnemonicOf i).rows o = .error a → exec i s = .next (s.raise a)

/-- When the checks before execution pass. EVEX rows (R31, R32, R33, R240, R1510): 64-bit mode where the row asks for it, its
features, no real-address or virtual-8086 mode, CR4.OSXSAVE, XCR0 with 111xx111b, CR0.TS clear. VEX rows: XCR0 bits 2:0 for
vector rows; bits 5, 1 and 0 for opmask rows. Legacy rows (R1534, R1535, D35): CR0.EM clear, CR4.OSFXSR set, CR0.TS clear,
unless the instruction lists its own exceptions. That AVX2 is present in CFG-ALL without its CPUID bit is the model's reading
(notes/assumptions/12.md). -/
def Obligations.EnablingConditions : Prop :=
  (∀ (s : State) (rows : List Row) (o : Operands) (r : Row), rows.find? (fun r => r.accepts o) = some r →
     r.space = .evex → r.cls ≠ .page →
     (s.gate rows o = .ok r ↔
       (r.only64 = true → s.mode = .long64) ∧ (∀ f ∈ r.feats, s.hasFeature f = true) ∧
       s.mode ≠ .real ∧ s.mode ≠ .virtual8086 ∧ s.cr4.getLsbD 18 = true ∧
       (∀ i ∈ [0, 1, 2, 5, 6, 7], s.xcr0.getLsbD i = true) ∧ s.cr0.getLsbD 3 = false)) ∧
  (∀ (s : State) (rows : List Row) (o : Operands) (r : Row), rows.find? (fun r => r.accepts o) = some r →
     r.space = .vex → r.cls ≠ .page →
     (s.gate rows o = .ok r ↔
       (r.only64 = true → s.mode = .long64) ∧ (∀ f ∈ r.feats, s.hasFeature f = true) ∧
       s.mode ≠ .real ∧ s.mode ≠ .virtual8086 ∧ s.cr4.getLsbD 18 = true ∧
       (∀ i ∈ (if r.reg = .kreg ∨ r.rm = .kreg then [0, 1, 5] else [0, 1, 2]), s.xcr0.getLsbD i = true) ∧
       s.cr0.getLsbD 3 = false)) ∧
  ∀ (s : State) (rows : List Row) (o : Operands) (r : Row), rows.find? (fun r => r.accepts o) = some r →
    r.space = .legacy →
    (s.gate rows o = .ok r ↔
      (r.only64 = true → s.mode = .long64) ∧ (∀ f ∈ r.feats, s.hasFeature f = true) ∧
      (r.cls ≠ .page → s.cr0.getLsbD 2 = false ∧ s.cr4.getLsbD 9 = true ∧ s.cr0.getLsbD 3 = false))

/-- Taking an exception leaves everything as it was (R1501, R1505): the pc at the faulting instruction, the registers and
memory unchanged, but for MXCSR's flags, CR2, and what a gather or scatter had completed. A gather or scatter whose element `f`
is the first to fault (R94, R95) has completed every selected element below it and cleared their mask bits; element `f` is not
done and its bit stays; an element above it is done with its bit cleared, or not done with its bit kept (which of the two is a
free value, notes/assumptions/14.md; the pending event is notes/assumptions/11.md). No translation is marked as accessed but
those of the elements a gather has done (notes/assumptions/29.md). -/
def Obligations.ExceptionLeavesState : Prop :=
  (∀ (i : Instr) (s t : State) (x : Trap), s.event = none → exec i s = .next t → t.event = some (.trap x) →
     x.pc = s.pc ∧ t.pc = s.pc ∧ t.gpr = s.gpr ∧ t.eflags = s.eflags ∧
     ((∀ e ∈ gatherTable ++ scatterTable, ∀ o, i ≠ e.make o) →
       SameBytes s t ∧ t = { s with mxcsr := t.mxcsr, cr2 := t.cr2, event := t.event })) ∧
  (∀ e ∈ gatherTable, ∀ (o : Operands) (s : State) (r : Row) (m : MemOp) (f : Nat) (a : Abort), s.selects e.rows o r →
     o.rm = .mem m →
     let n := r.vl o / max e.w e.n
     let read := fun j => s.readMem m.seg (s.vsibAddr m e.n j) (List.range (e.w / 8)) 1 0
     let on := fun j => (s.k.get o.aaa).getLsbD j
     f < n → on f = true → read f = .error a → (∀ j < f, on j = true → (read j).isOk = true) →
     ∃ t, exec (e.make o) s = .next t ∧ t.trappedWith a.exc ∧ t.pc = s.pc ∧
       (∀ j < n, on j = false → elem e.w j (t.getZ o.reg) = elem e.w j (s.getZ o.reg) ∧ (t.k.get o.aaa).getLsbD j = false) ∧
       (∀ j < f, on j = true → (t.k.get o.aaa).getLsbD j = false ∧
         ∃ v, read j = .ok (v, s.elemReads m e.n e.w j) ∧ elem e.w j (t.getZ o.reg) = elem e.w 0 v) ∧
       (t.k.get o.aaa).getLsbD f = true ∧ elem e.w f (t.getZ o.reg) = elem e.w f (s.getZ o.reg) ∧
       (∀ j < n, f < j → on j = true →
         ((t.k.get o.aaa).getLsbD j = true ∧ elem e.w j (t.getZ o.reg) = elem e.w j (s.getZ o.reg)) ∨
         ((t.k.get o.aaa).getLsbD j = false ∧
           ∃ v, read j = .ok (v, s.elemReads m e.n e.w j) ∧ elem e.w j (t.getZ o.reg) = elem e.w 0 v)) ∧
       (∀ i, e.w * n ≤ i → (t.getZ o.reg).getLsbD i = (s.getZ o.reg).getLsbD i ∨ (t.getZ o.reg).getLsbD i = false) ∧
       (∀ i, n ≤ i → (t.k.get o.aaa).getLsbD i = (s.k.get o.aaa).getLsbD i ∨ (t.k.get o.aaa).getLsbD i = false) ∧
       (∀ y, y ≠ o.reg → t.getZ y = s.getZ y) ∧ (∀ y, y ≠ o.aaa → t.k.get y = s.k.get y) ∧
       t.regions = markAll (s.elemsReads m e.n e.w n fun j => on j && !(t.k.get o.aaa).getLsbD j) s.regions ∧
       SameBytes s t ∧ t = { s with zmm := t.zmm, k := t.k, regions := t.regions, cr2 := t.cr2, event := t.event }) ∧
  ∀ e ∈ scatterTable, ∀ (o : Operands) (s : State) (r : Row) (m : MemOp) (f : Nat) (a : Abort), s.selects e.rows o r →
    o.rm = .mem m →
    let n := r.vl o / max e.w e.n
    let targets := fun j => s.checkMem .write m.seg (s.vsibAddr m e.n j) (List.range (e.w / 8)) 1 0
    let on := fun j => (s.k.get o.aaa).getLsbD j
    f < n → on f = true → targets f = .error a → (∀ j < f, on j = true → (targets j).isOk = true) →
    ∃ t, exec (e.make o) s = .next t ∧ t.trappedWith a.exc ∧ t.pc = s.pc ∧
      (∀ j < n, on j = false → (t.k.get o.aaa).getLsbD j = false) ∧
      (∀ j < f, on j = true → (t.k.get o.aaa).getLsbD j = false) ∧ (t.k.get o.aaa).getLsbD f = true ∧
      (∀ i, n ≤ i → (t.k.get o.aaa).getLsbD i = (s.k.get o.aaa).getLsbD i) ∧
      (s.mem.wf = true → ∀ j < n, on j = true → (t.k.get o.aaa).getLsbD j = false → ∀ ps, targets j = .ok ps →
        (ps.map (·.2)).Nodup → ∀ p ∈ ps,
        (∀ i < n, j < i → on i = true → ∀ qs, targets i = .ok qs → ∀ q ∈ qs, q.2 ≠ p.2) →
        t.mem.get p.2 = byteAt p.1 ((elem e.w j (s.getZ o.reg)).setWidth 512)) ∧
      (∀ b, (∀ j < n, on j = true → (t.k.get o.aaa).getLsbD j = false → ∀ ps, targets j = .ok ps → ∀ p ∈ ps, p.2 ≠ b) →
        t.mem.get b = s.mem.get b) ∧
      (∀ y, y ≠ o.aaa → t.k.get y = s.k.get y) ∧
      (LedgerWritten s t false fun b => ∃ j < n, on j = true ∧ (t.k.get o.aaa).getLsbD j = false ∧
        ∃ ps, targets j = .ok ps ∧ ∃ p ∈ ps, p.2 = b) ∧
      t = { s with mem := t.mem, durability := t.durability, k := t.k, cr2 := t.cr2, event := t.event }

/-- No instruction writes the state that system software owns: control registers, XCR0, the mode, segments, the model
specific registers but for CPUID's IA32_BIOS_SIGN_ID, translation but for the accessed flags that loads and CLWB set (R108; that
stores and fetches set none and nothing sets a dirty flag is the model's choice, notes/assumptions/29.md), the memory types, and the identity of the part. An instruction without a memory operand sets no accessed flag. CR2 changes on
a page fault only. -/
def Obligations.SystemStateKept : Prop :=
  ∀ (i : Instr) (s t : State), s.event = none → exec i s = .next t →
    t.cr0 = s.cr0 ∧ t.cr4 = s.cr4 ∧ t.xcr0 = s.xcr0 ∧ t.mode = s.mode ∧ t.code16 = s.code16 ∧ t.cpl = s.cpl ∧
    t.segs = s.segs ∧ t.featureControl = s.featureControl ∧ t.miscEnables = s.miscEnables ∧ t.xss = s.xss ∧
    t.vmxControls2 = s.vmxControls2 ∧ t.vmxNonRoot = s.vmxNonRoot ∧ t.inEnclave = s.inEnclave ∧
    (∃ l, t.regions = markAll l s.regions) ∧
    ((∀ o, operandsOf i = some o → o.isReg = true) → t.regions = s.regions) ∧
    t.regions.map (fun g => { g with accessed := false }) = s.regions.map (fun g => { g with accessed := false }) ∧
    t.pmem = s.pmem ∧ t.memTypes = s.memTypes ∧ t.cpu = s.cpu ∧
    (i ≠ .cpuid → t.biosSignId = s.biosSignId) ∧
    (t.cr2 ≠ s.cr2 → ∃ x c, t.event = some (.trap x) ∧ x.exc = .pf c)

/-- A page fault puts the faulting linear address in CR2 (R1501), and returning to the saved address resumes there with
no exception pending (R22, R1506). -/
def Obligations.PageFaultAndResume : Prop :=
  ∀ (s : State) (c : BitVec 32) (a : Word) (rf : Bool),
    let t := s.raise { exc := .pf c, addr := some a, rf := rf }
    t.cr2 = a ∧ t.trappedWith (.pf c) ∧ t.resume = { s with cr2 := a, event := none }

/-! ### Memory -/

/-- What a store wrote, a load of the same bytes reads (R70), when no two of them lie at one physical address. -/
def Obligations.LoadAfterStore : Prop :=
  ∀ (s t : State) (nt : Bool) (g : SegReg) (ea : Word) (offs : List Nat) (al ac : Nat) (v w : ZWord)
    (ps : List (Nat × Nat)) (l : List Word),
    s.mem.wf = true → s.checkMem .write g ea offs al ac = .ok ps → (ps.map (·.2)).Nodup →
    s.writeMem nt g ea offs al ac v = .ok t → t.readMem g ea offs al ac = .ok (w, l) →
    ∀ i ∈ offs, i < 64 → elem 8 i w = elem 8 i v

/-- Reading an operand in 64-bit mode with every byte canonical, no region of translation and no alignment asked (R70, R72,
R108): byte `i` is memory's at the linear address plus `i`. Any read that succeeds answers the linear addresses of its bytes
(R72, R133), and marking these sets the accessed flag of each region that translates one of them, being the first that holds
it, and changes nothing else of any region, so no dirty flag (R108; what a region is, is notes/assumptions/29.md). -/
def Obligations.OperandRead : Prop :=
  (∀ (s : State) (g : SegReg) (ea : Word) (n : Nat), n ≤ 64 → s.mode = .long64 → s.regions = [] →
    (∀ i < n, canonical (linAddrBits s.cpu) (s.segBase g + ea + BitVec.ofNat 64 i) = true) →
    ∃ v l, s.readMem g ea (List.range n) 1 0 = .ok (v, l) ∧
      ∀ i < n, elem 8 i v = s.mem.get (s.segBase g + ea + BitVec.ofNat 64 i).toNat) ∧
  (∀ (s : State) (g : SegReg) (ea : Word) (offs : List Nat) (al ac : Nat) (v : ZWord) (l : List Word),
    s.readMem g ea offs al ac = .ok (v, l) →
    l = offs.map fun i =>
      let a := s.segBase g + ea + BitVec.ofNat 64 i
      if s.mode = .long64 then a else a &&& 0xFFFFFFFF) ∧
  ∀ (s : State) (l : List Word), (s.marked l).regions.length = s.regions.length ∧
    ∀ (i : Nat) (g h : Region), s.regions[i]? = some g → (s.marked l).regions[i]? = some h →
      h = { g with accessed := g.accessed || l.any fun a => g.holds a && (s.regions.take i).all fun q => !q.holds a }

/-- Masked stores (R84): of a vector stored under a writemask only the elements whose mask bit is 1 are written, other
bytes are not; zeroing with a memory destination is #UD. -/
def Obligations.MaskedStores : Prop :=
  (∀ e ∈ moveFullTable, ∀ (o : Operands) (s : State) (r : Row) (m : MemOp) (ps : List (Nat × Nat)),
     s.selects e.rows o r → r.memDst = true → o.rm = .mem m → s.storeTargets r o m e.w (r.count o e.w) = .ok ps →
     (ps.map (·.2)).Nodup → s.mem.wf = true →
     ∃ t, exec (e.make o) s = .next t ∧ (∀ p ∈ ps, t.mem.get p.2 =
       if (s.writemask o).getLsbD (p.1 / (e.w / 8)) then byteAt p.1 (pack e.w (r.count o e.w) fun j => elem e.w j (s.getZ o.reg))
       else s.mem.get p.2) ∧
       ∀ a, (∀ p ∈ ps, (s.writemask o).getLsbD (p.1 / (e.w / 8)) = true → p.2 ≠ a) → t.mem.get a = s.mem.get a) ∧
  (∀ e ∈ narrowingTable, ∀ (o : Operands) (s : State) (r : Row) (m : MemOp) (ps : List (Nat × Nat)),
     s.selects e.rows o r → o.rm = .mem m → s.storeTargets r o m e.w (r.count o e.v) = .ok ps →
     (ps.map (·.2)).Nodup → s.mem.wf = true →
     ∃ t, exec (e.make o) s = .next t ∧ (∀ p ∈ ps, t.mem.get p.2 =
       if (s.writemask o).getLsbD (p.1 / (e.w / 8)) then
         byteAt p.1 (pack e.w (r.count o e.v) fun j => e.f (elem e.v j (s.getZ o.reg)))
       else s.mem.get p.2) ∧
       ∀ a, (∀ p ∈ ps, (s.writemask o).getLsbD (p.1 / (e.w / 8)) = true → p.2 ≠ a) → t.mem.get a = s.mem.get a) ∧
  (∀ e ∈ extractBlockTable, ∀ (o : Operands) (s : State) (r : Row) (m : MemOp) (ps : List (Nat × Nat)),
     s.selects e.rows o r → o.rm = .mem m → s.storeTargets r o m e.w (e.n / e.w) = .ok ps →
     (ps.map (·.2)).Nodup → s.mem.wf = true →
     ∃ t, exec (e.make o) s = .next t ∧ (∀ p ∈ ps, t.mem.get p.2 =
       if (s.writemask o).getLsbD (p.1 / (e.w / 8)) then
         byteAt p.1 (pack e.w (e.n / e.w) fun j =>
           elem e.w (o.imm.toNat % (r.vl o / e.n) * (e.n / e.w) + j) (s.getZ o.reg))
       else s.mem.get p.2) ∧
       ∀ a, (∀ p ∈ ps, (s.writemask o).getLsbD (p.1 / (e.w / 8)) = true → p.2 ≠ a) → t.mem.get a = s.mem.get a) ∧
  (∀ e ∈ moveScalarTable, ∀ (o : Operands) (s : State) (r : Row) (m : MemOp) (ps : List (Nat × Nat)),
     s.selects e.rows o r → r.memDst = true → o.rm = .mem m → s.storeTargets r o m e.w 1 = .ok ps →
     (ps.map (·.2)).Nodup → s.mem.wf = true →
     ∃ t, exec (e.make o) s = .next t ∧ (∀ p ∈ ps, t.mem.get p.2 =
       if (s.writemask o).getLsbD (p.1 / (e.w / 8)) then byteAt p.1 ((elem e.w 0 (s.getZ o.reg)).setWidth 512)
       else s.mem.get p.2) ∧
       ∀ a, (∀ p ∈ ps, (s.writemask o).getLsbD (p.1 / (e.w / 8)) = true → p.2 ≠ a) → t.mem.get a = s.mem.get a) ∧
  (∀ e ∈ cvtToHalfTable, ∀ (o : Operands) (s t : State) (r : Row) (m : MemOp) (ps : List (Nat × Nat)),
     s.selects e.rows o r → o.rm = .mem m →
     s.checkMem .write m.seg (s.ea m) (elemOffs 16 (r.count o 32) (s.accessMask r o)) 1 (r.acArg (2 * r.count o 32)) =
       .ok ps → exec (e.make o) s = .next t →
     ∀ a, (∀ p ∈ ps, (s.writemask o).getLsbD (p.1 / 2) = true → p.2 ≠ a) → t.mem.get a = s.mem.get a) ∧
  (∀ e ∈ compressTable, ∀ (o : Operands) (s : State) (r : Row) (m : MemOp) (ps : List (Nat × Nat)),
     s.selects e.rows o r → o.rm = .mem m →
     s.plainTargets r m (s.selected o (r.count o e.w) * e.w / 8) = .ok ps →
     ∃ t, exec (e.make o) s = .next t ∧ ∀ a, (∀ p ∈ ps, p.2 ≠ a) → t.mem.get a = s.mem.get a) ∧
  (∀ e ∈ scatterTable, ∀ (o : Operands) (s : State) (r : Row) (m : MemOp) (ps : Nat → List (Nat × Nat)),
     s.selects e.rows o r → o.rm = .mem m →
     (∀ j < r.vl o / max e.w e.n, (s.k.get o.aaa).getLsbD j = true →
       s.checkMem .write m.seg (s.vsibAddr m e.n j) (List.range (e.w / 8)) 1 0 = .ok (ps j)) →
     ∃ t, exec (e.make o) s = .next t ∧
       ∀ a, (∀ j < r.vl o / max e.w e.n, (s.k.get o.aaa).getLsbD j = true → ∀ p ∈ ps j, p.2 ≠ a) →
         t.mem.get a = s.mem.get a) ∧
  ∀ (i : Instr) (o : Operands) (s : State) (m : MemOp), operandsOf i = some o → o.rm = .mem m → o.z = true →
    (∀ r ∈ (mnemonicOf i).rows, r.accepts o = true → r.memDst = true) →
    exec i s = .next (s.raise { exc := .ud })

/-- Every instruction with a row that asks for alignment: the legacy forms with a 128-bit memory operand (R77) and the aligned
moves (R74). A memory operand that is not a multiple of its size, be it a source or the destination of a store, raises #GP(0),
and nothing else happens; before a #SS(0) or a page fault of the operand, which is the model's choice for #SS(0)
(notes/assumptions/46.md). -/
def Obligations.MisalignedOperand : Prop :=
  (∀ e ∈ lanewiseTable, TrapsMisaligned e.make e.rows) ∧ (∀ e ∈ twoSourceTable, TrapsMisaligned e.make e.rows) ∧
  (∀ e ∈ oneSourceTable, TrapsMisaligned e.make e.rows) ∧ (∀ e ∈ comparingTable, TrapsMisaligned e.make e.rows) ∧
  (∀ e ∈ uniformShiftTable, TrapsMisaligned e.make e.rows) ∧ (∀ e ∈ moveFullTable, TrapsMisaligned e.make e.rows) ∧
  (∀ e ∈ fpPackedTable, TrapsMisaligned e.make e.rows) ∧ (∀ e ∈ fpConvertTable, TrapsMisaligned e.make e.rows) ∧
  (∀ e ∈ fpCompareVecTable, TrapsMisaligned e.make e.rows) ∧ ∀ e ∈ shaTable, TrapsMisaligned e.make e.rows

/-- Fault suppression (R85) of every instruction with a row of a suppressing class that reads or writes under a writemask
(gathers and scatters, which access selected elements only, are GatherResult and ScatterResult): one whose elements are all
masked off completes whatever the address of its memory operand, if that is aligned where the row asks for it. A vector
destination's elements are zero or kept, an opmask destination is zero, a store leaves every byte as it was. -/
def Obligations.FaultSuppression : Prop :=
  (∀ e ∈ lanewiseTable ++ lanewiseShiftTable,
     Suppresses e.make e.rows (fun r o => r.count o e.w) (VecKept e.w fun r o => r.count o e.w)) ∧
  (∀ e ∈ oneSourceTable, Suppresses e.make e.rows (fun r o => r.count o e.w) (VecKept e.w fun r o => r.count o e.w)) ∧
  (∀ e ∈ threeSourceTable, Suppresses e.make e.rows (fun r o => r.count o e.w) (VecKept e.w fun r o => r.count o e.w)) ∧
  (∀ e ∈ broadcastTable, Suppresses e.make e.rows (fun r o => r.count o e.w) (VecKept e.w fun r o => r.count o e.w)) ∧
  (∀ e ∈ conflictsTable ++ expandTable,
     Suppresses e.make e.rows (fun r o => r.count o e.w) (VecKept e.w fun r o => r.count o e.w)) ∧
  (∀ e ∈ wideningTable,
     Suppresses e.make e.rows (fun r o => r.count o (max e.v e.w)) (VecKept e.w fun r o => r.count o (max e.v e.w))) ∧
  (∀ e ∈ fpPackedTable, Suppresses e.make e.rows (fun r o => r.count o e.w) (VecKept e.w fun r o => r.count o e.w)) ∧
  (∀ e ∈ fpConvertTable,
     Suppresses e.make e.rows (fun r o => r.count o (max e.v e.w)) (VecKept e.w fun r o => r.count o (max e.v e.w))) ∧
  (∀ e ∈ fmaVecTable, Suppresses e.make e.rows (fun r o => r.count o e.w) (VecKept e.w fun r o => r.count o e.w)) ∧
  (∀ e ∈ fixupVecTable, Suppresses e.make e.rows (fun r o => r.count o e.w) (VecKept e.w fun r o => r.count o e.w)) ∧
  (∀ e ∈ blendTable, Suppresses e.make e.rows (fun r o => r.count o e.w) fun s t o r =>
     (∀ j < r.count o e.w, elem e.w j (t.getZ o.reg) = if o.z then 0 else elem e.w j (s.src1 r o)) ∧
     (∀ i < 512, r.vl o ≤ i →
       (t.getZ o.reg).getLsbD i = (decide (o.space = .legacy) && (s.getZ o.reg).getLsbD i)) ∧
     (∀ x, x ≠ o.reg → t.getZ x = s.getZ x) ∧ ZmmOnly s t) ∧
  (∀ e ∈ uniformShiftTable, Suppresses e.make e.rows (fun r o => r.count o e.w) fun s t o r =>
     VecWritten s t o (if r.reg = .vec then o.reg else o.vvvv) (r.vl o) e.w (r.count o e.w) (fun _ => 0) ∧ ZmmOnly s t) ∧
  (∀ e ∈ fpScalarTable, Suppresses e.make e.rows (fun _ _ => 1) (ScalarKept e.w State.src1)) ∧
  (∀ e ∈ fpConvertScalarTable, Suppresses e.make e.rows (fun _ _ => 1) (ScalarKept e.w State.src1)) ∧
  (∀ e ∈ approxScalarTable, Suppresses e.make e.rows (fun _ _ => 1) (ScalarKept e.w State.src1)) ∧
  (∀ e ∈ fmaScalarTable, Suppresses e.make e.rows (fun _ _ => 1) (ScalarKept e.w fun s _ o => s.getZ o.reg)) ∧
  (∀ e ∈ fixupScalarTable, Suppresses e.make e.rows (fun _ _ => 1) (ScalarKept e.w fun s _ o => s.getZ o.vvvv)) ∧
  (∀ e ∈ comparingTable, Suppresses e.make e.rows (fun r o => r.count o e.w) fun s t o r =>
     if r.reg = .kreg then MaskCleared s t o r else VecKept e.w (fun r o => r.count o e.w) s t o r) ∧
  (∀ e ∈ fpCompareVecTable, Suppresses e.make e.rows (fun r o => r.count o e.w) fun s t o r =>
     if r.reg = .kreg then MaskCleared s t o r else VecKept e.w (fun r o => r.count o e.w) s t o r) ∧
  (∀ e ∈ fpCompareScalarTable, Suppresses e.make e.rows (fun _ _ => 1) fun s t o r =>
     if r.reg = .kreg then MaskCleared s t o r else ScalarKept e.w State.src1 s t o r) ∧
  (∀ e ∈ fpClassTable, Suppresses e.make e.rows (fun r o => if e.flag then 1 else r.count o e.w) MaskCleared) ∧
  (∀ e ∈ moveFullTable, Suppresses e.make e.rows (fun r o => r.count o e.w) fun s t o r =>
     if r.memDst then NothingWritten s t o r else VecKept e.w (fun r o => r.count o e.w) s t o r) ∧
  (∀ e ∈ moveScalarTable, Suppresses e.make e.rows (fun _ _ => 1) fun s t o r =>
     if r.memDst then NothingWritten s t o r else ScalarKept e.w (fun _ _ _ => 0) s t o r) ∧
  (∀ e ∈ narrowingTable, Suppresses e.make e.rows (fun r o => r.count o e.v) NothingWritten) ∧
  (∀ e ∈ compressTable, Suppresses e.make e.rows (fun r o => r.count o e.w) NothingWritten) ∧
  ∀ e ∈ cvtToHalfTable, Suppresses e.make e.rows (fun r o => r.count o 32) NothingWritten

/-! ### Rounding -/

/-- Rounding `m / 2^k` to an integer (R306, R307): to nearest it is within half a unit and ties go to the even one;
toward zero, down and up it is the neighbour on that side; inexactness is reported exactly when bits are lost. -/
def Obligations.RoundingIsCorrect : Prop :=
  ∀ (rc : Rc) (neg : Bool) (m k : Nat),
    let q := (shiftRound rc neg m (Int.ofNat k)).1
    ((shiftRound rc neg m (Int.ofNat k)).2 = true ↔ ¬ 2 ^ k ∣ m) ∧
    (rc = .nearest → 2 * m ≤ 2 * (q * 2 ^ k) + 2 ^ k ∧ 2 * (q * 2 ^ k) ≤ 2 * m + 2 ^ k ∧
      (2 * m = 2 * (q * 2 ^ k) + 2 ^ k ∨ 2 * (q * 2 ^ k) = 2 * m + 2 ^ k → q % 2 = 0)) ∧
    (rc = .zero ∨ (rc = .down ∧ neg = false) ∨ (rc = .up ∧ neg = true) → q * 2 ^ k ≤ m ∧ m < (q + 1) * 2 ^ k) ∧
    ((rc = .down ∧ neg = true) ∨ (rc = .up ∧ neg = false) → m ≤ q * 2 ^ k ∧ q * 2 ^ k < m + 2 ^ k)

/-- A normal number is its own rounding, in every rounding mode and with no condition (R307), in both formats. -/
def Obligations.NormalRoundsToItself : Prop :=
  (∀ (env : FpEnv) (x : BitVec 64), f64.expField x ≠ 0 → f64.expField x ≠ f64.maxExp →
    f64.round env (f64.num x) = ⟨x, 0⟩) ∧
  ∀ (env : FpEnv) (x : BitVec 32), f32.expField x ≠ 0 → f32.expField x ≠ f32.maxExp →
    f32.round env (f32.num x) = ⟨x, 0⟩

/-! ### Encoding, fetching and the machine as a whole -/

/-- DECODE AND ENCODE AGREE: in 64-bit mode the encoding of a well-formed instruction is at most 15 bytes long and decodes
to that instruction, whatever bytes follow (R110 to R150). -/
def Obligations.DecodeEncode : Prop :=
  ∀ (i : Instr) (rest : List Byte), wellFormed i = true →
    (encode i).length ≤ maxLen ∧ decode .mode64 (encode i ++ rest) = .ok (i, (encode i).length)

/-- Words written out from the encodings of the spec decode to their instructions: a VEX, an EVEX and a legacy one, an opmask
one, an EVEX one with a compressed displacement. -/
def Obligations.WordsDecode : Prop :=
  decode .mode64 [0x0F, 0xA2] = .ok (.cpuid, 2) ∧
  decode .mode64 [0xC5, 0xEC, 0x58, 0xCB] =
    .ok (.vaddps ⟨.vex, .np, 0x58, false, 1, false, false, 0, 1, 2, .reg 3, 0⟩, 4) ∧
  decode .mode64 [0x66, 0x0F, 0xFE, 0xC1] =
    .ok (.paddd ⟨.legacy, .p66, 0xFE, false, 0, false, false, 0, 0, 0, .reg 1, 0⟩, 4) ∧
  decode .mode64 [0x62, 0xF1, 0x6C, 0x48, 0x58, 0xCB] =
    .ok (.vaddps ⟨.evex, .np, 0x58, false, 2, false, false, 0, 1, 2, .reg 3, 0⟩, 6) ∧
  decode .mode64 [0xC5, 0xEC, 0x41, 0xCB] =
    .ok (.kandw ⟨.vex, .np, 0x41, false, 1, false, false, 0, 1, 2, .reg 3, 0⟩, 4) ∧
  decode .mode64 [0x62, 0xF1, 0x7C, 0x48, 0x10, 0x48, 0x02] =
    .ok (.vmovups ⟨.evex, .np, 0x10, false, 2, false, false, 0, 1, 0,
      .mem ⟨.ds, .a64, .gpr 0, none, 0, 128⟩, 0⟩, 7)

/-- A STEP RUNS THE DECODED INSTRUCTION: in a mode the part has, when the bytes at the instruction pointer decode to `i` of `n`
bytes, the step is `exec` of `i` with the address of the next instruction `n` bytes on (R22, R112, R150). -/
def Obligations.StepRunsDecoded : Prop :=
  ∀ (s : State) (i : Instr) (n : Nat), s.event = none → s.modeExists = true →
    decode s.decodeMode s.fetch.1 = .ok (i, n) →
    step s = exec i { s with npc := s.advance s.pc n }

/-- Bytes that are no instruction (R112, R151): #UD; for missing bytes the fault of the fetch, or #GP(0) for a length of more
than 15; a refusal only for legacy opcodes outside this spec. In 64-bit mode on a part without it (R235) nothing runs. -/
def Obligations.RejectedBytes : Prop :=
  (∀ (s : State) (p : Stop), s.event = none → s.modeExists = true → decode s.decodeMode s.fetch.1 = .error p →
    (p = .ud → step s = .next (s.raise { exc := .ud })) ∧
    (∀ a, p = .more → s.fetch.2 = some a → step s = .next (s.raise a)) ∧
    (p = .more → s.fetch.2 = none → step s = .next (s.raise { exc := .gp })) ∧
    (p = .unknown → step s = .refused .unknownOpcode) ∧
    (p = .unpredictable → step s = .refused .unpredictablePrefetch)) ∧
  ∀ s : State, s.event = none → s.mode = .long64 → hasIntel64 s.cpu = false → step s = .refused .noSuchMode

/-- The trapped state is terminal, and nothing but it is a fault (D30). -/
def Obligations.FaultsOnlyWhenTrapped : Prop :=
  ∀ (s : State) (f : Fault), step s = .fault f ↔ ∃ e, s.event = some e ∧ f = .trapped e

/-- AN INVARIANT EVERY STEP KEEPS: memory and the ledger of persistent stores stay in their canonical forms (notes/assumptions/9.md
and 10.md), MXCSR's reserved bits stay clear (R28), and the mode, CR4.OSXSAVE, XCR0 and IA32_XSS stay ones the part allows
(R30, R225, R235, R244; notes/assumptions/35.md). -/
def Obligations.StepKeepsInvariant : Prop := ∀ s t : State, s.Inv → step s = .next t → t.Inv

/-- The machine after reset meets the invariant. -/
def Obligations.ResetMeetsInvariant : Prop := State.reset.Inv

/-- What reset leaves (R1600): every vector and opmask register zero, the low byte of XCR0 1, CR4.OSXSAVE and its mirror in
CPUID clear; so no VEX- or EVEX-encoded instruction can execute. -/
def Obligations.ResetValues : Prop :=
  (∀ n : Fin 32, State.reset.getZ n = 0) ∧ (∀ n : Fin 8, State.reset.k.get n = 0) ∧
  State.reset.xcr0.setWidth 8 = 1#8 ∧ State.reset.cr4.getLsbD 18 = false ∧
  (State.reset.leafData 1 0).ecx.getLsbD 27 = false ∧
  ∀ (i : Instr) (o : Operands), operandsOf i = some o → o.space ≠ .legacy →
    exec i State.reset = .next (State.reset.raise { exc := .ud })
end

