-- ==== Sys2Proof/Laws/Bits.lean ====
section
/-! SUPPORT. What the bits of elements, packed vectors, masks and partial register writes are. -/

namespace Sys2Proof.Machine

theorem getLsbD_elem (w j : Nat) {n : Nat} (v : BitVec n) (i : Nat) :
    (elem w j v).getLsbD i = (decide (i < w) && v.getLsbD (w * j + i)) := by
  simp [elem]

theorem getLsbD_pack (w : Nat) (hw : 0 < w) (f : Nat → BitVec w) (n i : Nat) :
    (pack w n f).getLsbD i = (decide (i < 512) && decide (i < w * n) && (f (i / w)).getLsbD (i % w)) := by
  induction n with
  | zero => simp [pack]
  | succ n ih =>
    simp only [pack, BitVec.getLsbD_or, ih, BitVec.getLsbD_shiftLeft, BitVec.getLsbD_setWidth]
    by_cases h : i < 512
    · rcases Nat.lt_or_ge i (w * n) with h1 | h1
      · have : i < w * (n + 1) := by rw [Nat.mul_succ]; omega
        simp [h, h1, this]
      · rcases Nat.lt_or_ge i (w * (n + 1)) with h2 | h2
        · have hd : i / w = n := by
            apply Nat.div_eq_of_lt_le
            · rw [Nat.mul_comm]; exact h1
            · rw [Nat.mul_comm]; exact h2
          have hm : i % w = i - w * n := by
            have := Nat.div_add_mod i w
            rw [hd] at this; omega
          have : i - w * n < 512 := by omega
          simp [h, Nat.not_lt.mpr h1, h2, hd, hm, this]
        · have h3 : w ≤ i - w * n := by rw [Nat.mul_succ] at h2; omega
          have h4 : (f n).getLsbD (i - w * n) = false := BitVec.getLsbD_of_ge _ _ h3
          simp [h, Nat.not_lt.mpr h1, Nat.not_lt.mpr h2, h4]
    · simp [h]

/-- Element `j` of a packed vector. -/
theorem elem_pack (w : Nat) (f : Nat → BitVec w) (n j : Nat) (hj : j < n) (hn : w * n ≤ 512) :
    elem w j (pack w n f) = f j := by
  rcases Nat.eq_zero_or_pos w with rfl | hw
  · exact BitVec.eq_of_zero_length rfl
  · apply BitVec.eq_of_getLsbD_eq
    intro i hi
    have h1 : w * j + i < w * n := by
      calc w * j + i < w * j + w := by omega
        _ = w * (j + 1) := (Nat.mul_succ w j).symm
        _ ≤ w * n := Nat.mul_le_mul_left w hj
    have h2 : (w * j + i) / w = j := by
      rw [Nat.mul_add_div hw, Nat.div_eq_of_lt hi]; rfl
    have h3 : (w * j + i) % w = i := by rw [Nat.mul_add_mod, Nat.mod_eq_of_lt hi]
    rw [getLsbD_elem, getLsbD_pack w hw, h2, h3]
    have : w * j + i < 512 := by omega
    simp [hi, h1, this]

theorem getLsbD_ones_below {W : Nat} (n i : Nat) (hi : i < W) :
    ((1#W <<< n) - 1#W).getLsbD i = decide (i < n) := by
  rcases Nat.lt_or_ge n W with h | h
  · have hp : 2 ^ n < 2 ^ W := Nat.pow_lt_pow_right (by decide) h
    have hp1 : 1 ≤ 2 ^ n := Nat.one_le_two_pow
    have h0 : (1#W <<< n).toNat = 2 ^ n := by
      rw [BitVec.toNat_shiftLeft, BitVec.toNat_ofNat, Nat.mod_eq_of_lt (by omega : 1 < 2 ^ W),
        Nat.shiftLeft_eq, Nat.one_mul, Nat.mod_eq_of_lt hp]
    have h2 : (1#W).toNat = 1 := by rw [BitVec.toNat_ofNat, Nat.mod_eq_of_lt (by omega : 1 < 2 ^ W)]
    have h1 : (1#W <<< n) - 1#W = BitVec.ofNat W (2 ^ n - 1) := by
      apply BitVec.eq_of_toNat_eq
      rw [BitVec.toNat_sub_of_le (by rw [BitVec.le_def, h0, h2]; exact hp1), h0, h2, BitVec.toNat_ofNat,
        Nat.mod_eq_of_lt (by omega)]
    rw [h1, BitVec.getLsbD_ofNat, Nat.testBit_two_pow_sub_one]
    simp [hi]
  · have h1 : (1#W <<< n) = 0#W := BitVec.shiftLeft_eq_zero h
    have h2 : (0#W - 1#W) = BitVec.allOnes W := by rw [BitVec.zero_sub, BitVec.neg_one_eq_allOnes]
    rw [h1, h2, BitVec.getLsbD_allOnes]
    simp [hi]; omega

theorem getLsbD_lowBits (n : Nat) (v : ZWord) (i : Nat) :
    (lowBits n v).getLsbD i = (decide (i < n) && v.getLsbD i) := by
  by_cases hi : i < 512
  · rw [lowBits, BitVec.getLsbD_and, Bool.and_comm]
    congr 1
    exact getLsbD_ones_below n i hi
  · rw [BitVec.getLsbD_of_ge _ _ (Nat.le_of_not_lt hi), BitVec.getLsbD_of_ge v _ (Nat.le_of_not_lt hi)]
    simp

theorem getLsbD_setElem (w j : Nat) (x : BitVec w) (v : ZWord) (i : Nat) (hi : i < 512) :
    (setElem w j x v).getLsbD i =
      if w * j ≤ i ∧ i < w * j + w then x.getLsbD (i - w * j) else v.getLsbD i := by
  unfold setElem
  simp only [BitVec.getLsbD_or, BitVec.getLsbD_and, BitVec.getLsbD_not, BitVec.getLsbD_shiftLeft,
    BitVec.getLsbD_setWidth, BitVec.getLsbD_allOnes]
  have h5 : i - w * j < 512 := by omega
  by_cases h1 : i < w * j
  · simp [hi, h1, Nat.not_le.mpr h1]
  · by_cases h2 : i - w * j < w
    · have h3 : w * j ≤ i ∧ i < w * j + w := by omega
      simp [hi, h1, h2, h3, h5]
    · have h3 : ¬(w * j ≤ i ∧ i < w * j + w) := by omega
      have h4 : x.getLsbD (i - w * j) = false := BitVec.getLsbD_of_ge _ _ (by omega)
      simp [hi, h1, h2, h3, h4, h5]

theorem getLsbD_packMask (n : Nat) (f : Nat → Bool) (i : Nat) :
    (packMask n f).getLsbD i = (decide (i < 64) && decide (i < n) && f i) := by
  induction n with
  | zero => simp [packMask]
  | succ n ih =>
    simp only [packMask, BitVec.getLsbD_or, ih, BitVec.getLsbD_shiftLeft]
    by_cases h : i < 64
    · rcases Nat.lt_trichotomy i n with h1 | h1 | h1
      · simp [h, h1, Nat.lt_succ_of_lt h1]
      · subst h1
        cases hf : f i <;> simp [h]
      · have h2 : ¬ i < n := by omega
        have h3 : ¬ i < n + 1 := by omega
        have h4 : ¬ i - n = 0 := by omega
        cases hf : f n <;> simp [h, h2, h3, h4]
    · simp [h]

/-- A register after a partial write (R25): the bits written, and above them the old ones for a legacy form, else
zeros. -/
theorem getLsbD_putVec (s : State) (sp : Space) (d : Fin 32) (vl : Nat) (v : ZWord) (i : Nat) (hi : i < 512) :
    ((s.putVec sp d vl v).getZ d).getLsbD i =
      if i < vl then v.getLsbD i else decide (sp = .legacy) && (s.getZ d).getLsbD i := by
  have hz : ∀ x : ZWord, (s.setZ d x).getZ d = x := by
    intro x
    simp only [State.getZ, State.setZ, Vector.get]
    exact Vector.getElem_set_self _
  cases sp
  · simp only [State.putVec, hz, BitVec.getLsbD_or, getLsbD_lowBits, BitVec.getLsbD_shiftLeft, BitVec.getLsbD_ushiftRight]
    by_cases h : i < vl
    · simp [h]
    · have : vl + (i - vl) = i := by omega
      simp [h, hi, this]
  all_goals
    simp only [State.putVec, hz, getLsbD_lowBits]
    by_cases h : i < vl <;> simp [h]

theorem getZ_putVec_ne (s : State) (sp : Space) (d x : Fin 32) (vl : Nat) (v : ZWord) (h : x ≠ d) :
    (s.putVec sp d vl v).getZ x = s.getZ x := by
  cases sp <;>
  · simp only [State.putVec, State.getZ, State.setZ, Vector.get]
    exact Vector.getElem_set_ne _ _ (fun e => h (Fin.ext e.symm))

end Sys2Proof.Machine
end

