-- ==== Sys2Proof/Laws/State.lean ====
section
/-! SUPPORT. What each named update of the state leaves as it was: one lemma per field per update, so that no later proof
unfolds a record update. Then what the registers an update writes hold. -/

namespace Sys2Proof.Machine

namespace State

/-! ### setGpr -/

@[simp] theorem setGpr_pc (s : State) (n : Fin 32) (v : Word) : (s.setGpr n v).pc = s.pc := rfl
@[simp] theorem setGpr_npc (s : State) (n : Fin 32) (v : Word) : (s.setGpr n v).npc = s.npc := rfl
@[simp] theorem setGpr_eflags (s : State) (n : Fin 32) (v : Word) : (s.setGpr n v).eflags = s.eflags := rfl
@[simp] theorem setGpr_zmm (s : State) (n : Fin 32) (v : Word) : (s.setGpr n v).zmm = s.zmm := rfl
@[simp] theorem setGpr_k (s : State) (n : Fin 32) (v : Word) : (s.setGpr n v).k = s.k := rfl
@[simp] theorem setGpr_mxcsr (s : State) (n : Fin 32) (v : Word) : (s.setGpr n v).mxcsr = s.mxcsr := rfl
@[simp] theorem setGpr_xcr0 (s : State) (n : Fin 32) (v : Word) : (s.setGpr n v).xcr0 = s.xcr0 := rfl
@[simp] theorem setGpr_cr0 (s : State) (n : Fin 32) (v : Word) : (s.setGpr n v).cr0 = s.cr0 := rfl
@[simp] theorem setGpr_cr2 (s : State) (n : Fin 32) (v : Word) : (s.setGpr n v).cr2 = s.cr2 := rfl
@[simp] theorem setGpr_cr4 (s : State) (n : Fin 32) (v : Word) : (s.setGpr n v).cr4 = s.cr4 := rfl
@[simp] theorem setGpr_mode (s : State) (n : Fin 32) (v : Word) : (s.setGpr n v).mode = s.mode := rfl
@[simp] theorem setGpr_code16 (s : State) (n : Fin 32) (v : Word) : (s.setGpr n v).code16 = s.code16 := rfl
@[simp] theorem setGpr_cpl (s : State) (n : Fin 32) (v : Word) : (s.setGpr n v).cpl = s.cpl := rfl
@[simp] theorem setGpr_segs (s : State) (n : Fin 32) (v : Word) : (s.setGpr n v).segs = s.segs := rfl
@[simp] theorem setGpr_biosSignId (s : State) (n : Fin 32) (v : Word) : (s.setGpr n v).biosSignId = s.biosSignId := rfl
@[simp] theorem setGpr_featureControl (s : State) (n : Fin 32) (v : Word) : (s.setGpr n v).featureControl = s.featureControl := rfl
@[simp] theorem setGpr_miscEnables (s : State) (n : Fin 32) (v : Word) : (s.setGpr n v).miscEnables = s.miscEnables := rfl
@[simp] theorem setGpr_xss (s : State) (n : Fin 32) (v : Word) : (s.setGpr n v).xss = s.xss := rfl
@[simp] theorem setGpr_vmxControls2 (s : State) (n : Fin 32) (v : Word) : (s.setGpr n v).vmxControls2 = s.vmxControls2 := rfl
@[simp] theorem setGpr_vmxNonRoot (s : State) (n : Fin 32) (v : Word) : (s.setGpr n v).vmxNonRoot = s.vmxNonRoot := rfl
@[simp] theorem setGpr_inEnclave (s : State) (n : Fin 32) (v : Word) : (s.setGpr n v).inEnclave = s.inEnclave := rfl
@[simp] theorem setGpr_mem (s : State) (n : Fin 32) (v : Word) : (s.setGpr n v).mem = s.mem := rfl
@[simp] theorem setGpr_regions (s : State) (n : Fin 32) (v : Word) : (s.setGpr n v).regions = s.regions := rfl
@[simp] theorem setGpr_pmem (s : State) (n : Fin 32) (v : Word) : (s.setGpr n v).pmem = s.pmem := rfl
@[simp] theorem setGpr_memTypes (s : State) (n : Fin 32) (v : Word) : (s.setGpr n v).memTypes = s.memTypes := rfl
@[simp] theorem setGpr_durability (s : State) (n : Fin 32) (v : Word) : (s.setGpr n v).durability = s.durability := rfl
@[simp] theorem setGpr_cpu (s : State) (n : Fin 32) (v : Word) : (s.setGpr n v).cpu = s.cpu := rfl
@[simp] theorem setGpr_event (s : State) (n : Fin 32) (v : Word) : (s.setGpr n v).event = s.event := rfl

/-! ### putGpr -/

@[simp] theorem putGpr_pc (s : State) {w : Nat} (n : Fin 32) (v : BitVec w) : (s.putGpr n v).pc = s.pc := rfl
@[simp] theorem putGpr_npc (s : State) {w : Nat} (n : Fin 32) (v : BitVec w) : (s.putGpr n v).npc = s.npc := rfl
@[simp] theorem putGpr_eflags (s : State) {w : Nat} (n : Fin 32) (v : BitVec w) : (s.putGpr n v).eflags = s.eflags := rfl
@[simp] theorem putGpr_zmm (s : State) {w : Nat} (n : Fin 32) (v : BitVec w) : (s.putGpr n v).zmm = s.zmm := rfl
@[simp] theorem putGpr_k (s : State) {w : Nat} (n : Fin 32) (v : BitVec w) : (s.putGpr n v).k = s.k := rfl
@[simp] theorem putGpr_mxcsr (s : State) {w : Nat} (n : Fin 32) (v : BitVec w) : (s.putGpr n v).mxcsr = s.mxcsr := rfl
@[simp] theorem putGpr_xcr0 (s : State) {w : Nat} (n : Fin 32) (v : BitVec w) : (s.putGpr n v).xcr0 = s.xcr0 := rfl
@[simp] theorem putGpr_cr0 (s : State) {w : Nat} (n : Fin 32) (v : BitVec w) : (s.putGpr n v).cr0 = s.cr0 := rfl
@[simp] theorem putGpr_cr2 (s : State) {w : Nat} (n : Fin 32) (v : BitVec w) : (s.putGpr n v).cr2 = s.cr2 := rfl
@[simp] theorem putGpr_cr4 (s : State) {w : Nat} (n : Fin 32) (v : BitVec w) : (s.putGpr n v).cr4 = s.cr4 := rfl
@[simp] theorem putGpr_mode (s : State) {w : Nat} (n : Fin 32) (v : BitVec w) : (s.putGpr n v).mode = s.mode := rfl
@[simp] theorem putGpr_code16 (s : State) {w : Nat} (n : Fin 32) (v : BitVec w) : (s.putGpr n v).code16 = s.code16 := rfl
@[simp] theorem putGpr_cpl (s : State) {w : Nat} (n : Fin 32) (v : BitVec w) : (s.putGpr n v).cpl = s.cpl := rfl
@[simp] theorem putGpr_segs (s : State) {w : Nat} (n : Fin 32) (v : BitVec w) : (s.putGpr n v).segs = s.segs := rfl
@[simp] theorem putGpr_biosSignId (s : State) {w : Nat} (n : Fin 32) (v : BitVec w) : (s.putGpr n v).biosSignId = s.biosSignId := rfl
@[simp] theorem putGpr_featureControl (s : State) {w : Nat} (n : Fin 32) (v : BitVec w) : (s.putGpr n v).featureControl = s.featureControl := rfl
@[simp] theorem putGpr_miscEnables (s : State) {w : Nat} (n : Fin 32) (v : BitVec w) : (s.putGpr n v).miscEnables = s.miscEnables := rfl
@[simp] theorem putGpr_xss (s : State) {w : Nat} (n : Fin 32) (v : BitVec w) : (s.putGpr n v).xss = s.xss := rfl
@[simp] theorem putGpr_vmxControls2 (s : State) {w : Nat} (n : Fin 32) (v : BitVec w) : (s.putGpr n v).vmxControls2 = s.vmxControls2 := rfl
@[simp] theorem putGpr_vmxNonRoot (s : State) {w : Nat} (n : Fin 32) (v : BitVec w) : (s.putGpr n v).vmxNonRoot = s.vmxNonRoot := rfl
@[simp] theorem putGpr_inEnclave (s : State) {w : Nat} (n : Fin 32) (v : BitVec w) : (s.putGpr n v).inEnclave = s.inEnclave := rfl
@[simp] theorem putGpr_mem (s : State) {w : Nat} (n : Fin 32) (v : BitVec w) : (s.putGpr n v).mem = s.mem := rfl
@[simp] theorem putGpr_regions (s : State) {w : Nat} (n : Fin 32) (v : BitVec w) : (s.putGpr n v).regions = s.regions := rfl
@[simp] theorem putGpr_pmem (s : State) {w : Nat} (n : Fin 32) (v : BitVec w) : (s.putGpr n v).pmem = s.pmem := rfl
@[simp] theorem putGpr_memTypes (s : State) {w : Nat} (n : Fin 32) (v : BitVec w) : (s.putGpr n v).memTypes = s.memTypes := rfl
@[simp] theorem putGpr_durability (s : State) {w : Nat} (n : Fin 32) (v : BitVec w) : (s.putGpr n v).durability = s.durability := rfl
@[simp] theorem putGpr_cpu (s : State) {w : Nat} (n : Fin 32) (v : BitVec w) : (s.putGpr n v).cpu = s.cpu := rfl
@[simp] theorem putGpr_event (s : State) {w : Nat} (n : Fin 32) (v : BitVec w) : (s.putGpr n v).event = s.event := rfl

/-! ### setZ -/

@[simp] theorem setZ_gpr (s : State) (n : Fin 32) (v : ZWord) : (s.setZ n v).gpr = s.gpr := rfl
@[simp] theorem setZ_pc (s : State) (n : Fin 32) (v : ZWord) : (s.setZ n v).pc = s.pc := rfl
@[simp] theorem setZ_npc (s : State) (n : Fin 32) (v : ZWord) : (s.setZ n v).npc = s.npc := rfl
@[simp] theorem setZ_eflags (s : State) (n : Fin 32) (v : ZWord) : (s.setZ n v).eflags = s.eflags := rfl
@[simp] theorem setZ_k (s : State) (n : Fin 32) (v : ZWord) : (s.setZ n v).k = s.k := rfl
@[simp] theorem setZ_mxcsr (s : State) (n : Fin 32) (v : ZWord) : (s.setZ n v).mxcsr = s.mxcsr := rfl
@[simp] theorem setZ_xcr0 (s : State) (n : Fin 32) (v : ZWord) : (s.setZ n v).xcr0 = s.xcr0 := rfl
@[simp] theorem setZ_cr0 (s : State) (n : Fin 32) (v : ZWord) : (s.setZ n v).cr0 = s.cr0 := rfl
@[simp] theorem setZ_cr2 (s : State) (n : Fin 32) (v : ZWord) : (s.setZ n v).cr2 = s.cr2 := rfl
@[simp] theorem setZ_cr4 (s : State) (n : Fin 32) (v : ZWord) : (s.setZ n v).cr4 = s.cr4 := rfl
@[simp] theorem setZ_mode (s : State) (n : Fin 32) (v : ZWord) : (s.setZ n v).mode = s.mode := rfl
@[simp] theorem setZ_code16 (s : State) (n : Fin 32) (v : ZWord) : (s.setZ n v).code16 = s.code16 := rfl
@[simp] theorem setZ_cpl (s : State) (n : Fin 32) (v : ZWord) : (s.setZ n v).cpl = s.cpl := rfl
@[simp] theorem setZ_segs (s : State) (n : Fin 32) (v : ZWord) : (s.setZ n v).segs = s.segs := rfl
@[simp] theorem setZ_biosSignId (s : State) (n : Fin 32) (v : ZWord) : (s.setZ n v).biosSignId = s.biosSignId := rfl
@[simp] theorem setZ_featureControl (s : State) (n : Fin 32) (v : ZWord) : (s.setZ n v).featureControl = s.featureControl := rfl
@[simp] theorem setZ_miscEnables (s : State) (n : Fin 32) (v : ZWord) : (s.setZ n v).miscEnables = s.miscEnables := rfl
@[simp] theorem setZ_xss (s : State) (n : Fin 32) (v : ZWord) : (s.setZ n v).xss = s.xss := rfl
@[simp] theorem setZ_vmxControls2 (s : State) (n : Fin 32) (v : ZWord) : (s.setZ n v).vmxControls2 = s.vmxControls2 := rfl
@[simp] theorem setZ_vmxNonRoot (s : State) (n : Fin 32) (v : ZWord) : (s.setZ n v).vmxNonRoot = s.vmxNonRoot := rfl
@[simp] theorem setZ_inEnclave (s : State) (n : Fin 32) (v : ZWord) : (s.setZ n v).inEnclave = s.inEnclave := rfl
@[simp] theorem setZ_mem (s : State) (n : Fin 32) (v : ZWord) : (s.setZ n v).mem = s.mem := rfl
@[simp] theorem setZ_regions (s : State) (n : Fin 32) (v : ZWord) : (s.setZ n v).regions = s.regions := rfl
@[simp] theorem setZ_pmem (s : State) (n : Fin 32) (v : ZWord) : (s.setZ n v).pmem = s.pmem := rfl
@[simp] theorem setZ_memTypes (s : State) (n : Fin 32) (v : ZWord) : (s.setZ n v).memTypes = s.memTypes := rfl
@[simp] theorem setZ_durability (s : State) (n : Fin 32) (v : ZWord) : (s.setZ n v).durability = s.durability := rfl
@[simp] theorem setZ_cpu (s : State) (n : Fin 32) (v : ZWord) : (s.setZ n v).cpu = s.cpu := rfl
@[simp] theorem setZ_event (s : State) (n : Fin 32) (v : ZWord) : (s.setZ n v).event = s.event := rfl

/-! ### setK -/

@[simp] theorem setK_gpr (s : State) (n : Fin 32) (v : KWord) : (s.setK n v).gpr = s.gpr := rfl
@[simp] theorem setK_pc (s : State) (n : Fin 32) (v : KWord) : (s.setK n v).pc = s.pc := rfl
@[simp] theorem setK_npc (s : State) (n : Fin 32) (v : KWord) : (s.setK n v).npc = s.npc := rfl
@[simp] theorem setK_eflags (s : State) (n : Fin 32) (v : KWord) : (s.setK n v).eflags = s.eflags := rfl
@[simp] theorem setK_zmm (s : State) (n : Fin 32) (v : KWord) : (s.setK n v).zmm = s.zmm := rfl
@[simp] theorem setK_mxcsr (s : State) (n : Fin 32) (v : KWord) : (s.setK n v).mxcsr = s.mxcsr := rfl
@[simp] theorem setK_xcr0 (s : State) (n : Fin 32) (v : KWord) : (s.setK n v).xcr0 = s.xcr0 := rfl
@[simp] theorem setK_cr0 (s : State) (n : Fin 32) (v : KWord) : (s.setK n v).cr0 = s.cr0 := rfl
@[simp] theorem setK_cr2 (s : State) (n : Fin 32) (v : KWord) : (s.setK n v).cr2 = s.cr2 := rfl
@[simp] theorem setK_cr4 (s : State) (n : Fin 32) (v : KWord) : (s.setK n v).cr4 = s.cr4 := rfl
@[simp] theorem setK_mode (s : State) (n : Fin 32) (v : KWord) : (s.setK n v).mode = s.mode := rfl
@[simp] theorem setK_code16 (s : State) (n : Fin 32) (v : KWord) : (s.setK n v).code16 = s.code16 := rfl
@[simp] theorem setK_cpl (s : State) (n : Fin 32) (v : KWord) : (s.setK n v).cpl = s.cpl := rfl
@[simp] theorem setK_segs (s : State) (n : Fin 32) (v : KWord) : (s.setK n v).segs = s.segs := rfl
@[simp] theorem setK_biosSignId (s : State) (n : Fin 32) (v : KWord) : (s.setK n v).biosSignId = s.biosSignId := rfl
@[simp] theorem setK_featureControl (s : State) (n : Fin 32) (v : KWord) : (s.setK n v).featureControl = s.featureControl := rfl
@[simp] theorem setK_miscEnables (s : State) (n : Fin 32) (v : KWord) : (s.setK n v).miscEnables = s.miscEnables := rfl
@[simp] theorem setK_xss (s : State) (n : Fin 32) (v : KWord) : (s.setK n v).xss = s.xss := rfl
@[simp] theorem setK_vmxControls2 (s : State) (n : Fin 32) (v : KWord) : (s.setK n v).vmxControls2 = s.vmxControls2 := rfl
@[simp] theorem setK_vmxNonRoot (s : State) (n : Fin 32) (v : KWord) : (s.setK n v).vmxNonRoot = s.vmxNonRoot := rfl
@[simp] theorem setK_inEnclave (s : State) (n : Fin 32) (v : KWord) : (s.setK n v).inEnclave = s.inEnclave := rfl
@[simp] theorem setK_mem (s : State) (n : Fin 32) (v : KWord) : (s.setK n v).mem = s.mem := rfl
@[simp] theorem setK_regions (s : State) (n : Fin 32) (v : KWord) : (s.setK n v).regions = s.regions := rfl
@[simp] theorem setK_pmem (s : State) (n : Fin 32) (v : KWord) : (s.setK n v).pmem = s.pmem := rfl
@[simp] theorem setK_memTypes (s : State) (n : Fin 32) (v : KWord) : (s.setK n v).memTypes = s.memTypes := rfl
@[simp] theorem setK_durability (s : State) (n : Fin 32) (v : KWord) : (s.setK n v).durability = s.durability := rfl
@[simp] theorem setK_cpu (s : State) (n : Fin 32) (v : KWord) : (s.setK n v).cpu = s.cpu := rfl
@[simp] theorem setK_event (s : State) (n : Fin 32) (v : KWord) : (s.setK n v).event = s.event := rfl

/-! ### clearMaskBit -/

@[simp] theorem clearMaskBit_gpr (s : State) (a : Fin 8) (j : Nat) : (s.clearMaskBit a j).gpr = s.gpr := rfl
@[simp] theorem clearMaskBit_pc (s : State) (a : Fin 8) (j : Nat) : (s.clearMaskBit a j).pc = s.pc := rfl
@[simp] theorem clearMaskBit_npc (s : State) (a : Fin 8) (j : Nat) : (s.clearMaskBit a j).npc = s.npc := rfl
@[simp] theorem clearMaskBit_eflags (s : State) (a : Fin 8) (j : Nat) : (s.clearMaskBit a j).eflags = s.eflags := rfl
@[simp] theorem clearMaskBit_zmm (s : State) (a : Fin 8) (j : Nat) : (s.clearMaskBit a j).zmm = s.zmm := rfl
@[simp] theorem clearMaskBit_mxcsr (s : State) (a : Fin 8) (j : Nat) : (s.clearMaskBit a j).mxcsr = s.mxcsr := rfl
@[simp] theorem clearMaskBit_xcr0 (s : State) (a : Fin 8) (j : Nat) : (s.clearMaskBit a j).xcr0 = s.xcr0 := rfl
@[simp] theorem clearMaskBit_cr0 (s : State) (a : Fin 8) (j : Nat) : (s.clearMaskBit a j).cr0 = s.cr0 := rfl
@[simp] theorem clearMaskBit_cr2 (s : State) (a : Fin 8) (j : Nat) : (s.clearMaskBit a j).cr2 = s.cr2 := rfl
@[simp] theorem clearMaskBit_cr4 (s : State) (a : Fin 8) (j : Nat) : (s.clearMaskBit a j).cr4 = s.cr4 := rfl
@[simp] theorem clearMaskBit_mode (s : State) (a : Fin 8) (j : Nat) : (s.clearMaskBit a j).mode = s.mode := rfl
@[simp] theorem clearMaskBit_code16 (s : State) (a : Fin 8) (j : Nat) : (s.clearMaskBit a j).code16 = s.code16 := rfl
@[simp] theorem clearMaskBit_cpl (s : State) (a : Fin 8) (j : Nat) : (s.clearMaskBit a j).cpl = s.cpl := rfl
@[simp] theorem clearMaskBit_segs (s : State) (a : Fin 8) (j : Nat) : (s.clearMaskBit a j).segs = s.segs := rfl
@[simp] theorem clearMaskBit_biosSignId (s : State) (a : Fin 8) (j : Nat) : (s.clearMaskBit a j).biosSignId = s.biosSignId := rfl
@[simp] theorem clearMaskBit_featureControl (s : State) (a : Fin 8) (j : Nat) : (s.clearMaskBit a j).featureControl = s.featureControl := rfl
@[simp] theorem clearMaskBit_miscEnables (s : State) (a : Fin 8) (j : Nat) : (s.clearMaskBit a j).miscEnables = s.miscEnables := rfl
@[simp] theorem clearMaskBit_xss (s : State) (a : Fin 8) (j : Nat) : (s.clearMaskBit a j).xss = s.xss := rfl
@[simp] theorem clearMaskBit_vmxControls2 (s : State) (a : Fin 8) (j : Nat) : (s.clearMaskBit a j).vmxControls2 = s.vmxControls2 := rfl
@[simp] theorem clearMaskBit_vmxNonRoot (s : State) (a : Fin 8) (j : Nat) : (s.clearMaskBit a j).vmxNonRoot = s.vmxNonRoot := rfl
@[simp] theorem clearMaskBit_inEnclave (s : State) (a : Fin 8) (j : Nat) : (s.clearMaskBit a j).inEnclave = s.inEnclave := rfl
@[simp] theorem clearMaskBit_mem (s : State) (a : Fin 8) (j : Nat) : (s.clearMaskBit a j).mem = s.mem := rfl
@[simp] theorem clearMaskBit_regions (s : State) (a : Fin 8) (j : Nat) : (s.clearMaskBit a j).regions = s.regions := rfl
@[simp] theorem clearMaskBit_pmem (s : State) (a : Fin 8) (j : Nat) : (s.clearMaskBit a j).pmem = s.pmem := rfl
@[simp] theorem clearMaskBit_memTypes (s : State) (a : Fin 8) (j : Nat) : (s.clearMaskBit a j).memTypes = s.memTypes := rfl
@[simp] theorem clearMaskBit_durability (s : State) (a : Fin 8) (j : Nat) : (s.clearMaskBit a j).durability = s.durability := rfl
@[simp] theorem clearMaskBit_cpu (s : State) (a : Fin 8) (j : Nat) : (s.clearMaskBit a j).cpu = s.cpu := rfl
@[simp] theorem clearMaskBit_event (s : State) (a : Fin 8) (j : Nat) : (s.clearMaskBit a j).event = s.event := rfl

/-! ### setMask -/

@[simp] theorem setMask_gpr (s : State) (a : Fin 8) (v : KWord) : (s.setMask a v).gpr = s.gpr := rfl
@[simp] theorem setMask_pc (s : State) (a : Fin 8) (v : KWord) : (s.setMask a v).pc = s.pc := rfl
@[simp] theorem setMask_npc (s : State) (a : Fin 8) (v : KWord) : (s.setMask a v).npc = s.npc := rfl
@[simp] theorem setMask_eflags (s : State) (a : Fin 8) (v : KWord) : (s.setMask a v).eflags = s.eflags := rfl
@[simp] theorem setMask_zmm (s : State) (a : Fin 8) (v : KWord) : (s.setMask a v).zmm = s.zmm := rfl
@[simp] theorem setMask_mxcsr (s : State) (a : Fin 8) (v : KWord) : (s.setMask a v).mxcsr = s.mxcsr := rfl
@[simp] theorem setMask_xcr0 (s : State) (a : Fin 8) (v : KWord) : (s.setMask a v).xcr0 = s.xcr0 := rfl
@[simp] theorem setMask_cr0 (s : State) (a : Fin 8) (v : KWord) : (s.setMask a v).cr0 = s.cr0 := rfl
@[simp] theorem setMask_cr2 (s : State) (a : Fin 8) (v : KWord) : (s.setMask a v).cr2 = s.cr2 := rfl
@[simp] theorem setMask_cr4 (s : State) (a : Fin 8) (v : KWord) : (s.setMask a v).cr4 = s.cr4 := rfl
@[simp] theorem setMask_mode (s : State) (a : Fin 8) (v : KWord) : (s.setMask a v).mode = s.mode := rfl
@[simp] theorem setMask_code16 (s : State) (a : Fin 8) (v : KWord) : (s.setMask a v).code16 = s.code16 := rfl
@[simp] theorem setMask_cpl (s : State) (a : Fin 8) (v : KWord) : (s.setMask a v).cpl = s.cpl := rfl
@[simp] theorem setMask_segs (s : State) (a : Fin 8) (v : KWord) : (s.setMask a v).segs = s.segs := rfl
@[simp] theorem setMask_biosSignId (s : State) (a : Fin 8) (v : KWord) : (s.setMask a v).biosSignId = s.biosSignId := rfl
@[simp] theorem setMask_featureControl (s : State) (a : Fin 8) (v : KWord) : (s.setMask a v).featureControl = s.featureControl := rfl
@[simp] theorem setMask_miscEnables (s : State) (a : Fin 8) (v : KWord) : (s.setMask a v).miscEnables = s.miscEnables := rfl
@[simp] theorem setMask_xss (s : State) (a : Fin 8) (v : KWord) : (s.setMask a v).xss = s.xss := rfl
@[simp] theorem setMask_vmxControls2 (s : State) (a : Fin 8) (v : KWord) : (s.setMask a v).vmxControls2 = s.vmxControls2 := rfl
@[simp] theorem setMask_vmxNonRoot (s : State) (a : Fin 8) (v : KWord) : (s.setMask a v).vmxNonRoot = s.vmxNonRoot := rfl
@[simp] theorem setMask_inEnclave (s : State) (a : Fin 8) (v : KWord) : (s.setMask a v).inEnclave = s.inEnclave := rfl
@[simp] theorem setMask_mem (s : State) (a : Fin 8) (v : KWord) : (s.setMask a v).mem = s.mem := rfl
@[simp] theorem setMask_regions (s : State) (a : Fin 8) (v : KWord) : (s.setMask a v).regions = s.regions := rfl
@[simp] theorem setMask_pmem (s : State) (a : Fin 8) (v : KWord) : (s.setMask a v).pmem = s.pmem := rfl
@[simp] theorem setMask_memTypes (s : State) (a : Fin 8) (v : KWord) : (s.setMask a v).memTypes = s.memTypes := rfl
@[simp] theorem setMask_durability (s : State) (a : Fin 8) (v : KWord) : (s.setMask a v).durability = s.durability := rfl
@[simp] theorem setMask_cpu (s : State) (a : Fin 8) (v : KWord) : (s.setMask a v).cpu = s.cpu := rfl
@[simp] theorem setMask_event (s : State) (a : Fin 8) (v : KWord) : (s.setMask a v).event = s.event := rfl

/-! ### raise -/

@[simp] theorem raise_gpr (s : State) (a : Abort) : (s.raise a).gpr = s.gpr := rfl
@[simp] theorem raise_pc (s : State) (a : Abort) : (s.raise a).pc = s.pc := rfl
@[simp] theorem raise_npc (s : State) (a : Abort) : (s.raise a).npc = s.npc := rfl
@[simp] theorem raise_eflags (s : State) (a : Abort) : (s.raise a).eflags = s.eflags := rfl
@[simp] theorem raise_zmm (s : State) (a : Abort) : (s.raise a).zmm = s.zmm := rfl
@[simp] theorem raise_k (s : State) (a : Abort) : (s.raise a).k = s.k := rfl
@[simp] theorem raise_mxcsr (s : State) (a : Abort) : (s.raise a).mxcsr = s.mxcsr := rfl
@[simp] theorem raise_xcr0 (s : State) (a : Abort) : (s.raise a).xcr0 = s.xcr0 := rfl
@[simp] theorem raise_cr0 (s : State) (a : Abort) : (s.raise a).cr0 = s.cr0 := rfl
@[simp] theorem raise_cr4 (s : State) (a : Abort) : (s.raise a).cr4 = s.cr4 := rfl
@[simp] theorem raise_mode (s : State) (a : Abort) : (s.raise a).mode = s.mode := rfl
@[simp] theorem raise_code16 (s : State) (a : Abort) : (s.raise a).code16 = s.code16 := rfl
@[simp] theorem raise_cpl (s : State) (a : Abort) : (s.raise a).cpl = s.cpl := rfl
@[simp] theorem raise_segs (s : State) (a : Abort) : (s.raise a).segs = s.segs := rfl
@[simp] theorem raise_biosSignId (s : State) (a : Abort) : (s.raise a).biosSignId = s.biosSignId := rfl
@[simp] theorem raise_featureControl (s : State) (a : Abort) : (s.raise a).featureControl = s.featureControl := rfl
@[simp] theorem raise_miscEnables (s : State) (a : Abort) : (s.raise a).miscEnables = s.miscEnables := rfl
@[simp] theorem raise_xss (s : State) (a : Abort) : (s.raise a).xss = s.xss := rfl
@[simp] theorem raise_vmxControls2 (s : State) (a : Abort) : (s.raise a).vmxControls2 = s.vmxControls2 := rfl
@[simp] theorem raise_vmxNonRoot (s : State) (a : Abort) : (s.raise a).vmxNonRoot = s.vmxNonRoot := rfl
@[simp] theorem raise_inEnclave (s : State) (a : Abort) : (s.raise a).inEnclave = s.inEnclave := rfl
@[simp] theorem raise_mem (s : State) (a : Abort) : (s.raise a).mem = s.mem := rfl
@[simp] theorem raise_regions (s : State) (a : Abort) : (s.raise a).regions = s.regions := rfl
@[simp] theorem raise_pmem (s : State) (a : Abort) : (s.raise a).pmem = s.pmem := rfl
@[simp] theorem raise_memTypes (s : State) (a : Abort) : (s.raise a).memTypes = s.memTypes := rfl
@[simp] theorem raise_durability (s : State) (a : Abort) : (s.raise a).durability = s.durability := rfl
@[simp] theorem raise_cpu (s : State) (a : Abort) : (s.raise a).cpu = s.cpu := rfl

/-! ### storeByte -/

@[simp] theorem storeByte_gpr (s : State) (nt : Bool) (a : Nat) (v : Byte) : (s.storeByte nt a v).gpr = s.gpr := rfl
@[simp] theorem storeByte_pc (s : State) (nt : Bool) (a : Nat) (v : Byte) : (s.storeByte nt a v).pc = s.pc := rfl
@[simp] theorem storeByte_npc (s : State) (nt : Bool) (a : Nat) (v : Byte) : (s.storeByte nt a v).npc = s.npc := rfl
@[simp] theorem storeByte_eflags (s : State) (nt : Bool) (a : Nat) (v : Byte) : (s.storeByte nt a v).eflags = s.eflags := rfl
@[simp] theorem storeByte_zmm (s : State) (nt : Bool) (a : Nat) (v : Byte) : (s.storeByte nt a v).zmm = s.zmm := rfl
@[simp] theorem storeByte_k (s : State) (nt : Bool) (a : Nat) (v : Byte) : (s.storeByte nt a v).k = s.k := rfl
@[simp] theorem storeByte_mxcsr (s : State) (nt : Bool) (a : Nat) (v : Byte) : (s.storeByte nt a v).mxcsr = s.mxcsr := rfl
@[simp] theorem storeByte_xcr0 (s : State) (nt : Bool) (a : Nat) (v : Byte) : (s.storeByte nt a v).xcr0 = s.xcr0 := rfl
@[simp] theorem storeByte_cr0 (s : State) (nt : Bool) (a : Nat) (v : Byte) : (s.storeByte nt a v).cr0 = s.cr0 := rfl
@[simp] theorem storeByte_cr2 (s : State) (nt : Bool) (a : Nat) (v : Byte) : (s.storeByte nt a v).cr2 = s.cr2 := rfl
@[simp] theorem storeByte_cr4 (s : State) (nt : Bool) (a : Nat) (v : Byte) : (s.storeByte nt a v).cr4 = s.cr4 := rfl
@[simp] theorem storeByte_mode (s : State) (nt : Bool) (a : Nat) (v : Byte) : (s.storeByte nt a v).mode = s.mode := rfl
@[simp] theorem storeByte_code16 (s : State) (nt : Bool) (a : Nat) (v : Byte) : (s.storeByte nt a v).code16 = s.code16 := rfl
@[simp] theorem storeByte_cpl (s : State) (nt : Bool) (a : Nat) (v : Byte) : (s.storeByte nt a v).cpl = s.cpl := rfl
@[simp] theorem storeByte_segs (s : State) (nt : Bool) (a : Nat) (v : Byte) : (s.storeByte nt a v).segs = s.segs := rfl
@[simp] theorem storeByte_biosSignId (s : State) (nt : Bool) (a : Nat) (v : Byte) : (s.storeByte nt a v).biosSignId = s.biosSignId := rfl
@[simp] theorem storeByte_featureControl (s : State) (nt : Bool) (a : Nat) (v : Byte) : (s.storeByte nt a v).featureControl = s.featureControl := rfl
@[simp] theorem storeByte_miscEnables (s : State) (nt : Bool) (a : Nat) (v : Byte) : (s.storeByte nt a v).miscEnables = s.miscEnables := rfl
@[simp] theorem storeByte_xss (s : State) (nt : Bool) (a : Nat) (v : Byte) : (s.storeByte nt a v).xss = s.xss := rfl
@[simp] theorem storeByte_vmxControls2 (s : State) (nt : Bool) (a : Nat) (v : Byte) : (s.storeByte nt a v).vmxControls2 = s.vmxControls2 := rfl
@[simp] theorem storeByte_vmxNonRoot (s : State) (nt : Bool) (a : Nat) (v : Byte) : (s.storeByte nt a v).vmxNonRoot = s.vmxNonRoot := rfl
@[simp] theorem storeByte_inEnclave (s : State) (nt : Bool) (a : Nat) (v : Byte) : (s.storeByte nt a v).inEnclave = s.inEnclave := rfl
@[simp] theorem storeByte_regions (s : State) (nt : Bool) (a : Nat) (v : Byte) : (s.storeByte nt a v).regions = s.regions := rfl
@[simp] theorem storeByte_pmem (s : State) (nt : Bool) (a : Nat) (v : Byte) : (s.storeByte nt a v).pmem = s.pmem := rfl
@[simp] theorem storeByte_memTypes (s : State) (nt : Bool) (a : Nat) (v : Byte) : (s.storeByte nt a v).memTypes = s.memTypes := rfl
@[simp] theorem storeByte_cpu (s : State) (nt : Bool) (a : Nat) (v : Byte) : (s.storeByte nt a v).cpu = s.cpu := rfl
@[simp] theorem storeByte_event (s : State) (nt : Bool) (a : Nat) (v : Byte) : (s.storeByte nt a v).event = s.event := rfl

/-! ### writeBackLine -/

@[simp] theorem writeBackLine_gpr (s : State) (l n : Nat) : (s.writeBackLine l n).gpr = s.gpr := rfl
@[simp] theorem writeBackLine_pc (s : State) (l n : Nat) : (s.writeBackLine l n).pc = s.pc := rfl
@[simp] theorem writeBackLine_npc (s : State) (l n : Nat) : (s.writeBackLine l n).npc = s.npc := rfl
@[simp] theorem writeBackLine_eflags (s : State) (l n : Nat) : (s.writeBackLine l n).eflags = s.eflags := rfl
@[simp] theorem writeBackLine_zmm (s : State) (l n : Nat) : (s.writeBackLine l n).zmm = s.zmm := rfl
@[simp] theorem writeBackLine_k (s : State) (l n : Nat) : (s.writeBackLine l n).k = s.k := rfl
@[simp] theorem writeBackLine_mxcsr (s : State) (l n : Nat) : (s.writeBackLine l n).mxcsr = s.mxcsr := rfl
@[simp] theorem writeBackLine_xcr0 (s : State) (l n : Nat) : (s.writeBackLine l n).xcr0 = s.xcr0 := rfl
@[simp] theorem writeBackLine_cr0 (s : State) (l n : Nat) : (s.writeBackLine l n).cr0 = s.cr0 := rfl
@[simp] theorem writeBackLine_cr2 (s : State) (l n : Nat) : (s.writeBackLine l n).cr2 = s.cr2 := rfl
@[simp] theorem writeBackLine_cr4 (s : State) (l n : Nat) : (s.writeBackLine l n).cr4 = s.cr4 := rfl
@[simp] theorem writeBackLine_mode (s : State) (l n : Nat) : (s.writeBackLine l n).mode = s.mode := rfl
@[simp] theorem writeBackLine_code16 (s : State) (l n : Nat) : (s.writeBackLine l n).code16 = s.code16 := rfl
@[simp] theorem writeBackLine_cpl (s : State) (l n : Nat) : (s.writeBackLine l n).cpl = s.cpl := rfl
@[simp] theorem writeBackLine_segs (s : State) (l n : Nat) : (s.writeBackLine l n).segs = s.segs := rfl
@[simp] theorem writeBackLine_biosSignId (s : State) (l n : Nat) : (s.writeBackLine l n).biosSignId = s.biosSignId := rfl
@[simp] theorem writeBackLine_featureControl (s : State) (l n : Nat) : (s.writeBackLine l n).featureControl = s.featureControl := rfl
@[simp] theorem writeBackLine_miscEnables (s : State) (l n : Nat) : (s.writeBackLine l n).miscEnables = s.miscEnables := rfl
@[simp] theorem writeBackLine_xss (s : State) (l n : Nat) : (s.writeBackLine l n).xss = s.xss := rfl
@[simp] theorem writeBackLine_vmxControls2 (s : State) (l n : Nat) : (s.writeBackLine l n).vmxControls2 = s.vmxControls2 := rfl
@[simp] theorem writeBackLine_vmxNonRoot (s : State) (l n : Nat) : (s.writeBackLine l n).vmxNonRoot = s.vmxNonRoot := rfl
@[simp] theorem writeBackLine_inEnclave (s : State) (l n : Nat) : (s.writeBackLine l n).inEnclave = s.inEnclave := rfl
@[simp] theorem writeBackLine_mem (s : State) (l n : Nat) : (s.writeBackLine l n).mem = s.mem := rfl
@[simp] theorem writeBackLine_regions (s : State) (l n : Nat) : (s.writeBackLine l n).regions = s.regions := rfl
@[simp] theorem writeBackLine_pmem (s : State) (l n : Nat) : (s.writeBackLine l n).pmem = s.pmem := rfl
@[simp] theorem writeBackLine_memTypes (s : State) (l n : Nat) : (s.writeBackLine l n).memTypes = s.memTypes := rfl
@[simp] theorem writeBackLine_cpu (s : State) (l n : Nat) : (s.writeBackLine l n).cpu = s.cpu := rfl
@[simp] theorem writeBackLine_event (s : State) (l n : Nat) : (s.writeBackLine l n).event = s.event := rfl

/-! ### marked -/

@[simp] theorem marked_gpr (s : State) (l : List Word) : (s.marked l).gpr = s.gpr := rfl
@[simp] theorem marked_pc (s : State) (l : List Word) : (s.marked l).pc = s.pc := rfl
@[simp] theorem marked_npc (s : State) (l : List Word) : (s.marked l).npc = s.npc := rfl
@[simp] theorem marked_eflags (s : State) (l : List Word) : (s.marked l).eflags = s.eflags := rfl
@[simp] theorem marked_zmm (s : State) (l : List Word) : (s.marked l).zmm = s.zmm := rfl
@[simp] theorem marked_k (s : State) (l : List Word) : (s.marked l).k = s.k := rfl
@[simp] theorem marked_mxcsr (s : State) (l : List Word) : (s.marked l).mxcsr = s.mxcsr := rfl
@[simp] theorem marked_xcr0 (s : State) (l : List Word) : (s.marked l).xcr0 = s.xcr0 := rfl
@[simp] theorem marked_cr0 (s : State) (l : List Word) : (s.marked l).cr0 = s.cr0 := rfl
@[simp] theorem marked_cr2 (s : State) (l : List Word) : (s.marked l).cr2 = s.cr2 := rfl
@[simp] theorem marked_cr4 (s : State) (l : List Word) : (s.marked l).cr4 = s.cr4 := rfl
@[simp] theorem marked_mode (s : State) (l : List Word) : (s.marked l).mode = s.mode := rfl
@[simp] theorem marked_code16 (s : State) (l : List Word) : (s.marked l).code16 = s.code16 := rfl
@[simp] theorem marked_cpl (s : State) (l : List Word) : (s.marked l).cpl = s.cpl := rfl
@[simp] theorem marked_segs (s : State) (l : List Word) : (s.marked l).segs = s.segs := rfl
@[simp] theorem marked_biosSignId (s : State) (l : List Word) : (s.marked l).biosSignId = s.biosSignId := rfl
@[simp] theorem marked_featureControl (s : State) (l : List Word) : (s.marked l).featureControl = s.featureControl := rfl
@[simp] theorem marked_miscEnables (s : State) (l : List Word) : (s.marked l).miscEnables = s.miscEnables := rfl
@[simp] theorem marked_xss (s : State) (l : List Word) : (s.marked l).xss = s.xss := rfl
@[simp] theorem marked_vmxControls2 (s : State) (l : List Word) : (s.marked l).vmxControls2 = s.vmxControls2 := rfl
@[simp] theorem marked_vmxNonRoot (s : State) (l : List Word) : (s.marked l).vmxNonRoot = s.vmxNonRoot := rfl
@[simp] theorem marked_inEnclave (s : State) (l : List Word) : (s.marked l).inEnclave = s.inEnclave := rfl
@[simp] theorem marked_mem (s : State) (l : List Word) : (s.marked l).mem = s.mem := rfl
@[simp] theorem marked_pmem (s : State) (l : List Word) : (s.marked l).pmem = s.pmem := rfl
@[simp] theorem marked_memTypes (s : State) (l : List Word) : (s.marked l).memTypes = s.memTypes := rfl
@[simp] theorem marked_durability (s : State) (l : List Word) : (s.marked l).durability = s.durability := rfl
@[simp] theorem marked_cpu (s : State) (l : List Word) : (s.marked l).cpu = s.cpu := rfl
@[simp] theorem marked_event (s : State) (l : List Word) : (s.marked l).event = s.event := rfl
@[simp] theorem marked_regions (s : State) (l : List Word) : (s.marked l).regions = markAll l s.regions := rfl

/-! ### noteRead -/

@[simp] theorem noteRead_gpr (s : State) (l : List Word) : (s.noteRead l).gpr = s.gpr := by unfold noteRead; split <;> rfl
@[simp] theorem noteRead_pc (s : State) (l : List Word) : (s.noteRead l).pc = s.pc := by unfold noteRead; split <;> rfl
@[simp] theorem noteRead_npc (s : State) (l : List Word) : (s.noteRead l).npc = s.npc := by unfold noteRead; split <;> rfl
@[simp] theorem noteRead_eflags (s : State) (l : List Word) : (s.noteRead l).eflags = s.eflags := by unfold noteRead; split <;> rfl
@[simp] theorem noteRead_zmm (s : State) (l : List Word) : (s.noteRead l).zmm = s.zmm := by unfold noteRead; split <;> rfl
@[simp] theorem noteRead_k (s : State) (l : List Word) : (s.noteRead l).k = s.k := by unfold noteRead; split <;> rfl
@[simp] theorem noteRead_mxcsr (s : State) (l : List Word) : (s.noteRead l).mxcsr = s.mxcsr := by unfold noteRead; split <;> rfl
@[simp] theorem noteRead_xcr0 (s : State) (l : List Word) : (s.noteRead l).xcr0 = s.xcr0 := by unfold noteRead; split <;> rfl
@[simp] theorem noteRead_cr0 (s : State) (l : List Word) : (s.noteRead l).cr0 = s.cr0 := by unfold noteRead; split <;> rfl
@[simp] theorem noteRead_cr2 (s : State) (l : List Word) : (s.noteRead l).cr2 = s.cr2 := by unfold noteRead; split <;> rfl
@[simp] theorem noteRead_cr4 (s : State) (l : List Word) : (s.noteRead l).cr4 = s.cr4 := by unfold noteRead; split <;> rfl
@[simp] theorem noteRead_mode (s : State) (l : List Word) : (s.noteRead l).mode = s.mode := by unfold noteRead; split <;> rfl
@[simp] theorem noteRead_code16 (s : State) (l : List Word) : (s.noteRead l).code16 = s.code16 := by unfold noteRead; split <;> rfl
@[simp] theorem noteRead_cpl (s : State) (l : List Word) : (s.noteRead l).cpl = s.cpl := by unfold noteRead; split <;> rfl
@[simp] theorem noteRead_segs (s : State) (l : List Word) : (s.noteRead l).segs = s.segs := by unfold noteRead; split <;> rfl
@[simp] theorem noteRead_biosSignId (s : State) (l : List Word) : (s.noteRead l).biosSignId = s.biosSignId := by unfold noteRead; split <;> rfl
@[simp] theorem noteRead_featureControl (s : State) (l : List Word) : (s.noteRead l).featureControl = s.featureControl := by unfold noteRead; split <;> rfl
@[simp] theorem noteRead_miscEnables (s : State) (l : List Word) : (s.noteRead l).miscEnables = s.miscEnables := by unfold noteRead; split <;> rfl
@[simp] theorem noteRead_xss (s : State) (l : List Word) : (s.noteRead l).xss = s.xss := by unfold noteRead; split <;> rfl
@[simp] theorem noteRead_vmxControls2 (s : State) (l : List Word) : (s.noteRead l).vmxControls2 = s.vmxControls2 := by unfold noteRead; split <;> rfl
@[simp] theorem noteRead_vmxNonRoot (s : State) (l : List Word) : (s.noteRead l).vmxNonRoot = s.vmxNonRoot := by unfold noteRead; split <;> rfl
@[simp] theorem noteRead_inEnclave (s : State) (l : List Word) : (s.noteRead l).inEnclave = s.inEnclave := by unfold noteRead; split <;> rfl
@[simp] theorem noteRead_mem (s : State) (l : List Word) : (s.noteRead l).mem = s.mem := by unfold noteRead; split <;> rfl
@[simp] theorem noteRead_pmem (s : State) (l : List Word) : (s.noteRead l).pmem = s.pmem := by unfold noteRead; split <;> rfl
@[simp] theorem noteRead_memTypes (s : State) (l : List Word) : (s.noteRead l).memTypes = s.memTypes := by unfold noteRead; split <;> rfl
@[simp] theorem noteRead_durability (s : State) (l : List Word) : (s.noteRead l).durability = s.durability := by unfold noteRead; split <;> rfl
@[simp] theorem noteRead_cpu (s : State) (l : List Word) : (s.noteRead l).cpu = s.cpu := by unfold noteRead; split <;> rfl
@[simp] theorem noteRead_event (s : State) (l : List Word) : (s.noteRead l).event = s.event := by unfold noteRead; split <;> rfl

/-! ### commitStores -/

@[simp] theorem commitStores_gpr (s : State) : (s.commitStores).gpr = s.gpr := rfl
@[simp] theorem commitStores_pc (s : State) : (s.commitStores).pc = s.pc := rfl
@[simp] theorem commitStores_npc (s : State) : (s.commitStores).npc = s.npc := rfl
@[simp] theorem commitStores_eflags (s : State) : (s.commitStores).eflags = s.eflags := rfl
@[simp] theorem commitStores_zmm (s : State) : (s.commitStores).zmm = s.zmm := rfl
@[simp] theorem commitStores_k (s : State) : (s.commitStores).k = s.k := rfl
@[simp] theorem commitStores_mxcsr (s : State) : (s.commitStores).mxcsr = s.mxcsr := rfl
@[simp] theorem commitStores_xcr0 (s : State) : (s.commitStores).xcr0 = s.xcr0 := rfl
@[simp] theorem commitStores_cr0 (s : State) : (s.commitStores).cr0 = s.cr0 := rfl
@[simp] theorem commitStores_cr2 (s : State) : (s.commitStores).cr2 = s.cr2 := rfl
@[simp] theorem commitStores_cr4 (s : State) : (s.commitStores).cr4 = s.cr4 := rfl
@[simp] theorem commitStores_mode (s : State) : (s.commitStores).mode = s.mode := rfl
@[simp] theorem commitStores_code16 (s : State) : (s.commitStores).code16 = s.code16 := rfl
@[simp] theorem commitStores_cpl (s : State) : (s.commitStores).cpl = s.cpl := rfl
@[simp] theorem commitStores_segs (s : State) : (s.commitStores).segs = s.segs := rfl
@[simp] theorem commitStores_biosSignId (s : State) : (s.commitStores).biosSignId = s.biosSignId := rfl
@[simp] theorem commitStores_featureControl (s : State) : (s.commitStores).featureControl = s.featureControl := rfl
@[simp] theorem commitStores_miscEnables (s : State) : (s.commitStores).miscEnables = s.miscEnables := rfl
@[simp] theorem commitStores_xss (s : State) : (s.commitStores).xss = s.xss := rfl
@[simp] theorem commitStores_vmxControls2 (s : State) : (s.commitStores).vmxControls2 = s.vmxControls2 := rfl
@[simp] theorem commitStores_vmxNonRoot (s : State) : (s.commitStores).vmxNonRoot = s.vmxNonRoot := rfl
@[simp] theorem commitStores_inEnclave (s : State) : (s.commitStores).inEnclave = s.inEnclave := rfl
@[simp] theorem commitStores_mem (s : State) : (s.commitStores).mem = s.mem := rfl
@[simp] theorem commitStores_regions (s : State) : (s.commitStores).regions = s.regions := rfl
@[simp] theorem commitStores_pmem (s : State) : (s.commitStores).pmem = s.pmem := rfl
@[simp] theorem commitStores_memTypes (s : State) : (s.commitStores).memTypes = s.memTypes := rfl
@[simp] theorem commitStores_cpu (s : State) : (s.commitStores).cpu = s.cpu := rfl
@[simp] theorem commitStores_event (s : State) : (s.commitStores).event = s.event := rfl

/-! ### serialize -/

@[simp] theorem serialize_gpr (s : State) : (s.serialize).gpr = s.gpr := rfl
@[simp] theorem serialize_pc (s : State) : (s.serialize).pc = s.pc := rfl
@[simp] theorem serialize_npc (s : State) : (s.serialize).npc = s.npc := rfl
@[simp] theorem serialize_eflags (s : State) : (s.serialize).eflags = s.eflags := rfl
@[simp] theorem serialize_zmm (s : State) : (s.serialize).zmm = s.zmm := rfl
@[simp] theorem serialize_k (s : State) : (s.serialize).k = s.k := rfl
@[simp] theorem serialize_mxcsr (s : State) : (s.serialize).mxcsr = s.mxcsr := rfl
@[simp] theorem serialize_xcr0 (s : State) : (s.serialize).xcr0 = s.xcr0 := rfl
@[simp] theorem serialize_cr0 (s : State) : (s.serialize).cr0 = s.cr0 := rfl
@[simp] theorem serialize_cr2 (s : State) : (s.serialize).cr2 = s.cr2 := rfl
@[simp] theorem serialize_cr4 (s : State) : (s.serialize).cr4 = s.cr4 := rfl
@[simp] theorem serialize_mode (s : State) : (s.serialize).mode = s.mode := rfl
@[simp] theorem serialize_code16 (s : State) : (s.serialize).code16 = s.code16 := rfl
@[simp] theorem serialize_cpl (s : State) : (s.serialize).cpl = s.cpl := rfl
@[simp] theorem serialize_segs (s : State) : (s.serialize).segs = s.segs := rfl
@[simp] theorem serialize_biosSignId (s : State) : (s.serialize).biosSignId = s.biosSignId := rfl
@[simp] theorem serialize_featureControl (s : State) : (s.serialize).featureControl = s.featureControl := rfl
@[simp] theorem serialize_miscEnables (s : State) : (s.serialize).miscEnables = s.miscEnables := rfl
@[simp] theorem serialize_xss (s : State) : (s.serialize).xss = s.xss := rfl
@[simp] theorem serialize_vmxControls2 (s : State) : (s.serialize).vmxControls2 = s.vmxControls2 := rfl
@[simp] theorem serialize_vmxNonRoot (s : State) : (s.serialize).vmxNonRoot = s.vmxNonRoot := rfl
@[simp] theorem serialize_inEnclave (s : State) : (s.serialize).inEnclave = s.inEnclave := rfl
@[simp] theorem serialize_mem (s : State) : (s.serialize).mem = s.mem := rfl
@[simp] theorem serialize_regions (s : State) : (s.serialize).regions = s.regions := rfl
@[simp] theorem serialize_pmem (s : State) : (s.serialize).pmem = s.pmem := rfl
@[simp] theorem serialize_memTypes (s : State) : (s.serialize).memTypes = s.memTypes := rfl
@[simp] theorem serialize_cpu (s : State) : (s.serialize).cpu = s.cpu := rfl
@[simp] theorem serialize_event (s : State) : (s.serialize).event = s.event := rfl

/-! ### setMxcsrFlags -/

@[simp] theorem setMxcsrFlags_gpr (s : State) (f : FpFlags) : (s.setMxcsrFlags f).gpr = s.gpr := rfl
@[simp] theorem setMxcsrFlags_pc (s : State) (f : FpFlags) : (s.setMxcsrFlags f).pc = s.pc := rfl
@[simp] theorem setMxcsrFlags_npc (s : State) (f : FpFlags) : (s.setMxcsrFlags f).npc = s.npc := rfl
@[simp] theorem setMxcsrFlags_eflags (s : State) (f : FpFlags) : (s.setMxcsrFlags f).eflags = s.eflags := rfl
@[simp] theorem setMxcsrFlags_zmm (s : State) (f : FpFlags) : (s.setMxcsrFlags f).zmm = s.zmm := rfl
@[simp] theorem setMxcsrFlags_k (s : State) (f : FpFlags) : (s.setMxcsrFlags f).k = s.k := rfl
@[simp] theorem setMxcsrFlags_xcr0 (s : State) (f : FpFlags) : (s.setMxcsrFlags f).xcr0 = s.xcr0 := rfl
@[simp] theorem setMxcsrFlags_cr0 (s : State) (f : FpFlags) : (s.setMxcsrFlags f).cr0 = s.cr0 := rfl
@[simp] theorem setMxcsrFlags_cr2 (s : State) (f : FpFlags) : (s.setMxcsrFlags f).cr2 = s.cr2 := rfl
@[simp] theorem setMxcsrFlags_cr4 (s : State) (f : FpFlags) : (s.setMxcsrFlags f).cr4 = s.cr4 := rfl
@[simp] theorem setMxcsrFlags_mode (s : State) (f : FpFlags) : (s.setMxcsrFlags f).mode = s.mode := rfl
@[simp] theorem setMxcsrFlags_code16 (s : State) (f : FpFlags) : (s.setMxcsrFlags f).code16 = s.code16 := rfl
@[simp] theorem setMxcsrFlags_cpl (s : State) (f : FpFlags) : (s.setMxcsrFlags f).cpl = s.cpl := rfl
@[simp] theorem setMxcsrFlags_segs (s : State) (f : FpFlags) : (s.setMxcsrFlags f).segs = s.segs := rfl
@[simp] theorem setMxcsrFlags_biosSignId (s : State) (f : FpFlags) : (s.setMxcsrFlags f).biosSignId = s.biosSignId := rfl
@[simp] theorem setMxcsrFlags_featureControl (s : State) (f : FpFlags) : (s.setMxcsrFlags f).featureControl = s.featureControl := rfl
@[simp] theorem setMxcsrFlags_miscEnables (s : State) (f : FpFlags) : (s.setMxcsrFlags f).miscEnables = s.miscEnables := rfl
@[simp] theorem setMxcsrFlags_xss (s : State) (f : FpFlags) : (s.setMxcsrFlags f).xss = s.xss := rfl
@[simp] theorem setMxcsrFlags_vmxControls2 (s : State) (f : FpFlags) : (s.setMxcsrFlags f).vmxControls2 = s.vmxControls2 := rfl
@[simp] theorem setMxcsrFlags_vmxNonRoot (s : State) (f : FpFlags) : (s.setMxcsrFlags f).vmxNonRoot = s.vmxNonRoot := rfl
@[simp] theorem setMxcsrFlags_inEnclave (s : State) (f : FpFlags) : (s.setMxcsrFlags f).inEnclave = s.inEnclave := rfl
@[simp] theorem setMxcsrFlags_mem (s : State) (f : FpFlags) : (s.setMxcsrFlags f).mem = s.mem := rfl
@[simp] theorem setMxcsrFlags_regions (s : State) (f : FpFlags) : (s.setMxcsrFlags f).regions = s.regions := rfl
@[simp] theorem setMxcsrFlags_pmem (s : State) (f : FpFlags) : (s.setMxcsrFlags f).pmem = s.pmem := rfl
@[simp] theorem setMxcsrFlags_memTypes (s : State) (f : FpFlags) : (s.setMxcsrFlags f).memTypes = s.memTypes := rfl
@[simp] theorem setMxcsrFlags_durability (s : State) (f : FpFlags) : (s.setMxcsrFlags f).durability = s.durability := rfl
@[simp] theorem setMxcsrFlags_cpu (s : State) (f : FpFlags) : (s.setMxcsrFlags f).cpu = s.cpu := rfl
@[simp] theorem setMxcsrFlags_event (s : State) (f : FpFlags) : (s.setMxcsrFlags f).event = s.event := rfl

/-! ### setCompareFlags -/

@[simp] theorem setCompareFlags_gpr (s : State) (z p c : Bool) : (s.setCompareFlags z p c).gpr = s.gpr := rfl
@[simp] theorem setCompareFlags_pc (s : State) (z p c : Bool) : (s.setCompareFlags z p c).pc = s.pc := rfl
@[simp] theorem setCompareFlags_npc (s : State) (z p c : Bool) : (s.setCompareFlags z p c).npc = s.npc := rfl
@[simp] theorem setCompareFlags_zmm (s : State) (z p c : Bool) : (s.setCompareFlags z p c).zmm = s.zmm := rfl
@[simp] theorem setCompareFlags_k (s : State) (z p c : Bool) : (s.setCompareFlags z p c).k = s.k := rfl
@[simp] theorem setCompareFlags_mxcsr (s : State) (z p c : Bool) : (s.setCompareFlags z p c).mxcsr = s.mxcsr := rfl
@[simp] theorem setCompareFlags_xcr0 (s : State) (z p c : Bool) : (s.setCompareFlags z p c).xcr0 = s.xcr0 := rfl
@[simp] theorem setCompareFlags_cr0 (s : State) (z p c : Bool) : (s.setCompareFlags z p c).cr0 = s.cr0 := rfl
@[simp] theorem setCompareFlags_cr2 (s : State) (z p c : Bool) : (s.setCompareFlags z p c).cr2 = s.cr2 := rfl
@[simp] theorem setCompareFlags_cr4 (s : State) (z p c : Bool) : (s.setCompareFlags z p c).cr4 = s.cr4 := rfl
@[simp] theorem setCompareFlags_mode (s : State) (z p c : Bool) : (s.setCompareFlags z p c).mode = s.mode := rfl
@[simp] theorem setCompareFlags_code16 (s : State) (z p c : Bool) : (s.setCompareFlags z p c).code16 = s.code16 := rfl
@[simp] theorem setCompareFlags_cpl (s : State) (z p c : Bool) : (s.setCompareFlags z p c).cpl = s.cpl := rfl
@[simp] theorem setCompareFlags_segs (s : State) (z p c : Bool) : (s.setCompareFlags z p c).segs = s.segs := rfl
@[simp] theorem setCompareFlags_biosSignId (s : State) (z p c : Bool) : (s.setCompareFlags z p c).biosSignId = s.biosSignId := rfl
@[simp] theorem setCompareFlags_featureControl (s : State) (z p c : Bool) : (s.setCompareFlags z p c).featureControl = s.featureControl := rfl
@[simp] theorem setCompareFlags_miscEnables (s : State) (z p c : Bool) : (s.setCompareFlags z p c).miscEnables = s.miscEnables := rfl
@[simp] theorem setCompareFlags_xss (s : State) (z p c : Bool) : (s.setCompareFlags z p c).xss = s.xss := rfl
@[simp] theorem setCompareFlags_vmxControls2 (s : State) (z p c : Bool) : (s.setCompareFlags z p c).vmxControls2 = s.vmxControls2 := rfl
@[simp] theorem setCompareFlags_vmxNonRoot (s : State) (z p c : Bool) : (s.setCompareFlags z p c).vmxNonRoot = s.vmxNonRoot := rfl
@[simp] theorem setCompareFlags_inEnclave (s : State) (z p c : Bool) : (s.setCompareFlags z p c).inEnclave = s.inEnclave := rfl
@[simp] theorem setCompareFlags_mem (s : State) (z p c : Bool) : (s.setCompareFlags z p c).mem = s.mem := rfl
@[simp] theorem setCompareFlags_regions (s : State) (z p c : Bool) : (s.setCompareFlags z p c).regions = s.regions := rfl
@[simp] theorem setCompareFlags_pmem (s : State) (z p c : Bool) : (s.setCompareFlags z p c).pmem = s.pmem := rfl
@[simp] theorem setCompareFlags_memTypes (s : State) (z p c : Bool) : (s.setCompareFlags z p c).memTypes = s.memTypes := rfl
@[simp] theorem setCompareFlags_durability (s : State) (z p c : Bool) : (s.setCompareFlags z p c).durability = s.durability := rfl
@[simp] theorem setCompareFlags_cpu (s : State) (z p c : Bool) : (s.setCompareFlags z p c).cpu = s.cpu := rfl
@[simp] theorem setCompareFlags_event (s : State) (z p c : Bool) : (s.setCompareFlags z p c).event = s.event := rfl

/-! ### setFpCompare -/

@[simp] theorem setFpCompare_gpr (s : State) (c : Fmt.Cmp) : (s.setFpCompare c).gpr = s.gpr := by cases c <;> rfl
@[simp] theorem setFpCompare_pc (s : State) (c : Fmt.Cmp) : (s.setFpCompare c).pc = s.pc := by cases c <;> rfl
@[simp] theorem setFpCompare_npc (s : State) (c : Fmt.Cmp) : (s.setFpCompare c).npc = s.npc := by cases c <;> rfl
@[simp] theorem setFpCompare_zmm (s : State) (c : Fmt.Cmp) : (s.setFpCompare c).zmm = s.zmm := by cases c <;> rfl
@[simp] theorem setFpCompare_k (s : State) (c : Fmt.Cmp) : (s.setFpCompare c).k = s.k := by cases c <;> rfl
@[simp] theorem setFpCompare_mxcsr (s : State) (c : Fmt.Cmp) : (s.setFpCompare c).mxcsr = s.mxcsr := by cases c <;> rfl
@[simp] theorem setFpCompare_xcr0 (s : State) (c : Fmt.Cmp) : (s.setFpCompare c).xcr0 = s.xcr0 := by cases c <;> rfl
@[simp] theorem setFpCompare_cr0 (s : State) (c : Fmt.Cmp) : (s.setFpCompare c).cr0 = s.cr0 := by cases c <;> rfl
@[simp] theorem setFpCompare_cr2 (s : State) (c : Fmt.Cmp) : (s.setFpCompare c).cr2 = s.cr2 := by cases c <;> rfl
@[simp] theorem setFpCompare_cr4 (s : State) (c : Fmt.Cmp) : (s.setFpCompare c).cr4 = s.cr4 := by cases c <;> rfl
@[simp] theorem setFpCompare_mode (s : State) (c : Fmt.Cmp) : (s.setFpCompare c).mode = s.mode := by cases c <;> rfl
@[simp] theorem setFpCompare_code16 (s : State) (c : Fmt.Cmp) : (s.setFpCompare c).code16 = s.code16 := by cases c <;> rfl
@[simp] theorem setFpCompare_cpl (s : State) (c : Fmt.Cmp) : (s.setFpCompare c).cpl = s.cpl := by cases c <;> rfl
@[simp] theorem setFpCompare_segs (s : State) (c : Fmt.Cmp) : (s.setFpCompare c).segs = s.segs := by cases c <;> rfl
@[simp] theorem setFpCompare_biosSignId (s : State) (c : Fmt.Cmp) : (s.setFpCompare c).biosSignId = s.biosSignId := by cases c <;> rfl
@[simp] theorem setFpCompare_featureControl (s : State) (c : Fmt.Cmp) : (s.setFpCompare c).featureControl = s.featureControl := by cases c <;> rfl
@[simp] theorem setFpCompare_miscEnables (s : State) (c : Fmt.Cmp) : (s.setFpCompare c).miscEnables = s.miscEnables := by cases c <;> rfl
@[simp] theorem setFpCompare_xss (s : State) (c : Fmt.Cmp) : (s.setFpCompare c).xss = s.xss := by cases c <;> rfl
@[simp] theorem setFpCompare_vmxControls2 (s : State) (c : Fmt.Cmp) : (s.setFpCompare c).vmxControls2 = s.vmxControls2 := by cases c <;> rfl
@[simp] theorem setFpCompare_vmxNonRoot (s : State) (c : Fmt.Cmp) : (s.setFpCompare c).vmxNonRoot = s.vmxNonRoot := by cases c <;> rfl
@[simp] theorem setFpCompare_inEnclave (s : State) (c : Fmt.Cmp) : (s.setFpCompare c).inEnclave = s.inEnclave := by cases c <;> rfl
@[simp] theorem setFpCompare_mem (s : State) (c : Fmt.Cmp) : (s.setFpCompare c).mem = s.mem := by cases c <;> rfl
@[simp] theorem setFpCompare_regions (s : State) (c : Fmt.Cmp) : (s.setFpCompare c).regions = s.regions := by cases c <;> rfl
@[simp] theorem setFpCompare_pmem (s : State) (c : Fmt.Cmp) : (s.setFpCompare c).pmem = s.pmem := by cases c <;> rfl
@[simp] theorem setFpCompare_memTypes (s : State) (c : Fmt.Cmp) : (s.setFpCompare c).memTypes = s.memTypes := by cases c <;> rfl
@[simp] theorem setFpCompare_durability (s : State) (c : Fmt.Cmp) : (s.setFpCompare c).durability = s.durability := by cases c <;> rfl
@[simp] theorem setFpCompare_cpu (s : State) (c : Fmt.Cmp) : (s.setFpCompare c).cpu = s.cpu := by cases c <;> rfl
@[simp] theorem setFpCompare_event (s : State) (c : Fmt.Cmp) : (s.setFpCompare c).event = s.event := by cases c <;> rfl

/-! ### putVec -/

@[simp] theorem putVec_gpr (s : State) (sp : Space) (n : Fin 32) (vl : Nat) (v : ZWord) : (s.putVec sp n vl v).gpr = s.gpr := by cases sp <;> rfl
@[simp] theorem putVec_pc (s : State) (sp : Space) (n : Fin 32) (vl : Nat) (v : ZWord) : (s.putVec sp n vl v).pc = s.pc := by cases sp <;> rfl
@[simp] theorem putVec_npc (s : State) (sp : Space) (n : Fin 32) (vl : Nat) (v : ZWord) : (s.putVec sp n vl v).npc = s.npc := by cases sp <;> rfl
@[simp] theorem putVec_eflags (s : State) (sp : Space) (n : Fin 32) (vl : Nat) (v : ZWord) : (s.putVec sp n vl v).eflags = s.eflags := by cases sp <;> rfl
@[simp] theorem putVec_k (s : State) (sp : Space) (n : Fin 32) (vl : Nat) (v : ZWord) : (s.putVec sp n vl v).k = s.k := by cases sp <;> rfl
@[simp] theorem putVec_mxcsr (s : State) (sp : Space) (n : Fin 32) (vl : Nat) (v : ZWord) : (s.putVec sp n vl v).mxcsr = s.mxcsr := by cases sp <;> rfl
@[simp] theorem putVec_xcr0 (s : State) (sp : Space) (n : Fin 32) (vl : Nat) (v : ZWord) : (s.putVec sp n vl v).xcr0 = s.xcr0 := by cases sp <;> rfl
@[simp] theorem putVec_cr0 (s : State) (sp : Space) (n : Fin 32) (vl : Nat) (v : ZWord) : (s.putVec sp n vl v).cr0 = s.cr0 := by cases sp <;> rfl
@[simp] theorem putVec_cr2 (s : State) (sp : Space) (n : Fin 32) (vl : Nat) (v : ZWord) : (s.putVec sp n vl v).cr2 = s.cr2 := by cases sp <;> rfl
@[simp] theorem putVec_cr4 (s : State) (sp : Space) (n : Fin 32) (vl : Nat) (v : ZWord) : (s.putVec sp n vl v).cr4 = s.cr4 := by cases sp <;> rfl
@[simp] theorem putVec_mode (s : State) (sp : Space) (n : Fin 32) (vl : Nat) (v : ZWord) : (s.putVec sp n vl v).mode = s.mode := by cases sp <;> rfl
@[simp] theorem putVec_code16 (s : State) (sp : Space) (n : Fin 32) (vl : Nat) (v : ZWord) : (s.putVec sp n vl v).code16 = s.code16 := by cases sp <;> rfl
@[simp] theorem putVec_cpl (s : State) (sp : Space) (n : Fin 32) (vl : Nat) (v : ZWord) : (s.putVec sp n vl v).cpl = s.cpl := by cases sp <;> rfl
@[simp] theorem putVec_segs (s : State) (sp : Space) (n : Fin 32) (vl : Nat) (v : ZWord) : (s.putVec sp n vl v).segs = s.segs := by cases sp <;> rfl
@[simp] theorem putVec_biosSignId (s : State) (sp : Space) (n : Fin 32) (vl : Nat) (v : ZWord) : (s.putVec sp n vl v).biosSignId = s.biosSignId := by cases sp <;> rfl
@[simp] theorem putVec_featureControl (s : State) (sp : Space) (n : Fin 32) (vl : Nat) (v : ZWord) : (s.putVec sp n vl v).featureControl = s.featureControl := by cases sp <;> rfl
@[simp] theorem putVec_miscEnables (s : State) (sp : Space) (n : Fin 32) (vl : Nat) (v : ZWord) : (s.putVec sp n vl v).miscEnables = s.miscEnables := by cases sp <;> rfl
@[simp] theorem putVec_xss (s : State) (sp : Space) (n : Fin 32) (vl : Nat) (v : ZWord) : (s.putVec sp n vl v).xss = s.xss := by cases sp <;> rfl
@[simp] theorem putVec_vmxControls2 (s : State) (sp : Space) (n : Fin 32) (vl : Nat) (v : ZWord) : (s.putVec sp n vl v).vmxControls2 = s.vmxControls2 := by cases sp <;> rfl
@[simp] theorem putVec_vmxNonRoot (s : State) (sp : Space) (n : Fin 32) (vl : Nat) (v : ZWord) : (s.putVec sp n vl v).vmxNonRoot = s.vmxNonRoot := by cases sp <;> rfl
@[simp] theorem putVec_inEnclave (s : State) (sp : Space) (n : Fin 32) (vl : Nat) (v : ZWord) : (s.putVec sp n vl v).inEnclave = s.inEnclave := by cases sp <;> rfl
@[simp] theorem putVec_mem (s : State) (sp : Space) (n : Fin 32) (vl : Nat) (v : ZWord) : (s.putVec sp n vl v).mem = s.mem := by cases sp <;> rfl
@[simp] theorem putVec_regions (s : State) (sp : Space) (n : Fin 32) (vl : Nat) (v : ZWord) : (s.putVec sp n vl v).regions = s.regions := by cases sp <;> rfl
@[simp] theorem putVec_pmem (s : State) (sp : Space) (n : Fin 32) (vl : Nat) (v : ZWord) : (s.putVec sp n vl v).pmem = s.pmem := by cases sp <;> rfl
@[simp] theorem putVec_memTypes (s : State) (sp : Space) (n : Fin 32) (vl : Nat) (v : ZWord) : (s.putVec sp n vl v).memTypes = s.memTypes := by cases sp <;> rfl
@[simp] theorem putVec_durability (s : State) (sp : Space) (n : Fin 32) (vl : Nat) (v : ZWord) : (s.putVec sp n vl v).durability = s.durability := by cases sp <;> rfl
@[simp] theorem putVec_cpu (s : State) (sp : Space) (n : Fin 32) (vl : Nat) (v : ZWord) : (s.putVec sp n vl v).cpu = s.cpu := by cases sp <;> rfl
@[simp] theorem putVec_event (s : State) (sp : Space) (n : Fin 32) (vl : Nat) (v : ZWord) : (s.putVec sp n vl v).event = s.event := by cases sp <;> rfl

/-! ### retire -/

@[simp] theorem retire_gpr (s : State) : (s.retire).gpr = s.gpr := by unfold retire; split <;> rfl
@[simp] theorem retire_npc (s : State) : (s.retire).npc = s.npc := by unfold retire; split <;> rfl
@[simp] theorem retire_eflags (s : State) : (s.retire).eflags = s.eflags := by unfold retire; split <;> rfl
@[simp] theorem retire_zmm (s : State) : (s.retire).zmm = s.zmm := by unfold retire; split <;> rfl
@[simp] theorem retire_k (s : State) : (s.retire).k = s.k := by unfold retire; split <;> rfl
@[simp] theorem retire_mxcsr (s : State) : (s.retire).mxcsr = s.mxcsr := by unfold retire; split <;> rfl
@[simp] theorem retire_xcr0 (s : State) : (s.retire).xcr0 = s.xcr0 := by unfold retire; split <;> rfl
@[simp] theorem retire_cr0 (s : State) : (s.retire).cr0 = s.cr0 := by unfold retire; split <;> rfl
@[simp] theorem retire_cr2 (s : State) : (s.retire).cr2 = s.cr2 := by unfold retire; split <;> rfl
@[simp] theorem retire_cr4 (s : State) : (s.retire).cr4 = s.cr4 := by unfold retire; split <;> rfl
@[simp] theorem retire_mode (s : State) : (s.retire).mode = s.mode := by unfold retire; split <;> rfl
@[simp] theorem retire_code16 (s : State) : (s.retire).code16 = s.code16 := by unfold retire; split <;> rfl
@[simp] theorem retire_cpl (s : State) : (s.retire).cpl = s.cpl := by unfold retire; split <;> rfl
@[simp] theorem retire_segs (s : State) : (s.retire).segs = s.segs := by unfold retire; split <;> rfl
@[simp] theorem retire_biosSignId (s : State) : (s.retire).biosSignId = s.biosSignId := by unfold retire; split <;> rfl
@[simp] theorem retire_featureControl (s : State) : (s.retire).featureControl = s.featureControl := by unfold retire; split <;> rfl
@[simp] theorem retire_miscEnables (s : State) : (s.retire).miscEnables = s.miscEnables := by unfold retire; split <;> rfl
@[simp] theorem retire_xss (s : State) : (s.retire).xss = s.xss := by unfold retire; split <;> rfl
@[simp] theorem retire_vmxControls2 (s : State) : (s.retire).vmxControls2 = s.vmxControls2 := by unfold retire; split <;> rfl
@[simp] theorem retire_vmxNonRoot (s : State) : (s.retire).vmxNonRoot = s.vmxNonRoot := by unfold retire; split <;> rfl
@[simp] theorem retire_inEnclave (s : State) : (s.retire).inEnclave = s.inEnclave := by unfold retire; split <;> rfl
@[simp] theorem retire_mem (s : State) : (s.retire).mem = s.mem := by unfold retire; split <;> rfl
@[simp] theorem retire_regions (s : State) : (s.retire).regions = s.regions := by unfold retire; split <;> rfl
@[simp] theorem retire_pmem (s : State) : (s.retire).pmem = s.pmem := by unfold retire; split <;> rfl
@[simp] theorem retire_memTypes (s : State) : (s.retire).memTypes = s.memTypes := by unfold retire; split <;> rfl
@[simp] theorem retire_durability (s : State) : (s.retire).durability = s.durability := by unfold retire; split <;> rfl
@[simp] theorem retire_cpu (s : State) : (s.retire).cpu = s.cpu := by unfold retire; split <;> rfl
@[simp] theorem retire_event (s : State) : (s.retire).event = s.event := by unfold retire; split <;> rfl

/-! ### resume -/

@[simp] theorem resume_gpr (s : State) : (s.resume).gpr = s.gpr := by unfold resume; split <;> rfl
@[simp] theorem resume_npc (s : State) : (s.resume).npc = s.npc := by unfold resume; split <;> rfl
@[simp] theorem resume_eflags (s : State) : (s.resume).eflags = s.eflags := by unfold resume; split <;> rfl
@[simp] theorem resume_zmm (s : State) : (s.resume).zmm = s.zmm := by unfold resume; split <;> rfl
@[simp] theorem resume_k (s : State) : (s.resume).k = s.k := by unfold resume; split <;> rfl
@[simp] theorem resume_mxcsr (s : State) : (s.resume).mxcsr = s.mxcsr := by unfold resume; split <;> rfl
@[simp] theorem resume_xcr0 (s : State) : (s.resume).xcr0 = s.xcr0 := by unfold resume; split <;> rfl
@[simp] theorem resume_cr0 (s : State) : (s.resume).cr0 = s.cr0 := by unfold resume; split <;> rfl
@[simp] theorem resume_cr2 (s : State) : (s.resume).cr2 = s.cr2 := by unfold resume; split <;> rfl
@[simp] theorem resume_cr4 (s : State) : (s.resume).cr4 = s.cr4 := by unfold resume; split <;> rfl
@[simp] theorem resume_mode (s : State) : (s.resume).mode = s.mode := by unfold resume; split <;> rfl
@[simp] theorem resume_code16 (s : State) : (s.resume).code16 = s.code16 := by unfold resume; split <;> rfl
@[simp] theorem resume_cpl (s : State) : (s.resume).cpl = s.cpl := by unfold resume; split <;> rfl
@[simp] theorem resume_segs (s : State) : (s.resume).segs = s.segs := by unfold resume; split <;> rfl
@[simp] theorem resume_biosSignId (s : State) : (s.resume).biosSignId = s.biosSignId := by unfold resume; split <;> rfl
@[simp] theorem resume_featureControl (s : State) : (s.resume).featureControl = s.featureControl := by unfold resume; split <;> rfl
@[simp] theorem resume_miscEnables (s : State) : (s.resume).miscEnables = s.miscEnables := by unfold resume; split <;> rfl
@[simp] theorem resume_xss (s : State) : (s.resume).xss = s.xss := by unfold resume; split <;> rfl
@[simp] theorem resume_vmxControls2 (s : State) : (s.resume).vmxControls2 = s.vmxControls2 := by unfold resume; split <;> rfl
@[simp] theorem resume_vmxNonRoot (s : State) : (s.resume).vmxNonRoot = s.vmxNonRoot := by unfold resume; split <;> rfl
@[simp] theorem resume_inEnclave (s : State) : (s.resume).inEnclave = s.inEnclave := by unfold resume; split <;> rfl
@[simp] theorem resume_mem (s : State) : (s.resume).mem = s.mem := by unfold resume; split <;> rfl
@[simp] theorem resume_regions (s : State) : (s.resume).regions = s.regions := by unfold resume; split <;> rfl
@[simp] theorem resume_pmem (s : State) : (s.resume).pmem = s.pmem := by unfold resume; split <;> rfl
@[simp] theorem resume_memTypes (s : State) : (s.resume).memTypes = s.memTypes := by unfold resume; split <;> rfl
@[simp] theorem resume_durability (s : State) : (s.resume).durability = s.durability := by unfold resume; split <;> rfl
@[simp] theorem resume_cpu (s : State) : (s.resume).cpu = s.cpu := by unfold resume; split <;> rfl

/-! ### storeBytes -/

@[simp] theorem storeBytes_gpr (s : State) (nt : Bool) (v : ZWord) (ps : List (Nat × Nat)) : (s.storeBytes nt v ps).gpr = s.gpr := by
  induction ps generalizing s with
  | nil => rfl
  | cons p ps ih => simp [storeBytes, ih]
@[simp] theorem storeBytes_pc (s : State) (nt : Bool) (v : ZWord) (ps : List (Nat × Nat)) : (s.storeBytes nt v ps).pc = s.pc := by
  induction ps generalizing s with
  | nil => rfl
  | cons p ps ih => simp [storeBytes, ih]
@[simp] theorem storeBytes_npc (s : State) (nt : Bool) (v : ZWord) (ps : List (Nat × Nat)) : (s.storeBytes nt v ps).npc = s.npc := by
  induction ps generalizing s with
  | nil => rfl
  | cons p ps ih => simp [storeBytes, ih]
@[simp] theorem storeBytes_eflags (s : State) (nt : Bool) (v : ZWord) (ps : List (Nat × Nat)) : (s.storeBytes nt v ps).eflags = s.eflags := by
  induction ps generalizing s with
  | nil => rfl
  | cons p ps ih => simp [storeBytes, ih]
@[simp] theorem storeBytes_zmm (s : State) (nt : Bool) (v : ZWord) (ps : List (Nat × Nat)) : (s.storeBytes nt v ps).zmm = s.zmm := by
  induction ps generalizing s with
  | nil => rfl
  | cons p ps ih => simp [storeBytes, ih]
@[simp] theorem storeBytes_k (s : State) (nt : Bool) (v : ZWord) (ps : List (Nat × Nat)) : (s.storeBytes nt v ps).k = s.k := by
  induction ps generalizing s with
  | nil => rfl
  | cons p ps ih => simp [storeBytes, ih]
@[simp] theorem storeBytes_mxcsr (s : State) (nt : Bool) (v : ZWord) (ps : List (Nat × Nat)) : (s.storeBytes nt v ps).mxcsr = s.mxcsr := by
  induction ps generalizing s with
  | nil => rfl
  | cons p ps ih => simp [storeBytes, ih]
@[simp] theorem storeBytes_xcr0 (s : State) (nt : Bool) (v : ZWord) (ps : List (Nat × Nat)) : (s.storeBytes nt v ps).xcr0 = s.xcr0 := by
  induction ps generalizing s with
  | nil => rfl
  | cons p ps ih => simp [storeBytes, ih]
@[simp] theorem storeBytes_cr0 (s : State) (nt : Bool) (v : ZWord) (ps : List (Nat × Nat)) : (s.storeBytes nt v ps).cr0 = s.cr0 := by
  induction ps generalizing s with
  | nil => rfl
  | cons p ps ih => simp [storeBytes, ih]
@[simp] theorem storeBytes_cr2 (s : State) (nt : Bool) (v : ZWord) (ps : List (Nat × Nat)) : (s.storeBytes nt v ps).cr2 = s.cr2 := by
  induction ps generalizing s with
  | nil => rfl
  | cons p ps ih => simp [storeBytes, ih]
@[simp] theorem storeBytes_cr4 (s : State) (nt : Bool) (v : ZWord) (ps : List (Nat × Nat)) : (s.storeBytes nt v ps).cr4 = s.cr4 := by
  induction ps generalizing s with
  | nil => rfl
  | cons p ps ih => simp [storeBytes, ih]
@[simp] theorem storeBytes_mode (s : State) (nt : Bool) (v : ZWord) (ps : List (Nat × Nat)) : (s.storeBytes nt v ps).mode = s.mode := by
  induction ps generalizing s with
  | nil => rfl
  | cons p ps ih => simp [storeBytes, ih]
@[simp] theorem storeBytes_code16 (s : State) (nt : Bool) (v : ZWord) (ps : List (Nat × Nat)) : (s.storeBytes nt v ps).code16 = s.code16 := by
  induction ps generalizing s with
  | nil => rfl
  | cons p ps ih => simp [storeBytes, ih]
@[simp] theorem storeBytes_cpl (s : State) (nt : Bool) (v : ZWord) (ps : List (Nat × Nat)) : (s.storeBytes nt v ps).cpl = s.cpl := by
  induction ps generalizing s with
  | nil => rfl
  | cons p ps ih => simp [storeBytes, ih]
@[simp] theorem storeBytes_segs (s : State) (nt : Bool) (v : ZWord) (ps : List (Nat × Nat)) : (s.storeBytes nt v ps).segs = s.segs := by
  induction ps generalizing s with
  | nil => rfl
  | cons p ps ih => simp [storeBytes, ih]
@[simp] theorem storeBytes_biosSignId (s : State) (nt : Bool) (v : ZWord) (ps : List (Nat × Nat)) : (s.storeBytes nt v ps).biosSignId = s.biosSignId := by
  induction ps generalizing s with
  | nil => rfl
  | cons p ps ih => simp [storeBytes, ih]
@[simp] theorem storeBytes_featureControl (s : State) (nt : Bool) (v : ZWord) (ps : List (Nat × Nat)) : (s.storeBytes nt v ps).featureControl = s.featureControl := by
  induction ps generalizing s with
  | nil => rfl
  | cons p ps ih => simp [storeBytes, ih]
@[simp] theorem storeBytes_miscEnables (s : State) (nt : Bool) (v : ZWord) (ps : List (Nat × Nat)) : (s.storeBytes nt v ps).miscEnables = s.miscEnables := by
  induction ps generalizing s with
  | nil => rfl
  | cons p ps ih => simp [storeBytes, ih]
@[simp] theorem storeBytes_xss (s : State) (nt : Bool) (v : ZWord) (ps : List (Nat × Nat)) : (s.storeBytes nt v ps).xss = s.xss := by
  induction ps generalizing s with
  | nil => rfl
  | cons p ps ih => simp [storeBytes, ih]
@[simp] theorem storeBytes_vmxControls2 (s : State) (nt : Bool) (v : ZWord) (ps : List (Nat × Nat)) : (s.storeBytes nt v ps).vmxControls2 = s.vmxControls2 := by
  induction ps generalizing s with
  | nil => rfl
  | cons p ps ih => simp [storeBytes, ih]
@[simp] theorem storeBytes_vmxNonRoot (s : State) (nt : Bool) (v : ZWord) (ps : List (Nat × Nat)) : (s.storeBytes nt v ps).vmxNonRoot = s.vmxNonRoot := by
  induction ps generalizing s with
  | nil => rfl
  | cons p ps ih => simp [storeBytes, ih]
@[simp] theorem storeBytes_inEnclave (s : State) (nt : Bool) (v : ZWord) (ps : List (Nat × Nat)) : (s.storeBytes nt v ps).inEnclave = s.inEnclave := by
  induction ps generalizing s with
  | nil => rfl
  | cons p ps ih => simp [storeBytes, ih]
@[simp] theorem storeBytes_regions (s : State) (nt : Bool) (v : ZWord) (ps : List (Nat × Nat)) : (s.storeBytes nt v ps).regions = s.regions := by
  induction ps generalizing s with
  | nil => rfl
  | cons p ps ih => simp [storeBytes, ih]
@[simp] theorem storeBytes_pmem (s : State) (nt : Bool) (v : ZWord) (ps : List (Nat × Nat)) : (s.storeBytes nt v ps).pmem = s.pmem := by
  induction ps generalizing s with
  | nil => rfl
  | cons p ps ih => simp [storeBytes, ih]
@[simp] theorem storeBytes_memTypes (s : State) (nt : Bool) (v : ZWord) (ps : List (Nat × Nat)) : (s.storeBytes nt v ps).memTypes = s.memTypes := by
  induction ps generalizing s with
  | nil => rfl
  | cons p ps ih => simp [storeBytes, ih]
@[simp] theorem storeBytes_cpu (s : State) (nt : Bool) (v : ZWord) (ps : List (Nat × Nat)) : (s.storeBytes nt v ps).cpu = s.cpu := by
  induction ps generalizing s with
  | nil => rfl
  | cons p ps ih => simp [storeBytes, ih]
@[simp] theorem storeBytes_event (s : State) (nt : Bool) (v : ZWord) (ps : List (Nat × Nat)) : (s.storeBytes nt v ps).event = s.event := by
  induction ps generalizing s with
  | nil => rfl
  | cons p ps ih => simp [storeBytes, ih]

/-! ### The registers written -/

@[simp] theorem retire_running (s : State) (h : s.event = none) : s.retire = { s with pc := s.npc } := by simp [retire, h]

@[simp] theorem retire_trapped (s : State) (e : Event) (h : s.event = some e) : s.retire = s := by simp [retire, h]

@[simp] theorem getGpr_setGpr_same (s : State) (n : Fin 32) (v : Word) : (s.setGpr n v).getGpr n = v := by
  simp only [getGpr, setGpr, Vector.get, Fin.ofNat]
  exact Vector.getElem_set_self _

theorem getGpr_setGpr_ne (s : State) (n m : Fin 32) (v : Word) (h : m.val % 16 ≠ n.val % 16) :
    (s.setGpr n v).getGpr m = s.getGpr m := by
  simp only [getGpr, setGpr, Vector.get, Fin.ofNat]
  exact Vector.getElem_set_ne _ _ (fun e => h e.symm)

@[simp] theorem getZ_setZ_same (s : State) (n : Fin 32) (v : ZWord) : (s.setZ n v).getZ n = v := by
  simp only [getZ, setZ, Vector.get]
  exact Vector.getElem_set_self _

theorem getZ_setZ_ne (s : State) (n m : Fin 32) (v : ZWord) (h : m ≠ n) : (s.setZ n v).getZ m = s.getZ m := by
  simp only [getZ, setZ, Vector.get]
  exact Vector.getElem_set_ne _ _ (fun e => h (Fin.ext e.symm))

@[simp] theorem getK_setK_same (s : State) (n : Fin 32) (v : KWord) : (s.setK n v).getK n = v := by
  simp only [getK, setK, Vector.get, Fin.ofNat]
  exact Vector.getElem_set_self _

theorem getK_setK_ne (s : State) (n m : Fin 32) (v : KWord) (h : m.val % 8 ≠ n.val % 8) :
    (s.setK n v).getK m = s.getK m := by
  simp only [getK, setK, Vector.get, Fin.ofNat]
  exact Vector.getElem_set_ne _ _ (fun e => h e.symm)

end State

end Sys2Proof.Machine
end

