-- ==== Sys2Proof/Laws/Memory.lean ====
section
/-! SUPPORT. Memory: a read after a write, and every memory operation keeps the canonical forms of memory and of the
durability ledger. -/

namespace Sys2Proof.Machine

/-! ### One byte -/

/-- A write leaves every other address alone. -/
theorem Memory.get_set_ne (m : Memory) (a b : Nat) (v : Byte) (h : b ≠ a) : (m.set a v).get b = m.get b := by
  induction m with
  | nil =>
    unfold Memory.set; split <;> simp [Memory.get, h]
  | cons c m ih =>
    obtain ⟨c, w⟩ := c
    unfold Memory.set
    split
    · split <;> simp [Memory.get, h]
    · split
      · next h2 => subst h2; split <;> simp [Memory.get, h]
      · simp [Memory.get, ih]

theorem Memory.get_of_wfAbove (m : Memory) (lo a : Nat) (h : Memory.wfAbove (some lo) m = true) (ha : a ≤ lo) :
    m.get a = Memory.blank := by
  induction m generalizing lo with
  | nil => rfl
  | cons c m ih =>
    obtain ⟨c, w⟩ := c
    simp only [Memory.wfAbove, Bool.and_eq_true, decide_eq_true_eq] at h
    have : a ≠ c := by omega
    simp only [Memory.get, this, if_false]
    exact ih c h.2 (by omega)

theorem Memory.wfAbove_some (m : Memory) (lo : Option Nat) (c : Nat)
    (h : Memory.wfAbove lo m = true) (hc : ∀ x ∈ m, c < x.1) : Memory.wfAbove (some c) m = true := by
  cases m with
  | nil => rfl
  | cons x m =>
    obtain ⟨x, w⟩ := x
    have := hc (x, w) (by simp)
    simp only [Memory.wfAbove, Bool.and_eq_true, decide_eq_true_eq] at h ⊢
    exact ⟨⟨this, h.1.2⟩, h.2⟩

/-- A read after a write to the same address gives the byte written. -/
theorem Memory.get_set_same (m : Memory) (lo : Option Nat) (a : Nat) (v : Byte) (h : Memory.wfAbove lo m = true) :
    (m.set a v).get a = v := by
  induction m generalizing lo with
  | nil => unfold Memory.set; split <;> simp_all [Memory.get]
  | cons c m ih =>
    obtain ⟨c, w⟩ := c
    have h2 : Memory.wfAbove (some c) m = true := by
      simp only [Memory.wfAbove, Bool.and_eq_true] at h; exact h.2
    unfold Memory.set
    split
    · next hlt =>
      split
      · next hv =>
        have : a ≠ c := by omega
        simp only [Memory.get, this, if_false]
        rw [hv]; exact Memory.get_of_wfAbove m c a h2 (by omega)
      · simp [Memory.get]
    · split
      · next heq =>
        subst heq
        split
        · next hv => rw [hv]; exact Memory.get_of_wfAbove m a a h2 (Nat.le_refl _)
        · simp [Memory.get]
      · next hne =>
        simp only [Memory.get, hne, if_false]
        exact ih (some c) h2

theorem Memory.wfAbove_set (m : Memory) (lo : Option Nat) (a : Nat) (v : Byte)
    (h : Memory.wfAbove lo m = true) (hlo : ∀ l, lo = some l → l < a) : Memory.wfAbove lo (m.set a v) = true := by
  induction m generalizing lo with
  | nil =>
    unfold Memory.set
    split
    · rfl
    · next hv =>
      cases lo with
      | none => simp [Memory.wfAbove, hv]
      | some l => simp [Memory.wfAbove, hv, hlo l rfl]
  | cons c m ih =>
    obtain ⟨c, w⟩ := c
    have hh := h
    simp only [Memory.wfAbove, Bool.and_eq_true] at h
    unfold Memory.set
    split
    · next hlt =>
      split
      · exact hh
      · next hv =>
        cases lo with
        | none => simp_all [Memory.wfAbove]
        | some l => have := hlo l rfl; simp_all [Memory.wfAbove]
    · split
      · next hge heq =>
        subst heq
        split
        · cases m with
          | nil => rfl
          | cons x m =>
            obtain ⟨x, u⟩ := x
            cases lo with
            | none => simp_all [Memory.wfAbove]
            | some l =>
              have := hlo l rfl
              simp only [Memory.wfAbove, Bool.and_eq_true, decide_eq_true_eq] at h ⊢
              exact ⟨⟨by omega, h.2.1.2⟩, h.2.2⟩
        · next hv => simp_all [Memory.wfAbove]
      · next hge hne =>
        have h3 := ih (some c) h.2 (by intro l hl; simp only [Option.some.injEq] at hl; omega)
        simp only [Memory.wfAbove, Bool.and_eq_true]
        exact ⟨h.1, h3⟩

/-- A write keeps the canonical form. -/
theorem Memory.wf_set (m : Memory) (a : Nat) (v : Byte) (h : m.wf = true) : (m.set a v).wf = true :=
  Memory.wfAbove_set m none a v h (by simp)

/-- The reset memory is in canonical form. -/
theorem Memory.wf_reset : State.reset.mem.wf = true := rfl

/-! ### The ledger -/

theorem ledgerAbove_set (m : List (Nat × Durability)) (lo : Option Nat) (a : Nat) (d : Durability)
    (h : ledgerAbove lo m = true) (hlo : ∀ l, lo = some l → l < a) : ledgerAbove lo (setDurability m a d) = true := by
  induction m generalizing lo with
  | nil =>
    cases lo with
    | none => rfl
    | some l => simp [setDurability, ledgerAbove, hlo l rfl]
  | cons c m ih =>
    obtain ⟨c, w⟩ := c
    simp only [ledgerAbove, Bool.and_eq_true] at h
    unfold setDurability
    split
    · cases lo with
      | none => simp_all [ledgerAbove]
      | some l => have := hlo l rfl; simp_all [ledgerAbove]
    · split
      · next heq => subst heq; simp only [ledgerAbove, Bool.and_eq_true]; exact h
      · next hge hne =>
        have h3 := ih (some c) h.2 (by intro l hl; simp only [Option.some.injEq] at hl; omega)
        simp only [ledgerAbove, Bool.and_eq_true]
        exact ⟨h.1, h3⟩

/-- The entries of a canonical ledger lie above its bound. -/
theorem ledgerAbove_lt (m : List (Nat × Durability)) (l : Nat) (h : ledgerAbove (some l) m = true) :
    ∀ e ∈ m, l < e.1 := by
  induction m generalizing l with
  | nil => simp
  | cons c m ih =>
    simp only [ledgerAbove, Bool.and_eq_true, decide_eq_true_eq] at h
    intro e he
    rcases List.mem_cons.mp he with rfl | he
    · exact h.1
    · exact Nat.lt_trans h.1 (ih _ h.2 e he)

/-- Recording a store replaces the entry of its address and leaves every other entry alone. -/
theorem mem_setDurability (m : List (Nat × Durability)) (lo : Option Nat) (a : Nat) (d : Durability)
    (h : ledgerAbove lo m = true) (b : Nat) (e : Durability) :
    (b, e) ∈ setDurability m a d ↔ (b = a ∧ e = d) ∨ (b ≠ a ∧ (b, e) ∈ m) := by
  induction m generalizing lo with
  | nil => simp [setDurability]
  | cons c m ih =>
    obtain ⟨c, w⟩ := c
    simp only [ledgerAbove, Bool.and_eq_true] at h
    have above := ledgerAbove_lt m c h.2
    unfold setDurability
    split
    · next hlt =>
      have hm : ∀ e, (b, e) ∈ (c, w) :: m → b ≠ a := by
        intro e he
        rcases List.mem_cons.mp he with he | he
        · cases he; omega
        · have := above _ he; simp only at this; omega
      rw [List.mem_cons, Prod.mk.injEq]
      exact or_congr_right ⟨fun he => ⟨hm e he, he⟩, And.right⟩
    · split
      · next heq =>
        subst heq
        have hm : (b, e) ∈ m → b ≠ a := fun he => Nat.ne_of_gt (above _ he)
        simp only [List.mem_cons, Prod.mk.injEq]
        constructor
        · rintro (he | he)
          · exact .inl he
          · exact .inr ⟨hm he, .inr he⟩
        · rintro (he | ⟨hn, ⟨he, -⟩ | he⟩)
          · exact .inl he
          · exact absurd he hn
          · exact .inr he
      · next hge hne =>
        rw [List.mem_cons, ih (some c) h.2, List.mem_cons, Prod.mk.injEq]
        constructor
        · rintro (⟨rfl, rfl⟩ | he | he)
          · exact .inr ⟨fun e => hne e.symm, .inl ⟨rfl, rfl⟩⟩
          · exact .inl he
          · exact .inr ⟨he.1, .inr he.2⟩
        · rintro (he | ⟨hn, he | he⟩)
          · exact .inr (.inl he)
          · exact .inl he
          · exact .inr (.inr ⟨hn, he⟩)

theorem ledgerAbove_map (m : List (Nat × Durability)) (lo : Option Nat) (f : Nat × Durability → Nat × Durability)
    (hf : ∀ e, (f e).1 = e.1) : ledgerAbove lo (m.map f) = ledgerAbove lo m := by
  induction m generalizing lo with
  | nil => rfl
  | cons c m ih =>
    have h := hf c
    obtain ⟨c, w⟩ := c
    rcases hfc : f (c, w) with ⟨c', w'⟩
    rw [hfc] at h
    simp only at h
    subst h
    simp only [List.map_cons, hfc, ledgerAbove, ih]

/-! ### What keeps the invariant -/

/-- A state with the same memory, ledger, MXCSR and legality meets the invariant too. -/
theorem State.Inv.congr {s t : State} (h : s.Inv) (hm : t.mem = s.mem) (hd : t.durability = s.durability)
    (hx : t.mxcsr = s.mxcsr) (hl : t.legal = s.legal) : t.Inv := by
  unfold State.Inv
  rw [hm, hd, hx, hl]
  exact h

/-- Marking translations as accessed keeps the invariant. -/
theorem State.Inv.marked {s : State} (h : s.Inv) (l : List Word) : (s.marked l).Inv := h

theorem State.Inv.storeByte {s : State} (h : s.Inv) (nt : Bool) (a : Nat) (v : Byte) : (s.storeByte nt a v).Inv := by
  obtain ⟨h1, h2, h3⟩ := h
  refine ⟨Memory.wf_set _ _ _ h1, ?_, h3⟩
  unfold State.storeByte
  simp only
  split
  · exact ledgerAbove_set _ none _ _ h2 (by simp)
  · exact h2

theorem State.Inv.storeBytes {s : State} (h : s.Inv) (nt : Bool) (v : ZWord) (ps : List (Nat × Nat)) :
    (s.storeBytes nt v ps).Inv := by
  induction ps generalizing s with
  | nil => exact h
  | cons p ps ih => exact ih (h.storeByte nt p.2 (byteAt p.1 v))

theorem State.Inv.serialize {s : State} (h : s.Inv) : s.serialize.Inv := by
  refine ⟨h.1, ?_, h.2.2⟩
  unfold ledgerOk State.serialize
  rw [ledgerAbove_map]
  · exact h.2.1
  · intro e; split <;> rfl

theorem State.Inv.commitStores {s : State} (h : s.Inv) : s.commitStores.Inv := by
  refine ⟨h.1, ?_, h.2.2⟩
  unfold ledgerOk State.commitStores
  rw [ledgerAbove_map]
  · exact h.2.1
  · intro e; split <;> rfl

theorem State.Inv.writeBackLine {s : State} (h : s.Inv) (l n : Nat) : (s.writeBackLine l n).Inv := by
  refine ⟨h.1, ?_, h.2.2⟩
  unfold ledgerOk State.writeBackLine
  rw [ledgerAbove_map]
  · exact h.2.1
  · intro e; split <;> rfl

theorem State.Inv.setMxcsrFlags {s : State} (h : s.Inv) (f : FpFlags) : (s.setMxcsrFlags f).Inv := by
  refine ⟨h.1, h.2.1, ?_, h.2.2.2⟩
  have h3 := h.2.2.1
  apply BitVec.eq_of_getLsbD_eq
  intro i hi
  have h4 : s.mxcsr.getLsbD (16 + i) = false := by
    have := congrArg (fun x => x.getLsbD i) h3
    simpa [hi] using this
  have h5 : f.getLsbD (16 + i) = false := BitVec.getLsbD_of_ge _ _ (by omega)
  simp [State.setMxcsrFlags, hi, h4, h5]

/-! ### Marking translations as accessed -/

theorem markAll_append (l m : List Word) (rs : List Region) : markAll (l ++ m) rs = markAll m (markAll l rs) := by
  simp [markAll]

/-- Marking no address changes nothing. -/
@[simp] theorem State.marked_nil (s : State) : s.marked [] = s := rfl

theorem State.marked_marked (s : State) (l m : List Word) : (s.marked l).marked m = s.marked (l ++ m) := by
  simp only [State.marked, markAll_append]

/-- After an instruction that completed the addresses read are marked. -/
theorem State.noteRead_running {s : State} (h : s.event = none) (l : List Word) : s.noteRead l = s.marked l := by
  simp only [State.noteRead, h]

/-- After an exception none is. -/
theorem State.noteRead_trapped {s : State} {e : Event} (h : s.event = some e) (l : List Word) : s.noteRead l = s := by
  simp only [State.noteRead, h]

/-- Marking changes the accessed flags of regions and nothing else. -/
theorem markAll_erased (l : List Word) (rs : List Region) :
    (markAll l rs).map (fun r : Region => { r with accessed := false }) = rs.map fun r : Region => { r with accessed := false } := by
  have one : ∀ (a : Word) (rs : List Region),
      (markAccessed a rs).map (fun r : Region => { r with accessed := false }) = rs.map fun r : Region => { r with accessed := false } := by
    intro a rs
    induction rs with
    | nil => rfl
    | cons r rs ih =>
      unfold markAccessed
      split
      · rfl
      · simp [ih]
  induction l generalizing rs with
  | nil => rfl
  | cons a l ih => exact (ih _).trans (one a rs)

/-- Lists of regions that differ in accessed flags alone translate alike. -/
theorem State.translate_erased {s t : State} (acc : Access) (lin : Word)
    (hr : t.regions.map (fun r : Region => { r with accessed := false }) = s.regions.map fun r : Region => { r with accessed := false })
    (hc : t.cpl = s.cpl) : t.translate acc lin = s.translate acc lin := by
  have hf := congrArg (List.find? fun r : Region => r.holds lin) hr
  simp only [List.find?_map] at hf
  simp only [State.translate, hc]
  have hh : ((fun r : Region => r.holds lin) ∘ fun r : Region => { r with accessed := false }) = fun r : Region => r.holds lin := rfl
  rw [hh] at hf
  generalize t.regions.find? (fun r : Region => r.holds lin) = x at hf
  generalize s.regions.find? (fun r : Region => r.holds lin) = y at hf
  cases x <;> cases y <;> simp only [Option.map_none, Option.map_some, reduceCtorEq, Option.some.injEq] at hf
  · rfl
  · next r q =>
    obtain ⟨_, _, _, _, _, _, _, _⟩ := r
    obtain ⟨_, _, _, _, _, _, _, _⟩ := q
    simp only [Region.mk.injEq] at hf
    obtain ⟨rfl, -, rfl, rfl, rfl, rfl, -, -⟩ := hf
    cases acc <;> rfl

/-! ### Stores of several bytes -/

/-- A store of one byte keeps the ledger canonical. -/
theorem ledgerOk_storeByte {s : State} (h : ledgerOk s.durability = true) (nt : Bool) (a : Nat) (v : Byte) :
    ledgerOk (s.storeByte nt a v).durability = true := by
  unfold State.storeByte
  simp only
  split
  · exact ledgerAbove_set _ none _ _ h (by simp)
  · exact h

/-- The ledger after a store of one byte. -/
theorem State.storeByte_ledger (s : State) (nt : Bool) (a : Nat) (v : Byte) :
    LedgerWritten s (s.storeByte nt a v) nt (· = a) := by
  intro h b d
  have hd : (if s.storesThrough nt a then Durability.draining else .stored) =
      if NeedsNoFlush s nt a then .draining else .stored := by
    unfold State.storesThrough NeedsNoFlush
    cases s.memType a <;> simp
  unfold State.storeByte
  simp only
  split
  · next hp =>
    rw [mem_setDurability _ none _ _ h, hd]
    constructor
    · rintro (⟨rfl, rfl⟩ | ⟨hn, hm⟩)
      · exact .inl ⟨rfl, hp, rfl⟩
      · exact .inr ⟨fun x => hn x.1, hm⟩
    · rintro (⟨rfl, -, rfl⟩ | ⟨hn, hm⟩)
      · exact .inl ⟨rfl, rfl⟩
      · exact .inr ⟨fun x => hn ⟨x, x ▸ hp⟩, hm⟩
  · next hp =>
    constructor
    · exact fun hm => .inr ⟨fun x => hp (x.1 ▸ x.2), hm⟩
    · rintro (⟨rfl, hq, -⟩ | ⟨-, hm⟩)
      · exact absurd hq hp
      · exact hm

/-- Two stores of one kind, one after the other, on a machine whose ranges and memory types stay. -/
theorem LedgerWritten.trans {s t u : State} {nt : Bool} {p q : Nat → Prop} (h1 : LedgerWritten s t nt p)
    (h2 : LedgerWritten t u nt q) (ht : ledgerOk s.durability = true → ledgerOk t.durability = true)
    (hp : t.pmem = s.pmem) (hm : t.memTypes = s.memTypes) : LedgerWritten s u nt fun a => p a ∨ q a := by
  intro h a d
  have hi : t.isPmem a = s.isPmem a := by simp only [State.isPmem, hp]
  have hn : NeedsNoFlush t nt a = NeedsNoFlush s nt a := by simp only [NeedsNoFlush, State.memType, hm]
  have k1 := h1 h a d
  have k2 := h2 (ht h) a d
  simp only [hi, hn] at k2
  by_cases hq : q a <;> by_cases hpa : p a <;> by_cases hs : s.isPmem a = true <;> simp_all

/-- The ledger after a store of several bytes. -/
theorem State.storeBytes_ledger (s : State) (nt : Bool) (v : ZWord) (ps : List (Nat × Nat)) :
    LedgerWritten s (s.storeBytes nt v ps) nt fun a => ∃ p ∈ ps, p.2 = a := by
  induction ps generalizing s with
  | nil => intro _ a d; simp [State.storeBytes]
  | cons p ps ih =>
    have h := (s.storeByte_ledger nt p.2 (byteAt p.1 v)).trans (ih _) (ledgerOk_storeByte · nt _ _) rfl rfl
    intro hl a d
    rw [State.storeBytes, h hl a d]
    simp only [List.exists_mem_cons_iff, eq_comm]

/-- An address that is not stored to reads as before. -/
theorem State.storeBytes_get_ne (s : State) (nt : Bool) (v : ZWord) (ps : List (Nat × Nat)) (a : Nat)
    (h : ∀ p ∈ ps, p.2 ≠ a) : (s.storeBytes nt v ps).mem.get a = s.mem.get a := by
  induction ps generalizing s with
  | nil => rfl
  | cons p ps ih =>
    simp only [State.storeBytes]
    rw [ih _ (fun q hq => h q (List.mem_cons_of_mem _ hq))]
    exact Memory.get_set_ne _ _ _ _ (fun e => h p List.mem_cons_self e.symm)

/-- Each address stored to reads as its byte, when no two bytes go to one address. -/
theorem State.storeBytes_get (s : State) (nt : Bool) (v : ZWord) (ps : List (Nat × Nat)) (hw : s.mem.wf = true)
    (hn : (ps.map (·.2)).Nodup) (p : Nat × Nat) (hp : p ∈ ps) :
    (s.storeBytes nt v ps).mem.get p.2 = byteAt p.1 v := by
  induction ps generalizing s with
  | nil => cases hp
  | cons q ps ih =>
    simp only [List.map_cons, List.nodup_cons] at hn
    simp only [State.storeBytes]
    rcases List.mem_cons.mp hp with rfl | hp
    · rw [State.storeBytes_get_ne]
      · exact Memory.get_set_same _ none _ _ hw
      · intro q hq e
        exact hn.1 (e ▸ List.mem_map_of_mem hq)
    · exact ih _ (Memory.wf_set _ _ _ hw) hn.2 hp

end Sys2Proof.Machine
end

