-- ==== Sys2Proof/Laws/Ops.lean ====
section
/-! SUPPORT. What the shared operations of Machine/Ops.lean and Machine/Flags.lean can do, once each: the checks and the body
of an instruction, the checks of a memory operand, loads and stores, the response to floating-point conditions. -/

namespace Sys2Proof.Machine

namespace State

/-! ### Running an instruction -/

/-- An instruction whose checks pass and whose body succeeds completes. -/
theorem run_ok {s u : State} {rows : List Row} {o : Operands} {r : Row} {body : Row → Except Abort State}
    (h : s.selects rows o r) (hb : body r = .ok u) (hu : u.event = none) :
    s.run rows o body = .next { u with pc := u.npc } := by
  simp [run, h.2, hb, finish, retire, hu]

/-- An instruction whose body has put the machine into the trapped state stays where it is. -/
theorem run_trapped {s u : State} {rows : List Row} {o : Operands} {r : Row} {body : Row → Except Abort State} {e : Event}
    (h : s.selects rows o r) (hb : body r = .ok u) (hu : u.event = some e) : s.run rows o body = .next u := by
  simp [run, h.2, hb, finish, retire, hu]

/-- An instruction whose body fails takes the exception. -/
theorem run_error {s : State} {rows : List Row} {o : Operands} {r : Row} {body : Row → Except Abort State} {a : Abort}
    (h : s.selects rows o r) (hb : body r = .error a) : s.run rows o body = .next (s.raise a) := by
  simp [run, h.2, hb, finish]

/-- A check that fails takes its exception. -/
theorem run_gate_error {s : State} {rows : List Row} {o : Operands} {body : Row → Except Abort State} {a : Abort}
    (h : s.gate rows o = .error a) : s.run rows o body = .next (s.raise a) := by
  simp [run, h, finish]

/-- Running an instruction always answers a next state. -/
theorem run_next (s : State) (rows : List Row) (o : Operands) (body : Row → Except Abort State) :
    ∃ t, s.run rows o body = .next t := by
  unfold run finish
  split <;> exact ⟨_, rfl⟩

/-- What running an instruction can answer. -/
theorem run_cases {s t : State} {rows : List Row} {o : Operands} {body : Row → Except Abort State}
    (h : s.run rows o body = .next t) :
    (∃ a, t = s.raise a) ∨ ∃ r u, s.gate rows o = .ok r ∧ body r = .ok u ∧ t = u.retire := by
  unfold run finish at h
  split at h
  · exact .inl ⟨_, (Host.Outcome.next.inj h).symm⟩
  · next u hu =>
    split at hu
    · cases hu
    · next r hr => exact .inr ⟨r, u, hr, hu, (Host.Outcome.next.inj h).symm⟩

/-- The row the checks select accepts the fields. -/
theorem gate_mem {s : State} {rows : List Row} {o : Operands} {r : Row} (h : s.gate rows o = .ok r) :
    r ∈ rows ∧ r.accepts o = true := by
  unfold gate at h
  split at h
  · cases h
  · next r' hr =>
    repeat (split at h; · cases h)
    cases h
    exact ⟨List.mem_of_find?_eq_some hr, by simpa using List.find?_some hr⟩

/-- When the checks select the row that the fields match. -/
theorem gate_ok_iff {s : State} {rows : List Row} {o : Operands} {r : Row}
    (hf : rows.find? (fun r => r.accepts o) = some r) :
    s.gate rows o = .ok r ↔ (r.only64 = true → s.mode = .long64) ∧ (∀ f ∈ r.feats, s.hasFeature f = true) ∧
      s.enabled r = true ∧ s.deviceNotAvailable r = false := by
  unfold gate
  rw [hf]
  simp only
  split
  · next h => simp at h; simp [h]
  · next h1 =>
    simp at h1
    split
    · next h => simp at h; simp; intro _ h2; obtain ⟨f, hf, hs⟩ := h; rw [h2 f hf] at hs; cases hs
    · next h2 =>
      simp at h2
      split
      · next h => simp at h; simp [h]
      · next h3 =>
        split
        · next h => simp [h]
        · next h4 => simp at h3 h4; simp [h3, h4]; exact ⟨h1, h2⟩

/-! ### The checks of a memory operand -/

theorem translateAll_offsets {s : State} {acc : Access} {g : SegReg} {ea : Word} {offs : List Nat}
    {ps : List (Nat × Nat)} (h : s.translateAll acc g ea offs = .ok ps) : ps.map (·.1) = offs := by
  induction offs generalizing ps with
  | nil => simp only [translateAll, Except.ok.injEq] at h; subst h; rfl
  | cons i is ih =>
    unfold translateAll at h
    split at h
    · cases h
    · split at h
      · cases h
      · next hps => cases h; simp [ih hps]

/-- The checks answer one physical address for each byte asked for. -/
theorem checkMem_offsets {s : State} {acc : Access} {g : SegReg} {ea : Word} {offs : List Nat} {al ac : Nat}
    {ps : List (Nat × Nat)} (h : s.checkMem acc g ea offs al ac = .ok ps) : ps.map (·.1) = offs := by
  unfold checkMem at h
  split at h
  · cases h
  · split at h
    · cases h
    · split at h
      · cases h
      · next hps =>
        split at h
        · cases h
        · cases h; exact translateAll_offsets hps

theorem translateAll_congr {s t : State} (acc : Access) (g : SegReg) (ea : Word) (offs : List Nat)
    (h1 : t.mode = s.mode) (h2 : t.segs = s.segs) (h3 : ∃ l, t.regions = markAll l s.regions) (h4 : t.cpl = s.cpl) :
    t.translateAll acc g ea offs = s.translateAll acc g ea offs := by
  have hl : ∀ i, t.linear g ea i = s.linear g ea i := by
    intro i; simp only [linear, segBase, segment, h1, h2]
  have ht : ∀ a, t.translate acc a = s.translate acc a := by
    intro a
    obtain ⟨l, h3⟩ := h3
    exact translate_erased acc a (by rw [h3, markAll_erased]) h4
  induction offs with
  | nil => rfl
  | cons i is ih => simp only [translateAll, hl, ht, ih]

/-- The checks depend on the mode, the segments, translation but for its accessed flags, the privilege level, the part, CR0
and EFLAGS alone. -/
theorem checkMem_congr {s t : State} (acc : Access) (g : SegReg) (ea : Word) (offs : List Nat) (al ac : Nat)
    (h1 : t.mode = s.mode) (h2 : t.segs = s.segs) (h3 : ∃ l, t.regions = markAll l s.regions) (h4 : t.cpl = s.cpl)
    (h5 : t.cpu = s.cpu) (h6 : t.cr0 = s.cr0) (h7 : t.eflags = s.eflags) :
    t.checkMem acc g ea offs al ac = s.checkMem acc g ea offs al ac := by
  have hl : ∀ i, t.linear g ea i = s.linear g ea i := by
    intro i; simp only [linear, segBase, segment, h1, h2]
  have hf : t.segFault g ea = s.segFault g ea := by
    have hs : t.segment g = s.segment g := by simp only [segment, h2]
    funext i; simp only [segFault, hl, hs, h1, h5]
  have hac : t.acEnabled = s.acEnabled := by simp only [acEnabled, h4, h6, h7]
  unfold checkMem
  rw [hl, hf, hac, translateAll_congr acc g ea offs h1 h2 h3 h4]

/-! ### Loads -/

theorem readMem_congr {s t : State} (g : SegReg) (ea : Word) (offs : List Nat) (al ac : Nat)
    (h1 : t.mode = s.mode) (h2 : t.segs = s.segs) (h3 : ∃ l, t.regions = markAll l s.regions) (h4 : t.cpl = s.cpl)
    (h5 : t.cpu = s.cpu) (h6 : t.cr0 = s.cr0) (h7 : t.eflags = s.eflags) (h8 : t.mem = s.mem) :
    t.readMem g ea offs al ac = s.readMem g ea offs al ac := by
  have hl : t.linear g ea = s.linear g ea := by
    funext i; simp only [linear, segBase, segment, h1, h2]
  unfold readMem
  rw [checkMem_congr .read g ea offs al ac h1 h2 h3 h4 h5 h6 h7, h8, hl]

/-- A load that succeeds answers the bytes at the addresses its checks answer, and the linear addresses of all of them. -/
theorem readMem_ok {s : State} {g : SegReg} {ea : Word} {offs : List Nat} {al ac : Nat} {v : ZWord} {l : List Word}
    (h : s.readMem g ea offs al ac = .ok (v, l)) :
    ∃ ps, s.checkMem .read g ea offs al ac = .ok ps ∧ v = fromBytes (ps.map fun p => (p.1, s.mem.get p.2)) ∧
      l = offs.map (s.linear g ea) := by
  unfold readMem at h
  split at h
  · cases h
  · next ps hps => cases h; exact ⟨ps, hps, rfl, rfl⟩

/-- A body that uses a load: it fails with the load, or its result has the addresses read marked, unless it took an
exception. -/
theorem loading_ok {α : Type} {b : α} {l : List Word} {x : Except Abort (α × List Word)} {f : α → State}
    (h : x = .ok (b, l)) : loading x f = .ok ((f b).noteRead l) := by
  simp [loading, h, Except.map]

/-- What a body that uses a load can answer. -/
theorem loading_cases {α : Type} {x : Except Abort (α × List Word)} {f : α → State} {u : State}
    (h : loading x f = .ok u) : ∃ b l, x = .ok (b, l) ∧ u = (f b).noteRead l := by
  cases x with
  | error a => cases h
  | ok b => obtain ⟨b, l⟩ := b; cases h; exact ⟨b, l, rfl, rfl⟩

end State

/-- Byte `i` of an assembled value: each listed byte at its offset (offsets below 64). -/
theorem elem_fromBytes (bs : List (Nat × Byte)) (i : Nat) (b : Byte) (hi : i < 64) (h : (i, b) ∈ bs)
    (hu : ∀ x ∈ bs, x.1 = i → x.2 = b) : elem 8 i (fromBytes bs) = b := by
  have key : ∀ (bs : List (Nat × Byte)) (k : Nat), k < 8 →
      (fromBytes bs).getLsbD (8 * i + k) = bs.any fun x => x.1 == i && x.2.getLsbD k := by
    intro bs k hk
    induction bs with
    | nil => simp [fromBytes]
    | cons x bs ih =>
      obtain ⟨j, c⟩ := x
      simp only [fromBytes, BitVec.getLsbD_or, ih, List.any_cons, BitVec.getLsbD_shiftLeft, BitVec.getLsbD_setWidth]
      congr 1
      have h512 : 8 * i + k < 512 := by omega
      rcases Nat.lt_trichotomy j i with hj | hj | hj
      · have h1 : ¬ 8 * i + k < 8 * j := by omega
        have h2 : c.getLsbD (8 * i + k - 8 * j) = false := BitVec.getLsbD_of_ge _ _ (by omega)
        have h3 : (j == i) = false := by simp; omega
        simp [h2, h3]
      · subst hj
        have h1 : 8 * j + k - 8 * j = k := by omega
        have h2 : k < 512 := by omega
        simp [h1, h512, h2]
      · have h1 : 8 * i + k < 8 * j := by omega
        have h3 : (j == i) = false := by simp; omega
        simp [h1, h3]
  apply BitVec.eq_of_getLsbD_eq
  intro k hk
  rw [getLsbD_elem, key bs k hk]
  simp only [hk, decide_true, Bool.true_and]
  rw [Bool.eq_iff_iff, List.any_eq_true]
  constructor
  · rintro ⟨x, hx, hxk⟩
    simp only [Bool.and_eq_true, beq_iff_eq] at hxk
    rw [hu x hx hxk.1] at hxk
    exact hxk.2
  · intro hb
    exact ⟨(i, b), h, by simp [hb]⟩

namespace State

/-! ### Floating-point conditions -/

/-- Conditions that raise nothing: the flags are set (or not, under SAE) and the result is written. -/
theorem fpRespond_quiet {s : State} {r : Row} {o : Operands} {f : FpFlags} {commit : State → State}
    (h : s.quiet r o f) :
    s.fpRespond (r.rounding o) f commit = commit { s with mxcsr := s.mxcsrAfter r o f } := by
  unfold fpRespond mxcsrAfter
  rcases h with h | h
  · simp [h]
  · cases hr : r.rounding o <;> simp [h, setMxcsrFlags]

/-- An unmasked condition: the flags are set, nothing else is written, #XM or #UD is taken. -/
theorem fpRespond_alarmed {s : State} {r : Row} {o : Operands} {f : FpFlags} {commit : State → State}
    (h : s.alarmed r o f) : s.fpRespond (r.rounding o) f commit = s.alarm f := by
  unfold fpRespond alarm
  simp only [h.1, Bool.false_eq_true, if_false, h.2, ne_eq, not_false_eq_true, if_true]
  simp only [raise, setMxcsrFlags]
  cases s.cr4.getLsbD 10 <;> rfl

end State

end Sys2Proof.Machine
end

