-- ==== Sys2Proof/Laws/Exec.lean ====
section
/-! SUPPORT. `exec` and the enumeration of mnemonics: running a name with fields is `exec` of the instruction they make, and
every instruction with fields runs the checks on its own rows. -/

namespace Sys2Proof.Machine

/-- The meaning of a name with fields is `exec` of the instruction they make. -/
theorem Mnemonic.run_eq_exec (m : Mnemonic) (o : Operands) (s : State) : m.run o s = exec (m.make o) s := by
  cases m <;> rfl

set_option maxHeartbeats 1000000 in
/-- Every instruction with fields is `State.run` on the rows of its mnemonic. -/
theorem exec_eq_run (i : Instr) (o : Operands) (s : State) (h : operandsOf i = some o) :
    ∃ body, exec i s = s.run (mnemonicOf i).rows o body := by
  cases i <;> cases h <;> exact ⟨_, rfl⟩

set_option maxHeartbeats 1000000 in
/-- CPUID and PCOMMIT alone have no fields. -/
theorem operandsOf_none (i : Instr) (h : operandsOf i = none) : i = .cpuid ∨ i = .pcommit := by
  cases i with
  | cpuid => exact .inl rfl
  | pcommit => exact .inr rfl
  | _ => cases h

set_option maxHeartbeats 1000000 in
/-- An instruction with fields is its name and its fields. -/
theorem eq_make (i : Instr) (o : Operands) (h : operandsOf i = some o) : i = (mnemonicOf i).make o := by
  cases i <;> cases h <;> rfl

end Sys2Proof.Machine
end

