-- ==== Sys2Proof/Laws/Shapes.lean ====
section
/-! SUPPORT. What the operand shapes of Machine/Operands.lean and Machine/Vector.lean write, and how a body that changes one
kind of state completes. -/

namespace Sys2Proof.Machine

/-- A vector length is at most 512 bits. -/
theorem Row.vl_le (r : Row) (o : Operands) : r.vl o ≤ 512 := by
  unfold Row.vl
  repeat' split
  all_goals decide

theorem Row.le_vl (r : Row) (o : Operands) : 128 ≤ r.vl o := by
  unfold Row.vl
  repeat' split
  all_goals decide

theorem Row.count_le (r : Row) (o : Operands) (w : Nat) : w * r.count o w ≤ r.vl o := by
  rw [Row.count, Nat.mul_comm]
  exact Nat.div_mul_le_self _ _

theorem Row.count_max_le (r : Row) (o : Operands) (v w : Nat) : w * r.count o (max v w) ≤ r.vl o :=
  Nat.le_trans (Nat.mul_le_mul_right _ (Nat.le_max_right v w)) (r.count_le o (max v w))

/-! ### Marked translations -/

/-- A body that uses a load and does not end in an exception marks the addresses read. -/
theorem loading_marked {α : Type} {b : α} {l : List Word} {x : Except Abort (α × List Word)} {f : α → State}
    (h : x = .ok (b, l)) (he : (f b).event = none) : loading x f = .ok ((f b).marked l) := by
  rw [State.loading_ok h, State.noteRead_running he]

/-- A body that uses a load and ends in an exception marks nothing. -/
theorem loading_trapped {α : Type} {b : α} {l : List Word} {x : Except Abort (α × List Word)} {f : α → State} {e : Event}
    (h : x = .ok (b, l)) (he : (f b).event = some e) : loading x f = .ok (f b) := by
  rw [State.loading_ok h, State.noteRead_trapped he]

/-! ### Completion -/

/-- A body that succeeds completes with the pc at the next instruction. -/
theorem run_at {s u : State} {rows : List Row} {o : Operands} {r : Row} {body : Row → Except Abort State}
    (h : s.selects rows o r) (hb : body r = .ok u) (h1 : u.event = none) (h2 : u.npc = s.npc) :
    s.run rows o body = .next { u with pc := s.npc } := by
  rw [State.run_ok h hb h1, h2]

/-- A body that changes only vector registers, and marks the addresses it read, completes, and nothing else has changed. -/
theorem run_zmm {s u : State} {rows : List Row} {o : Operands} {r : Row} {body : Row → Except Abort State}
    {l : List Word} (h : s.selects rows o r) (hb : body r = .ok (u.marked l)) (hu : u = { s with zmm := u.zmm }) :
    s.run rows o body = .next { u.marked l with pc := s.npc } ∧ ZmmOnly (s.marked l) { u.marked l with pc := s.npc } := by
  have h1 : (u.marked l).event = none := by rw [hu]; exact h.1
  have h2 : (u.marked l).npc = s.npc := by rw [hu]; rfl
  refine ⟨run_at h hb h1 h2, ?_, ?_⟩
  · intro a; rw [hu]; rfl
  · rw [hu]; rfl

/-- The same for vector registers and MXCSR. -/
theorem run_zmm_mxcsr {s u : State} {rows : List Row} {o : Operands} {r : Row} {body : Row → Except Abort State}
    {l : List Word} (h : s.selects rows o r) (hb : body r = .ok (u.marked l)) (hu : u = { s with zmm := u.zmm, mxcsr := u.mxcsr }) :
    s.run rows o body = .next { u.marked l with pc := s.npc } ∧ ZmmMxcsrOnly (s.marked l) { u.marked l with pc := s.npc } := by
  have h1 : (u.marked l).event = none := by rw [hu]; exact h.1
  have h2 : (u.marked l).npc = s.npc := by rw [hu]; rfl
  refine ⟨run_at h hb h1 h2, ?_, ?_⟩
  · intro a; rw [hu]; rfl
  · rw [hu]; rfl

/-- The same for opmask registers. -/
theorem run_k {s u : State} {rows : List Row} {o : Operands} {r : Row} {body : Row → Except Abort State}
    {l : List Word} (h : s.selects rows o r) (hb : body r = .ok (u.marked l)) (hu : u = { s with k := u.k }) :
    s.run rows o body = .next { u.marked l with pc := s.npc } ∧ KOnly (s.marked l) { u.marked l with pc := s.npc } := by
  have h1 : (u.marked l).event = none := by rw [hu]; exact h.1
  have h2 : (u.marked l).npc = s.npc := by rw [hu]; rfl
  refine ⟨run_at h hb h1 h2, ?_, ?_⟩
  · intro a; rw [hu]; rfl
  · rw [hu]; rfl

/-- The same for opmask registers and MXCSR. -/
theorem run_k_mxcsr {s u : State} {rows : List Row} {o : Operands} {r : Row} {body : Row → Except Abort State}
    {l : List Word} (h : s.selects rows o r) (hb : body r = .ok (u.marked l)) (hu : u = { s with k := u.k, mxcsr := u.mxcsr }) :
    s.run rows o body = .next { u.marked l with pc := s.npc } ∧ KMxcsrOnly (s.marked l) { u.marked l with pc := s.npc } := by
  have h1 : (u.marked l).event = none := by rw [hu]; exact h.1
  have h2 : (u.marked l).npc = s.npc := by rw [hu]; rfl
  refine ⟨run_at h hb h1 h2, ?_, ?_⟩
  · intro a; rw [hu]; rfl
  · rw [hu]; rfl

/-- The same for general registers. -/
theorem run_gpr {s u : State} {rows : List Row} {o : Operands} {r : Row} {body : Row → Except Abort State}
    {l : List Word} (h : s.selects rows o r) (hb : body r = .ok (u.marked l)) (hu : u = { s with gpr := u.gpr }) :
    s.run rows o body = .next { u.marked l with pc := s.npc } ∧ GprOnly (s.marked l) { u.marked l with pc := s.npc } := by
  have h1 : (u.marked l).event = none := by rw [hu]; exact h.1
  have h2 : (u.marked l).npc = s.npc := by rw [hu]; rfl
  refine ⟨run_at h hb h1 h2, ?_, ?_⟩
  · intro a; rw [hu]; rfl
  · rw [hu]; rfl

/-- The same for general registers and MXCSR. -/
theorem run_gpr_mxcsr {s u : State} {rows : List Row} {o : Operands} {r : Row} {body : Row → Except Abort State}
    {l : List Word} (h : s.selects rows o r) (hb : body r = .ok (u.marked l)) (hu : u = { s with gpr := u.gpr, mxcsr := u.mxcsr }) :
    s.run rows o body = .next { u.marked l with pc := s.npc } ∧ GprMxcsrOnly (s.marked l) { u.marked l with pc := s.npc } := by
  have h1 : (u.marked l).event = none := by rw [hu]; exact h.1
  have h2 : (u.marked l).npc = s.npc := by rw [hu]; rfl
  refine ⟨run_at h hb h1 h2, ?_, ?_⟩
  · intro a; rw [hu]; rfl
  · rw [hu]; rfl

/-- The same for EFLAGS and MXCSR. -/
theorem run_eflags_mxcsr {s u : State} {rows : List Row} {o : Operands} {r : Row} {body : Row → Except Abort State}
    {l : List Word} (h : s.selects rows o r) (hb : body r = .ok (u.marked l)) (hu : u = { s with eflags := u.eflags, mxcsr := u.mxcsr }) :
    s.run rows o body = .next { u.marked l with pc := s.npc } ∧ EflagsMxcsrOnly (s.marked l) { u.marked l with pc := s.npc } := by
  have h1 : (u.marked l).event = none := by rw [hu]; exact h.1
  have h2 : (u.marked l).npc = s.npc := by rw [hu]; rfl
  refine ⟨run_at h hb h1 h2, ?_, ?_⟩
  · intro a; rw [hu]; rfl
  · rw [hu]; rfl

theorem State.storeBytes_eq (s : State) (nt : Bool) (v : ZWord) (ps : List (Nat × Nat)) :
    s.storeBytes nt v ps =
      { s with mem := (s.storeBytes nt v ps).mem, durability := (s.storeBytes nt v ps).durability } := by
  induction ps generalizing s with
  | nil => rfl
  | cons p ps ih => simp only [storeBytes]; rw [ih]; rfl

/-- A body that stores bytes completes; the bytes are stored and nothing else has changed. -/
theorem run_store {s : State} {rows : List Row} {o : Operands} {r : Row} {body : Row → Except Abort State} {nt : Bool}
    {v : ZWord} {ps : List (Nat × Nat)} (h : s.selects rows o r) (hb : body r = .ok (s.storeBytes nt v ps)) :
    ∃ t, s.run rows o body = .next t ∧ Stored s t nt v ps ∧ MemOnly s t := by
  have he : (s.storeBytes nt v ps).event = none := by simp [h.1]
  refine ⟨_, State.run_ok h hb he, ⟨?_, ?_, ?_⟩, ?_⟩
  · intro hw hn p hp; exact s.storeBytes_get nt v ps hw hn p hp
  · intro a ha; exact s.storeBytes_get_ne nt v ps a ha
  · exact s.storeBytes_ledger nt v ps
  · unfold MemOnly; rw [State.storeBytes_npc]; conv => lhs; rw [State.storeBytes_eq]

/-! ### Vector results -/

theorem State.putVec_eq (s : State) (sp : Space) (d : Fin 32) (vl : Nat) (v : ZWord) :
    s.putVec sp d vl v = { s with zmm := (s.putVec sp d vl v).zmm } := by cases sp <;> rfl

theorem State.putVec_eq_mxcsr (s : State) (x : BitVec 32) (sp : Space) (d : Fin 32) (vl : Nat) (v : ZWord) :
    ({ s with mxcsr := x }).putVec sp d vl v =
      { s with
        zmm := (({ s with mxcsr := x }).putVec sp d vl v).zmm
        mxcsr := (({ s with mxcsr := x }).putVec sp d vl v).mxcsr } := by cases sp <;> rfl

/-- A masked write of `n` elements. -/
theorem State.putElemsAt_written (s : State) (r : Row) (o : Operands) (d : Fin 32) (w n : Nat) (f : Nat → BitVec w)
    (hw : 0 < w) (hn : w * n ≤ r.vl o) : VecWritten s (s.putElemsAt r o d w n f) o d (r.vl o) w n f := by
  have hv := r.vl_le o
  have hg : ∀ i < 512, ((s.putElemsAt r o d w n f).getZ d).getLsbD i =
      if i < r.vl o then (s.merged o w n (s.getZ d) f).getLsbD i
      else decide (o.space = .legacy) && (s.getZ d).getLsbD i :=
    fun i hi => getLsbD_putVec s o.space d (r.vl o) _ i hi
  refine ⟨?_, ?_, ?_⟩
  · intro j hj
    have hjn : w * j + w ≤ w * n := by rw [← Nat.mul_succ]; exact Nat.mul_le_mul_left w hj
    have hm : elem w j (s.merged o w n (s.getZ d) f) =
        mergeElem (s.writemask o) o.z j (f j) (elem w j (s.getZ d)) :=
      elem_pack w _ n j hj (Nat.le_trans hn hv)
    have he : elem w j ((s.putElemsAt r o d w n f).getZ d) = elem w j (s.merged o w n (s.getZ d) f) := by
      apply BitVec.eq_of_getLsbD_eq
      intro i hi
      rw [getLsbD_elem, getLsbD_elem, hg _ (by omega), if_pos (by omega)]
    rw [he, hm]; rfl
  · intro i hi hwn
    rw [hg i hi]
    have hp : (s.merged o w n (s.getZ d) f).getLsbD i = false := by
      rw [State.merged, getLsbD_pack w hw]; simp [Nat.not_lt.mpr hwn]
    by_cases h : i < r.vl o
    · rw [if_pos h, hp]; simp [Nat.not_le.mpr h]
    · rw [if_neg h]; simp [Nat.le_of_not_lt h]
  · intro x hx; exact getZ_putVec_ne s o.space d x _ _ hx

theorem State.putElemsAt_eq (s : State) (r : Row) (o : Operands) (d : Fin 32) (w n : Nat) (f : Nat → BitVec w) :
    s.putElemsAt r o d w n f = { s with zmm := (s.putElemsAt r o d w n f).zmm } := State.putVec_eq _ _ _ _ _

/-- A masked write of element 0 beside the bits of `upper`. -/
theorem putVec_scalar_written (s : State) (o : Operands) (d : Fin 32) (w : Nat) (upper : ZWord) (x : BitVec w)
    (hw : w ≤ 128) :
    ScalarWritten s (s.putVec o.space d 128
      (setElem w 0 (mergeElem (s.writemask o) o.z 0 x (elem w 0 (s.getZ d))) upper)) o d w upper x := by
  have hg := fun i hi => getLsbD_putVec s o.space d 128
    (setElem w 0 (mergeElem (s.writemask o) o.z 0 x (elem w 0 (s.getZ d))) upper) i hi
  refine ⟨?_, ?_, ?_, ?_⟩
  · apply BitVec.eq_of_getLsbD_eq
    intro i hi
    rw [getLsbD_elem, hg _ (by omega), if_pos (by omega), getLsbD_setElem _ _ _ _ _ (by omega),
      if_pos (by omega)]
    have h0 : w * 0 + i - w * 0 = i := by omega
    simp only [hi, decide_true, Bool.true_and, h0, mergeElem]
  · intro i hi hwi
    rw [hg i (by omega), if_pos hi, getLsbD_setElem _ _ _ _ _ (by omega), if_neg (by omega)]
  · intro i hi h128
    rw [hg i hi, if_neg (by omega)]
  · intro y hy; exact getZ_putVec_ne s o.space d y _ _ hy

theorem State.putScalar_written (s : State) (o : Operands) (w : Nat) (upper : ZWord) (x : BitVec w) (hw : w ≤ 128) :
    ScalarWritten s (s.putScalar o w upper x) o o.reg w upper x := putVec_scalar_written s o o.reg w upper x hw

theorem putVec_xmm_written (s : State) (o : Operands) (d : Fin 32) (v : ZWord) :
    XmmWritten s (s.putVec o.space d 128 v) o d v := by
  refine ⟨?_, ?_, ?_⟩
  · intro i hi; rw [getLsbD_putVec s o.space d 128 v i (by omega), if_pos hi]
  · intro i hi h; rw [getLsbD_putVec s o.space d 128 v i hi, if_neg (by omega)]
  · intro y hy; exact getZ_putVec_ne s o.space d y _ _ hy

/-- A masked write of `n` bits to an opmask register. -/
theorem State.putMask_written (s : State) (o : Operands) (n : Nat) (f : Nat → Bool) :
    MaskWritten s (s.putMask o n f) o o.reg n f := by
  refine ⟨?_, ?_⟩
  · intro i hi
    rw [State.putMask, State.getK_setK_same, getLsbD_packMask]
    simp [hi, Bool.and_assoc]
  · intro x hx; exact State.getK_setK_ne _ _ _ _ hx

/-! ### Alignment and fault suppression -/

/-- Cutting a linear address to 32 bits keeps it modulo a power of two that divides 2^32. -/
theorem State.linear_zero_mod (s : State) (g : SegReg) (ea : Word) {n : Nat} (hn : n ∣ 2 ^ 32) :
    (s.linear g ea 0).toNat % n = (s.segBase g + ea).toNat % n := by
  have hz : s.segBase g + ea + BitVec.ofNat 64 0 = s.segBase g + ea := by simp
  simp only [State.linear, hz]
  split
  · rfl
  · have : (s.segBase g + ea &&& 0xFFFFFFFF).toNat = (s.segBase g + ea).toNat % 2 ^ 32 := by
      rw [BitVec.toNat_and]; exact Nat.and_two_pow_sub_one_eq_mod _ 32
    rw [this, Nat.mod_mod_of_dvd _ hn]

theorem Row.vl_dvd (r : Row) (o : Operands) : r.vl o / 8 ∣ 2 ^ 32 := by
  unfold Row.vl
  repeat' split
  all_goals decide

/-- A misaligned operand that must be aligned is #GP(0), whatever bytes of it are accessed. -/
theorem State.checkMem_misaligned {s : State} {r : Row} {o : Operands} {m : MemOp} (h : ¬ s.alignedFor r o m)
    (acc : Access) (offs : List Nat) (ac : Nat) :
    s.checkMem acc m.seg (s.ea m) offs (r.alignArg (r.vl o / 8)) ac = .error { exc := .gp } := by
  simp only [State.alignedFor, Classical.not_imp] at h
  rw [State.checkMem, Row.alignArg, if_pos h.1, s.linear_zero_mod _ _ (r.vl_dvd o), if_pos h.2]

/-- An operand of which no byte is accessed passes the checks if it is aligned where it has to be. -/
theorem State.checkMem_none {s : State} {r : Row} {o : Operands} {m : MemOp} (h : s.alignedFor r o m) (acc : Access)
    {n : Nat} (hn : r.aligned = true → n = r.vl o / 8) (ac : Nat) :
    s.checkMem acc m.seg (s.ea m) [] (r.alignArg n) ac = .ok [] := by
  have ha : (s.linear m.seg (s.ea m) 0).toNat % r.alignArg n = 0 := by
    unfold Row.alignArg
    split
    · next hr => rw [hn hr, s.linear_zero_mod _ _ (r.vl_dvd o)]; exact h hr
    · exact Nat.mod_one _
  simp [State.checkMem, ha, State.translateAll]

theorem elemOffs_none {w n : Nat} {k : KWord} (h : ∀ j < n, k.getLsbD j = false) : elemOffs w n k = [] := by
  unfold elemOffs
  rw [List.filter_eq_nil_iff.2 (by intro j hj; simp [h j (List.mem_range.1 hj)])]
  rfl

theorem popCount_none {n : Nat} {k : KWord} (h : ∀ j < n, k.getLsbD j = false) : popCount n k = 0 := by
  induction n with
  | zero => rfl
  | succ n ih => simp [popCount, ih fun j hj => h j (Nat.lt_succ_of_lt hj), h n (Nat.lt_succ_self n)]

/-- A source whose operand is misaligned is #GP(0). -/
theorem State.src_misaligned {s : State} {r : Row} {o : Operands} {m : MemOp} {w n : Nat} (hm : o.rm = .mem m)
    (hb : r.broadcasts o = false) (hn : n * w / 8 = r.vl o / 8) (h : ¬ s.alignedFor r o m) :
    s.src r o w n = .error { exc := .gp } := by
  simp only [State.src, hm, hb, Bool.false_eq_true, if_false, State.readOperand, State.readMem, hn,
    State.checkMem_misaligned h]

/-- A source of which every element is masked off under fault suppression reads nothing and marks nothing. -/
theorem State.src_suppressed {s : State} {rows : List Row} {o : Operands} {r : Row} {m : MemOp} {w n k : Nat}
    (h : s.suppressed rows o r m n) (hk : k ≤ n) (ha : r.aligned = true → r.broadcasts o = false ∧ k * w / 8 = r.vl o / 8) :
    ∃ b, s.src r o w k = .ok (b, []) := by
  obtain ⟨-, hm, hs, hal, hz⟩ := h
  have hz' : ∀ j < k, (s.writemask o).getLsbD j = false := fun j hj => hz j (Nat.lt_of_lt_of_le hj hk)
  simp only [State.src, hm, State.accessMask, hs, if_true, popCount_none hz', elemOffs_none hz', State.readOperand,
    State.readMem]
  split
  · next hb =>
    rw [State.checkMem_none hal .read (fun h => by rw [(ha h).1] at hb; cases hb)]
    exact ⟨_, rfl⟩
  · rw [State.checkMem_none hal .read (fun h => (ha h).2)]
    exact ⟨_, rfl⟩

/-- A masked write of which no element is selected writes nothing that depends on the results. -/
theorem VecWritten.kept {s t : State} {o : Operands} {d : Fin 32} {vl w n : Nat} {f : Nat → BitVec w}
    (h : VecWritten s t o d vl w n f) (hz : ∀ j < n, (s.writemask o).getLsbD j = false) (g : Nat → BitVec w) :
    VecWritten s t o d vl w n g :=
  ⟨fun j hj => by rw [h.1 j hj, hz j hj]; simp, h.2⟩

/-- Results of which none is selected report no condition. -/
theorem State.fpFlags_none {s : State} {o : Operands} {w n : Nat} {f : Nat → FpRes w}
    (hz : ∀ j < n, (s.writemask o).getLsbD j = false) : s.fpFlags o n f = 0 := by
  unfold State.fpFlags
  induction n with
  | zero => rfl
  | succ n ih =>
    rw [orFlags, ih fun j hj => hz j (Nat.lt_succ_of_lt hj)]
    simp [State.active, hz n (Nat.lt_succ_self n)]

/-! ### Shapes of integer instructions -/

section
variable {s : State} {rows : List Row} {o : Operands} {r : Row} {w : Nat} {b : ZWord} {l : List Word}

theorem vec2_result {g : ZWord → ZWord → Nat → BitVec w} (hw : 0 < w) (h : s.selects rows o r)
    (hb : s.src r o w (r.count o w) = .ok (b, l)) :
    ∃ t, (s.run rows o fun r => s.vec2 r o w g) = .next t ∧
      VecWritten s t o o.reg (r.vl o) w (r.count o w) (g (s.src1 r o) b) ∧ ZmmOnly (s.marked l) t := by
  have hbody : s.vec2 r o w g = .ok ((s.putElemsAt r o o.reg w (r.count o w) (g (s.src1 r o) b)).marked l) := by
    exact loading_marked hb ((State.putVec_event ..).trans h.1)
  obtain ⟨h1, h2⟩ := run_zmm (body := fun r => s.vec2 r o w g) h hbody (State.putElemsAt_eq _ _ _ _ _ _ _)
  exact ⟨_, h1, State.putElemsAt_written s r o o.reg w _ _ hw (r.count_le o w), h2⟩

theorem vec3_result {g : ZWord → ZWord → ZWord → Nat → BitVec w} (hw : 0 < w) (h : s.selects rows o r)
    (hb : s.src r o w (r.count o w) = .ok (b, l)) :
    ∃ t, (s.run rows o fun r => s.vec3 r o w g) = .next t ∧
      VecWritten s t o o.reg (r.vl o) w (r.count o w) (g (s.getZ o.reg) (s.src1 r o) b) ∧ ZmmOnly (s.marked l) t := by
  have hbody : s.vec3 r o w g =
      .ok ((s.putElemsAt r o o.reg w (r.count o w) (g (s.getZ o.reg) (s.src1 r o) b)).marked l) := by
    exact loading_marked hb ((State.putVec_event ..).trans h.1)
  obtain ⟨h1, h2⟩ := run_zmm (body := fun r => s.vec3 r o w g) h hbody (State.putElemsAt_eq _ _ _ _ _ _ _)
  exact ⟨_, h1, State.putElemsAt_written s r o o.reg w _ _ hw (r.count_le o w), h2⟩

theorem widen_result {v : Nat} {f : BitVec v → BitVec w} (hw : 0 < w) (h : s.selects rows o r)
    (hb : s.src r o v (r.count o (max v w)) = .ok (b, l)) :
    ∃ t, (s.run rows o fun r => s.widen r o v w f) = .next t ∧
      VecWritten s t o o.reg (r.vl o) w (r.count o (max v w)) (fun j => f (elem v j b)) ∧ ZmmOnly (s.marked l) t := by
  have hbody : s.widen r o v w f =
      .ok ((s.putElemsAt r o o.reg w (r.count o (max v w)) fun j => f (elem v j b)).marked l) := by
    exact loading_marked (f := fun b => s.putElems r o w (r.count o (max v w)) fun j => f (elem v j b)) hb ((State.putVec_event ..).trans h.1)
  obtain ⟨h1, h2⟩ := run_zmm (body := fun r => s.widen r o v w f) h hbody (State.putElemsAt_eq _ _ _ _ _ _ _)
  exact ⟨_, h1, State.putElemsAt_written s r o o.reg w _ _ hw (r.count_max_le o v w), h2⟩

/-- A write to the r/m operand: to a register, or to memory. -/
theorem putRM_reg {d : Fin 32} {nt : Bool} {n : Nat} {f : Row → Nat → BitVec w} (hw : 0 < w)
    (hn : w * n ≤ r.vl o) (h : s.selects rows o r) (hr : o.rm = .reg d) {body : Row → Except Abort State}
    (hb : body r = s.putRM r o nt w n (f r)) :
    ∃ t, s.run rows o body = .next t ∧ VecWritten s t o d (r.vl o) w n (f r) ∧ ZmmOnly s t := by
  have hbody : body r = .ok ((s.putElemsAt r o d w n (f r)).marked []) := by rw [hb]; simp [State.putRM, hr]
  obtain ⟨h1, h2⟩ := run_zmm (l := []) h hbody (State.putElemsAt_eq _ _ _ _ _ _ _)
  exact ⟨_, h1, State.putElemsAt_written s r o d w _ _ hw hn, h2⟩

theorem putRM_mem {m : MemOp} {nt : Bool} {n : Nat} {f : Row → Nat → BitVec w} {ps : List (Nat × Nat)}
    (h : s.selects rows o r) (hr : o.rm = .mem m) (hp : s.storeTargets r o m w n = .ok ps)
    {body : Row → Except Abort State} (hb : body r = s.putRM r o nt w n (f r)) :
    ∃ t, s.run rows o body = .next t ∧
      Stored s t nt (pack w n (f r)) (ps.filter fun p => (s.writemask o).getLsbD (p.1 / (w / 8))) ∧ MemOnly s t := by
  have hbody : body r = .ok (s.storeBytes nt (pack w n (f r))
      (ps.filter fun p => (s.writemask o).getLsbD (p.1 / (w / 8)))) := by
    rw [hb]
    simp only [State.putRM, hr, State.storeElems]
    unfold State.storeTargets at hp
    rw [hp]; rfl
  exact run_store h hbody

/-- A store of bytes whatever the writemask. -/
theorem writeMem_result {m : MemOp} {nt : Bool} {n : Nat} {v : ZWord} {ps : List (Nat × Nat)}
    (h : s.selects rows o r) (hp : s.plainTargets r m n = .ok ps)
    {body : Row → Except Abort State}
    (hb : body r = s.writeMem nt m.seg (s.ea m) (List.range n) 1 (r.acArg n) v) :
    ∃ t, s.run rows o body = .next t ∧ Stored s t nt v ps ∧ MemOnly s t := by
  have hbody : body r = .ok (s.storeBytes nt v ps) := by
    rw [hb]
    unfold State.plainTargets at hp
    simp only [State.writeMem, hp]
  exact run_store h hbody

/-! ### Shapes of floating-point instructions -/

theorem putFp_quiet {n : Nat} {f : Nat → FpRes w} (hw : 0 < w) (hn : w * n ≤ r.vl o) (h : s.selects rows o r)
    {body : Row → Except Abort State} (hb : body r = .ok ((s.putFp r o n f).noteRead l)) (hq : s.quiet r o (s.fpFlags o n f)) :
    ∃ t, s.run rows o body = .next t ∧ VecWritten s t o o.reg (r.vl o) w n (fun j => (f j).val) ∧
      t.mxcsr = s.mxcsrAfter r o (s.fpFlags o n f) ∧ ZmmMxcsrOnly (s.marked l) t := by
  rw [State.putFp, State.fpRespond_quiet hq,
    State.noteRead_running (by exact (State.putVec_event ..).trans h.1)] at hb
  obtain ⟨h1, h2⟩ := run_zmm_mxcsr h hb (State.putVec_eq_mxcsr _ _ _ _ _ _)
  refine ⟨_, h1, ?_, ?_, h2⟩
  · have := State.putElemsAt_written { s with mxcsr := s.mxcsrAfter r o (s.fpFlags o n f) } r o o.reg w n
      (fun j => (f j).val) hw hn
    exact this
  · exact State.putVec_mxcsr _ _ _ _ _

theorem putFp_alarmed {n : Nat} {f : Nat → FpRes w} (h : s.selects rows o r)
    {body : Row → Except Abort State} (hb : body r = .ok ((s.putFp r o n f).noteRead l)) (hq : s.alarmed r o (s.fpFlags o n f)) :
    s.run rows o body = .next (s.alarm (s.fpFlags o n f)) := by
  rw [State.putFp, State.fpRespond_alarmed hq, State.noteRead_trapped rfl] at hb
  exact State.run_trapped h hb rfl

theorem putFpScalar_quiet {upper : ZWord} {x : FpRes w} (hw : w ≤ 128) (h : s.selects rows o r)
    {body : Row → Except Abort State} (hb : body r = .ok ((s.putFpScalar r o upper x).noteRead l))
    (hq : s.quiet r o (s.fpFlags o 1 fun _ => x)) :
    ∃ t, s.run rows o body = .next t ∧ ScalarWritten s t o o.reg w upper x.val ∧
      t.mxcsr = s.mxcsrAfter r o (s.fpFlags o 1 fun _ => x) ∧ ZmmMxcsrOnly (s.marked l) t := by
  rw [State.putFpScalar, State.fpRespond_quiet hq,
    State.noteRead_running (by exact (State.putVec_event ..).trans h.1)] at hb
  obtain ⟨h1, h2⟩ := run_zmm_mxcsr h hb (State.putVec_eq_mxcsr _ _ _ _ _ _)
  refine ⟨_, h1, ?_, ?_, h2⟩
  · exact State.putScalar_written { s with mxcsr := s.mxcsrAfter r o (s.fpFlags o 1 fun _ => x) } o w upper x.val hw
  · exact State.putVec_mxcsr _ _ _ _ _

theorem putFpScalar_alarmed {upper : ZWord} {x : FpRes w} (h : s.selects rows o r)
    {body : Row → Except Abort State} (hb : body r = .ok ((s.putFpScalar r o upper x).noteRead l))
    (hq : s.alarmed r o (s.fpFlags o 1 fun _ => x)) :
    s.run rows o body = .next (s.alarm (s.fpFlags o 1 fun _ => x)) := by
  rw [State.putFpScalar, State.fpRespond_alarmed hq, State.noteRead_trapped rfl] at hb
  exact State.run_trapped h hb rfl

end

end Sys2Proof.Machine
end

