-- ==== Sys2Proof/Laws/Effects.lean ====
section
/-! SUPPORT. What the operand shapes can change, once each: a body that ends well has changed registers, flags and memory
alone and kept the invariant (`Calm`), or has raised the exception of its floating-point conditions; gather and scatter
may end in a fault with elements completed. -/

namespace Sys2Proof.Machine

/-- Some translations were marked as accessed, none of them where `q` holds (R108). -/
def Marks (q : Bool) (s u : State) : Prop := ∃ l : List Word, (q = true → l = []) ∧ u.regions = markAll l s.regions

theorem Marks.of_eq {q : Bool} {s u : State} (h : u.regions = s.regions) : Marks q s u := ⟨[], fun _ => rfl, h⟩

theorem Marks.trans {q : Bool} {s t u : State} (h : Marks q s t) (g : Marks q t u) : Marks q s u := by
  obtain ⟨l, hl, h⟩ := h
  obtain ⟨m, hm, g⟩ := g
  exact ⟨l ++ m, fun e => by rw [hl e, hm e]; rfl, by rw [g, h, markAll_append]⟩

/-- Only registers, flags, MXCSR, memory, its ledger and the accessed flags of translations differ, those flags not where `q`
holds, and the invariant holds on. -/
def Calm (q : Bool) (s u : State) : Prop :=
  u = { s with
    gpr := u.gpr, eflags := u.eflags, zmm := u.zmm, k := u.k, mxcsr := u.mxcsr, mem := u.mem, durability := u.durability,
    regions := u.regions } ∧
  Marks q s u ∧ (s.Inv → u.Inv)

/-- A calm change, or the exception of floating-point conditions with nothing written but MXCSR's flags. -/
def CalmOrAlarm (q : Bool) (s u : State) : Prop := Calm q s u ∨ ∃ f, u = s.alarm f

/-- What a body that ends well has done; `q` says that the r/m operand is a register. -/
structure Tame (q : Bool) (s : State) (x : Except Abort State) : Prop where
  effect : ∀ u, x = .ok u → CalmOrAlarm q s u

section
variable {q : Bool}

theorem Calm.refl (s : State) : Calm q s s := ⟨rfl, .of_eq rfl, id⟩

theorem Calm.trans {s t u : State} (h : Calm q s t) (g : Calm q t u) : Calm q s u :=
  ⟨g.1.trans (by rw [h.1]), h.2.1.trans g.2.1, fun i => g.2.2 (h.2.2 i)⟩

theorem Calm.event {s u : State} (h : Calm q s u) : u.event = s.event := by rw [h.1]

/-- A change of registers and EFLAGS alone is calm. -/
theorem Calm.of_regs {s u : State} (h : u = { s with gpr := u.gpr, eflags := u.eflags, zmm := u.zmm, k := u.k }) :
    Calm q s u := by
  have hm : u.mem = s.mem := by rw [h]
  have hd : u.durability = s.durability := by rw [h]
  have hx : u.mxcsr = s.mxcsr := by rw [h]
  have hg : u.regions = s.regions := by rw [h]
  have hl : u.legal = s.legal := by rw [h]; rfl
  refine ⟨?_, .of_eq hg, fun i => i.congr hm hd hx hl⟩
  rw [hm, hd, hx, hg]; exact h

/-- Marking addresses, none where `q` holds, is calm. -/
theorem calm_marked (s : State) (l : List Word) (h : q = true → l = []) : Calm q s (s.marked l) :=
  ⟨rfl, ⟨l, h, rfl⟩, fun i => i.marked l⟩

theorem calm_noteRead (s : State) (l : List Word) (h : q = true → l = []) : Calm q s (s.noteRead l) := by
  unfold State.noteRead
  split
  · exact calm_marked s l h
  · exact .refl s

theorem calm_putVec (s : State) (sp : Space) (n : Fin 32) (vl : Nat) (v : ZWord) : Calm q s (s.putVec sp n vl v) :=
  .of_regs (by cases sp <;> rfl)

theorem calm_putElemsAt (s : State) (r : Row) (o : Operands) (d : Fin 32) (w n : Nat) (f : Nat → BitVec w) :
    Calm q s (s.putElemsAt r o d w n f) := calm_putVec ..

theorem calm_putElems (s : State) (r : Row) (o : Operands) (w n : Nat) (f : Nat → BitVec w) :
    Calm q s (s.putElems r o w n f) := calm_putVec ..

theorem calm_putScalar (s : State) (o : Operands) (w : Nat) (v : ZWord) (x : BitVec w) : Calm q s (s.putScalar o w v x) :=
  calm_putVec ..

theorem calm_putXmm (s : State) (o : Operands) (v : ZWord) : Calm q s (s.putXmm o v) := calm_putVec ..

theorem calm_setK (s : State) (d : Fin 32) (v : KWord) : Calm q s (s.setK d v) := .of_regs rfl

theorem calm_putMask (s : State) (o : Operands) (n : Nat) (f : Nat → Bool) : Calm q s (s.putMask o n f) := calm_setK ..

theorem calm_maskDest (s : State) {w : Nat} (d : Fin 32) (x : BitVec w) : Calm q s (s.maskDest d x) := calm_setK ..

theorem calm_putGpr (s : State) {w : Nat} (d : Fin 32) (x : BitVec w) : Calm q s (s.putGpr d x) := .of_regs rfl

theorem calm_setCompareFlags (s : State) (z p c : Bool) : Calm q s (s.setCompareFlags z p c) := .of_regs rfl

theorem calm_setFpCompare (s : State) (c : Fmt.Cmp) : Calm q s (s.setFpCompare c) := by
  cases c <;> exact calm_setCompareFlags ..

theorem calm_setMxcsrFlags (s : State) (f : FpFlags) : Calm q s (s.setMxcsrFlags f) := ⟨rfl, .of_eq rfl, fun i => i.setMxcsrFlags f⟩

theorem calm_storeByte (s : State) (nt : Bool) (a : Nat) (v : Byte) : Calm q s (s.storeByte nt a v) :=
  ⟨rfl, .of_eq rfl, fun i => i.storeByte nt a v⟩

theorem calm_storeBytes (s : State) (nt : Bool) (v : ZWord) (ps : List (Nat × Nat)) : Calm q s (s.storeBytes nt v ps) := by
  induction ps generalizing s with
  | nil => exact .refl s
  | cons p ps ih => exact (calm_storeByte ..).trans (ih _)

theorem calm_clearMaskBit (s : State) (a : Fin 8) (j : Nat) : Calm q s (s.clearMaskBit a j) := .of_regs rfl

theorem calm_setMask (s : State) (a : Fin 8) (v : KWord) : Calm q s (s.setMask a v) := .of_regs rfl

theorem calm_setZ (s : State) (d : Fin 32) (v : ZWord) : Calm q s (s.setZ d v) := .of_regs rfl

theorem calm_writeBackLine (s : State) (l n : Nat) : Calm q s (s.writeBackLine l n) := ⟨rfl, .of_eq rfl, fun i => i.writeBackLine l n⟩

theorem calm_commitStores (s : State) : Calm q s s.commitStores := ⟨rfl, .of_eq rfl, fun i => i.commitStores⟩

theorem calm_flushLine (s : State) (a : Nat) : Calm q s (s.flushLine a) := calm_writeBackLine ..

/-! ### Bodies -/

@[simp] theorem tame_error (s : State) (a : Abort) : Tame q s (.error a) := ⟨by intro u h; cases h⟩

theorem tame_ok {s u : State} (h : CalmOrAlarm q s u) : Tame q s (.ok u) :=
  ⟨by intro v e; cases e; exact h⟩

theorem tame_calm {s u : State} (h : Calm q s u) : Tame q s (.ok u) := tame_ok (.inl h)

@[simp] theorem tame_same (s : State) : Tame q s (.ok s) := tame_calm (.refl s)

theorem tame_map {α : Type} {s : State} {x : Except Abort α} {f : α → State} (h : ∀ a, CalmOrAlarm q s (f a)) :
    Tame q s (x.map f) := by
  cases x with
  | error a => exact tame_error ..
  | ok a => exact tame_ok (h a)

theorem tame_map_calm {α : Type} {s : State} {x : Except Abort α} {f : α → State} (h : ∀ a, Calm q s (f a)) :
    Tame q s (x.map f) := tame_map fun a => .inl (h a)

/-- A load answers no address where `q` holds. -/
structure Sourced {α : Type} (q : Bool) (x : Except Abort (α × List Word)) : Prop where
  none : ∀ v, x = .ok v → q = true → v.2 = []

/-- Any load is sourced where `q` does not hold. -/
@[simp] theorem sourced_false {α : Type} (x : Except Abort (α × List Word)) : Sourced false x :=
  ⟨fun _ _ h => by cases h⟩

theorem tame_loading {α : Type} {s : State} {x : Except Abort (α × List Word)} {f : α → State}
    (h : ∀ a, CalmOrAlarm q s (f a)) (hx : Sourced q x) : Tame q s (loading x f) := by
  refine ⟨fun u hu => ?_⟩
  obtain ⟨b, l, hb, rfl⟩ := State.loading_cases hu
  rcases h b with hc | ⟨g, hg⟩
  · exact .inl (hc.trans (calm_noteRead _ l (hx.none _ hb)))
  · exact .inr ⟨g, by rw [hg]; rfl⟩

theorem tame_loading_calm {α : Type} {s : State} {x : Except Abort (α × List Word)} {f : α → State}
    (h : ∀ a, Calm q s (f a)) (hx : Sourced q x) : Tame q s (loading x f) :=
  tame_loading (fun a => .inl (h a)) hx

/-- The response to conditions, when the result's commit is calm. -/
theorem calm_fpRespond {s : State} (sae : Bool) (f : FpFlags) {commit : State → State} (h : ∀ t, Calm q t (commit t)) :
    CalmOrAlarm q s (s.fpRespond sae f commit) := by
  unfold State.fpRespond
  split
  · exact .inl (h s)
  · split
    · refine .inr ⟨f, ?_⟩
      simp only [State.alarm, State.raise, State.setMxcsrFlags]
      cases s.cr4.getLsbD 10 <;> rfl
    · exact .inl ((calm_setMxcsrFlags s f).trans (h _))

theorem tame_writeMem (s : State) (nt : Bool) (g : SegReg) (ea : Word) (offs : List Nat) (al ac : Nat) (v : ZWord) :
    Tame q s (s.writeMem nt g ea offs al ac v) := by
  unfold State.writeMem
  split
  · exact tame_error ..
  · exact tame_calm (calm_storeBytes ..)

theorem tame_storeElems (s : State) (r : Row) (o : Operands) (m : MemOp) (nt : Bool) (w n : Nat) (v : ZWord) :
    Tame q s (s.storeElems r o m nt w n v) := tame_map_calm fun _ => calm_storeBytes ..

theorem tame_putRM (s : State) (r : Row) (o : Operands) (nt : Bool) (w n : Nat) (f : Nat → BitVec w) :
    Tame q s (s.putRM r o nt w n f) := by
  unfold State.putRM
  split
  · exact tame_calm (calm_putElemsAt ..)
  · exact tame_storeElems ..

theorem coa_putFp {w : Nat} (s : State) (r : Row) (o : Operands) (n : Nat) (f : Nat → FpRes w) :
    CalmOrAlarm q s (s.putFp r o n f) := calm_fpRespond _ _ fun _ => calm_putElems ..

theorem coa_putFpScalar {w : Nat} (s : State) (r : Row) (o : Operands) (v : ZWord) (x : FpRes w) :
    CalmOrAlarm q s (s.putFpScalar r o v x) := calm_fpRespond _ _ fun _ => calm_putScalar ..

end

section shapes
variable (s : State) (r : Row) (o : Operands)

@[simp] theorem sourced_src (w n : Nat) : Sourced o.isReg (s.src r o w n) := by
  refine ⟨fun v hv hr => ?_⟩
  unfold State.src at hv
  unfold Operands.isReg at hr
  split at hv
  · cases hv; rfl
  · next h => simp [h] at hr

theorem tame_src {w n : Nat} {f : ZWord → State} (h : ∀ a, CalmOrAlarm o.isReg s (f a)) :
    Tame o.isReg s (loading (s.src r o w n) f) := tame_loading h (sourced_src ..)

theorem tame_src_calm {w n : Nat} {f : ZWord → State} (h : ∀ a, Calm o.isReg s (f a)) :
    Tame o.isReg s (loading (s.src r o w n) f) := tame_loading_calm h (sourced_src ..)

@[simp] theorem sourced_srcGpr (n : Nat) : Sourced o.isReg (s.srcGpr r o n) := by
  refine ⟨fun v hv hr => ?_⟩
  unfold State.srcGpr at hv
  unfold Operands.isReg at hr
  split at hv
  · cases hv; rfl
  · next h => simp [h] at hr

@[simp] theorem sourced_tupleSource (w n : Nat) : Sourced o.isReg (s.tupleSource r o w n) := by
  refine ⟨fun v hv hr => ?_⟩
  unfold State.tupleSource at hv
  unfold Operands.isReg at hr
  split at hv
  · cases hv; rfl
  · next h => simp [h] at hr

@[simp] theorem sourced_expandSource (w : Nat) : Sourced o.isReg (s.expandSource r o w) := by
  refine ⟨fun v hv hr => ?_⟩
  unfold State.expandSource at hv
  unfold Operands.isReg at hr
  split at hv
  · cases hv; rfl
  · next h => simp [h] at hr

@[simp] theorem tame_vec2 (w : Nat) (g : ZWord → ZWord → Nat → BitVec w) : Tame o.isReg s (s.vec2 r o w g) :=
  tame_src_calm _ _ _ fun _ => calm_putElems ..
@[simp] theorem tame_map2 (w : Nat) (f : BitVec w → BitVec w → BitVec w) : Tame o.isReg s (s.map2 r o w f) := tame_vec2 ..
@[simp] theorem tame_vec1 (w : Nat) (g : ZWord → Nat → BitVec w) : Tame o.isReg s (s.vec1 r o w g) := tame_vec2 ..
@[simp] theorem tame_map1 (w : Nat) (f : BitVec w → BitVec w) : Tame o.isReg s (s.map1 r o w f) := tame_vec1 ..
@[simp] theorem tame_vec3 (w : Nat) (g : ZWord → ZWord → ZWord → Nat → BitVec w) : Tame o.isReg s (s.vec3 r o w g) :=
  tame_src_calm _ _ _ fun _ => calm_putElems ..
@[simp] theorem tame_widen (v w : Nat) (f : BitVec v → BitVec w) : Tame o.isReg s (s.widen r o v w f) := by
  dsimp only [State.widen]
  exact tame_src_calm _ _ _ fun _ => calm_putElems ..
@[simp] theorem tame_compareVec (w : Nat) (p : BitVec w → BitVec w → Bool) : Tame o.isReg s (s.compareVec r o w p) := by
  dsimp only [State.compareVec]
  refine tame_src_calm _ _ _ fun b => ?_
  split
  · exact calm_putMask ..
  · exact calm_putElems ..
@[simp] theorem tame_fp2 {w : Nat} (op : FpEnv → BitVec w → BitVec w → FpRes w) : Tame o.isReg s (s.fp2 r o op) :=
  tame_src _ _ _ fun _ => coa_putFp ..
@[simp] theorem tame_fp1 {w : Nat} (op : FpEnv → BitVec w → FpRes w) : Tame o.isReg s (s.fp1 r o op) := tame_fp2 ..
@[simp] theorem tame_fp2s {w : Nat} (op : FpEnv → BitVec w → BitVec w → FpRes w) : Tame o.isReg s (s.fp2s r o op) :=
  tame_src _ _ _ fun _ => coa_putFpScalar ..
@[simp] theorem tame_fp1s {w : Nat} (op : FpEnv → BitVec w → FpRes w) : Tame o.isReg s (s.fp1s r o op) := tame_fp2s ..
@[simp] theorem tame_fpWiden {v w : Nat} (op : FpEnv → BitVec v → FpRes w) : Tame o.isReg s (s.fpWiden r o op) := by
  dsimp only [State.fpWiden]
  exact tame_src _ _ _ fun _ => coa_putFp ..
@[simp] theorem tame_fpScalarFrom {v w : Nat} (op : FpEnv → BitVec v → FpRes w) : Tame o.isReg s (s.fpScalarFrom r o op) :=
  tame_src _ _ _ fun _ => coa_putFpScalar ..
@[simp] theorem tame_fmaVec {w : Nat} (F : Fmt w) (form : FmaForm) (p : Bool) (a : Nat → Bool) :
    Tame o.isReg s (s.fmaVec r o F form p a) := tame_src _ _ _ fun _ => coa_putFp ..
@[simp] theorem tame_fmaScalar {w : Nat} (F : Fmt w) (form : FmaForm) (p a : Bool) :
    Tame o.isReg s (s.fmaScalar r o F form p a) := tame_src _ _ _ fun _ => coa_putFpScalar ..
@[simp] theorem tame_blend (w : Nat) : Tame o.isReg s (s.blend r o w) := by
  dsimp only [State.blend]
  exact tame_src_calm _ _ _ fun _ => calm_putVec ..
@[simp] theorem tame_broadcastTuple (w t : Nat) : Tame o.isReg s (s.broadcastTuple r o w t) :=
  tame_loading_calm (fun _ => calm_putElems ..) (sourced_tupleSource ..)
@[simp] theorem tame_compress (w : Nat) : Tame o.isReg s (s.compress r o w) := by
  unfold State.compress
  dsimp only
  split
  · exact tame_calm (calm_putVec ..)
  · exact tame_writeMem ..
@[simp] theorem tame_expand (w : Nat) : Tame o.isReg s (s.expand r o w) :=
  tame_loading_calm (fun _ => calm_putElems ..) (sourced_expandSource ..)
@[simp] theorem tame_extractBlock (w b : Nat) : Tame o.isReg s (s.extractBlock r o w b) := tame_putRM ..
@[simp] theorem tame_insertBlock (w b : Nat) : Tame o.isReg s (s.insertBlock r o w b) := tame_src_calm _ _ _ fun _ => calm_putElems ..
@[simp] theorem tame_moveFull (nt : Bool) (w : Nat) : Tame o.isReg s (s.moveFull r o nt w) := by
  unfold State.moveFull
  split
  · exact tame_putRM ..
  · exact tame_map1 ..
@[simp] theorem tame_moveLow (w : Nat) : Tame o.isReg s (s.moveLow r o w) := by
  unfold State.moveLow
  dsimp only
  split
  · split
    · refine tame_calm ?_
      split
      · exact calm_putGpr ..
      · exact calm_putVec ..
    · exact tame_writeMem ..
  · split
    · exact tame_loading_calm (fun _ => calm_putXmm ..) (sourced_srcGpr ..)
    · exact tame_src_calm _ _ _ fun _ => calm_putXmm ..
@[simp] theorem tame_moveHalf (high : Bool) : Tame o.isReg s (s.moveHalf r o high) := by
  unfold State.moveHalf
  split
  · split
    · exact tame_error ..
    · exact tame_writeMem ..
  · exact tame_src_calm _ _ _ fun _ => calm_putXmm ..
@[simp] theorem tame_moveScalar (w : Nat) : Tame o.isReg s (s.moveScalar r o w) := by
  unfold State.moveScalar
  dsimp only
  split
  · split
    · exact tame_storeElems ..
    · exact tame_src_calm _ _ _ fun _ => calm_putScalar ..
  · split
    · exact tame_calm (calm_putVec ..)
    · exact tame_calm (calm_putScalar ..)
@[simp] theorem tame_moveDup : Tame o.isReg s (s.moveDup r o) := by
  dsimp only [State.moveDup]
  exact tame_src_calm _ _ _ fun _ => calm_putElems ..
@[simp] theorem tame_shiftAll (w : Nat) (f : BitVec w → Nat → BitVec w) : Tame o.isReg s (s.shiftAll r o w f) := by
  unfold State.shiftAll
  dsimp only
  split
  · exact tame_src_calm _ _ _ fun _ => calm_putElems ..
  · split
    · exact tame_calm (calm_putElemsAt ..)
    · exact tame_src_calm _ _ _ fun _ => calm_putElemsAt ..
@[simp] theorem tame_shiftLanes (f : ZWord → Nat → BitVec 8) : Tame o.isReg s (s.shiftLanes r o f) := by
  unfold State.shiftLanes
  dsimp only
  split
  · exact tame_calm (calm_putElemsAt ..)
  · exact tame_src_calm _ _ _ fun _ => calm_putElemsAt ..
@[simp] theorem tame_shiftEach (w : Nat) (f : BitVec w → Nat → BitVec w) : Tame o.isReg s (s.shiftEach r o w f) := tame_map2 ..
@[simp] theorem tame_downConvert (b n : Nat) (f : BitVec b → BitVec n) : Tame o.isReg s (s.downConvert r o b n f) := tame_putRM ..
@[simp] theorem tame_extractElem (w : Nat) : Tame o.isReg s (s.extractElem r o w) := by
  unfold State.extractElem
  dsimp only
  split
  · refine tame_calm ?_
    split <;> exact calm_putGpr ..
  · exact tame_writeMem ..
@[simp] theorem tame_insertElem (w : Nat) : Tame o.isReg s (s.insertElem r o w) :=
  tame_loading_calm (fun _ => calm_putXmm ..) (sourced_srcGpr ..)
@[simp] theorem tame_insertPs : Tame o.isReg s (s.insertPs r o) := tame_src_calm _ _ _ fun _ => calm_putXmm ..
@[simp] theorem tame_conflicts (w : Nat) : Tame o.isReg s (s.conflicts r o w) := by
  dsimp only [State.conflicts]
  exact tame_src_calm _ _ _ fun _ => calm_putElems ..
@[simp] theorem tame_fromMask (w : Nat) (f : KWord → Nat → BitVec w) : Tame o.isReg s (s.fromMask r o w f) := by
  unfold State.fromMask
  split
  · exact tame_calm (calm_putElems ..)
  · exact tame_error ..
@[simp] theorem tame_toMask (w : Nat) : Tame o.isReg s (s.toMask r o w) := by
  dsimp only [State.toMask]
  exact tame_src_calm _ _ _ fun _ => calm_putMask ..
@[simp] theorem tame_fpCompareVec {w : Nat} (F : Fmt w) : Tame o.isReg s (s.fpCompareVec r o F) := by
  dsimp only [State.fpCompareVec]
  refine tame_src _ _ _ fun b => calm_fpRespond _ _ fun t => ?_
  split
  · exact calm_putMask ..
  · exact calm_putElems ..
@[simp] theorem tame_fpCompareScalar {w : Nat} (F : Fmt w) : Tame o.isReg s (s.fpCompareScalar r o F) := by
  dsimp only [State.fpCompareScalar]
  refine tame_src _ _ _ fun b => calm_fpRespond _ _ fun t => ?_
  split
  · exact calm_putMask ..
  · exact calm_putScalar ..
@[simp] theorem tame_fpCompareFlags {w : Nat} (F : Fmt w) (q : Bool) : Tame o.isReg s (s.fpCompareFlags r o F q) := by
  dsimp only [State.fpCompareFlags]
  exact tame_src _ _ _ fun _ => calm_fpRespond _ _ fun _ => calm_setFpCompare ..
@[simp] theorem tame_cvtToGpr {w : Nat} (F : Fmt w) (a b : Bool) : Tame o.isReg s (s.cvtToGpr r o F a b) := by
  dsimp only [State.cvtToGpr]
  exact tame_src _ _ _ fun _ => calm_fpRespond _ _ fun _ => calm_putGpr ..
@[simp] theorem tame_cvtFromGpr {w : Nat} (F : Fmt w) (b : Bool) : Tame o.isReg s (s.cvtFromGpr r o F b) :=
  tame_loading (fun _ => coa_putFpScalar ..) (sourced_srcGpr ..)
@[simp] theorem tame_cvtToHalf : Tame o.isReg s (s.cvtToHalf r o) := by
  unfold State.cvtToHalf
  dsimp only
  split
  · exact tame_ok (calm_fpRespond _ _ fun _ => calm_putElemsAt ..)
  · exact tame_map fun _ => calm_fpRespond _ _ fun _ => calm_storeBytes ..
@[simp] theorem tame_fpClass {w : Nat} (F : Fmt w) (n : Nat) : Tame o.isReg s (s.fpClass r o F n) := by
  dsimp only [State.fpClass]
  exact tame_src_calm _ _ _ fun _ => calm_putMask ..
@[simp] theorem tame_fixupVec {w : Nat} (F : Fmt w) : Tame o.isReg s (s.fixupVec r o F) := by
  dsimp only [State.fixupVec]
  refine tame_src_calm _ _ _ fun b => ?_
  split
  · exact calm_putElems ..
  · exact (calm_setMxcsrFlags ..).trans (calm_putElems ..)
@[simp] theorem tame_fixupScalar {w : Nat} (F : Fmt w) : Tame o.isReg s (s.fixupScalar r o F) := by
  dsimp only [State.fixupScalar]
  refine tame_src_calm _ _ _ fun b => ?_
  split
  · exact calm_putScalar ..
  · exact (calm_setMxcsrFlags ..).trans (calm_putScalar ..)
@[simp] theorem tame_approxVec {w : Nat} (f : FpEnv → BitVec w → BitVec w) : Tame o.isReg s (s.approxVec r o f) := tame_map1 ..
@[simp] theorem tame_approxScalar {w : Nat} (f : FpEnv → BitVec w → BitVec w) : Tame o.isReg s (s.approxScalar r o f) :=
  tame_src_calm _ _ _ fun _ => calm_putScalar ..
@[simp] theorem tame_sha (g : ZWord → ZWord → ZWord) : Tame o.isReg s (s.sha r o g) := tame_src_calm _ _ _ fun _ => calm_putVec ..
@[simp] theorem tame_mask2 (w : Nat) (f : BitVec w → BitVec w → BitVec w) : Tame o.isReg s (s.mask2 o w f) := by
  unfold State.mask2
  split
  · exact tame_calm (calm_maskDest ..)
  · exact tame_error ..
@[simp] theorem tame_mask1 (w : Nat) (f : BitVec w → BitVec w) : Tame o.isReg s (s.mask1 o w f) := by
  unfold State.mask1
  split
  · exact tame_calm (calm_maskDest ..)
  · exact tame_error ..
@[simp] theorem tame_maskUnpack (h : Nat) : Tame o.isReg s (s.maskUnpack o h) := by
  unfold State.maskUnpack
  split
  · exact tame_calm (calm_setK ..)
  · exact tame_error ..
@[simp] theorem tame_maskOrTest (w : Nat) : Tame o.isReg s (s.maskOrTest o w) := by
  unfold State.maskOrTest
  split
  · exact tame_calm (calm_setCompareFlags ..)
  · exact tame_error ..
@[simp] theorem tame_maskTest (w : Nat) : Tame o.isReg s (s.maskTest o w) := by
  unfold State.maskTest
  split
  · exact tame_calm (calm_setCompareFlags ..)
  · exact tame_error ..
@[simp] theorem tame_maskMove (w : Nat) : Tame o.isReg s (s.maskMove r o w) := by
  unfold State.maskMove
  repeat' split
  all_goals first
    | exact tame_error ..
    | exact tame_writeMem ..
    | exact tame_calm (calm_putGpr ..)
    | exact tame_calm (calm_maskDest ..)
    | exact tame_loading_calm (fun _ => calm_maskDest ..) (sourced_srcGpr ..)
    | exact tame_loading_calm (fun _ => calm_maskDest ..) (by simp [Operands.isReg, *])

/-! ### Gather and scatter -/

/-- A gather or scatter has come from `s` to `t` by calm changes that wrote no general register and no flag. -/
def Partly (q : Bool) (s t : State) : Prop := Calm q s t ∧ t.gpr = s.gpr ∧ t.eflags = s.eflags

theorem partly_gatherLoop {q : Bool} {s0 : State} {k : KWord} {act : State → Nat → Except Abort State} (n : Nat)
    (h : ∀ t j u, act t j = .ok u → Partly q t u) : Partly q s0 (gatherLoop s0 k act n).state := by
  unfold gatherLoop
  have : ∀ (js : List Nat) (p : Progress), Partly q s0 p.state → Partly q s0 (js.foldl (gatherStep s0 k act) p).state := by
    intro js
    induction js with
    | nil => exact fun p hp => hp
    | cons j js ih =>
      intro p hp
      refine ih _ ?_
      unfold gatherStep
      split
      · exact hp
      · split
        · exact hp
        · split
          · next t ht =>
            have := h _ _ _ ht
            exact ⟨hp.1.trans this.1, this.2.1.trans hp.2.1, this.2.2.trans hp.2.2⟩
          · exact hp
  exact this _ _ ⟨.refl s0, rfl, rfl⟩

/-- A gather that ends well is calm, or has a fault pending with some elements completed. -/
theorem gather_effect (d i : Nat) (u : State) (h : s.gather r o d i = .ok u) :
    Calm o.isReg s u ∨ ∃ t a, Partly o.isReg s t ∧ u = t.raise a := by
  unfold State.gather at h
  split at h
  · cases h
  · next m hm =>
    dsimp only at h
    have hq : o.isReg = false := by simp [Operands.isReg, hm]
    have hp := partly_gatherLoop (q := o.isReg) (s0 := s) (k := s.k.get o.aaa) (r.vl o / max d i) (act := fun (t : State) j =>
      loading (t.readMem m.seg (s.vsibAddr m i j) (List.range (d / 8)) 1 0) fun v =>
        (t.setZ o.reg (setElem d j (elem d 0 v) (t.getZ o.reg))).clearMaskBit o.aaa j) (by
        intro t j u hu
        obtain ⟨v, l, -, rfl⟩ := State.loading_cases hu
        refine ⟨(Calm.of_regs rfl).trans (calm_noteRead _ l (by simp [hq])), ?_, ?_⟩ <;> simp)
    split at h
    · cases h
      exact .inl (hp.1.trans (.of_regs rfl))
    · cases h
      refine .inr ⟨_, _, ?_, rfl⟩
      split
      · exact ⟨hp.1.trans (.of_regs rfl), hp.2.1, hp.2.2⟩
      · exact hp

/-- A scatter likewise. -/
theorem scatter_effect (d i : Nat) (u : State) (h : s.scatter r o d i = .ok u) :
    Calm o.isReg s u ∨ ∃ t a, Partly o.isReg s t ∧ u = t.raise a := by
  unfold State.scatter at h
  split at h
  · cases h
  · next m hm =>
    dsimp only at h
    have hq : o.isReg = false := by simp [Operands.isReg, hm]
    have hp := partly_gatherLoop (q := o.isReg) (s0 := s) (k := s.k.get o.aaa) (r.vl o / max d i) (act := fun (t : State) j =>
      (t.writeMem false m.seg (s.vsibAddr m i j) (List.range (d / 8)) 1 0
        ((elem d j (s.getZ o.reg)).setWidth 512)).map fun u => u.clearMaskBit o.aaa j) (by
        intro t j u hu
        unfold State.writeMem at hu
        split at hu
        · cases hu
        · cases hu
          refine ⟨(calm_storeBytes ..).trans (calm_clearMaskBit ..), ?_, ?_⟩ <;> simp)
    split at h
    · cases h
      exact .inl (hp.1.trans (.of_regs rfl))
    · cases h
      exact .inr ⟨_, _, hp, rfl⟩

end shapes
end Sys2Proof.Machine
end

