-- ==== Sys2Proof/Laws/Environment.lean ====
section
/-! SUPPORT. What the operations of system software in Machine/Environment.lean can do: the settings they make are legal,
and nothing else changes. -/

namespace Sys2Proof.Machine

/-- XSETBV either fails, or writes XCR0 alone, at CPL 0 with CR4.OSXSAVE set and a value XCR0 may hold (R30, R244). -/
theorem setXcr0_spec {s t : State} {v : Word} (h : s.setXcr0 v = .ok t) :
    s.cr4.getLsbD 18 = true ∧ s.cpl = 0 ∧ s.xcr0Ok v = true ∧ t = { s with xcr0 := v } := by
  unfold State.setXcr0 at h
  split at h
  · cases h
  · split at h
    · cases h
    · next h1 h2 =>
      simp only [Bool.or_eq_true, Bool.not_eq_true', not_or, bne_iff_ne, ne_eq, not_not, Bool.not_eq_false] at h1 h2
      cases h
      exact ⟨h1, h2.1, h2.2, rfl⟩

/-- A value XCR0 may hold has bit 0 set, and bits 7:5 all set together with bits 2:1 or all clear (R30, R31, R244). -/
theorem xcr0Ok_bits {s : State} {v : Word} (h : s.xcr0Ok v = true) :
    v.getLsbD 0 = true ∧ ((v &&& 0xE0) = 0 ∨ (v &&& 0xE6) = 0xE6) := by
  unfold State.xcr0Ok at h
  simp only [Bool.and_eq_true, Bool.or_eq_true, beq_iff_eq] at h
  exact ⟨h.1.1, h.2⟩

/-- Entering a mode changes the mode alone, to one the part has (R235). -/
theorem enterMode_spec {s t : State} {m : Mode} (h : s.enterMode m = some t) :
    t = { s with mode := m } ∧ t.modeExists = true := by
  unfold State.enterMode at h
  split at h
  · next hm => cases h; exact ⟨rfl, hm⟩
  · cases h

/-- WRMSR to IA32_XSS writes a value it may hold, and serializes (R99, R225). -/
theorem setXss_spec {s t : State} {v : Word} (h : s.setXss v = .ok t) :
    s.xssOk v = true ∧ t = { s.serialize with xss := v } := by
  unfold State.setXss at h
  split at h
  · next hv => cases h; exact ⟨hv, rfl⟩
  · cases h

/-- MOV to CR4 writes a value it may hold, and serializes (R99, R244). -/
theorem setCr4_spec {s t : State} {v : Word} (h : s.setCr4 v = .ok t) :
    s.cr4Ok v = true ∧ t = { s.serialize with cr4 := v } := by
  unfold State.setCr4 at h
  split at h
  · next hv => cases h; exact ⟨hv, rfl⟩
  · cases h

/-- What `legal` asks. -/
theorem legal_iff (s : State) : s.legal = true ↔
    s.modeExists = true ∧ s.cr4Ok s.cr4 = true ∧ s.xcr0Ok s.xcr0 = true ∧ s.xssOk s.xss = true := by
  simp [State.legal, Bool.and_eq_true, and_assoc]

theorem setXcr0_inv {s t : State} {v : Word} (h : s.setXcr0 v = .ok t) (i : s.Inv) : t.Inv := by
  obtain ⟨-, -, hv, rfl⟩ := setXcr0_spec h
  have l := (legal_iff s).mp i.2.2.2
  exact ⟨i.1, i.2.1, i.2.2.1, (legal_iff _).mpr ⟨l.1, l.2.1, hv, l.2.2.2⟩⟩

theorem setCr4_inv {s t : State} {v : Word} (h : s.setCr4 v = .ok t) (i : s.Inv) : t.Inv := by
  obtain ⟨hv, rfl⟩ := setCr4_spec h
  have j := i.serialize
  have l := (legal_iff s).mp i.2.2.2
  exact ⟨j.1, j.2.1, j.2.2.1, (legal_iff _).mpr ⟨l.1, hv, l.2.2⟩⟩

theorem setXss_inv {s t : State} {v : Word} (h : s.setXss v = .ok t) (i : s.Inv) : t.Inv := by
  obtain ⟨hv, rfl⟩ := setXss_spec h
  have j := i.serialize
  have l := (legal_iff s).mp i.2.2.2
  exact ⟨j.1, j.2.1, j.2.2.1, (legal_iff _).mpr ⟨l.1, l.2.1, l.2.2.1, hv⟩⟩

theorem setCr0_inv {s : State} {v : Word} (i : s.Inv) : (s.setCr0 v).Inv := i.serialize

theorem enablePcommit_inv {s : State} (i : s.Inv) : s.enablePcommit.Inv := i.serialize

theorem setMiscEnables_inv {s : State} {v : Word} (i : s.Inv) : (s.setMiscEnables v).Inv := i.serialize

theorem clflush_inv {s : State} (a : Nat) (i : s.Inv) : (s.clflush a).Inv := i.writeBackLine ..

/-- CLFLUSHOPT flushes the line as CLFLUSH does, on a part that has it (R101, R243). -/
theorem clflushopt_spec {s t : State} {a : Nat} (h : s.clflushopt a = .ok t) :
    s.hasFeature .clflushopt = true ∧ t = s.clflush a := by
  unfold State.clflushopt at h
  split at h
  · next hf => cases h; exact ⟨hf, rfl⟩
  · cases h

theorem clflushopt_inv {s t : State} {a : Nat} (h : s.clflushopt a = .ok t) (i : s.Inv) : t.Inv :=
  (clflushopt_spec h).2 ▸ clflush_inv a i

theorem enterMode_inv {s t : State} {m : Mode} (h : s.enterMode m = some t) (i : s.Inv) : t.Inv := by
  obtain ⟨rfl, hm⟩ := enterMode_spec h
  have l := (legal_iff s).mp i.2.2.2
  exact ⟨i.1, i.2.1, i.2.2.1, (legal_iff _).mpr ⟨hm, l.2⟩⟩

end Sys2Proof.Machine
end

