-- ==== Sys2Proof/Laws/ExecEffects.lean ====
section
/-! SUPPORT. What any instruction with fields can do: its body is tame, or it is a gather or a scatter. -/

namespace Sys2Proof.Machine

/-- A gather or scatter body: calm, or a fault taken with some elements completed. -/
def Stepwise (q : Bool) (s : State) (x : Except Abort State) : Prop :=
  ∀ u, x = .ok u → Calm q s u ∨ ∃ t a, Partly q s t ∧ u = t.raise a

/-- The names whose memory operand is a vector of addresses. -/
def stepwiseNames : List Mnemonic :=
  [.vpgatherdd, .vpgatherdq, .vpgatherqd, .vpgatherqq, .vgatherdps, .vgatherdpd, .vgatherqps, .vgatherqpd,
   .vpscatterdd, .vpscatterdq, .vpscatterqd, .vpscatterqq, .vscatterdps, .vscatterdpd, .vscatterqps, .vscatterqpd]

/-- CLWB moves stores of one cache line on and marks the translation of one address. -/
theorem clwb_effect (s : State) (o : Operands) :
    ∃ body, execClwb o s = s.run Rows.clwb o body ∧ ∀ r, Tame o.isReg s (body r) := by
  refine ⟨_, rfl, fun r => ?_⟩
  split
  · exact tame_error ..
  · next m hm =>
    refine tame_map_calm fun ps => Calm.trans ?_ (calm_marked _ _ (by simp [Operands.isReg, hm]))
    have : ∀ (ps : List (Nat × Nat)) (t : State), Calm o.isReg s t →
        Calm o.isReg s (ps.foldl (fun t p => t.flushLine p.2) t) := by
      intro ps
      induction ps with
      | nil => exact fun t h => h
      | cons p ps ih => exact fun t h => ih _ (h.trans (calm_flushLine ..))
    exact this ps s (.refl s)

set_option maxHeartbeats 4000000 in
/-- Every instruction with fields runs, after its checks, a body that is tame, or steps through its elements. -/
theorem run_effect (m : Mnemonic) (o : Operands) (s : State) (h1 : m ≠ .cpuid) (h2 : m ≠ .pcommit) :
    ∃ body, m.run o s = s.run m.rows o body ∧
      ((∀ r, Tame o.isReg s (body r)) ∨ (m ∈ stepwiseNames ∧ ∀ r, Stepwise o.isReg s (body r))) := by
  cases m
  case cpuid => exact absurd rfl h1
  case pcommit => exact absurd rfl h2
  case clwb => obtain ⟨b, hb, ht⟩ := clwb_effect s o; exact ⟨b, hb, .inl ht⟩
  all_goals first
    | exact ⟨_, rfl, .inl fun r => by simp⟩
    | exact ⟨_, rfl, .inr ⟨by decide, fun r u h => gather_effect _ _ _ _ _ _ h⟩⟩
    | exact ⟨_, rfl, .inr ⟨by decide, fun r u h => scatter_effect _ _ _ _ _ _ h⟩⟩
    | exact ⟨_, rfl, .inl fun r => by split <;> simp⟩

/-- What running an instruction with fields ends in: the effect of a calm body and the pc moved, an exception with nothing
else changed, the exception of floating-point conditions, or a gather or scatter cut short by a fault. -/
theorem run_ends {m : Mnemonic} {o : Operands} {s t : State} (h1 : m ≠ .cpuid) (h2 : m ≠ .pcommit) (he : s.event = none)
    (h : m.run o s = .next t) :
    (∃ u, Calm o.isReg s u ∧ t = { u with pc := u.npc }) ∨ (∃ a, t = s.raise a) ∨ (∃ f, t = s.alarm f) ∨
      m ∈ stepwiseNames ∧ ∃ u a, Partly o.isReg s u ∧ t = u.raise a := by
  obtain ⟨body, hb, hc⟩ := run_effect m o s h1 h2
  rw [hb] at h
  have done : ∀ u, Calm o.isReg s u → u.retire = { u with pc := u.npc } := by
    intro u hu
    simp only [State.retire, hu.event.trans he]
  rcases State.run_cases h with ⟨a, ha⟩ | ⟨r, u, -, hu, rfl⟩
  · exact .inr (.inl ⟨a, ha⟩)
  · rcases hc with hc | ⟨hm, hc⟩
    · rcases (hc r).effect u hu with hk | ⟨f, rfl⟩
      · exact .inl ⟨u, hk, done u hk⟩
      · exact .inr (.inr (.inl ⟨f, rfl⟩))
    · rcases hc r u hu with hk | ⟨v, a, hv, rfl⟩
      · exact .inl ⟨u, hk, done u hk⟩
      · exact .inr (.inr (.inr ⟨hm, v, a, hv, rfl⟩))

end Sys2Proof.Machine
end

