-- ==== Sys2Proof/Laws/Tables.lean ====
section
/-! SUPPORT. What `exec` is on the entries of the tables of Certificates/Slice0/Tables.lean: the checks on the entry's rows,
then the operand shape of its group on the entry's data; and the widths the tables hold. -/

namespace Sys2Proof.Claims

open Machine

theorem lanewise_exec : ∀ e ∈ lanewiseTable, ∀ o s, exec (e.make o) s = s.run e.rows o fun r => s.map2 r o e.w e.f := by
  unfold lanewiseTable
  simp only [List.forall_mem_append]
  refine ⟨⟨?_, ?_⟩, ?_⟩
  all_goals
    repeat' (refine List.forall_mem_cons.2 ⟨fun o s => rfl, ?_⟩)
    exact fun _ h => nomatch h

theorem lanewise_widths : ∀ e ∈ lanewiseTable, 0 < e.w := by
  unfold lanewiseTable
  simp only [List.forall_mem_append]
  refine ⟨⟨?_, ?_⟩, ?_⟩
  all_goals
    repeat' (refine List.forall_mem_cons.2 ⟨by decide, ?_⟩)
    exact fun _ h => nomatch h

theorem lanewiseShift_exec : ∀ e ∈ lanewiseShiftTable, ∀ o s, exec (e.make o) s = s.run e.rows o fun r => s.map2 r o e.w e.f := by
  unfold lanewiseShiftTable
  repeat' (refine List.forall_mem_cons.2 ⟨fun o s => rfl, ?_⟩)
  exact fun _ h => nomatch h

theorem lanewiseShift_widths : ∀ e ∈ lanewiseShiftTable, 0 < e.w := by
  unfold lanewiseShiftTable
  repeat' (refine List.forall_mem_cons.2 ⟨by decide, ?_⟩)
  exact fun _ h => nomatch h

theorem twoSource_exec : ∀ e ∈ twoSourceTable, ∀ o s, exec (e.make o) s = s.run e.rows o fun r => s.vec2 r o e.w (e.g r o) := by
  unfold twoSourceTable
  simp only [List.forall_mem_append]
  refine ⟨?_, ?_⟩
  all_goals
    repeat' (refine List.forall_mem_cons.2 ⟨fun o s => rfl, ?_⟩)
    exact fun _ h => nomatch h

theorem twoSource_widths : ∀ e ∈ twoSourceTable, 0 < e.w := by
  unfold twoSourceTable
  simp only [List.forall_mem_append]
  refine ⟨?_, ?_⟩
  all_goals
    repeat' (refine List.forall_mem_cons.2 ⟨by decide, ?_⟩)
    exact fun _ h => nomatch h

theorem mixed_exec : ∀ e ∈ mixedTable, ∀ o s, exec (e.make o) s = s.run e.rows o fun r => s.vec2 r o e.w (e.g r o) := by
  unfold mixedTable
  repeat' (refine List.forall_mem_cons.2 ⟨fun o s => congrArg (s.run _ o) (funext fun r => by cases h : r.imm <;> simp [h, State.vec1]), ?_⟩)
  exact fun _ h => nomatch h

theorem mixed_widths : ∀ e ∈ mixedTable, 0 < e.w := by
  unfold mixedTable
  repeat' (refine List.forall_mem_cons.2 ⟨by decide, ?_⟩)
  exact fun _ h => nomatch h

theorem oneSource_exec : ∀ e ∈ oneSourceTable, ∀ o s, exec (e.make o) s = s.run e.rows o fun r => s.vec2 r o e.w (fun _ => e.g o (s.fpEnv r o)) := by
  unfold oneSourceTable
  repeat' (refine List.forall_mem_cons.2 ⟨fun o s => rfl, ?_⟩)
  exact fun _ h => nomatch h

theorem oneSource_widths : ∀ e ∈ oneSourceTable, 0 < e.w := by
  unfold oneSourceTable
  repeat' (refine List.forall_mem_cons.2 ⟨by decide, ?_⟩)
  exact fun _ h => nomatch h

theorem threeSource_exec : ∀ e ∈ threeSourceTable, ∀ o s, exec (e.make o) s = s.run e.rows o fun r => s.vec3 r o e.w (e.g r o) := by
  unfold threeSourceTable
  repeat' (refine List.forall_mem_cons.2 ⟨fun o s => rfl, ?_⟩)
  exact fun _ h => nomatch h

theorem threeSource_widths : ∀ e ∈ threeSourceTable, 0 < e.w := by
  unfold threeSourceTable
  repeat' (refine List.forall_mem_cons.2 ⟨by decide, ?_⟩)
  exact fun _ h => nomatch h

theorem widening_exec : ∀ e ∈ wideningTable, ∀ o s, exec (e.make o) s = s.run e.rows o fun r => s.widen r o e.v e.w e.f := by
  unfold wideningTable
  repeat' (refine List.forall_mem_cons.2 ⟨fun o s => rfl, ?_⟩)
  exact fun _ h => nomatch h

theorem widening_widths : ∀ e ∈ wideningTable, 0 < e.w := by
  unfold wideningTable
  repeat' (refine List.forall_mem_cons.2 ⟨by decide, ?_⟩)
  exact fun _ h => nomatch h

theorem narrowing_exec : ∀ e ∈ narrowingTable, ∀ o s, exec (e.make o) s = s.run e.rows o fun r => s.putRM r o false e.w (r.count o e.v) fun j => e.f (elem e.v j (s.getZ o.reg)) := by
  unfold narrowingTable
  repeat' (refine List.forall_mem_cons.2 ⟨fun o s => rfl, ?_⟩)
  exact fun _ h => nomatch h

theorem narrowing_widths : ∀ e ∈ narrowingTable, 0 < e.w ∧ e.w ≤ e.v := by
  unfold narrowingTable
  repeat' (refine List.forall_mem_cons.2 ⟨by decide, ?_⟩)
  exact fun _ h => nomatch h

theorem comparing_exec : ∀ e ∈ comparingTable, ∀ o s, exec (e.make o) s = s.run e.rows o fun r => s.compareVec r o e.w (e.p o) := by
  unfold comparingTable
  repeat' (refine List.forall_mem_cons.2 ⟨fun o s => rfl, ?_⟩)
  exact fun _ h => nomatch h

theorem comparing_widths : ∀ e ∈ comparingTable, 0 < e.w := by
  unfold comparingTable
  repeat' (refine List.forall_mem_cons.2 ⟨by decide, ?_⟩)
  exact fun _ h => nomatch h

theorem uniformShift_exec : ∀ e ∈ uniformShiftTable, ∀ o s, exec (e.make o) s = s.run e.rows o fun r => s.shiftAll r o e.w e.f := by
  unfold uniformShiftTable
  repeat' (refine List.forall_mem_cons.2 ⟨fun o s => rfl, ?_⟩)
  exact fun _ h => nomatch h

theorem uniformShift_widths : ∀ e ∈ uniformShiftTable, 0 < e.w := by
  unfold uniformShiftTable
  repeat' (refine List.forall_mem_cons.2 ⟨by decide, ?_⟩)
  exact fun _ h => nomatch h

theorem laneShift_exec : ∀ e ∈ laneShiftTable, ∀ o s, exec (e.make o) s = s.run e.rows o fun r => s.shiftLanes r o (e.f o) := by
  unfold laneShiftTable
  repeat' (refine List.forall_mem_cons.2 ⟨fun o s => rfl, ?_⟩)
  exact fun _ h => nomatch h

theorem broadcast_exec : ∀ e ∈ broadcastTable, ∀ o s, exec (e.make o) s = s.run e.rows o fun r => s.broadcastTuple r o e.w e.n := by
  unfold broadcastTable
  repeat' (refine List.forall_mem_cons.2 ⟨fun o s => rfl, ?_⟩)
  exact fun _ h => nomatch h

theorem broadcast_widths : ∀ e ∈ broadcastTable, 0 < e.w := by
  unfold broadcastTable
  repeat' (refine List.forall_mem_cons.2 ⟨by decide, ?_⟩)
  exact fun _ h => nomatch h

theorem blend_exec : ∀ e ∈ blendTable, ∀ o s, exec (e.make o) s = s.run e.rows o fun r => s.blend r o e.w := by
  unfold blendTable
  repeat' (refine List.forall_mem_cons.2 ⟨fun o s => rfl, ?_⟩)
  exact fun _ h => nomatch h

theorem blend_widths : ∀ e ∈ blendTable, 0 < e.w := by
  unfold blendTable
  repeat' (refine List.forall_mem_cons.2 ⟨by decide, ?_⟩)
  exact fun _ h => nomatch h

theorem compress_exec : ∀ e ∈ compressTable, ∀ o s, exec (e.make o) s = s.run e.rows o fun r => s.compress r o e.w := by
  unfold compressTable
  repeat' (refine List.forall_mem_cons.2 ⟨fun o s => rfl, ?_⟩)
  exact fun _ h => nomatch h

theorem compress_widths : ∀ e ∈ compressTable, e.w = 32 ∨ e.w = 64 := by
  unfold compressTable
  repeat' (refine List.forall_mem_cons.2 ⟨by decide, ?_⟩)
  exact fun _ h => nomatch h

theorem expand_exec : ∀ e ∈ expandTable, ∀ o s, exec (e.make o) s = s.run e.rows o fun r => s.expand r o e.w := by
  unfold expandTable
  repeat' (refine List.forall_mem_cons.2 ⟨fun o s => rfl, ?_⟩)
  exact fun _ h => nomatch h

theorem expand_widths : ∀ e ∈ expandTable, 0 < e.w := by
  unfold expandTable
  repeat' (refine List.forall_mem_cons.2 ⟨by decide, ?_⟩)
  exact fun _ h => nomatch h

theorem conflicts_exec : ∀ e ∈ conflictsTable, ∀ o s, exec (e.make o) s = s.run e.rows o fun r => s.conflicts r o e.w := by
  unfold conflictsTable
  repeat' (refine List.forall_mem_cons.2 ⟨fun o s => rfl, ?_⟩)
  exact fun _ h => nomatch h

theorem conflicts_widths : ∀ e ∈ conflictsTable, e.w = 32 ∨ e.w = 64 := by
  unfold conflictsTable
  repeat' (refine List.forall_mem_cons.2 ⟨by decide, ?_⟩)
  exact fun _ h => nomatch h

theorem toMask_exec : ∀ e ∈ toMaskTable, ∀ o s, exec (e.make o) s = s.run e.rows o fun r => s.toMask r o e.w := by
  unfold toMaskTable
  repeat' (refine List.forall_mem_cons.2 ⟨fun o s => rfl, ?_⟩)
  exact fun _ h => nomatch h

theorem toMask_widths : ∀ e ∈ toMaskTable, 0 < e.w := by
  unfold toMaskTable
  repeat' (refine List.forall_mem_cons.2 ⟨by decide, ?_⟩)
  exact fun _ h => nomatch h

theorem maskMove_exec : ∀ e ∈ maskMoveTable, ∀ o s, exec (e.make o) s = s.run e.rows o fun r => s.maskMove r o e.w := by
  unfold maskMoveTable
  repeat' (refine List.forall_mem_cons.2 ⟨fun o s => rfl, ?_⟩)
  exact fun _ h => nomatch h

theorem maskMove_widths : ∀ e ∈ maskMoveTable, e.w = 8 ∨ e.w = 16 ∨ e.w = 32 ∨ e.w = 64 := by
  unfold maskMoveTable
  repeat' (refine List.forall_mem_cons.2 ⟨by decide, ?_⟩)
  exact fun _ h => nomatch h

theorem maskUnpack_exec : ∀ e ∈ maskUnpackTable, ∀ o s, exec (e.make o) s = s.run e.rows o fun _ => s.maskUnpack o e.w := by
  unfold maskUnpackTable
  repeat' (refine List.forall_mem_cons.2 ⟨fun o s => rfl, ?_⟩)
  exact fun _ h => nomatch h

theorem maskUnpack_widths : ∀ e ∈ maskUnpackTable, e.w = 8 ∨ e.w = 16 ∨ e.w = 32 := by
  unfold maskUnpackTable
  repeat' (refine List.forall_mem_cons.2 ⟨by decide, ?_⟩)
  exact fun _ h => nomatch h

theorem maskOrTest_exec : ∀ e ∈ maskOrTestTable, ∀ o s, exec (e.make o) s = s.run e.rows o fun _ => s.maskOrTest o e.w := by
  unfold maskOrTestTable
  repeat' (refine List.forall_mem_cons.2 ⟨fun o s => rfl, ?_⟩)
  exact fun _ h => nomatch h

theorem maskOrTest_widths : ∀ e ∈ maskOrTestTable, e.w ≤ 64 := by
  unfold maskOrTestTable
  repeat' (refine List.forall_mem_cons.2 ⟨by decide, ?_⟩)
  exact fun _ h => nomatch h

theorem maskTest_exec : ∀ e ∈ maskTestTable, ∀ o s, exec (e.make o) s = s.run e.rows o fun _ => s.maskTest o e.w := by
  unfold maskTestTable
  repeat' (refine List.forall_mem_cons.2 ⟨fun o s => rfl, ?_⟩)
  exact fun _ h => nomatch h

theorem maskTest_widths : ∀ e ∈ maskTestTable, e.w ≤ 64 := by
  unfold maskTestTable
  repeat' (refine List.forall_mem_cons.2 ⟨by decide, ?_⟩)
  exact fun _ h => nomatch h

theorem extractElem_exec : ∀ e ∈ extractElemTable, ∀ o s, exec (e.make o) s = s.run e.rows o fun r => s.extractElem r o e.w := by
  unfold extractElemTable
  repeat' (refine List.forall_mem_cons.2 ⟨fun o s => rfl, ?_⟩)
  exact fun _ h => nomatch h

theorem extractElem_widths : ∀ e ∈ extractElemTable, 0 < e.w := by
  unfold extractElemTable
  repeat' (refine List.forall_mem_cons.2 ⟨by decide, ?_⟩)
  exact fun _ h => nomatch h

theorem insertElem_exec : ∀ e ∈ insertElemTable, ∀ o s, exec (e.make o) s = s.run e.rows o fun r => s.insertElem r o e.w := by
  unfold insertElemTable
  repeat' (refine List.forall_mem_cons.2 ⟨fun o s => rfl, ?_⟩)
  exact fun _ h => nomatch h

theorem insertElem_widths : ∀ e ∈ insertElemTable, 0 < e.w := by
  unfold insertElemTable
  repeat' (refine List.forall_mem_cons.2 ⟨by decide, ?_⟩)
  exact fun _ h => nomatch h

theorem moveLow_exec : ∀ e ∈ moveLowTable, ∀ o s, exec (e.make o) s = s.run e.rows o fun r => s.moveLow r o e.w := by
  unfold moveLowTable
  repeat' (refine List.forall_mem_cons.2 ⟨fun o s => rfl, ?_⟩)
  exact fun _ h => nomatch h

theorem moveLow_widths : ∀ e ∈ moveLowTable, 0 < e.w := by
  unfold moveLowTable
  repeat' (refine List.forall_mem_cons.2 ⟨by decide, ?_⟩)
  exact fun _ h => nomatch h

theorem moveScalar_exec : ∀ e ∈ moveScalarTable, ∀ o s, exec (e.make o) s = s.run e.rows o fun r => s.moveScalar r o e.w := by
  unfold moveScalarTable
  repeat' (refine List.forall_mem_cons.2 ⟨fun o s => rfl, ?_⟩)
  exact fun _ h => nomatch h

theorem moveScalar_widths : ∀ e ∈ moveScalarTable, 0 < e.w ∧ e.w ≤ 128 := by
  unfold moveScalarTable
  repeat' (refine List.forall_mem_cons.2 ⟨by decide, ?_⟩)
  exact fun _ h => nomatch h

theorem insertBlock_exec : ∀ e ∈ insertBlockTable, ∀ o s, exec (e.make o) s = s.run e.rows o fun r => s.insertBlock r o e.w e.n := by
  unfold insertBlockTable
  repeat' (refine List.forall_mem_cons.2 ⟨fun o s => rfl, ?_⟩)
  exact fun _ h => nomatch h

theorem insertBlock_widths : ∀ e ∈ insertBlockTable, 0 < e.w := by
  unfold insertBlockTable
  repeat' (refine List.forall_mem_cons.2 ⟨by decide, ?_⟩)
  exact fun _ h => nomatch h

theorem extractBlock_exec : ∀ e ∈ extractBlockTable, ∀ o s, exec (e.make o) s = s.run e.rows o fun r => s.extractBlock r o e.w e.n := by
  unfold extractBlockTable
  repeat' (refine List.forall_mem_cons.2 ⟨fun o s => rfl, ?_⟩)
  exact fun _ h => nomatch h

theorem extractBlock_widths : ∀ e ∈ extractBlockTable, 0 < e.w ∧ e.w * (e.n / e.w) ≤ 128 ∨ e.n = 256 ∧ e.w * (e.n / e.w) = 256 ∧ 0 < e.w := by
  unfold extractBlockTable
  repeat' (refine List.forall_mem_cons.2 ⟨by decide, ?_⟩)
  exact fun _ h => nomatch h

theorem gather_exec : ∀ e ∈ gatherTable, ∀ o s, exec (e.make o) s = s.run e.rows o fun r => s.gather r o e.w e.n := by
  unfold gatherTable
  repeat' (refine List.forall_mem_cons.2 ⟨fun o s => rfl, ?_⟩)
  exact fun _ h => nomatch h

theorem gather_widths : ∀ e ∈ gatherTable, (e.w = 32 ∨ e.w = 64) ∧ (e.n = 32 ∨ e.n = 64) := by
  unfold gatherTable
  repeat' (refine List.forall_mem_cons.2 ⟨by decide, ?_⟩)
  exact fun _ h => nomatch h

theorem scatter_exec : ∀ e ∈ scatterTable, ∀ o s, exec (e.make o) s = s.run e.rows o fun r => s.scatter r o e.w e.n := by
  unfold scatterTable
  repeat' (refine List.forall_mem_cons.2 ⟨fun o s => rfl, ?_⟩)
  exact fun _ h => nomatch h

theorem scatter_widths : ∀ e ∈ scatterTable, (e.w = 32 ∨ e.w = 64) ∧ (e.n = 32 ∨ e.n = 64) := by
  unfold scatterTable
  repeat' (refine List.forall_mem_cons.2 ⟨by decide, ?_⟩)
  exact fun _ h => nomatch h

theorem moveFull_exec : ∀ e ∈ moveFullTable, ∀ o s, exec (e.make o) s = s.run e.rows o fun r => s.moveFull r o e.nt e.w := by
  unfold moveFullTable
  repeat' (refine List.forall_mem_cons.2 ⟨fun o s => rfl, ?_⟩)
  exact fun _ h => nomatch h

theorem moveFull_widths : ∀ e ∈ moveFullTable, 0 < e.w := by
  unfold moveFullTable
  repeat' (refine List.forall_mem_cons.2 ⟨by decide, ?_⟩)
  exact fun _ h => nomatch h

theorem fromMask_exec : ∀ e ∈ fromMaskTable, ∀ o s, exec (e.make o) s = s.run e.rows o fun r => s.fromMask r o e.w e.f := by
  unfold fromMaskTable
  repeat' (refine List.forall_mem_cons.2 ⟨fun o s => rfl, ?_⟩)
  exact fun _ h => nomatch h

theorem fromMask_widths : ∀ e ∈ fromMaskTable, 0 < e.w := by
  unfold fromMaskTable
  repeat' (refine List.forall_mem_cons.2 ⟨by decide, ?_⟩)
  exact fun _ h => nomatch h

theorem fpPacked_exec : ∀ e ∈ fpPackedTable, ∀ o s, exec (e.make o) s = s.run e.rows o fun r => s.fp2 r o (e.op o) := by
  unfold fpPackedTable
  simp only [List.forall_mem_append]
  refine ⟨?_, ?_⟩
  all_goals
    repeat' (refine List.forall_mem_cons.2 ⟨fun o s => rfl, ?_⟩)
    exact fun _ h => nomatch h

theorem fpPacked_widths : ∀ e ∈ fpPackedTable, 0 < e.w := by
  unfold fpPackedTable
  simp only [List.forall_mem_append]
  refine ⟨?_, ?_⟩
  all_goals
    repeat' (refine List.forall_mem_cons.2 ⟨by decide, ?_⟩)
    exact fun _ h => nomatch h

theorem fpScalar_exec : ∀ e ∈ fpScalarTable, ∀ o s, exec (e.make o) s = s.run e.rows o fun r => s.fp2s r o (e.op o) := by
  unfold fpScalarTable
  simp only [List.forall_mem_append]
  refine ⟨?_, ?_⟩
  all_goals
    repeat' (refine List.forall_mem_cons.2 ⟨fun o s => rfl, ?_⟩)
    exact fun _ h => nomatch h

theorem fpScalar_widths : ∀ e ∈ fpScalarTable, e.w ≤ 128 := by
  unfold fpScalarTable
  simp only [List.forall_mem_append]
  refine ⟨?_, ?_⟩
  all_goals
    repeat' (refine List.forall_mem_cons.2 ⟨by decide, ?_⟩)
    exact fun _ h => nomatch h

theorem fpConvert_exec : ∀ e ∈ fpConvertTable, ∀ o s, exec (e.make o) s = s.run e.rows o fun r => s.fpWiden r o e.op := by
  unfold fpConvertTable
  repeat' (refine List.forall_mem_cons.2 ⟨fun o s => rfl, ?_⟩)
  exact fun _ h => nomatch h

theorem fpConvert_widths : ∀ e ∈ fpConvertTable, 0 < e.w := by
  unfold fpConvertTable
  repeat' (refine List.forall_mem_cons.2 ⟨by decide, ?_⟩)
  exact fun _ h => nomatch h

theorem fpConvertScalar_exec : ∀ e ∈ fpConvertScalarTable, ∀ o s, exec (e.make o) s = s.run e.rows o fun r => s.fpScalarFrom r o e.op := by
  unfold fpConvertScalarTable
  repeat' (refine List.forall_mem_cons.2 ⟨fun o s => rfl, ?_⟩)
  exact fun _ h => nomatch h

theorem fpConvertScalar_widths : ∀ e ∈ fpConvertScalarTable, e.w ≤ 128 := by
  unfold fpConvertScalarTable
  repeat' (refine List.forall_mem_cons.2 ⟨by decide, ?_⟩)
  exact fun _ h => nomatch h

theorem fmaVec_exec : ∀ e ∈ fmaVecTable, ∀ o s, exec (e.make o) s = s.run e.rows o fun r => s.fmaVec r o e.F e.form e.negProd e.negAdd := by
  unfold fmaVecTable
  repeat' (refine List.forall_mem_cons.2 ⟨fun o s => rfl, ?_⟩)
  exact fun _ h => nomatch h

theorem fmaVec_widths : ∀ e ∈ fmaVecTable, 0 < e.w := by
  unfold fmaVecTable
  repeat' (refine List.forall_mem_cons.2 ⟨by decide, ?_⟩)
  exact fun _ h => nomatch h

theorem fmaScalar_exec : ∀ e ∈ fmaScalarTable, ∀ o s, exec (e.make o) s = s.run e.rows o fun r => s.fmaScalar r o e.F e.form e.negProd (e.negAdd 0) := by
  unfold fmaScalarTable
  repeat' (refine List.forall_mem_cons.2 ⟨fun o s => rfl, ?_⟩)
  exact fun _ h => nomatch h

theorem fmaScalar_widths : ∀ e ∈ fmaScalarTable, e.w ≤ 128 := by
  unfold fmaScalarTable
  repeat' (refine List.forall_mem_cons.2 ⟨by decide, ?_⟩)
  exact fun _ h => nomatch h

theorem fpCompareVec_exec : ∀ e ∈ fpCompareVecTable, ∀ o s, exec (e.make o) s = s.run e.rows o fun r => s.fpCompareVec r o e.F := by
  unfold fpCompareVecTable
  repeat' (refine List.forall_mem_cons.2 ⟨fun o s => rfl, ?_⟩)
  exact fun _ h => nomatch h

theorem fpCompareVec_widths : ∀ e ∈ fpCompareVecTable, 0 < e.w := by
  unfold fpCompareVecTable
  repeat' (refine List.forall_mem_cons.2 ⟨by decide, ?_⟩)
  exact fun _ h => nomatch h

theorem fpCompareScalar_exec : ∀ e ∈ fpCompareScalarTable, ∀ o s, exec (e.make o) s = s.run e.rows o fun r => s.fpCompareScalar r o e.F := by
  unfold fpCompareScalarTable
  repeat' (refine List.forall_mem_cons.2 ⟨fun o s => rfl, ?_⟩)
  exact fun _ h => nomatch h

theorem fpCompareScalar_widths : ∀ e ∈ fpCompareScalarTable, e.w ≤ 128 := by
  unfold fpCompareScalarTable
  repeat' (refine List.forall_mem_cons.2 ⟨by decide, ?_⟩)
  exact fun _ h => nomatch h

theorem fixupVec_exec : ∀ e ∈ fixupVecTable, ∀ o s, exec (e.make o) s = s.run e.rows o fun r => s.fixupVec r o e.F := by
  unfold fixupVecTable
  repeat' (refine List.forall_mem_cons.2 ⟨fun o s => rfl, ?_⟩)
  exact fun _ h => nomatch h

theorem fixupVec_widths : ∀ e ∈ fixupVecTable, 0 < e.w := by
  unfold fixupVecTable
  repeat' (refine List.forall_mem_cons.2 ⟨by decide, ?_⟩)
  exact fun _ h => nomatch h

theorem fixupScalar_exec : ∀ e ∈ fixupScalarTable, ∀ o s, exec (e.make o) s = s.run e.rows o fun r => s.fixupScalar r o e.F := by
  unfold fixupScalarTable
  repeat' (refine List.forall_mem_cons.2 ⟨fun o s => rfl, ?_⟩)
  exact fun _ h => nomatch h

theorem fixupScalar_widths : ∀ e ∈ fixupScalarTable, e.w ≤ 128 := by
  unfold fixupScalarTable
  repeat' (refine List.forall_mem_cons.2 ⟨by decide, ?_⟩)
  exact fun _ h => nomatch h

theorem approxScalar_exec : ∀ e ∈ approxScalarTable, ∀ o s, exec (e.make o) s = s.run e.rows o fun r => s.approxScalar r o e.f := by
  unfold approxScalarTable
  repeat' (refine List.forall_mem_cons.2 ⟨fun o s => rfl, ?_⟩)
  exact fun _ h => nomatch h

theorem approxScalar_widths : ∀ e ∈ approxScalarTable, e.w ≤ 128 := by
  unfold approxScalarTable
  repeat' (refine List.forall_mem_cons.2 ⟨by decide, ?_⟩)
  exact fun _ h => nomatch h

theorem fpClass_exec : ∀ e ∈ fpClassTable, ∀ o s, exec (e.make o) s = s.run e.rows o fun r => s.fpClass r o e.F (if e.flag then 1 else r.count o e.w) := by
  unfold fpClassTable
  repeat' (refine List.forall_mem_cons.2 ⟨fun o s => rfl, ?_⟩)
  exact fun _ h => nomatch h

theorem fpCompareFlags_exec : ∀ e ∈ fpCompareFlagsTable, ∀ o s, exec (e.make o) s = s.run e.rows o fun r => s.fpCompareFlags r o e.F e.flag := by
  unfold fpCompareFlagsTable
  repeat' (refine List.forall_mem_cons.2 ⟨fun o s => rfl, ?_⟩)
  exact fun _ h => nomatch h

theorem cvtFromGpr_exec : ∀ e ∈ cvtFromGprTable, ∀ o s, exec (e.make o) s = s.run e.rows o fun r => s.cvtFromGpr r o e.F e.flag := by
  unfold cvtFromGprTable
  repeat' (refine List.forall_mem_cons.2 ⟨fun o s => rfl, ?_⟩)
  exact fun _ h => nomatch h

theorem cvtFromGpr_widths : ∀ e ∈ cvtFromGprTable, e.w ≤ 128 := by
  unfold cvtFromGprTable
  repeat' (refine List.forall_mem_cons.2 ⟨by decide, ?_⟩)
  exact fun _ h => nomatch h

theorem cvtToGpr_exec : ∀ e ∈ cvtToGprTable, ∀ o s, exec (e.make o) s = s.run e.rows o fun r => s.cvtToGpr r o e.F e.trunc e.signed := by
  unfold cvtToGprTable
  repeat' (refine List.forall_mem_cons.2 ⟨fun o s => rfl, ?_⟩)
  exact fun _ h => nomatch h

theorem mask2_exec : ∀ e ∈ mask2Table, ∀ o s, exec (e.make o) s = s.run e.rows o fun _ => s.mask2 o e.w e.f := by
  unfold mask2Table
  repeat' (refine List.forall_mem_cons.2 ⟨fun o s => rfl, ?_⟩)
  exact fun _ h => nomatch h

theorem mask1_exec : ∀ e ∈ mask1Table, ∀ o s, exec (e.make o) s = s.run e.rows o fun _ => s.mask1 o e.w (e.f o) := by
  unfold mask1Table
  repeat' (refine List.forall_mem_cons.2 ⟨fun o s => rfl, ?_⟩)
  exact fun _ h => nomatch h

theorem moveHalf_exec : ∀ e ∈ moveHalfTable, ∀ o s, exec (e.make o) s = s.run e.rows o fun r => s.moveHalf r o e.high := by
  unfold moveHalfTable
  repeat' (refine List.forall_mem_cons.2 ⟨fun o s => rfl, ?_⟩)
  exact fun _ h => nomatch h

theorem sha_exec : ∀ e ∈ shaTable, ∀ o s, exec (e.make o) s = s.run e.rows o fun r => s.sha r o (e.f o s) := by
  unfold shaTable
  repeat' (refine List.forall_mem_cons.2 ⟨fun o s => rfl, ?_⟩)
  exact fun _ h => nomatch h

theorem hint_exec : ∀ e ∈ hintTable, ∀ o s, exec (e.make o) s = s.run e.rows o fun _ => .ok s := by
  unfold hintTable
  repeat' (refine List.forall_mem_cons.2 ⟨fun o s => rfl, ?_⟩)
  exact fun _ h => nomatch h

theorem insertPs_exec : ∀ e ∈ insertPsTable, ∀ o s, exec (e.make o) s = s.run e.rows o fun r => s.insertPs r o := by
  unfold insertPsTable
  repeat' (refine List.forall_mem_cons.2 ⟨fun o s => rfl, ?_⟩)
  exact fun _ h => nomatch h

theorem moveDup_exec : ∀ e ∈ moveDupTable, ∀ o s, exec (e.make o) s = s.run e.rows o fun r => s.moveDup r o := by
  unfold moveDupTable
  repeat' (refine List.forall_mem_cons.2 ⟨fun o s => rfl, ?_⟩)
  exact fun _ h => nomatch h

theorem cvtToHalf_exec : ∀ e ∈ cvtToHalfTable, ∀ o s, exec (e.make o) s = s.run e.rows o fun r => s.cvtToHalf r o := by
  unfold cvtToHalfTable
  repeat' (refine List.forall_mem_cons.2 ⟨fun o s => rfl, ?_⟩)
  exact fun _ h => nomatch h

theorem extractBlock_lens : ∀ e ∈ extractBlockTable, ∀ r ∈ e.rows, e.n = 128 ∨ r.len = .l512 := by
  unfold extractBlockTable
  repeat' (refine List.forall_mem_cons.2 ⟨by decide, ?_⟩)
  exact fun _ h => nomatch h

end Sys2Proof.Claims
end

