-- ==== Sys2Proof/Tests/Slice0.lean ====
section
/-! SUPPORT. Tests: every check of WellFormed refuses a term, words written out from the encodings of spec/opcode_table.json
decode to their instructions, single steps with results taken from the spec's rules and vectors, and for every obligation
with hypotheses a state and operands that meet them. -/

namespace Sys2Proof.Tests

-- one theorem at a time: each kernel evaluation takes a thread of its own otherwise
set_option Elab.async false

open Sys2Proof.Machine Sys2Proof.Claims

/-! ### States and fields -/

/-- The machine after system software has enabled every state component and PCOMMIT (R1603, R1606). -/
def ready : State := { State.reset with cr4 := 0x40600, xcr0 := 0xE7, featureControl := 0x80001 }

/-- The same with a signaling NaN in the low element of every vector register. -/
def nans : State := { ready with zmm := Vector.replicate 32 0x7FF400007FA00000 }

/-- The same with every floating-point exception unmasked. -/
def alarming : State := { nans with mxcsr := 0 }

/-- A register form: destination 1, second operand 2, third 3. -/
def rr (sp : Space) (pp : Pfx) (op : BitVec 8) (w : Bool) (ll : BitVec 2) : Operands :=
  ⟨sp, pp, op, w, ll, false, false, 0, 1, 2, .reg 3, 0⟩

/-- A memory operand at address 0 in 64-bit mode: the base register RAX holds 0 after reset. -/
def atRax : MemOp := ⟨.ds, .a64, .gpr 0, none, 0, 0⟩

/-- A memory form: the third operand at [RAX]. -/
def rm (sp : Space) (pp : Pfx) (op : BitVec 8) (w : Bool) (ll : BitVec 2) : Operands :=
  { rr sp pp op w ll with rm := .mem atRax }

/-- A region of one page, translated to itself, with a fault for reads and one for fetches at every privilege level. -/
def faulty (base : Nat) (read fetch : Option TranslateFault) : Region :=
  ⟨base, 0x1000, base, .replicate 4 read, .replicate 4 none, .replicate 4 fetch, false, false⟩

/-- The state executes these fields on one of the rows, and that row meets `p`. -/
def fits (s : State) (rows : List Row) (o : Operands) (p : Row → Bool) : Bool :=
  s.event.isNone && match s.gate rows o with
    | .ok r => p r
    | .error _ => false

/-- What `fits` shows. -/
theorem fits_selects {s : State} {rows : List Row} {o : Operands} {p : Row → Bool} (h : fits s rows o p = true) :
    ∃ r, s.selects rows o r ∧ p r = true := by
  unfold fits at h
  simp only [Bool.and_eq_true, Option.isNone_iff_eq_none] at h
  obtain ⟨h1, h2⟩ := h
  split at h2
  · next r hr => exact ⟨r, ⟨h1, hr⟩, h2⟩
  · cases h2

/-- The r/m source is readable and meets `p`. -/
def reads (s : State) (r : Row) (o : Operands) (w n : Nat) (p : ZWord → Bool) : Bool :=
  match s.src r o w n with
  | .ok b => p b.1
  | .error _ => false

/-- It is readable. -/
def readable (s : State) (r : Row) (o : Operands) (w n : Nat) : Bool := reads s r o w n fun _ => true

/-! ### Well-formedness: a term each check refuses -/

theorem test_wf_accepts : wellFormed (.vaddps (rr .evex .np 0x58 false 2)) = true := by decide +kernel

theorem test_wf_row : wellFormed (.vaddps (rr .evex .np 0x59 false 2)) = false := by decide +kernel

theorem test_wf_vector_register : wellFormed (.vaddps { rr .vex .np 0x58 false 1 with reg := 16 }) = false := by
  decide +kernel

theorem test_wf_opmask_register : wellFormed (.kandw { rr .vex .np 0x41 false 1 with vvvv := 8 }) = false := by
  decide +kernel

theorem test_wf_general_register :
    wellFormed (.vcvtss2si { rr .evex .pF3 0x2D false 0 with reg := 16, vvvv := 0 }) = false := by decide +kernel

theorem test_wf_unused_field : wellFormed (.addps (rr .legacy .np 0x58 false 0)) = false := by decide +kernel

theorem test_wf_digit : wellFormed (.clwb { rm .legacy .p66 0xAE false 0 with vvvv := 0 }) = false := by decide +kernel

theorem test_wf_address_size :
    wellFormed (.vaddps { rr .evex .np 0x58 false 2 with rm := .mem { atRax with asize := .a16 } }) = false := by
  decide +kernel

theorem test_wf_displacement :
    wellFormed (.vaddps { rr .evex .np 0x58 false 2 with rm := .mem { atRax with disp := 0x80000000 } }) = false := by
  decide +kernel

theorem test_wf_index :
    wellFormed (.vaddps { rr .evex .np 0x58 false 2 with rm := .mem { atRax with index := some 4 } }) = false := by
  decide +kernel

theorem test_wf_scale :
    wellFormed (.vaddps { rr .evex .np 0x58 false 2 with rm := .mem { atRax with scale := 1 } }) = false := by
  decide +kernel

theorem test_wf_rip_index :
    wellFormed (.vaddps { rr .evex .np 0x58 false 2 with rm := .mem { atRax with base := .rip, index := some 1 } }) =
      false := by
  decide +kernel

theorem test_wf_vector_index :
    wellFormed (.vpgatherdd { rm .evex .p66 0x90 false 2 with vvvv := 0, aaa := 1 }) = false := by decide +kernel

theorem test_wf_immediate : wellFormed (.vaddps { rr .evex .np 0x58 false 2 with imm := 1 }) = false := by decide +kernel

theorem test_wf_space : wellFormed (.vaddss { rr .vex .pF3 0x58 false 0 with z := true }) = false := by decide +kernel

/-! ### Single steps -/

/-- A step from `s` with the `n` bytes of `w` at the instruction pointer answers a next state that meets `p`. -/
def steps (s : State) (n w : Nat) (p : State → Bool) : Bool :=
  match step (s.withFetchWord (8 * n) w) with
  | .next t => p t
  | _ => false

/-- The exception pending is `e`. -/
def trapIs (t : State) (e : Exc) : Bool :=
  match t.event with
  | some (.trap x) => x.exc == e
  | _ => false

/-- R1600: right after reset VADDPS ZMM1, ZMM2, ZMM3 is #UD. -/
theorem test_reset_evex_ud : steps .reset 6 0x62F16C4858CB (fun t => trapIs t .ud && t.pc == 0) = true := by decide +kernel

/-- D7 to D10: the reset values the spec decides on. -/
theorem test_reset_decisions :
    State.reset.mxcsr = 0x1F80 ∧ State.reset.xcr0 = 1 ∧ State.reset.cr4 = 0 ∧ State.reset.featureControl = 0 := by decide

/-- The wrap of VPADDD with a source that is the destination: FFFFFFFFH + 1 = 0, and 7 + 1 = 8. -/
theorem test_vpaddd_wraps :
    steps ((ready.setZ 1 0x00000007FFFFFFFF).setZ 3 0x0000000100000001) 6 0x62F17548FECB
      (fun t => t.getZ 1 == 0x0000000800000000 && t.pc == 6) = true := by decide +kernel

/-- The example of R325: VBLENDMPS ZMM1 with k1 = 00FFH takes elements 0 to 7 of ZMM3 and the others of ZMM2. -/
theorem test_vblendmps :
    steps (((ready.setK 1 0x00FF).setZ 2 (pack 32 16 fun _ => 2)).setZ 3 (pack 32 16 fun _ => 3)) 6 0x62F26D4965CB
      (fun t => t.getZ 1 == pack 32 16 fun j => if j < 8 then 3 else 2) = true := by decide +kernel

/-- R320: 1 + 2 = 3 rounds nothing; a legacy form keeps the bits above 127 (R25). -/
theorem test_addpd :
    steps ((ready.setZ 1 (0x3FF0000000000000 ||| (5#512 <<< 128))).setZ 3 0x4000000000000000) 4 0x660F58CB
      (fun t => t.getZ 1 == (0x4008000000000000 ||| (5#512 <<< 128)) && t.mxcsr == 0x1F80) = true := by decide +kernel

/-- R306: rounding up under {ru-sae}, 1 + 2^-60 is the next number above 1, and no flag is set. -/
theorem test_vaddpd_rounds_up :
    steps ((ready.setZ 2 0x3FF0000000000000).setZ 3 0x3C30000000000000) 6 0x62F1ED5858CB
      (fun t => elem 64 0 (t.getZ 1) == 0x3FF0000000000001 && t.mxcsr == 0x1F80) = true := by decide +kernel

/-- R349: 1 / 0 is an infinity and sets ZE; unmasked it is #XM and the destination keeps its value (R1501). -/
theorem test_divps_by_zero :
    steps (ready.setZ 1 (pack 32 4 fun _ => 0x3F800000)) 3 0x0F5ECB
      (fun t => elem 32 0 (t.getZ 1) == 0x7F800000 && t.mxcsr == 0x1F84) = true ∧
    steps ({ ready with mxcsr := 0x1D80 }.setZ 1 (pack 32 4 fun _ => 0x3F800000)) 3 0x0F5ECB
      (fun t => elem 32 0 (t.getZ 1) == 0x3F800000 && t.mxcsr == 0x1D84 && trapIs t .xm) = true := by decide +kernel

/-- R346: a comparison with a NaN is unordered: ZF, PF and CF are 1. -/
theorem test_comisd_unordered :
    steps (ready.setZ 3 0x7FF8000000000000) 4 0x660F2FCB (fun t => t.eflags == 0x47 && t.mxcsr == 0x1F81) = true := by
  decide +kernel

/-- R410: a NaN converts to the integer indefinite, zero-extended. -/
theorem test_cvttss2si_nan :
    steps (ready.setZ 3 0x7FC00000) 4 0xF30F2CCB (fun t => t.getGpr 1 == 0x80000000 && t.mxcsr == 0x1F81) = true := by
  decide +kernel

/-- R84: VMOVUPS [RAX] with k1 = 5 stores elements 0 and 2 only. -/
theorem test_masked_store :
    steps { (ready.setK 1 5).setZ 1 (pack 32 16 fun j => BitVec.ofNat 32 (0x11111111 * (j + 1))) with
        gpr := Vector.replicate 16 0x1000 } 6 0x62F17C491108
      (fun t => t.mem.get 0x1003 == 0x11 && t.mem.get 0x1004 == 0 && t.mem.get 0x1008 == 0x33) = true := by
  decide +kernel

/-- R74: MOVAPS from an address that is not a multiple of 16 is #GP. -/
theorem test_movaps_misaligned :
    steps { ready with gpr := Vector.replicate 16 0x1008 } 3 0x0F2808 (fun t => trapIs t .gp) = true := by decide +kernel

/-- R505: a gather loads the elements its mask selects, keeps the others and clears the mask. -/
theorem test_gather :
    steps { ((ready.setK 1 2).setZ 1 (pack 32 16 fun _ => 9)).setZ 2 (pack 32 16 fun j => BitVec.ofNat 32 j) with
        gpr := Vector.replicate 16 0x1000, mem := [⟨0x1004, 0x77⟩] } 7 0x62F27D49900C90
      (fun t => t.getZ 1 == (pack 32 16 fun j => if j = 1 then 0x77 else 9) && t.getK 1 == 0) = true := by decide +kernel

/-- R1501: a page fault leaves the destination alone and puts the address in CR2. -/
theorem test_page_fault :
    steps { ready with
        gpr := Vector.replicate 16 0x1000
        regions := [faulty 0x1000 (some (.pf 4)) none] } 3 0x0F1008
      (fun t => trapIs t (.pf 4) && t.cr2 == 0x1000 && t.pc == 0) = true := by decide +kernel

/-- R1354: KSHIFTLW by 3. -/
theorem test_kshiftlw : steps (ready.setK 3 0xFFFF) 6 0xC4E3F932CB03 (fun t => t.getK 1 == 0xFFF8) = true := by
  decide +kernel

/-- R1346: KORTESTW of registers whose OR is all ones sets CF and clears ZF. -/
theorem test_kortestw :
    steps ((ready.setK 1 0xF0F0).setK 3 0x0F0F) 4 0xC5F898CB (fun t => t.eflags == 3) = true := by decide +kernel

/-- R353: VCOMPRESSPS packs the elements of k1 = 6 at the low end. -/
theorem test_vcompressps :
    steps ((ready.setK 1 6).setZ 1 (pack 32 16 fun j => BitVec.ofNat 32 (j + 1))) 6 0x62F27D498ACB
      (fun t => t.getZ 3 == 0x0000000300000002) = true := by decide +kernel

/-- V42.43: VCOMPRESSPD's disp8 counts in single elements: 24 bytes from [rax+8] on. -/
theorem test_vcompresspd_disp8 :
    steps { (ready.setK 1 0xA4).setZ 1 (pack 64 8 fun j => BitVec.ofNat 64 j) with gpr := Vector.replicate 16 0x1000 }
      7 0x62F2FD498A4801 (fun t => t.mem.drop 7 == [⟨0x1008, 2⟩, ⟨0x1010, 5⟩, ⟨0x1018, 7⟩]) = true := by decide +kernel

/-- R117: a REX prefix before VEX is #UD also where a segment override stands between them. -/
theorem test_rex_segment_vex :
    decodeFields .mode64 [0x48, 0x26, 0xC5, 0xF8, 0x44, 0xCA] = .error .ud ∧
    (decodeFields .mode64 [0x26, 0xC5, 0xF8, 0x44, 0xCA]).isOk = true := by decide +kernel

/-- C33 and C39: without AVX512VL VPBLENDMQ YMM is #UD and VFNMADD132PS ZMM executes. -/
theorem test_no_avx512vl :
    (let s := { ready with cpu := { ready.cpu with entries := [⟨0x7, 0, 0, 0x7D230000, 0x3, 0⟩, ⟨0x80000001, 0, 0, 0, 0, 0x20000000⟩] } };
      steps s 6 0x62F2ED2864CB (fun t => trapIs t .ud) && steps s 6 0x62F26D489CCB (fun t => t.pc == 6)) = true := by
  decide +kernel

/-- R22, D2: outside 64-bit mode only the low 32 bits of the instruction pointer count: bytes at 2000H are fetched. -/
theorem test_pc_significant_bits :
    steps { ready with mode := .protectedMode, pc := 0x500002000 } 2 0x0FA2 (fun t => t.pc == 0x2002) = true := by
  decide +kernel

/-- R30, R244: XSETBV accepts 111xx111b, and rejects bit 0 clear and bits 7:5 that are not all together. -/
theorem test_xsetbv :
    (ready.setXcr0 0xE7).isOk = true ∧ (ready.setXcr0 0xE6).isOk = false ∧ (ready.setXcr0 0x27).isOk = false ∧
    (ready.setXcr0 0x107).isOk = false ∧ (State.reset.setXcr0 0xE7).isOk = false := by decide +kernel

/-- R39, R40: XRSTOR takes YMM_Hi128 by the mask alone, Opmask by mask and XCR0. -/
theorem test_xrstor :
    (match ({ ready with xcr0 := 1, k := Vector.replicate 8 7, zmm := Vector.replicate 32 (BitVec.allOnes 512) }).xrstor 0 0x24 with
      | .ok t => t.getZ 3 == ~~~(BitVec.allOnes 128).setWidth 512 <<< 128 ||| (BitVec.allOnes 128).setWidth 512 && t.getK 1 == 7
      | .error _ => false) = true := by decide +kernel

/-- R1481: CLWB sets the accessed flag of the translation and leaves the dirty flag. -/
theorem test_clwb_accessed :
    steps { ready with regions := [faulty 0x1000 none none], gpr := Vector.replicate 16 0x1000 } 4 0x660FAE30
      (fun t => t.regions == [{ faulty 0x1000 none none with accessed := true }]) = true := by decide +kernel

/-- R108: a load sets the accessed flag of the translation and leaves the dirty flag; one whose instruction ends in #XM does
not (notes/assumptions/29.md). -/
theorem test_load_accessed :
    steps { ready with regions := [faulty 0x1000 none none], gpr := Vector.replicate 16 0x1000 } 3 0x0F1008
      (fun t => t.regions == [{ faulty 0x1000 none none with accessed := true }]) = true ∧
    steps { alarming with regions := [faulty 0x1000 none none], gpr := Vector.replicate 16 0x1000 } 3 0x0F5808
      (fun t => trapIs t .xm && t.regions == [faulty 0x1000 none none]) = true := by decide +kernel

/-- R101, R571: a store to WC memory needs no flush before the fence, one to WB memory needs it, and so does a non-temporal one
to WP memory (notes/assumptions/40.md). -/
theorem test_memory_types :
    let s := { ready with pmem := [(0x1000, 0x1000)], memTypes := [(0x1800, 0x100, .wc), (0x1900, 0x100, .wp)] }
    ((s.storeByte false 0x1800 1).storeFence).durability = [(0x1800, .accepted)] ∧
    ((s.storeByte true 0x1900 1).storeFence).durability = [(0x1900, .stored)] ∧
    ((s.storeByte false 0x1000 1).storeFence).durability = [(0x1000, .stored)] ∧
    (((s.storeByte false 0x1000 1).clflush 0x1000).storeFence).durability = [(0x1000, .accepted)] := by decide +kernel

/-- R243: CLFLUSHOPT is #UD on CFG-ALL, whose CPUID.(07H,0):EBX[23] is 0, and flushes where the flag is 1. -/
theorem test_clflushopt :
    let s := { ready with durability := [(0x1000, .stored)] }
    let cpu := { CpuInfo.cfgAll with entries := ⟨7, 0, 0, 0xFDA30000, 3, 0⟩ :: CpuInfo.cfgAll.entries }
    (s.clflushopt 0x1000).isOk = false ∧
    (State.clflushopt { s with cpu := cpu } 0x1000).toOption.map State.durability = some [(0x1000, .draining)] := by
  decide +kernel

/-- R96, R101: MOVNTPS and MOVUPS of 16 bytes, of which four lie in a persistent range: the non-temporal store needs no flush;
the entries of other addresses stay. -/
theorem test_store_ledger :
    let s := { ready with
      pmem := [(0x1004, 4)], durability := [(0x1003, .persistent), (0x1004, .accepted)], gpr := Vector.replicate 16 0x1000 }
    ledgerOk s.durability = true ∧
    steps s 3 0x0F2B08 (fun t => t.durability ==
      [(0x1003, .persistent), (0x1004, .draining), (0x1005, .draining), (0x1006, .draining), (0x1007, .draining)]) = true ∧
    steps s 3 0x0F1108 (fun t => t.durability ==
      [(0x1003, .persistent), (0x1004, .stored), (0x1005, .stored), (0x1006, .stored), (0x1007, .stored)]) = true := by
  decide +kernel

/-- R99: MOV to CR4 and WRMSR serialize. R225: no bit of IA32_XSS that CPUID does not report. -/
theorem test_serializing_writes :
    let s := { ready with durability := [(0, .draining), (1, .committing)] }
    (match s.setCr4 0x40600 with
      | .ok t => t.durability == [(0, .accepted), (1, .persistent)]
      | .error _ => false) = true ∧
    s.enablePcommit.durability = [(0, .accepted), (1, .persistent)] ∧
    (s.setXss 0).isOk = true ∧ (s.setXss 0x100).isOk = false := by decide +kernel

/-- A part whose table breaks R215, R224 and R236. -/
def oddPart : CpuInfo :=
  { CpuInfo.cfgAll with
    entries := [⟨0x4, 0, 0x04000121, 0, 0, 0⟩, ⟨0x4, 1, 0x08000143, 0, 0, 0⟩, ⟨0x80000002, 0, ~~~0, ~~~0, ~~~0, ~~~0⟩,
      ⟨0x80000003, 0, ~~~0, ~~~0, ~~~0, ~~~0⟩, ⟨0x80000004, 0, ~~~0, ~~~0, ~~~0, ~~~0⟩, ⟨0xD, 0, 0xE7, 0, 7, 0⟩] ++
        CpuInfo.cfgAll.entries }

/-- R215, R224, R236: the rules hold all the same. -/
theorem test_cpuid_rules :
    let s := { ready with cpu := oddPart }
    (s.leafData 4 1).eax = 0x04000143 ∧ (s.leafData 0x80000004 0).edx = 0x00FFFFFF ∧ (s.leafData 0xD 0).ecx = 2688 := by
  decide +kernel

/-- R905: the reciprocal of 2^127 is the denormal 2^-127; that of 1.5 * 2^126 has 18 fraction bits. -/
theorem test_rcp14_tiny :
    f32.rcp14 Fmt.plainEnv Config.rcp14s 0x7F000000 = 0x00400000 ∧
    f32.rcp14Tiny (fun _ => 0) 0x7EC00000 = 0x00555540 := by decide +kernel

/-- V47.40 (R519, D27): a denormal under DAZ is a zero whose magnitude the interval chooses. By D27 and the row of -0 in R519 a
negative one keeps its sign and is not rejected by sc[1]; with DAZ = 0 it is (step 4). -/
theorem test_getmant_denormal :
    let env := { Fmt.plainEnv with daz := true }
    ((List.range 4).map fun i => f32.getMant env (BitVec.ofNat 8 i) 1) =
      [⟨0x3F800000, 0⟩, ⟨0x3F000000, 0⟩, ⟨0x3F000000, 0⟩, ⟨0x3F800000, 0⟩] ∧
    f32.getMant env 8 0x80000001 = ⟨0xBF800000, 0⟩ ∧ f32.getMant env 12 0x80000001 = ⟨0x3F800000, 0⟩ ∧
    f32.getMant { Fmt.plainEnv with daz := false } 8 0x80000001 = ⟨0xFFC00000, FpFlags.i⟩ := by decide +kernel

/-- R657: element 2 equals element 0. -/
theorem test_vpconflictd :
    steps (ready.setZ 3 (pack 32 16 fun j => if j = 2 then 1 else BitVec.ofNat 32 (j + 1))) 6 0x62F27D48C4CB
      (fun t => t.getZ 1 == pack 32 16 fun j => if j = 2 then 1 else 0) = true := by decide +kernel

/-- R203: CPUID leaf 0 returns the vendor string. -/
theorem test_cpuid_vendor :
    steps .reset 2 0x0FA2
      (fun t => t.getGpr 3 == 0x756E6547 && t.getGpr 2 == 0x49656E69 && t.getGpr 1 == 0x6C65746E) = true := by
  decide +kernel

/-- R101: CLWB starts the write-back of the stores to its line; PCOMMIT in an enclave is #UD (R1586). -/
theorem test_clwb_pcommit :
    steps { ready with gpr := Vector.replicate 16 0x1000, pmem := [(0x1000, 0x1000)], durability := [(0x1000, .stored)] }
      4 0x660FAE30 (fun t => t.durability == [(0x1000, .draining)]) = true ∧
    steps { ready with inEnclave := true } 4 0x660FAEF8 (fun t => trapIs t .ud) = true := by decide +kernel

/-- The words of the opcode table are read with their first byte most significant, or least significant where that is no
instruction (notes/assumptions/15.md). -/
theorem test_table_words :
    decodeTableWord 32 0x660F58CB = some (.addpd ⟨.legacy, .p66, 0x58, false, 0, false, false, 0, 1, 0, .reg 3, 0⟩) ∧
    decodeTableWord 32 0xCB580F66 = some (.addpd ⟨.legacy, .p66, 0x58, false, 0, false, false, 0, 1, 0, .reg 3, 0⟩) := by
  decide +kernel

/-- Encoding, on a row with a VSIB operand and on one with an immediate. -/
theorem test_encode :
    encode (.vpgatherdd { rr .evex .p66 0x90 false 2 with
      vvvv := 0, aaa := 1, rm := .mem { atRax with index := some 2, scale := 2 } }) =
        [0x62, 0xF2, 0x7D, 0x49, 0x90, 0x8C, 0x90, 0, 0, 0, 0] ∧
    encode (.kshiftlw { rr .vex .p66 0x32 true 0 with vvvv := 0, imm := 3 }) = [0xC4, 0xE3, 0xF9, 0x32, 0xCB, 0x03] := by
  decide +kernel

/-! ### Witnesses: a state and operands that meet the hypotheses of each obligation that has some -/

theorem witness_LanewiseResult :
    (lanewiseTable.any fun e => fits ready e.rows (rr .evex .p66 0xFE false 2) fun r =>
      readable ready r (rr .evex .p66 0xFE false 2) e.w (r.count (rr .evex .p66 0xFE false 2) e.w)) = true ∧
    (lanewiseTable.any fun e => fits ready e.rows (rm .vex .p66 0xFE false 1) fun r =>
      readable ready r (rm .vex .p66 0xFE false 1) e.w (r.count (rm .vex .p66 0xFE false 1) e.w)) = true := by
  decide +kernel

theorem witness_WholeSourceResult :
    (twoSourceTable.any fun e => let o := rr .evex .p66 0x03 false 2
      fits ready e.rows o fun r => readable ready r o e.w (r.count o e.w)) = true ∧
    (oneSourceTable.any fun e => let o := rr .legacy .pF3 0x16 false 0
      fits ready e.rows o fun r => readable ready r o e.w (r.count o e.w)) = true ∧
    (threeSourceTable.any fun e => let o := rm .evex .p66 0x76 false 2
      fits ready e.rows o fun r => readable ready r o e.w (r.count o e.w)) = true := by decide +kernel

theorem witness_WideningResult :
    (wideningTable.any fun e => let o := rr .evex .p66 0x20 false 2
      fits ready e.rows o fun r => readable ready r o e.v (r.count o (max e.v e.w))) = true := by decide +kernel

theorem witness_NarrowingResult :
    (narrowingTable.any fun e => let o := rr .evex .pF3 0x32 false 2
      fits ready e.rows o fun _ => o.isReg) = true ∧
    (narrowingTable.any fun e => let o := rm .evex .pF3 0x32 false 2
      fits ready e.rows o fun r => (ready.storeTargets r o atRax e.w (r.count o e.v)).isOk) = true := by decide +kernel

theorem witness_CompareResult :
    (comparingTable.any fun e => let o := rr .evex .p66 0x76 false 2
      fits ready e.rows o fun r => r.reg == .kreg && readable ready r o e.w (r.count o e.w)) = true ∧
    (comparingTable.any fun e => let o := rr .vex .p66 0x76 false 1
      fits ready e.rows o fun r => r.reg != .kreg && readable ready r o e.w (r.count o e.w)) = true := by decide +kernel

theorem witness_UniformShiftResult :
    (uniformShiftTable.any fun e => let o := rr .evex .p66 0xD2 false 2
      fits ready e.rows o fun r => r.reg == .vec && readable ready r o 128 1) = true ∧
    (uniformShiftTable.any fun e => let o := rr .legacy .p66 0x72 false 0
      fits ready e.rows o fun r => r.reg != .vec && o.isReg) = true ∧
    (uniformShiftTable.any fun e => let o := rm .evex .p66 0x72 false 2
      fits ready e.rows o fun r => r.reg != .vec && readable ready r o e.w (r.count o e.w)) = true ∧
    (laneShiftTable.any fun e => let o := rr .legacy .p66 0x73 false 0
      fits ready e.rows o fun _ => o.isReg) = true ∧
    (laneShiftTable.any fun e => let o := rr .vex .p66 0x73 false 1
      fits ready e.rows o fun r => readable ready r o 8 (r.count o 8)) = true := by decide +kernel

theorem witness_BroadcastResult :
    (broadcastTable.any fun e => let o := rm .evex .p66 0x18 false 2
      fits ready e.rows o fun r => (ready.tupleSource r o e.w e.n).isOk) = true ∧
    (moveDupTable.any fun e => let o := rm .legacy .pF2 0x12 false 0
      fits ready e.rows o fun r => r.count o 64 == 2 && readable ready r o 64 1) = true ∧
    (moveDupTable.any fun e => let o := rr .vex .pF2 0x12 false 1
      fits ready e.rows o fun r => r.count o 64 == 4 && readable ready r o 64 4) = true := by decide +kernel

theorem witness_BlendResult :
    (blendTable.any fun e => let o := rr .evex .p66 0x65 false 2
      fits ready e.rows o fun r => readable ready r o e.w (r.count o e.w)) = true := by decide +kernel

theorem witness_MoveFullResult :
    (moveFullTable.any fun e => let o := rm .evex .np 0x10 false 2
      fits ready e.rows o fun r => !r.memDst && readable ready r o e.w (r.count o e.w)) = true ∧
    (moveFullTable.any fun e => let o := rr .evex .np 0x11 false 2
      fits ready e.rows o fun r => r.memDst && o.isReg) = true ∧
    (moveFullTable.any fun e => let o := rm .evex .np 0x11 false 2
      fits ready e.rows o fun r => r.memDst && (ready.storeTargets r o atRax e.w (r.count o e.w)).isOk) = true := by
  decide +kernel

theorem witness_BlockResult :
    (insertBlockTable.any fun e => let o := rr .evex .p66 0x18 false 2
      fits ready e.rows o fun r => readable ready r o e.n 1) = true ∧
    (extractBlockTable.any fun e => let o := rr .evex .p66 0x19 false 2
      fits ready e.rows o fun _ => o.isReg) = true ∧
    (extractBlockTable.any fun e => let o := rm .evex .p66 0x19 false 2
      fits ready e.rows o fun r => (ready.storeTargets r o atRax e.w (e.n / e.w)).isOk) = true := by decide +kernel

theorem witness_CompressExpandResult :
    (compressTable.any fun e => let o := rr .evex .p66 0x8A false 2
      fits ready e.rows o fun r => o.isReg && (ready.writemask o).getLsbD 0 &&
        ready.selected o (r.count o e.w) ≤ r.count o e.w) = true ∧
    (compressTable.any fun e => let o := { rr .evex .p66 0x8A false 2 with aaa := 1 }
      fits ready e.rows o fun r => o.isReg && ready.selected o (r.count o e.w) == 0) = true ∧
    (compressTable.any fun e => let o := rm .evex .p66 0x8A false 2
      fits ready e.rows o fun r =>
        (ready.plainTargets r atRax (ready.selected o (r.count o e.w) * e.w / 8)).isOk) = true ∧
    (expandTable.any fun e => let o := rm .evex .p66 0x88 false 2
      fits ready e.rows o fun r => (ready.expandSource r o e.w).isOk) = true := by decide +kernel

theorem witness_ConflictResult :
    (conflictsTable.any fun e => let o := rr .evex .p66 0xC4 false 2
      fits ready e.rows o fun r => reads ready r o e.w (r.count o e.w) fun b =>
        (List.range (r.count o e.w)).all fun j => elem e.w j b == elem e.w j (ready.getZ 3)) = true ∧
    (conflictsTable.any fun e => let o := rm .evex .p66 0xC4 false 2
      fits ready e.rows o fun r => reads ready r o e.w (r.count o e.w) fun b =>
        (List.range (r.count o e.w)).all fun j => ready.active o j && elem e.w j b == 0) = true ∧
    (conflictsTable.any fun e => let o := { rm .evex .p66 0xC4 false 2 with aaa := 1 }
      fits ready e.rows o fun r => reads ready r o e.w (r.count o e.w) fun _ =>
        (List.range (r.count o e.w)).all fun j => !ready.active o j &&
          (pack 8 (e.w / 8) fun i => ready.peek .ds (ready.ea atRax) (e.w / 8 * j + i)).setWidth e.w == 0#e.w) = true := by
  decide +kernel

theorem witness_MaskVectorResult :
    (fromMaskTable.any fun e => let o := rr .evex .pF3 0x28 false 2
      fits ready e.rows o fun _ => o.isReg) = true ∧
    (toMaskTable.any fun e => let o := rr .evex .pF3 0x39 false 2
      fits ready e.rows o fun r => readable ready r o e.w (r.count o e.w)) = true := by decide +kernel

theorem witness_MoveLowResult :
    (moveLowTable.any fun e => let o := rr .legacy .p66 0x7E false 0
      fits ready e.rows o fun r => r.memDst && r.rm == .gpr) = true ∧
    (moveLowTable.any fun e => let o := rr .legacy .p66 0xD6 false 0
      fits ready e.rows o fun r => r.memDst && r.rm != .gpr) = true ∧
    (moveLowTable.any fun e => let o := rm .legacy .p66 0xD6 false 0
      fits ready e.rows o fun r => r.memDst && (ready.plainTargets r atRax (e.w / 8)).isOk) = true ∧
    (moveLowTable.any fun e => let o := rr .legacy .p66 0x6E false 0
      fits ready e.rows o fun r => !r.memDst && r.rm == .gpr && (ready.srcGpr r o (e.w / 8)).isOk) = true ∧
    (moveLowTable.any fun e => let o := rm .legacy .pF3 0x7E false 0
      fits ready e.rows o fun r => !r.memDst && r.rm != .gpr && readable ready r o e.w 1) = true := by decide +kernel

theorem witness_MoveHalfResult :
    (moveHalfTable.any fun e => let o := rm .vex .p66 0x16 false 0
      fits ready e.rows o fun r => !r.memDst && readable ready r o 64 1) = true ∧
    (moveHalfTable.any fun e => let o := rm .vex .p66 0x17 false 0
      fits ready e.rows o fun r => r.memDst && (ready.plainTargets r atRax 8).isOk) = true := by decide +kernel

theorem witness_MoveScalarResult :
    (moveScalarTable.any fun e => let o := rm .evex .pF3 0x10 false 0
      fits ready e.rows o fun r => !r.memDst && readable ready r o e.w 1) = true ∧
    (moveScalarTable.any fun e => let o := rm .evex .pF3 0x11 false 0
      fits ready e.rows o fun r => r.memDst && (ready.storeTargets r o atRax e.w 1).isOk) = true ∧
    (moveScalarTable.any fun e => let o := rr .evex .pF3 0x11 false 0
      fits ready e.rows o fun r => o.isReg && r.vv == .vec) = true ∧
    (moveScalarTable.any fun e => let o := rr .legacy .pF3 0x11 false 0
      fits ready e.rows o fun r => o.isReg && r.vv != .vec) = true ∧
    (moveScalarTable.any fun e => let o := rr .legacy .pF3 0x10 false 0
      fits ready e.rows o fun _ => o.isReg && o.opcode != 0x11) = true := by decide +kernel

theorem witness_ElementResult :
    (extractElemTable.any fun e => let o := rr .legacy .p66 0x14 false 0
      fits ready e.rows o fun r => r.memDst && o.isReg) = true ∧
    (extractElemTable.any fun e => let o := rr .legacy .p66 0xC5 false 0
      fits ready e.rows o fun r => !r.memDst && o.isReg) = true ∧
    (extractElemTable.any fun e => let o := rm .legacy .p66 0x14 false 0
      fits ready e.rows o fun r => (ready.plainTargets r atRax (e.w / 8)).isOk) = true ∧
    (insertElemTable.any fun e => let o := rr .legacy .p66 0x20 false 0
      fits ready e.rows o fun r => (ready.srcGpr r o (e.w / 8)).isOk) = true ∧
    (insertPsTable.any fun e => let o := rm .legacy .p66 0x21 false 0
      fits ready e.rows o fun r => readable ready r o 32 1) = true := by decide +kernel

/-- Conditions that `f` reports raise nothing in state `s`. -/
def calm (s : State) (f : FpFlags) : Bool := f &&& s.unmasked == 0

theorem witness_FpPackedResult :
    (fpPackedTable.any fun e => let o := rr .evex .p66 0x58 true 2
      fits nans e.rows o fun r => reads nans r o e.w (r.count o e.w) fun b =>
        calm nans (nans.fpFlags o (r.count o e.w) fun j =>
          e.op o (nans.fpEnv r o) (elem e.w j (nans.src1 r o)) (elem e.w j b))) = true ∧
    (fpPackedTable.any fun e => let o := { rr .evex .p66 0x58 true 2 with b := true }
      fits alarming e.rows o fun r => r.rounding o && readable alarming r o e.w (r.count o e.w)) = true ∧
    (fpPackedTable.any fun e => let o := rr .evex .p66 0x58 true 2
      fits alarming e.rows o fun r => !r.rounding o && reads alarming r o e.w (r.count o e.w) fun b =>
        !calm alarming (alarming.fpFlags o (r.count o e.w) fun j =>
          e.op o (alarming.fpEnv r o) (elem e.w j (alarming.src1 r o)) (elem e.w j b))) = true := by decide +kernel

theorem witness_FpScalarResult :
    (fpScalarTable.any fun e => let o := rr .evex .pF2 0x58 true 0
      fits nans e.rows o fun r => reads nans r o e.w 1 fun b =>
        calm nans (nans.fpFlags o 1 fun _ =>
          e.op o (nans.fpEnv r o) (elem e.w 0 (nans.src1 r o)) (elem e.w 0 b))) = true ∧
    (fpScalarTable.any fun e => let o := rr .evex .pF2 0x58 true 0
      fits alarming e.rows o fun r => !r.rounding o && reads alarming r o e.w 1 fun b =>
        !calm alarming (alarming.fpFlags o 1 fun _ =>
          e.op o (alarming.fpEnv r o) (elem e.w 0 (alarming.src1 r o)) (elem e.w 0 b))) = true := by decide +kernel

theorem witness_FpConvertResult :
    (fpConvertTable.any fun e => let o := rr .evex .np 0x5A false 2
      fits nans e.rows o fun r => reads nans r o e.v (r.count o (max e.v e.w)) fun b =>
        calm nans (nans.fpFlags o (r.count o (max e.v e.w)) fun j => e.op (nans.fpEnv r o) (elem e.v j b))) = true ∧
    (fpConvertTable.any fun e => let o := rr .evex .np 0x5A false 2
      fits alarming e.rows o fun r => !r.rounding o && reads alarming r o e.v (r.count o (max e.v e.w)) fun b =>
        !calm alarming (alarming.fpFlags o (r.count o (max e.v e.w)) fun j =>
          e.op (alarming.fpEnv r o) (elem e.v j b))) = true := by decide +kernel

theorem witness_ScalarConvertResult :
    (fpConvertScalarTable.any fun e => let o := rr .evex .pF3 0x5A false 0
      fits nans e.rows o fun r => reads nans r o e.v 1 fun b =>
        calm nans (nans.fpFlags o 1 fun _ => e.op (nans.fpEnv r o) (elem e.v 0 b))) = true ∧
    (fpConvertScalarTable.any fun e => let o := rr .evex .pF3 0x5A false 0
      fits alarming e.rows o fun r => !r.rounding o && reads alarming r o e.v 1 fun b =>
        !calm alarming (alarming.fpFlags o 1 fun _ => e.op (alarming.fpEnv r o) (elem e.v 0 b))) = true ∧
    (cvtFromGprTable.any fun e => let o := rr .evex .pF3 0x2A false 0
      fits ready e.rows o fun r => e.flag && (ready.srcGpr r o 4).isOk &&
        calm ready (ready.fpFlags o 1 fun _ => e.F.ofInteger (ready.fpEnv r o) 0)) = true ∧
    (let s := { alarming with gpr := Vector.replicate 16 0x7FFFFFFF };
      cvtFromGprTable.any fun e => let o := rr .evex .pF3 0x2A false 0
      fits s e.rows o fun r => e.flag && !r.rounding o &&
        (match s.srcGpr r o 4 with
          | .ok v => !calm s (s.fpFlags o 1 fun _ => e.F.ofInteger (s.fpEnv r o) (v.1.setWidth 32).toInt)
          | .error _ => false)) = true := by decide +kernel

theorem witness_ToIntegerResult :
    (cvtToGprTable.any fun e => let o := rr .evex .pF3 0x2D false 0
      fits ready e.rows o fun r => reads ready r o e.w 1 fun b =>
        calm ready (ready.reported (e.F.toInteger (ready.fpEnv r o) e.trunc e.signed 32 (elem e.w 0 b)).flags)) = true ∧
    (cvtToGprTable.any fun e => let o := rr .evex .pF3 0x2D true 0
      fits alarming e.rows o fun r => !r.rounding o && reads alarming r o e.w 1 fun b =>
        !calm alarming (alarming.reported
          (e.F.toInteger (alarming.fpEnv r o) e.trunc e.signed 64 (elem e.w 0 b)).flags)) = true := by decide +kernel

theorem witness_FmaResult :
    (fmaVecTable.any fun e => let o := rr .evex .p66 0x98 true 2
      fits nans e.rows o fun r => reads nans r o e.w (r.count o e.w) fun b =>
        calm nans (nans.fpFlags o (r.count o e.w) fun j =>
          let x := e.form.pick (elem e.w j (nans.getZ o.reg)) (elem e.w j (nans.getZ o.vvvv)) (elem e.w j b)
          e.F.fma (nans.fpEnv r o) e.negProd (e.negAdd j) x.1 x.2.1 x.2.2)) = true ∧
    (fmaVecTable.any fun e => let o := rr .evex .p66 0x98 true 2
      fits alarming e.rows o fun r => !r.rounding o && reads alarming r o e.w (r.count o e.w) fun b =>
        !calm alarming (alarming.fpFlags o (r.count o e.w) fun j =>
          let x := e.form.pick (elem e.w j (alarming.getZ o.reg)) (elem e.w j (alarming.getZ o.vvvv)) (elem e.w j b)
          e.F.fma (alarming.fpEnv r o) e.negProd (e.negAdd j) x.1 x.2.1 x.2.2)) = true ∧
    (fmaScalarTable.any fun e => let o := rr .evex .p66 0x99 true 0
      fits nans e.rows o fun r => reads nans r o e.w 1 fun b =>
        calm nans (nans.fpFlags o 1 fun _ =>
          let x := e.form.pick (elem e.w 0 (nans.getZ o.reg)) (elem e.w 0 (nans.getZ o.vvvv)) (elem e.w 0 b)
          e.F.fma (nans.fpEnv r o) e.negProd (e.negAdd 0) x.1 x.2.1 x.2.2)) = true ∧
    (fmaScalarTable.any fun e => let o := rr .evex .p66 0x99 true 0
      fits alarming e.rows o fun r => !r.rounding o && reads alarming r o e.w 1 fun b =>
        !calm alarming (alarming.fpFlags o 1 fun _ =>
          let x := e.form.pick (elem e.w 0 (alarming.getZ o.reg)) (elem e.w 0 (alarming.getZ o.vvvv)) (elem e.w 0 b)
          e.F.fma (alarming.fpEnv r o) e.negProd (e.negAdd 0) x.1 x.2.1 x.2.2)) = true := by decide +kernel

theorem witness_FpCompareResult :
    (fpCompareVecTable.any fun e => let o := rr .evex .p66 0xC2 true 2
      fits nans e.rows o fun r => r.reg == .kreg && reads nans r o e.w (r.count o e.w) fun b =>
        calm nans (nans.fpFlags o (r.count o e.w) fun j =>
          (⟨0, (e.F.cmp (nans.fpEnv r o).daz 0 (elem e.w j (nans.src1 r o)) (elem e.w j b)).2⟩ : FpRes e.w))) = true ∧
    (fpCompareVecTable.any fun e => let o := rr .vex .p66 0xC2 false 1
      fits nans e.rows o fun r => r.reg != .kreg && reads nans r o e.w (r.count o e.w) fun b =>
        calm nans (nans.fpFlags o (r.count o e.w) fun j =>
          (⟨0, (e.F.cmp (nans.fpEnv r o).daz 0 (elem e.w j (nans.src1 r o)) (elem e.w j b)).2⟩ : FpRes e.w))) = true ∧
    (fpCompareVecTable.any fun e => let o := rr .vex .p66 0xC2 false 1
      fits alarming e.rows o fun r => !r.rounding o && reads alarming r o e.w (r.count o e.w) fun b =>
        !calm alarming (alarming.fpFlags o (r.count o e.w) fun j =>
          (⟨0, (e.F.cmp (alarming.fpEnv r o).daz 0 (elem e.w j (alarming.src1 r o)) (elem e.w j b)).2⟩ :
            FpRes e.w))) = true ∧
    (fpCompareScalarTable.any fun e => let o := rr .evex .pF2 0xC2 true 0
      fits nans e.rows o fun r => r.reg == .kreg && reads nans r o e.w 1 fun b =>
        calm nans (nans.fpFlags o 1 fun _ =>
          (⟨0, (e.F.cmp (nans.fpEnv r o).daz 0 (elem e.w 0 (nans.src1 r o)) (elem e.w 0 b)).2⟩ : FpRes e.w))) = true ∧
    (fpCompareScalarTable.any fun e => let o := rr .legacy .pF2 0xC2 false 0
      fits alarming e.rows o fun r => !r.rounding o && r.reg != .kreg && reads alarming r o e.w 1 fun b =>
        !calm alarming (alarming.fpFlags o 1 fun _ =>
          (⟨0, (e.F.cmp (alarming.fpEnv r o).daz 0 (elem e.w 0 (alarming.src1 r o)) (elem e.w 0 b)).2⟩ :
            FpRes e.w))) = true := by decide +kernel

/-- The conditions COMIS and UCOMIS report. -/
def compareFlags {w : Nat} (F : Fmt w) (s : State) (r : Row) (o : Operands) (quiet : Bool) (v : ZWord) : FpFlags :=
  let daz := (s.fpEnv r o).daz
  let a := elem w 0 (s.getZ o.reg)
  let b := elem w 0 v
  let i := F.isSNaN a || F.isSNaN b || (!quiet && (F.isNaN a || F.isNaN b))
  s.reported ((if i then FpFlags.i else 0) ||| F.den daz a ||| F.den daz b)

theorem witness_FpFlagsResult :
    (fpCompareFlagsTable.any fun e => let o := rr .evex .p66 0x2F true 0
      fits nans e.rows o fun r => reads nans r o e.w 1 fun v => calm nans (compareFlags e.F nans r o e.flag v)) = true ∧
    (fpCompareFlagsTable.any fun e => let o := rr .evex .p66 0x2F true 0
      fits alarming e.rows o fun r => !r.rounding o && reads alarming r o e.w 1 fun v =>
        !calm alarming (compareFlags e.F alarming r o e.flag v)) = true := by decide +kernel

theorem witness_NoReportResult :
    (fpClassTable.any fun e => let o := rr .evex .p66 0x66 true 2
      fits ready e.rows o fun r => !e.flag && readable ready r o e.w (r.count o e.w)) = true ∧
    (fpClassTable.any fun e => let o := rr .evex .p66 0x67 true 0
      fits ready e.rows o fun r => e.flag && readable ready r o e.w 1) = true ∧
    (approxScalarTable.any fun e => let o := rr .evex .p66 0x4D true 0
      fits ready e.rows o fun r => readable ready r o e.w 1) = true := by decide +kernel

theorem witness_FixupResult :
    (fixupVecTable.any fun e => let o := rr .evex .p66 0x54 true 2
      fits ready e.rows o fun r => readable ready r o e.w (r.count o e.w)) = true ∧
    (fixupScalarTable.any fun e => let o := rr .evex .p66 0x55 true 0
      fits ready e.rows o fun r => readable ready r o e.w 1) = true := by decide +kernel

/-- The conditions VCVTPS2PH reports. -/
def halfFlags (s : State) (r : Row) (o : Operands) : FpFlags :=
  s.fpFlags o (r.count o 32) fun j =>
    f32.convert f16 { s.fpEnv r o with rc := Fmt.immRc (s.fpEnv r o) o.imm, fz := false } true (elem 32 j (s.getZ o.reg))

theorem witness_ToHalfResult :
    (cvtToHalfTable.any fun e => let o := rr .evex .p66 0x1D false 2
      fits nans e.rows o fun r => o.isReg && calm nans (halfFlags nans r o)) = true ∧
    (cvtToHalfTable.any fun e => let o := rr .evex .p66 0x1D false 2
      fits alarming e.rows o fun r => !r.rounding o && !calm alarming (halfFlags alarming r o)) = true ∧
    (cvtToHalfTable.any fun e => let o := rm .evex .p66 0x1D false 2
      fits nans e.rows o fun r => calm nans (halfFlags nans r o) &&
        (nans.checkMem .write .ds (nans.ea atRax) (elemOffs 16 (r.count o 32) (nans.accessMask r o)) 1
          (r.acArg (2 * r.count o 32))).isOk) = true ∧
    (cvtToHalfTable.any fun e => let o := rm .evex .p66 0x1D false 2
      fits alarming e.rows o fun r => !calm alarming (halfFlags alarming r o) &&
        (alarming.checkMem .write .ds (alarming.ea atRax) (elemOffs 16 (r.count o 32) (alarming.accessMask r o)) 1
          (r.acArg (2 * r.count o 32))).isOk) = true := by decide +kernel

theorem witness_OpmaskResult :
    (mask2Table.any fun e => let o := rr .vex .np 0x41 false 1
      fits ready e.rows o fun _ => o.isReg) = true ∧
    (mask1Table.any fun e => let o := rr .vex .np 0x44 false 0
      fits ready e.rows o fun _ => o.isReg) = true ∧
    (maskUnpackTable.any fun e => let o := rr .vex .p66 0x4B false 1
      fits ready e.rows o fun _ => o.isReg) = true := by decide +kernel

theorem witness_OpmaskTestResult :
    (maskOrTestTable.any fun e => let o := rr .vex .np 0x98 false 0
      fits ready e.rows o fun _ => o.isReg) = true ∧
    (maskTestTable.any fun e => let o := rr .vex .np 0x99 false 0
      fits ready e.rows o fun _ => o.isReg) = true := by decide +kernel

theorem witness_OpmaskMoveResult :
    (maskMoveTable.any fun e => let o := rm .vex .np 0x91 false 0
      fits ready e.rows o fun r => r.memDst && (ready.plainTargets r atRax (e.w / 8)).isOk) = true ∧
    (maskMoveTable.any fun e => let o := rr .vex .np 0x93 false 0
      fits ready e.rows o fun r => !r.memDst && r.reg == .gpr && o.isReg) = true ∧
    (maskMoveTable.any fun e => let o := rr .vex .np 0x92 false 0
      fits ready e.rows o fun r => !r.memDst && r.reg != .gpr && r.rm == .gpr && (ready.srcGpr r o (e.w / 8)).isOk) =
        true ∧
    (maskMoveTable.any fun e => let o := rr .vex .np 0x90 false 0
      fits ready e.rows o fun r => !r.memDst && r.reg != .gpr && r.rm != .gpr && o.isReg) = true ∧
    (maskMoveTable.any fun e => let o := rm .vex .np 0x90 false 0
      fits ready e.rows o fun r => !r.memDst && r.reg != .gpr && r.rm != .gpr &&
        (ready.readOperand r atRax (List.range (e.w / 8)) (e.w / 8)).isOk) = true := by decide +kernel

/-- A VSIB operand with index register 5. -/
def vsibAt5 : MemOp := { atRax with index := some 5 }

theorem witness_GatherResult :
    (let s := ready.setK 1 0xFFFF;
      gatherTable.any fun e => let o := { rr .evex .p66 0x90 false 2 with aaa := 1, rm := .mem vsibAt5 }
      fits s e.rows o fun r =>
        (List.range (r.vl o / max e.w e.n)).all fun j =>
          match s.readMem .ds (s.vsibAddr vsibAt5 e.n j) (List.range (e.w / 8)) 1 0 with
          | .ok v => v.2 == s.elemReads vsibAt5 e.n e.w j
          | .error _ => false) = true ∧
    (!gatherTable.isEmpty && (vsibAt5.index == some 5)) = true := by decide +kernel

theorem witness_ScatterResult :
    (let s := { (ready.setK 1 0xFFFF).setZ 5 (pack 32 16 fun j => BitVec.ofNat 32 (4 * j)) with mem := [] };
      scatterTable.any fun e => let o := { rr .evex .p66 0xA0 false 2 with aaa := 1, rm := .mem vsibAt5 }
      fits s e.rows o fun r => s.mem.wf && (List.range (r.vl o / max e.w e.n)).all fun j =>
        match s.checkMem .write .ds (s.vsibAddr vsibAt5 e.n j) (List.range (e.w / 8)) 1 0 with
        | .ok ps => decide ((ps.map (·.2)).Nodup)
        | .error _ => false) = true := by decide +kernel

theorem witness_ShaResult :
    (shaTable.any fun e => let o := rr .legacy .np 0xCC false 0
      fits ready e.rows o fun r => readable ready r o 128 1) = true := by decide +kernel

theorem witness_HintResult :
    (hintTable.any fun e => let o := { rm .legacy .np 0x0D false 0 with reg := 2 }
      fits ready e.rows o fun _ => true) = true := by decide +kernel

theorem witness_CpuidResult :
    ready.event = none ∧ (ready.getGpr 0).setWidth 32 = 0#32 ∧ ready.xcr0 = ready.xcr0Bits ∧
    (let s := { ready with cpu := oddPart };
      (s.leafData 4 0).eax.extractLsb' 0 5 ≠ 0 ∧ (s.leafData 4 1).eax.extractLsb' 0 5 ≠ 0) := by decide +kernel

theorem witness_ClwbResult :
    fits ready Rows.clwb (rm .legacy .p66 0xAE false 0) (fun _ =>
      (ready.checkMem .read .ds (ready.ea atRax) [0] 1 0) == .ok [(0, 0)]) = true := by decide +kernel

theorem witness_PcommitResult :
    ready.event = none ∧ ready.inEnclave = false ∧ ready.pcommitEnabled = true ∧ ready.vmxNonRoot = false ∧
    State.reset.event = none ∧ State.reset.pcommitEnabled = false ∧
    (let s := { ready with vmxNonRoot := true, vmxControls2 := 0x200000 };
      s.event = none ∧ s.inEnclave = false ∧ s.pcommitEnabled = true ∧ s.vmxNonRoot = true ∧
        s.vmxControls2.getLsbD 21 = true) := by decide +kernel

theorem witness_FlushCommitPersists :
    ledgerOk [(0x103F, Durability.stored)] = true ∧ (0x103F, Durability.stored) ∈ [(0x103F, Durability.stored)] ∧
    0x1000 ≤ 0x103F ∧ 0x103F < 0x1000 + 64 ∧
    (let s := { ready with pmem := [(0x1000, 0x1000)], memTypes := [(0x1800, 0x100, .wc)] };
      s.isPmem 0x103F = true ∧ NeedsNoFlush s true 0x103F ∧ s.isPmem 0x1800 = true ∧ NeedsNoFlush s false 0x1800) ∧
    (ready.setCr4 0x40600).isOk = true ∧ (ready.setXss 0).isOk = true := by decide +kernel

theorem witness_ChecksComeFirst :
    operandsOf (.addps (rr .legacy .np 0x58 false 0)) = some (rr .legacy .np 0x58 false 0) ∧
    State.reset.gate Rows.addps (rr .legacy .np 0x58 false 0) = .error { exc := .ud } ∧
    { ready with cr0 := 8 }.gate Rows.addps (rr .legacy .np 0x58 false 0) = .error { exc := .nm } := by decide +kernel

theorem witness_EnablingConditions :
    (Rows.vaddps.find? fun r => r.accepts (rr .evex .np 0x58 false 2)).any (fun r => r.space == .evex && r.cls != .page) =
      true ∧
    (Rows.vaddps.find? fun r => r.accepts (rr .vex .np 0x58 false 1)).any (fun r => r.space == .vex && r.cls != .page) =
      true ∧
    (Rows.kandw.find? fun r => r.accepts (rr .vex .np 0x41 false 1)).any (fun r => r.space == .vex && r.reg == .kreg) =
      true ∧
    (Rows.addps.find? fun r => r.accepts (rr .legacy .np 0x58 false 0)).any (fun r => r.space == .legacy) = true ∧
    fits ready Rows.vaddps (rr .evex .np 0x58 false 2) (fun _ => true) = true := by decide +kernel

theorem witness_ExceptionLeavesState :
    State.reset.event = none ∧ exec .pcommit .reset = .next (State.reset.raise { exc := .ud }) ∧
    (State.reset.raise { exc := .ud }).event = some (.trap { exc := .ud, pc := 0, addr := none, rf := false }) :=
  ⟨rfl, rfl, rfl⟩

/-- A state in which element 1 of a gather from the addresses in ZMM5 faults and element 0 does not. -/
def halfway : State :=
  { (ready.setK 1 3).setZ 5 (pack 32 16 fun j => BitVec.ofNat 32 (0x1000 * j)) with
    regions := [{ faulty 0x1000 (some (.pf 4)) none with onWrite := .replicate 4 (some (.pf 6)) }] }

theorem witness_gather_fault :
    (gatherTable.any fun e => let o := { rr .evex .p66 0x90 false 2 with aaa := 1, rm := .mem vsibAt5 }
      fits halfway e.rows o fun r =>
        decide (1 < r.vl o / max e.w e.n) && (halfway.k.get o.aaa).getLsbD 1 && (halfway.k.get o.aaa).getLsbD 0 &&
        (halfway.readMem .ds (halfway.vsibAddr vsibAt5 e.n 1) (List.range (e.w / 8)) 1 0 ==
          .error { exc := .pf 4, addr := some 0x1000 }) &&
        (halfway.readMem .ds (halfway.vsibAddr vsibAt5 e.n 0) (List.range (e.w / 8)) 1 0).isOk) = true := by decide +kernel

theorem witness_scatter_fault :
    (scatterTable.any fun e => let o := { rr .evex .p66 0xA0 false 2 with aaa := 1, rm := .mem vsibAt5 }
      fits halfway e.rows o fun r =>
        decide (1 < r.vl o / max e.w e.n) && (halfway.k.get o.aaa).getLsbD 1 && (halfway.k.get o.aaa).getLsbD 0 &&
        halfway.mem.wf &&
        (halfway.checkMem .write .ds (halfway.vsibAddr vsibAt5 e.n 1) (List.range (e.w / 8)) 1 0 ==
          .error { exc := .pf 6, addr := some 0x1000 }) &&
        (match halfway.checkMem .write .ds (halfway.vsibAddr vsibAt5 e.n 0) (List.range (e.w / 8)) 1 0 with
          | .ok ps => decide ((ps.map (·.2)).Nodup)
          | .error _ => false)) = true := by decide +kernel

theorem witness_SystemStateKept :
    ready.event = none ∧ (∃ t, exec .cpuid ready = .next t) ∧ operandsOf .cpuid = none ∧
    (operandsOf (.vaddps (rr .evex .np 0x58 false 2))).all (·.isReg) = true := ⟨rfl, ⟨_, rfl⟩, rfl, rfl⟩

theorem witness_LoadAfterStore :
    ready.mem.wf = true ∧
    ready.checkMem .write .ds 0xFFFF [0, 1] 1 0 = .ok [(0, 0xFFFF), (1, 0x10000)] ∧
    ([(0, 0xFFFF), (1, 0x10000)].map (·.2)).Nodup ∧
    (ready.writeMem false .ds 0xFFFF [0, 1] 1 0 0xABCD) = .ok (ready.storeBytes false 0xABCD [(0, 0xFFFF), (1, 0x10000)]) ∧
    ((ready.storeBytes false 0xABCD [(0, 0xFFFF), (1, 0x10000)]).readMem .ds 0xFFFF [0, 1] 1 0).isOk = true := by
  decide +kernel

theorem witness_OperandRead :
    64 ≤ 64 ∧ ready.mode = .long64 ∧ ready.regions = [] ∧
    (∀ i < 64, canonical (linAddrBits ready.cpu) (ready.segBase .ds + 0x7FC0 + BitVec.ofNat 64 i) = true) ∧
    (ready.readMem .ds 0x7FC0 (List.range 64) 1 0).isOk = true ∧
    (let s := { ready with regions := [faulty 0x1000 none none] };
      s.regions[0]? = some (faulty 0x1000 none none) ∧
        (s.marked [0x1000]).regions[0]? = some { faulty 0x1000 none none with accessed := true }) := by decide +kernel

/-- The memory operand at [RAX] has to be aligned and is not. -/
def misaligned (s : State) (o : Operands) (r : Row) : Bool :=
  !r.broadcasts o && r.aligned && (s.segBase .ds + s.ea atRax).toNat % (r.vl o / 8) != 0

/-- RAX holds an address that is a multiple of 8 only. -/
def offBy8 : State := { ready with gpr := Vector.replicate 16 0x1008 }

theorem witness_MisalignedOperand :
    (lanewiseTable.any fun e => let o := rm .legacy .p66 0xFE false 0; fits offBy8 e.rows o (misaligned offBy8 o)) = true ∧
    (twoSourceTable.any fun e => let o := rm .legacy .p66 0x6B false 0; fits offBy8 e.rows o (misaligned offBy8 o)) = true ∧
    (oneSourceTable.any fun e => let o := rm .legacy .p66 0x70 false 0; fits offBy8 e.rows o (misaligned offBy8 o)) = true ∧
    (comparingTable.any fun e => let o := rm .legacy .p66 0x76 false 0; fits offBy8 e.rows o (misaligned offBy8 o)) = true ∧
    (uniformShiftTable.any fun e => let o := rm .legacy .p66 0xD2 false 0
      fits offBy8 e.rows o (misaligned offBy8 o)) = true ∧
    (moveFullTable.any fun e => let o := rm .legacy .np 0x28 false 0; fits offBy8 e.rows o (misaligned offBy8 o)) = true ∧
    (moveFullTable.any fun e => let o := rm .evex .np 0x29 false 2; fits offBy8 e.rows o (misaligned offBy8 o)) = true ∧
    (fpPackedTable.any fun e => let o := rm .legacy .p66 0x58 false 0; fits offBy8 e.rows o (misaligned offBy8 o)) = true ∧
    (fpConvertTable.any fun e => let o := rm .legacy .np 0x5B false 0; fits offBy8 e.rows o (misaligned offBy8 o)) = true ∧
    (fpCompareVecTable.any fun e => let o := rm .legacy .np 0xC2 false 0
      fits offBy8 e.rows o (misaligned offBy8 o)) = true ∧
    (shaTable.any fun e => let o := rm .legacy .np 0xC9 false 0; fits offBy8 e.rows o (misaligned offBy8 o)) = true := by
  decide +kernel

/-- Faults are suppressed, [RAX] is aligned if it has to be, and the first `n` elements are masked off. -/
def darkened (n : Nat) (o : Operands) (r : Row) : Bool :=
  r.cls.suppress && (!r.aligned || (ready.segBase .ds + ready.ea atRax).toNat % (r.vl o / 8) == 0) &&
    (List.range n).all fun j => !(ready.writemask o).getLsbD j

/-- An EVEX form with a memory operand at [RAX] under k1, which is zero after reset. -/
def masked (pp : Pfx) (op : BitVec 8) : Operands := { rm .evex pp op false 2 with aaa := 1 }

theorem witness_FaultSuppression :
    (lanewiseTable.any fun e => let o := masked .p66 0xFE; fits ready e.rows o fun r => darkened (r.count o e.w) o r) = true ∧
    (oneSourceTable.any fun e => let o := masked .p66 0x1E; fits ready e.rows o fun r => darkened (r.count o e.w) o r) = true ∧
    (threeSourceTable.any fun e => let o := masked .p66 0x25
      fits ready e.rows o fun r => darkened (r.count o e.w) o r) = true ∧
    (broadcastTable.any fun e => let o := masked .p66 0x18; fits ready e.rows o fun r => darkened (r.count o e.w) o r) = true ∧
    (conflictsTable.any fun e => let o := masked .p66 0xC4; fits ready e.rows o fun r => darkened (r.count o e.w) o r) = true ∧
    (expandTable.any fun e => let o := masked .p66 0x88; fits ready e.rows o fun r => darkened (r.count o e.w) o r) = true ∧
    (wideningTable.any fun e => let o := masked .p66 0x20
      fits ready e.rows o fun r => darkened (r.count o (max e.v e.w)) o r) = true ∧
    (blendTable.any fun e => let o := masked .p66 0x65; fits ready e.rows o fun r => darkened (r.count o e.w) o r) = true ∧
    (uniformShiftTable.any fun e => let o := masked .p66 0x72
      fits ready e.rows o fun r => darkened (r.count o e.w) o r) = true ∧
    (comparingTable.any fun e => let o := masked .p66 0x76
      fits ready e.rows o fun r => r.reg == .kreg && darkened (r.count o e.w) o r) = true ∧
    (moveFullTable.any fun e => let o := masked .np 0x28
      fits ready e.rows o fun r => !r.memDst && r.aligned && darkened (r.count o e.w) o r) = true ∧
    (moveFullTable.any fun e => let o := masked .np 0x11
      fits ready e.rows o fun r => r.memDst && darkened (r.count o e.w) o r) = true ∧
    (moveScalarTable.any fun e => let o := masked .pF3 0x10; fits ready e.rows o fun r => !r.memDst && darkened 1 o r) = true ∧
    (moveScalarTable.any fun e => let o := masked .pF3 0x11; fits ready e.rows o fun r => r.memDst && darkened 1 o r) = true ∧
    (narrowingTable.any fun e => let o := masked .pF3 0x32; fits ready e.rows o fun r => darkened (r.count o e.v) o r) = true ∧
    (compressTable.any fun e => let o := masked .p66 0x8A; fits ready e.rows o fun r => darkened (r.count o e.w) o r) = true := by
  decide +kernel

theorem witness_FaultSuppression_fp :
    (fpPackedTable.any fun e => let o := masked .np 0x58; fits ready e.rows o fun r => darkened (r.count o e.w) o r) = true ∧
    (fpConvertTable.any fun e => let o := masked .np 0x5B
      fits ready e.rows o fun r => darkened (r.count o (max e.v e.w)) o r) = true ∧
    (fmaVecTable.any fun e => let o := masked .p66 0x98; fits ready e.rows o fun r => darkened (r.count o e.w) o r) = true ∧
    (fixupVecTable.any fun e => let o := masked .p66 0x54; fits ready e.rows o fun r => darkened (r.count o e.w) o r) = true ∧
    (fpCompareVecTable.any fun e => let o := masked .np 0xC2
      fits ready e.rows o fun r => r.reg == .kreg && darkened (r.count o e.w) o r) = true ∧
    (fpClassTable.any fun e => let o := masked .p66 0x66
      fits ready e.rows o fun r => darkened (if e.flag then 1 else r.count o e.w) o r) = true ∧
    (fpScalarTable.any fun e => let o := masked .pF3 0x58; fits ready e.rows o (darkened 1 o)) = true ∧
    (fpConvertScalarTable.any fun e => let o := masked .pF3 0x5A; fits ready e.rows o (darkened 1 o)) = true ∧
    (approxScalarTable.any fun e => let o := masked .p66 0x4D; fits ready e.rows o (darkened 1 o)) = true ∧
    (fmaScalarTable.any fun e => let o := masked .p66 0x99; fits ready e.rows o (darkened 1 o)) = true ∧
    (fixupScalarTable.any fun e => let o := masked .p66 0x55; fits ready e.rows o (darkened 1 o)) = true ∧
    (fpCompareScalarTable.any fun e => let o := masked .pF3 0xC2
      fits ready e.rows o fun r => r.reg == .kreg && darkened 1 o r) = true ∧
    (cvtToHalfTable.any fun e => let o := masked .p66 0x1D; fits ready e.rows o fun r => darkened (r.count o 32) o r) = true := by
  decide +kernel

theorem witness_MaskedStores :
    (moveFullTable.any fun e => let o := { rm .evex .np 0x11 false 2 with aaa := 1 }
      fits ready e.rows o fun r => r.memDst && ready.mem.wf &&
        match ready.storeTargets r o atRax e.w (r.count o e.w) with
        | .ok ps => decide ((ps.map (·.2)).Nodup)
        | .error _ => false) = true ∧
    (narrowingTable.any fun e => let o := { rm .evex .pF3 0x32 false 2 with aaa := 1 }
      fits ready e.rows o fun r =>
        match ready.storeTargets r o atRax e.w (r.count o e.v) with
        | .ok ps => decide ((ps.map (·.2)).Nodup)
        | .error _ => false) = true ∧
    (extractBlockTable.any fun e => let o := { rm .evex .p66 0x19 false 2 with aaa := 1 }
      fits ready e.rows o fun r =>
        match ready.storeTargets r o atRax e.w (e.n / e.w) with
        | .ok ps => decide ((ps.map (·.2)).Nodup)
        | .error _ => false) = true ∧
    (moveScalarTable.any fun e => let o := { rm .evex .pF3 0x11 false 0 with aaa := 1 }
      fits ready e.rows o fun r => r.memDst &&
        match ready.storeTargets r o atRax e.w 1 with
        | .ok ps => decide ((ps.map (·.2)).Nodup)
        | .error _ => false) = true ∧
    (cvtToHalfTable.any fun e => let o := { rm .evex .p66 0x1D false 2 with aaa := 1 }
      fits ready e.rows o fun r =>
        (ready.checkMem .write .ds (ready.ea atRax) (elemOffs 16 (r.count o 32) (ready.accessMask r o)) 1
          (r.acArg (2 * r.count o 32))).isOk) = true ∧
    (let o := { rm .evex .np 0x11 false 2 with aaa := 1, z := true };
      operandsOf (.vmovups o) = some o ∧ o.rm = .mem atRax ∧ o.z = true ∧
        ∀ r ∈ Rows.vmovups, r.accepts o = true → r.memDst = true) := by decide +kernel

theorem witness_NormalRoundsToItself :
    f64.expField 0x0010000000000000 ≠ 0 ∧ f64.expField 0x0010000000000000 ≠ f64.maxExp ∧
    f32.expField 0x7F7FFFFF ≠ 0 ∧ f32.expField 0x7F7FFFFF ≠ f32.maxExp := by decide +kernel

theorem witness_DecodeEncode : wellFormed (.vaddps (rr .evex .np 0x58 false 2)) = true := test_wf_accepts

theorem witness_StepRunsDecoded :
    ready.event = none ∧ ready.modeExists = true ∧ decode (ready.placeBytes 0 [0x0F, 0xA2]).decodeMode (ready.placeBytes 0 [0x0F, 0xA2]).fetch.1 =
      .ok (.cpuid, 2) := by decide +kernel

theorem witness_RejectedBytes :
    ready.modeExists = true ∧
    (let s := { ready with cpu := { ready.cpu with entries := [] } };
      s.event = none ∧ s.mode = .long64 ∧ hasIntel64 s.cpu = false) ∧
    (let s := ready.placeBytes 0 [0xF0, 0x0F, 0xA2];
      s.event = none ∧ decode s.decodeMode s.fetch.1 = .error .ud) ∧
    (let s := { ready with regions := [faulty 0 none (some (.pf 0x10))] };
      s.event = none ∧ decode s.decodeMode s.fetch.1 = .error .more ∧ s.fetch.2.isSome = true) ∧
    (let s := ready.placeBytes 0 (List.replicate 15 0x66);
      s.event = none ∧ decode s.decodeMode s.fetch.1 = .error .more ∧ s.fetch.2 = none) ∧
    (decode ready.decodeMode ready.fetch.1 = .error .unknown) ∧
    (let s := ready.placeBytes 0 [0x0F, 0x0D, 0x00];
      decode s.decodeMode s.fetch.1 = .error .unpredictable) := by decide +kernel

theorem witness_FaultsOnlyWhenTrapped :
    step (ready.raise { exc := .ud }) = .fault (.trapped (.trap { exc := .ud, pc := 0, addr := none, rf := false })) := rfl

theorem witness_StepKeepsInvariant : ready.Inv ∧ ∃ t, step (ready.placeBytes 0 [0x0F, 0xA2]) = .next t := by
  refine ⟨⟨rfl, rfl, rfl, by decide +kernel⟩, ?_⟩
  have h : (match step (ready.placeBytes 0 [0x0F, 0xA2]) with
    | .next _ => true
    | _ => false) = true := by decide +kernel
  split at h
  · next t ht => exact ⟨t, ht⟩
  all_goals cases h

theorem witness_ResetValues :
    operandsOf (.vaddps (rr .evex .np 0x58 false 2)) = some (rr .evex .np 0x58 false 2) ∧
    (rr .evex .np 0x58 false 2).space ≠ .legacy := by decide +kernel

/-! ### Decoding: a word of every instruction, its bits written out from the encoding of its row in spec/opcode_table.json
(the last row of the mnemonic): destination 1, second operand 2, third operand register 3 or memory at [RBX], a VSIB operand
with index register 5. -/

/-- The bytes of `w`, the first most significant, decode to instruction `m` with these operands. -/
def decodesTo (n w : Nat) (m : Mnemonic) (reg vvvv : Nat) : Bool :=
  match decodeFields .mode64 (bytesBig w n) with
  | .error _ => false
  | .ok d =>
    d.name == m && d.ops.reg.val == reg && d.ops.vvvv.val == vvvv && d.len == n &&
      (d.ops.rm == .reg 3 || d.ops.rm == .mem ⟨.ds, .a64, .gpr 3, none, 0, 0⟩ ||
        d.ops.rm == .mem ⟨.ds, .a64, .gpr 3, some 5, 0, 0⟩)

/-- Every word of a list decodes as it says: bytes, word, instruction, ModRM.reg, vvvv. -/
def allDecode (ws : List (Nat × Nat × Mnemonic × Nat × Nat)) : Bool :=
  ws.all fun x => decodesTo x.1 x.2.1 x.2.2.1 x.2.2.2.1 x.2.2.2.2

theorem test_words_cpuid_pcommit :
    decode .mode64 [0x0F, 0xA2] = .ok (.cpuid, 2) ∧ decode .mode64 [0x66, 0x0F, 0xAE, 0xF8] = .ok (.pcommit, 4) := by
  decide +kernel

theorem test_words_41 :
    allDecode (
    [(4, 0x660F58CB, .addpd, 1, 0), (6, 0x62F1ED4858CB, .vaddpd, 1, 2), (3, 0x0F58CB, .addps, 1, 0),
      (6, 0x62F16C4858CB, .vaddps, 1, 2), (4, 0xF20F58CB, .addsd, 1, 0), (6, 0x62F1EF0858CB, .vaddsd, 1, 2),
      (4, 0xF30F58CB, .addss, 1, 0), (6, 0x62F16E0858CB, .vaddss, 1, 2), (7, 0x62F36D4803CB01, .valignd, 1, 2),
      (7, 0x62F3ED4803CB01, .valignq, 1, 2), (6, 0x62F2ED4865CB, .vblendmpd, 1, 2),
      (6, 0x62F26D4865CB, .vblendmps, 1, 2), (6, 0x62F26D4866CB, .vpblendmb, 1, 2),
      (6, 0x62F2ED4866CB, .vpblendmw, 1, 2), (6, 0x62F26D4864CB, .vpblendmd, 1, 2),
      (6, 0x62F2ED4864CB, .vpblendmq, 1, 2), (4, 0x660F54CB, .andpd, 1, 0), (6, 0x62F1ED4854CB, .vandpd, 1, 2),
      (3, 0x0F54CB, .andps, 1, 0), (6, 0x62F16C4854CB, .vandps, 1, 2), (4, 0x660F55CB, .andnpd, 1, 0),
      (6, 0x62F1ED4855CB, .vandnpd, 1, 2), (3, 0x0F55CB, .andnps, 1, 0), (6, 0x62F16C4855CB, .vandnps, 1, 2),
      (6, 0x62F27D4818CB, .vbroadcastss, 1, 0), (6, 0x62F2FD4819CB, .vbroadcastsd, 1, 0),
      (5, 0xC4E27D1A0B, .vbroadcastf128, 1, 0), (6, 0x62F27D4819CB, .vbroadcastf32x2, 1, 0),
      (6, 0x62F27D481A0B, .vbroadcastf32x4, 1, 0), (6, 0x62F2FD481A0B, .vbroadcastf64x2, 1, 0)] ++
    [(6, 0x62F27D481B0B, .vbroadcastf32x8, 1, 0), (6, 0x62F2FD481B0B, .vbroadcastf64x4, 1, 0),
      (6, 0x62F27D4878CB, .vpbroadcastb, 1, 0), (6, 0x62F27D4879CB, .vpbroadcastw, 1, 0),
      (6, 0x62F27D4858CB, .vpbroadcastd, 1, 0), (6, 0x62F2FD4859CB, .vpbroadcastq, 1, 0),
      (6, 0x62F27D4859CB, .vbroadcasti32x2, 1, 0), (5, 0xC4E27D5A0B, .vbroadcasti128, 1, 0),
      (6, 0x62F27D485A0B, .vbroadcasti32x4, 1, 0), (6, 0x62F2FD485A0B, .vbroadcasti64x2, 1, 0),
      (6, 0x62F27D485B0B, .vbroadcasti32x8, 1, 0), (6, 0x62F2FD485B0B, .vbroadcasti64x4, 1, 0)]) = true := by
  decide +kernel

theorem test_words_42 :
    allDecode (
    [(5, 0x660FC2CB01, .cmppd, 1, 0), (7, 0x62F1ED48C2CB01, .vcmppd, 1, 2), (4, 0x0FC2CB01, .cmpps, 1, 0),
      (7, 0x62F16C48C2CB01, .vcmpps, 1, 2), (5, 0xF20FC2CB01, .cmpsd, 1, 0), (7, 0x62F1EF08C2CB01, .vcmpsd, 1, 2),
      (5, 0xF30FC2CB01, .cmpss, 1, 0), (7, 0x62F16E08C2CB01, .vcmpss, 1, 2), (4, 0x660F2FCB, .comisd, 1, 0),
      (6, 0x62F1FD082FCB, .vcomisd, 1, 0), (3, 0x0F2FCB, .comiss, 1, 0), (6, 0x62F17C082FCB, .vcomiss, 1, 0),
      (4, 0x660F5ECB, .divpd, 1, 0), (6, 0x62F1ED485ECB, .vdivpd, 1, 2), (3, 0x0F5ECB, .divps, 1, 0),
      (6, 0x62F16C485ECB, .vdivps, 1, 2), (4, 0xF20F5ECB, .divsd, 1, 0), (6, 0x62F1EF085ECB, .vdivsd, 1, 2),
      (4, 0xF30F5ECB, .divss, 1, 0), (6, 0x62F16E085ECB, .vdivss, 1, 2), (6, 0x62F2FD488ACB, .vcompresspd, 1, 0),
      (6, 0x62F27D488ACB, .vcompressps, 1, 0)]) = true := by
  decide +kernel

theorem test_words_43 :
    allDecode (
    [(4, 0xF30FE6CB, .cvtdq2pd, 1, 0), (6, 0x62F17E48E6CB, .vcvtdq2pd, 1, 0), (3, 0x0F5BCB, .cvtdq2ps, 1, 0),
      (6, 0x62F17C485BCB, .vcvtdq2ps, 1, 0), (4, 0xF20FE6CB, .cvtpd2dq, 1, 0), (6, 0x62F1FF48E6CB, .vcvtpd2dq, 1, 0),
      (4, 0x660F5ACB, .cvtpd2ps, 1, 0), (6, 0x62F1FD485ACB, .vcvtpd2ps, 1, 0), (6, 0x62F1FD487BCB, .vcvtpd2qq, 1, 0),
      (6, 0x62F1FC4879CB, .vcvtpd2udq, 1, 0), (6, 0x62F1FD4879CB, .vcvtpd2uqq, 1, 0),
      (6, 0x62F27D4813CB, .vcvtph2ps, 1, 0), (7, 0x62F37D481DCB01, .vcvtps2ph, 1, 0), (4, 0x660F5BCB, .cvtps2dq, 1, 0),
      (6, 0x62F17D485BCB, .vcvtps2dq, 1, 0), (6, 0x62F17C4879CB, .vcvtps2udq, 1, 0),
      (6, 0x62F17D487BCB, .vcvtps2qq, 1, 0), (6, 0x62F17D4879CB, .vcvtps2uqq, 1, 0), (3, 0x0F5ACB, .cvtps2pd, 1, 0),
      (6, 0x62F17C485ACB, .vcvtps2pd, 1, 0), (6, 0x62F1FE48E6CB, .vcvtqq2pd, 1, 0),
      (6, 0x62F1FC485BCB, .vcvtqq2ps, 1, 0), (5, 0xF2480F2DCB, .cvtsd2si, 1, 0), (6, 0x62F1FF082DCB, .vcvtsd2si, 1, 0),
      (6, 0x62F1FF0879CB, .vcvtsd2usi, 1, 0), (4, 0xF20F5ACB, .cvtsd2ss, 1, 0), (6, 0x62F1EF085ACB, .vcvtsd2ss, 1, 2),
      (5, 0xF2480F2ACB, .cvtsi2sd, 1, 0), (6, 0x62F1EF082ACB, .vcvtsi2sd, 1, 2), (5, 0xF3480F2ACB, .cvtsi2ss, 1, 0)] ++
    [(6, 0x62F1EE082ACB, .vcvtsi2ss, 1, 2), (4, 0xF30F5ACB, .cvtss2sd, 1, 0), (6, 0x62F16E085ACB, .vcvtss2sd, 1, 2),
      (5, 0xF3480F2DCB, .cvtss2si, 1, 0), (6, 0x62F1FE082DCB, .vcvtss2si, 1, 0), (6, 0x62F1FE0879CB, .vcvtss2usi, 1, 0)]) = true := by
  decide +kernel

theorem test_words_44 :
    allDecode (
    [(4, 0x660FE6CB, .cvttpd2dq, 1, 0), (6, 0x62F1FD48E6CB, .vcvttpd2dq, 1, 0), (6, 0x62F1FD487ACB, .vcvttpd2qq, 1, 0),
      (6, 0x62F1FC4878CB, .vcvttpd2udq, 1, 0), (6, 0x62F1FD4878CB, .vcvttpd2uqq, 1, 0),
      (4, 0xF30F5BCB, .cvttps2dq, 1, 0), (6, 0x62F17E485BCB, .vcvttps2dq, 1, 0), (6, 0x62F17C4878CB, .vcvttps2udq, 1, 0),
      (6, 0x62F17D487ACB, .vcvttps2qq, 1, 0), (6, 0x62F17D4878CB, .vcvttps2uqq, 1, 0),
      (5, 0xF2480F2CCB, .cvttsd2si, 1, 0), (6, 0x62F1FF082CCB, .vcvttsd2si, 1, 0),
      (6, 0x62F1FF0878CB, .vcvttsd2usi, 1, 0), (5, 0xF3480F2CCB, .cvttss2si, 1, 0),
      (6, 0x62F1FE082CCB, .vcvttss2si, 1, 0), (6, 0x62F1FE0878CB, .vcvttss2usi, 1, 0),
      (6, 0x62F17E487ACB, .vcvtudq2pd, 1, 0), (6, 0x62F17F487ACB, .vcvtudq2ps, 1, 0),
      (6, 0x62F1FE487ACB, .vcvtuqq2pd, 1, 0), (6, 0x62F1FF487ACB, .vcvtuqq2ps, 1, 0),
      (6, 0x62F1EF087BCB, .vcvtusi2sd, 1, 2), (6, 0x62F1EE087BCB, .vcvtusi2ss, 1, 2),
      (7, 0x62F36D4842CB01, .vdbpsadbw, 1, 2), (6, 0x62F2FD4888CB, .vexpandpd, 1, 0),
      (6, 0x62F27D4888CB, .vexpandps, 1, 0), (6, 0xC4E37D19CB01, .vextractf128, 1, 0),
      (7, 0x62F37D2819CB01, .vextractf32x4, 1, 0), (7, 0x62F37D4819CB01, .vextractf32x4z, 1, 0),
      (7, 0x62F3FD4819CB01, .vextractf64x2, 1, 0), (7, 0x62F37D481BCB01, .vextractf32x8, 1, 0)] ++
    [(7, 0x62F3FD481BCB01, .vextractf64x4z, 1, 0), (6, 0xC4E37D39CB01, .vextracti128, 1, 0),
      (7, 0x62F37D2839CB01, .vextracti32x4, 1, 0), (7, 0x62F37D4839CB01, .vextracti32x4z, 1, 0),
      (7, 0x62F3FD4839CB01, .vextracti64x2, 1, 0), (7, 0x62F37D483BCB01, .vextracti32x8, 1, 0),
      (7, 0x62F3FD483BCB01, .vextracti64x4z, 1, 0), (6, 0x660F3A17CB01, .extractps, 1, 0),
      (7, 0x62F37D0817CB01, .vextractps, 1, 0), (7, 0x62F3ED4854CB01, .vfixupimmpd, 1, 2),
      (7, 0x62F36D4854CB01, .vfixupimmps, 1, 2), (7, 0x62F3ED0855CB01, .vfixupimmsd, 1, 2),
      (7, 0x62F36D0855CB01, .vfixupimmss, 1, 2)]) = true := by
  decide +kernel

theorem test_words_45 :
    allDecode (
    [(6, 0x62F2ED4898CB, .vfmadd132pd, 1, 2), (6, 0x62F2ED48A8CB, .vfmadd213pd, 1, 2),
      (6, 0x62F2ED48B8CB, .vfmadd231pd, 1, 2), (6, 0x62F26D4898CB, .vfmadd132ps, 1, 2),
      (6, 0x62F26D48A8CB, .vfmadd213ps, 1, 2), (6, 0x62F26D48B8CB, .vfmadd231ps, 1, 2),
      (6, 0x62F2ED0899CB, .vfmadd132sd, 1, 2), (6, 0x62F2ED08A9CB, .vfmadd213sd, 1, 2),
      (6, 0x62F2ED08B9CB, .vfmadd231sd, 1, 2), (6, 0x62F26D0899CB, .vfmadd132ss, 1, 2),
      (6, 0x62F26D08A9CB, .vfmadd213ss, 1, 2), (6, 0x62F26D08B9CB, .vfmadd231ss, 1, 2),
      (6, 0x62F2ED4896CB, .vfmaddsub132pd, 1, 2), (6, 0x62F2ED48A6CB, .vfmaddsub213pd, 1, 2),
      (6, 0x62F2ED48B6CB, .vfmaddsub231pd, 1, 2), (6, 0x62F26D4896CB, .vfmaddsub132ps, 1, 2),
      (6, 0x62F26D48A6CB, .vfmaddsub213ps, 1, 2), (6, 0x62F26D48B6CB, .vfmaddsub231ps, 1, 2),
      (6, 0x62F2ED4897CB, .vfmsubadd132pd, 1, 2), (6, 0x62F2ED48A7CB, .vfmsubadd213pd, 1, 2),
      (6, 0x62F2ED48B7CB, .vfmsubadd231pd, 1, 2), (6, 0x62F26D4897CB, .vfmsubadd132ps, 1, 2),
      (6, 0x62F26D48A7CB, .vfmsubadd213ps, 1, 2), (6, 0x62F26D48B7CB, .vfmsubadd231ps, 1, 2)]) = true := by
  decide +kernel

theorem test_words_46 :
    allDecode (
    [(6, 0x62F2ED489ACB, .vfmsub132pd, 1, 2), (6, 0x62F2ED48AACB, .vfmsub213pd, 1, 2),
      (6, 0x62F2ED48BACB, .vfmsub231pd, 1, 2), (6, 0x62F26D489ACB, .vfmsub132ps, 1, 2),
      (6, 0x62F26D48AACB, .vfmsub213ps, 1, 2), (6, 0x62F26D48BACB, .vfmsub231ps, 1, 2),
      (6, 0x62F2ED089BCB, .vfmsub132sd, 1, 2), (6, 0x62F2ED08ABCB, .vfmsub213sd, 1, 2),
      (6, 0x62F2ED08BBCB, .vfmsub231sd, 1, 2), (6, 0x62F26D089BCB, .vfmsub132ss, 1, 2),
      (6, 0x62F26D08ABCB, .vfmsub213ss, 1, 2), (6, 0x62F26D08BBCB, .vfmsub231ss, 1, 2),
      (6, 0x62F2ED489CCB, .vfnmadd132pd, 1, 2), (6, 0x62F2ED48ACCB, .vfnmadd213pd, 1, 2),
      (6, 0x62F2ED48BCCB, .vfnmadd231pd, 1, 2), (6, 0x62F26D489CCB, .vfnmadd132ps, 1, 2),
      (6, 0x62F26D48ACCB, .vfnmadd213ps, 1, 2), (6, 0x62F26D48BCCB, .vfnmadd231ps, 1, 2),
      (6, 0x62F2ED089DCB, .vfnmadd132sd, 1, 2), (6, 0x62F2ED08ADCB, .vfnmadd213sd, 1, 2),
      (6, 0x62F2ED08BDCB, .vfnmadd231sd, 1, 2), (6, 0x62F26D089DCB, .vfnmadd132ss, 1, 2),
      (6, 0x62F26D08ADCB, .vfnmadd213ss, 1, 2), (6, 0x62F26D08BDCB, .vfnmadd231ss, 1, 2),
      (6, 0x62F2ED489ECB, .vfnmsub132pd, 1, 2), (6, 0x62F2ED48AECB, .vfnmsub213pd, 1, 2),
      (6, 0x62F2ED48BECB, .vfnmsub231pd, 1, 2), (6, 0x62F26D489ECB, .vfnmsub132ps, 1, 2),
      (6, 0x62F26D48AECB, .vfnmsub213ps, 1, 2), (6, 0x62F26D48BECB, .vfnmsub231ps, 1, 2)] ++
    [(6, 0x62F2ED089FCB, .vfnmsub132sd, 1, 2), (6, 0x62F2ED08AFCB, .vfnmsub213sd, 1, 2),
      (6, 0x62F2ED08BFCB, .vfnmsub231sd, 1, 2), (6, 0x62F26D089FCB, .vfnmsub132ss, 1, 2),
      (6, 0x62F26D08AFCB, .vfnmsub213ss, 1, 2), (6, 0x62F26D08BFCB, .vfnmsub231ss, 1, 2)]) = true := by
  decide +kernel

theorem test_words_47 :
    allDecode (
    [(7, 0x62F3FD4866CB01, .vfpclasspd, 1, 0), (7, 0x62F37D4866CB01, .vfpclassps, 1, 0),
      (7, 0x62F3FD0867CB01, .vfpclasssd, 1, 0), (7, 0x62F37D0867CB01, .vfpclassss, 1, 0),
      (7, 0x62F27D49900C2B, .vpgatherdd, 1, 0), (7, 0x62F2FD49900C2B, .vpgatherdq, 1, 0),
      (7, 0x62F27D49910C2B, .vpgatherqd, 1, 0), (7, 0x62F2FD49910C2B, .vpgatherqq, 1, 0),
      (7, 0x62F27D49920C2B, .vgatherdps, 1, 0), (7, 0x62F2FD49920C2B, .vgatherdpd, 1, 0),
      (7, 0x62F27D49930C2B, .vgatherqps, 1, 0), (7, 0x62F2FD49930C2B, .vgatherqpd, 1, 0),
      (6, 0x62F2FD4842CB, .vgetexppd, 1, 0), (6, 0x62F27D4842CB, .vgetexpps, 1, 0),
      (6, 0x62F2ED0843CB, .vgetexpsd, 1, 2), (6, 0x62F26D0843CB, .vgetexpss, 1, 2),
      (7, 0x62F3FD4826CB01, .vgetmantpd, 1, 0), (7, 0x62F37D4826CB01, .vgetmantps, 1, 0),
      (7, 0x62F3ED0827CB01, .vgetmantsd, 1, 2), (7, 0x62F36D0827CB01, .vgetmantss, 1, 2),
      (6, 0xC4E36D18CB01, .vinsertf128, 1, 2), (7, 0x62F36D4818CB01, .vinsertf32x4, 1, 2),
      (7, 0x62F3ED4818CB01, .vinsertf64x2, 1, 2), (7, 0x62F36D481ACB01, .vinsertf32x8, 1, 2),
      (7, 0x62F3ED481ACB01, .vinsertf64x4, 1, 2), (6, 0xC4E36D38CB01, .vinserti128, 1, 2),
      (7, 0x62F36D4838CB01, .vinserti32x4, 1, 2), (7, 0x62F3ED4838CB01, .vinserti64x2, 1, 2),
      (7, 0x62F36D483ACB01, .vinserti32x8, 1, 2), (7, 0x62F3ED483ACB01, .vinserti64x4, 1, 2)] ++
    [(6, 0x660F3A21CB01, .insertps, 1, 0), (7, 0x62F36D0821CB01, .vinsertps, 1, 2)]) = true := by
  decide +kernel

theorem test_words_48 :
    allDecode (
    [(4, 0x660F5FCB, .maxpd, 1, 0), (6, 0x62F1ED485FCB, .vmaxpd, 1, 2), (3, 0x0F5FCB, .maxps, 1, 0),
      (6, 0x62F16C485FCB, .vmaxps, 1, 2), (4, 0xF20F5FCB, .maxsd, 1, 0), (6, 0x62F1EF085FCB, .vmaxsd, 1, 2),
      (4, 0xF30F5FCB, .maxss, 1, 0), (6, 0x62F16E085FCB, .vmaxss, 1, 2), (4, 0x660F5DCB, .minpd, 1, 0),
      (6, 0x62F1ED485DCB, .vminpd, 1, 2), (3, 0x0F5DCB, .minps, 1, 0), (6, 0x62F16C485DCB, .vminps, 1, 2),
      (4, 0xF20F5DCB, .minsd, 1, 0), (6, 0x62F1EF085DCB, .vminsd, 1, 2), (4, 0xF30F5DCB, .minss, 1, 0),
      (6, 0x62F16E085DCB, .vminss, 1, 2), (4, 0x660F29CB, .movapd, 1, 0), (6, 0x62F1FD4829CB, .vmovapd, 1, 0),
      (3, 0x0F29CB, .movaps, 1, 0), (6, 0x62F17C4829CB, .vmovaps, 1, 0), (4, 0x660F7ECB, .movd, 1, 0),
      (6, 0x62F17D087ECB, .vmovd, 1, 0), (4, 0x660FD6CB, .movq, 1, 0), (6, 0x62F1FD08D6CB, .vmovq, 1, 0),
      (4, 0xF20F12CB, .movddup, 1, 0), (6, 0x62F1FF4812CB, .vmovddup, 1, 0), (4, 0x660F7FCB, .movdqa, 1, 0),
      (5, 0xC4E17D7FCB, .vmovdqa, 1, 0), (6, 0x62F17D487FCB, .vmovdqa32, 1, 0), (6, 0x62F1FD487FCB, .vmovdqa64, 1, 0)] ++
    [(4, 0xF30F7FCB, .movdqu, 1, 0), (5, 0xC4E17E7FCB, .vmovdqu, 1, 0), (6, 0x62F17F487FCB, .vmovdqu8, 1, 0),
      (6, 0x62F1FF487FCB, .vmovdqu16, 1, 0), (6, 0x62F17E487FCB, .vmovdqu32, 1, 0),
      (6, 0x62F1FE487FCB, .vmovdqu64, 1, 0), (3, 0x0F12CB, .movhlps, 1, 0), (6, 0x62F16C0812CB, .vmovhlps, 1, 2),
      (4, 0x660F170B, .movhpd, 1, 0), (6, 0x62F1FD08170B, .vmovhpd, 1, 0), (3, 0x0F170B, .movhps, 1, 0),
      (6, 0x62F17C08170B, .vmovhps, 1, 0), (3, 0x0F16CB, .movlhps, 1, 0), (6, 0x62F16C0816CB, .vmovlhps, 1, 2),
      (4, 0x660F130B, .movlpd, 1, 0), (6, 0x62F1FD08130B, .vmovlpd, 1, 0), (3, 0x0F130B, .movlps, 1, 0),
      (6, 0x62F17C08130B, .vmovlps, 1, 0), (5, 0x660F382A0B, .movntdqa, 1, 0), (6, 0x62F27D482A0B, .vmovntdqa, 1, 0),
      (4, 0x660FE70B, .movntdq, 1, 0), (6, 0x62F17D48E70B, .vmovntdq, 1, 0), (4, 0x660F2B0B, .movntpd, 1, 0),
      (6, 0x62F1FD482B0B, .vmovntpd, 1, 0), (3, 0x0F2B0B, .movntps, 1, 0), (6, 0x62F17C482B0B, .vmovntps, 1, 0),
      (4, 0xF20F11CB, .movsd, 1, 0), (6, 0x62F1FF08110B, .vmovsd, 1, 0), (4, 0xF30F16CB, .movshdup, 1, 0),
      (6, 0x62F17E4816CB, .vmovshdup, 1, 0)] ++
    [(4, 0xF30F12CB, .movsldup, 1, 0), (6, 0x62F17E4812CB, .vmovsldup, 1, 0), (4, 0xF30F11CB, .movss, 1, 0),
      (6, 0x62F17E08110B, .vmovss, 1, 0), (4, 0x660F11CB, .movupd, 1, 0), (6, 0x62F1FD4811CB, .vmovupd, 1, 0),
      (3, 0x0F11CB, .movups, 1, 0), (6, 0x62F17C4811CB, .vmovups, 1, 0)]) = true := by
  decide +kernel

theorem test_words_49 :
    allDecode (
    [(4, 0x660FF6CB, .psadbw, 1, 0), (6, 0x62F16D48F6CB, .vpsadbw, 1, 2), (4, 0x660F59CB, .mulpd, 1, 0),
      (6, 0x62F1ED4859CB, .vmulpd, 1, 2), (3, 0x0F59CB, .mulps, 1, 0), (6, 0x62F16C4859CB, .vmulps, 1, 2),
      (4, 0xF20F59CB, .mulsd, 1, 0), (6, 0x62F1EF0859CB, .vmulsd, 1, 2), (4, 0xF30F59CB, .mulss, 1, 0),
      (6, 0x62F16E0859CB, .vmulss, 1, 2), (4, 0x660F56CB, .orpd, 1, 0), (6, 0x62F1ED4856CB, .vorpd, 1, 2),
      (3, 0x0F56CB, .orps, 1, 0), (6, 0x62F16C4856CB, .vorps, 1, 2), (5, 0x660F381CCB, .pabsb, 1, 0),
      (6, 0x62F27D481CCB, .vpabsb, 1, 0), (5, 0x660F381DCB, .pabsw, 1, 0), (6, 0x62F27D481DCB, .vpabsw, 1, 0),
      (5, 0x660F381ECB, .pabsd, 1, 0), (6, 0x62F27D481ECB, .vpabsd, 1, 0), (6, 0x62F2FD481FCB, .vpabsq, 1, 0),
      (4, 0x660F63CB, .packsswb, 1, 0), (6, 0x62F16D4863CB, .vpacksswb, 1, 2), (4, 0x660F6BCB, .packssdw, 1, 0),
      (6, 0x62F16D486BCB, .vpackssdw, 1, 2), (5, 0x660F382BCB, .packusdw, 1, 0), (6, 0x62F26D482BCB, .vpackusdw, 1, 2),
      (4, 0x660F67CB, .packuswb, 1, 0), (6, 0x62F16D4867CB, .vpackuswb, 1, 2), (4, 0x660FFCCB, .paddb, 1, 0)] ++
    [(6, 0x62F16D48FCCB, .vpaddb, 1, 2), (4, 0x660FFDCB, .paddw, 1, 0), (6, 0x62F16D48FDCB, .vpaddw, 1, 2),
      (4, 0x660FFECB, .paddd, 1, 0), (6, 0x62F16D48FECB, .vpaddd, 1, 2), (4, 0x660FD4CB, .paddq, 1, 0),
      (6, 0x62F1ED48D4CB, .vpaddq, 1, 2), (4, 0x660FECCB, .paddsb, 1, 0), (6, 0x62F16D48ECCB, .vpaddsb, 1, 2),
      (4, 0x660FEDCB, .paddsw, 1, 0), (6, 0x62F16D48EDCB, .vpaddsw, 1, 2), (4, 0x660FDCCB, .paddusb, 1, 0),
      (6, 0x62F16D48DCCB, .vpaddusb, 1, 2), (4, 0x660FDDCB, .paddusw, 1, 0), (6, 0x62F16D48DDCB, .vpaddusw, 1, 2),
      (6, 0x660F3A0FCB01, .palignr, 1, 0), (7, 0x62F36D480FCB01, .vpalignr, 1, 2), (4, 0x660FDBCB, .pand, 1, 0),
      (5, 0xC4E16DDBCB, .vpand, 1, 2), (6, 0x62F16D48DBCB, .vpandd, 1, 2), (6, 0x62F1ED48DBCB, .vpandq, 1, 2),
      (4, 0x660FDFCB, .pandn, 1, 0), (5, 0xC4E16DDFCB, .vpandn, 1, 2), (6, 0x62F16D48DFCB, .vpandnd, 1, 2),
      (6, 0x62F1ED48DFCB, .vpandnq, 1, 2), (4, 0x660FE0CB, .pavgb, 1, 0), (6, 0x62F16D48E0CB, .vpavgb, 1, 2),
      (4, 0x660FE3CB, .pavgw, 1, 0), (6, 0x62F16D48E3CB, .vpavgw, 1, 2), (6, 0x62F2FE482ACB, .vpbroadcastmb2q, 1, 0)] ++
    [(6, 0x62F27E483ACB, .vpbroadcastmw2d, 1, 0), (4, 0x660F74CB, .pcmpeqb, 1, 0), (6, 0x62F16D4874CB, .vpcmpeqb, 1, 2),
      (4, 0x660F75CB, .pcmpeqw, 1, 0), (6, 0x62F16D4875CB, .vpcmpeqw, 1, 2), (4, 0x660F76CB, .pcmpeqd, 1, 0),
      (6, 0x62F16D4876CB, .vpcmpeqd, 1, 2), (5, 0x660F3829CB, .pcmpeqq, 1, 0), (6, 0x62F2ED4829CB, .vpcmpeqq, 1, 2),
      (4, 0x660F64CB, .pcmpgtb, 1, 0), (6, 0x62F16D4864CB, .vpcmpgtb, 1, 2), (4, 0x660F65CB, .pcmpgtw, 1, 0),
      (6, 0x62F16D4865CB, .vpcmpgtw, 1, 2), (4, 0x660F66CB, .pcmpgtd, 1, 0), (6, 0x62F16D4866CB, .vpcmpgtd, 1, 2),
      (5, 0x660F3837CB, .pcmpgtq, 1, 0), (6, 0x62F2ED4837CB, .vpcmpgtq, 1, 2), (7, 0x62F36D483FCB01, .vpcmpb, 1, 2),
      (7, 0x62F36D483ECB01, .vpcmpub, 1, 2), (7, 0x62F36D481FCB01, .vpcmpd, 1, 2), (7, 0x62F36D481ECB01, .vpcmpud, 1, 2),
      (7, 0x62F3ED481FCB01, .vpcmpq, 1, 2), (7, 0x62F3ED481ECB01, .vpcmpuq, 1, 2), (7, 0x62F3ED483FCB01, .vpcmpw, 1, 2),
      (7, 0x62F3ED483ECB01, .vpcmpuw, 1, 2), (6, 0x62F27D488BCB, .vpcompressd, 1, 0),
      (6, 0x62F2FD488BCB, .vpcompressq, 1, 0), (6, 0x62F27D48C4CB, .vpconflictd, 1, 0),
      (6, 0x62F2FD48C4CB, .vpconflictq, 1, 0)]) = true := by
  decide +kernel

theorem test_words_50 :
    allDecode (
    [(6, 0x62F26D488DCB, .vpermb, 1, 2), (6, 0x62F26D4836CB, .vpermd, 1, 2), (6, 0x62F2ED488DCB, .vpermw, 1, 2),
      (6, 0x62F26D4875CB, .vpermi2b, 1, 2), (6, 0x62F2ED4875CB, .vpermi2w, 1, 2), (6, 0x62F26D4876CB, .vpermi2d, 1, 2),
      (6, 0x62F2ED4876CB, .vpermi2q, 1, 2), (6, 0x62F26D4877CB, .vpermi2ps, 1, 2), (6, 0x62F2ED4877CB, .vpermi2pd, 1, 2),
      (6, 0x62F26D487DCB, .vpermt2b, 1, 2), (6, 0x62F2ED487DCB, .vpermt2w, 1, 2), (6, 0x62F26D487ECB, .vpermt2d, 1, 2),
      (6, 0x62F2ED487ECB, .vpermt2q, 1, 2), (6, 0x62F26D487FCB, .vpermt2ps, 1, 2), (6, 0x62F2ED487FCB, .vpermt2pd, 1, 2),
      (7, 0x62F3FD4805CB01, .vpermilpd, 1, 0), (7, 0x62F37D4804CB01, .vpermilps, 1, 0),
      (6, 0x62F2ED4816CB, .vpermpd, 1, 2), (6, 0x62F26D4816CB, .vpermps, 1, 2), (6, 0x62F2ED4836CB, .vpermq, 1, 2),
      (6, 0x62F27D4889CB, .vpexpandd, 1, 0), (6, 0x62F2FD4889CB, .vpexpandq, 1, 0), (6, 0x660F3A14CB01, .pextrb, 1, 0),
      (7, 0x62F37D0814CB01, .vpextrb, 1, 0), (6, 0x660F3A15CB01, .pextrw, 1, 0), (7, 0x62F37D0815CB01, .vpextrw, 1, 0),
      (6, 0x660F3A16CB01, .pextrd, 1, 0), (7, 0x62F37D0816CB01, .vpextrd, 1, 0), (7, 0x66480F3A16CB01, .pextrq, 1, 0),
      (7, 0x62F3FD0816CB01, .vpextrq, 1, 0)] ++
    [(6, 0x62F27D4844CB, .vplzcntd, 1, 0), (6, 0x62F2FD4844CB, .vplzcntq, 1, 0), (5, 0x660F3804CB, .pmaddubsw, 1, 0),
      (6, 0x62F26D4804CB, .vpmaddubsw, 1, 2), (4, 0x660FF5CB, .pmaddwd, 1, 0), (6, 0x62F16D48F5CB, .vpmaddwd, 1, 2),
      (6, 0x660F3A20CB01, .pinsrb, 1, 0), (7, 0x62F36D0820CB01, .vpinsrb, 1, 2), (5, 0x660FC4CB01, .pinsrw, 1, 0),
      (7, 0x62F16D08C4CB01, .vpinsrw, 1, 2), (6, 0x660F3A22CB01, .pinsrd, 1, 0), (7, 0x62F36D0822CB01, .vpinsrd, 1, 2),
      (7, 0x66480F3A22CB01, .pinsrq, 1, 0), (7, 0x62F3ED0822CB01, .vpinsrq, 1, 2),
      (6, 0x62F2ED48B4CB, .vpmadd52luq, 1, 2), (6, 0x62F2ED48B5CB, .vpmadd52huq, 1, 2), (5, 0x660F383CCB, .pmaxsb, 1, 0),
      (6, 0x62F26D483CCB, .vpmaxsb, 1, 2), (4, 0x660FEECB, .pmaxsw, 1, 0), (6, 0x62F16D48EECB, .vpmaxsw, 1, 2),
      (5, 0x660F383DCB, .pmaxsd, 1, 0), (6, 0x62F26D483DCB, .vpmaxsd, 1, 2), (6, 0x62F2ED483DCB, .vpmaxsq, 1, 2),
      (4, 0x660FDECB, .pmaxub, 1, 0), (6, 0x62F16D48DECB, .vpmaxub, 1, 2), (5, 0x660F383ECB, .pmaxuw, 1, 0),
      (6, 0x62F26D483ECB, .vpmaxuw, 1, 2), (5, 0x660F383FCB, .pmaxud, 1, 0), (6, 0x62F26D483FCB, .vpmaxud, 1, 2),
      (6, 0x62F2ED483FCB, .vpmaxuq, 1, 2)] ++
    [(5, 0x660F3838CB, .pminsb, 1, 0), (6, 0x62F26D4838CB, .vpminsb, 1, 2), (4, 0x660FEACB, .pminsw, 1, 0),
      (6, 0x62F16D48EACB, .vpminsw, 1, 2), (5, 0x660F3839CB, .pminsd, 1, 0), (6, 0x62F26D4839CB, .vpminsd, 1, 2),
      (6, 0x62F2ED4839CB, .vpminsq, 1, 2), (4, 0x660FDACB, .pminub, 1, 0), (6, 0x62F16D48DACB, .vpminub, 1, 2),
      (5, 0x660F383ACB, .pminuw, 1, 0), (6, 0x62F26D483ACB, .vpminuw, 1, 2), (5, 0x660F383BCB, .pminud, 1, 0),
      (6, 0x62F26D483BCB, .vpminud, 1, 2), (6, 0x62F2ED483BCB, .vpminuq, 1, 2)]) = true := by
  decide +kernel

theorem test_words_51 :
    allDecode (
    [(6, 0x62F27E4828CB, .vpmovm2b, 1, 0), (6, 0x62F2FE4828CB, .vpmovm2w, 1, 0), (6, 0x62F27E4838CB, .vpmovm2d, 1, 0),
      (6, 0x62F2FE4838CB, .vpmovm2q, 1, 0), (6, 0x62F27E4829CB, .vpmovb2m, 1, 0), (6, 0x62F2FE4829CB, .vpmovw2m, 1, 0),
      (6, 0x62F27E4839CB, .vpmovd2m, 1, 0), (6, 0x62F2FE4839CB, .vpmovq2m, 1, 0), (6, 0x62F27E4832CB, .vpmovqb, 1, 0),
      (6, 0x62F27E4822CB, .vpmovsqb, 1, 0), (6, 0x62F27E4812CB, .vpmovusqb, 1, 0), (6, 0x62F27E4834CB, .vpmovqw, 1, 0),
      (6, 0x62F27E4824CB, .vpmovsqw, 1, 0), (6, 0x62F27E4814CB, .vpmovusqw, 1, 0), (6, 0x62F27E4835CB, .vpmovqd, 1, 0),
      (6, 0x62F27E4825CB, .vpmovsqd, 1, 0), (6, 0x62F27E4815CB, .vpmovusqd, 1, 0), (6, 0x62F27E4831CB, .vpmovdb, 1, 0),
      (6, 0x62F27E4821CB, .vpmovsdb, 1, 0), (6, 0x62F27E4811CB, .vpmovusdb, 1, 0), (6, 0x62F27E4833CB, .vpmovdw, 1, 0),
      (6, 0x62F27E4823CB, .vpmovsdw, 1, 0), (6, 0x62F27E4813CB, .vpmovusdw, 1, 0), (6, 0x62F27E4830CB, .vpmovwb, 1, 0),
      (6, 0x62F27E4820CB, .vpmovswb, 1, 0), (6, 0x62F27E4810CB, .vpmovuswb, 1, 0), (5, 0x660F3820CB, .pmovsxbw, 1, 0),
      (6, 0x62F27D4820CB, .vpmovsxbw, 1, 0), (5, 0x660F3821CB, .pmovsxbd, 1, 0), (6, 0x62F27D4821CB, .vpmovsxbd, 1, 0)] ++
    [(5, 0x660F3822CB, .pmovsxbq, 1, 0), (6, 0x62F27D4822CB, .vpmovsxbq, 1, 0), (5, 0x660F3823CB, .pmovsxwd, 1, 0),
      (6, 0x62F27D4823CB, .vpmovsxwd, 1, 0), (5, 0x660F3824CB, .pmovsxwq, 1, 0), (6, 0x62F27D4824CB, .vpmovsxwq, 1, 0),
      (5, 0x660F3825CB, .pmovsxdq, 1, 0), (6, 0x62F27D4825CB, .vpmovsxdq, 1, 0), (5, 0x660F3830CB, .pmovzxbw, 1, 0),
      (6, 0x62F27D4830CB, .vpmovzxbw, 1, 0), (5, 0x660F3831CB, .pmovzxbd, 1, 0), (6, 0x62F27D4831CB, .vpmovzxbd, 1, 0),
      (5, 0x660F3832CB, .pmovzxbq, 1, 0), (6, 0x62F27D4832CB, .vpmovzxbq, 1, 0), (5, 0x660F3833CB, .pmovzxwd, 1, 0),
      (6, 0x62F27D4833CB, .vpmovzxwd, 1, 0), (5, 0x660F3834CB, .pmovzxwq, 1, 0), (6, 0x62F27D4834CB, .vpmovzxwq, 1, 0),
      (5, 0x660F3835CB, .pmovzxdq, 1, 0), (6, 0x62F27D4835CB, .vpmovzxdq, 1, 0)]) = true := by
  decide +kernel

theorem test_words_52 :
    allDecode (
    [(5, 0x660F3828CB, .pmuldq, 1, 0), (6, 0x62F2ED4828CB, .vpmuldq, 1, 2), (5, 0x660F380BCB, .pmulhrsw, 1, 0),
      (6, 0x62F26D480BCB, .vpmulhrsw, 1, 2), (4, 0x660FE4CB, .pmulhuw, 1, 0), (6, 0x62F16D48E4CB, .vpmulhuw, 1, 2),
      (4, 0x660FE5CB, .pmulhw, 1, 0), (6, 0x62F16D48E5CB, .vpmulhw, 1, 2), (5, 0x660F3840CB, .pmulld, 1, 0),
      (6, 0x62F26D4840CB, .vpmulld, 1, 2), (6, 0x62F2ED4840CB, .vpmullq, 1, 2), (4, 0x660FD5CB, .pmullw, 1, 0),
      (6, 0x62F16D48D5CB, .vpmullw, 1, 2), (6, 0x62F2ED4883CB, .vpmultishiftqb, 1, 2), (4, 0x660FF4CB, .pmuludq, 1, 0),
      (6, 0x62F1ED48F4CB, .vpmuludq, 1, 2), (4, 0x660FEBCB, .por, 1, 0), (5, 0xC4E16DEBCB, .vpor, 1, 2),
      (6, 0x62F16D48EBCB, .vpord, 1, 2), (6, 0x62F1ED48EBCB, .vporq, 1, 2), (7, 0x62F16D4872CB01, .vprold, 0, 2),
      (6, 0x62F26D4815CB, .vprolvd, 1, 2), (7, 0x62F1ED4872CB01, .vprolq, 0, 2), (6, 0x62F2ED4815CB, .vprolvq, 1, 2),
      (7, 0x62F16D4872C301, .vprord, 0, 2), (6, 0x62F26D4814CB, .vprorvd, 1, 2), (7, 0x62F1ED4872C301, .vprorq, 0, 2),
      (6, 0x62F2ED4814CB, .vprorvq, 1, 2), (7, 0x62F27D49A00C2B, .vpscatterdd, 1, 0),
      (7, 0x62F2FD49A00C2B, .vpscatterdq, 1, 0)] ++
    [(7, 0x62F27D49A10C2B, .vpscatterqd, 1, 0), (7, 0x62F2FD49A10C2B, .vpscatterqq, 1, 0)]) = true := by
  decide +kernel

theorem test_words_53 :
    allDecode (
    [(5, 0x660F3800CB, .pshufb, 1, 0), (6, 0x62F26D4800CB, .vpshufb, 1, 2), (5, 0xF30F70CB01, .pshufhw, 1, 0),
      (7, 0x62F17E4870CB01, .vpshufhw, 1, 0), (5, 0xF20F70CB01, .pshuflw, 1, 0), (7, 0x62F17F4870CB01, .vpshuflw, 1, 0),
      (5, 0x660F70CB01, .pshufd, 1, 0), (7, 0x62F17D4870CB01, .vpshufd, 1, 0), (5, 0x660F73FB01, .pslldq, 0, 0),
      (7, 0x62F16D4873FB01, .vpslldq, 0, 2), (5, 0x660F71F301, .psllw, 0, 0), (7, 0x62F16D4871F301, .vpsllw, 0, 2),
      (4, 0x660FF2CB, .pslld, 1, 0), (7, 0x62F16D4872F301, .vpslld, 0, 2), (4, 0x660FF3CB, .psllq, 1, 0),
      (7, 0x62F1ED4873F301, .vpsllq, 0, 2), (5, 0x660F71E301, .psraw, 0, 0), (7, 0x62F16D4871E301, .vpsraw, 0, 2),
      (5, 0x660F72E301, .psrad, 0, 0), (7, 0x62F16D4872E301, .vpsrad, 0, 2), (7, 0x62F1ED4872E301, .vpsraq, 0, 2),
      (5, 0x660F73DB01, .psrldq, 0, 0), (7, 0x62F16D4873DB01, .vpsrldq, 0, 2), (5, 0x660F71D301, .psrlw, 0, 0),
      (7, 0x62F16D4871D301, .vpsrlw, 0, 2), (5, 0x660F72D301, .psrld, 0, 0), (7, 0x62F16D4872D301, .vpsrld, 0, 2),
      (5, 0x660F73D301, .psrlq, 0, 0), (7, 0x62F1ED4873D301, .vpsrlq, 0, 2), (6, 0x62F2ED4812CB, .vpsllvw, 1, 2)] ++
    [(6, 0x62F26D4847CB, .vpsllvd, 1, 2), (6, 0x62F2ED4847CB, .vpsllvq, 1, 2), (6, 0x62F2ED4810CB, .vpsrlvw, 1, 2),
      (6, 0x62F26D4845CB, .vpsrlvd, 1, 2), (6, 0x62F2ED4845CB, .vpsrlvq, 1, 2)]) = true := by
  decide +kernel

theorem test_words_54 :
    allDecode (
    [(4, 0x660FF8CB, .psubb, 1, 0), (6, 0x62F16D48F8CB, .vpsubb, 1, 2), (4, 0x660FF9CB, .psubw, 1, 0),
      (6, 0x62F16D48F9CB, .vpsubw, 1, 2), (4, 0x660FFACB, .psubd, 1, 0), (6, 0x62F16D48FACB, .vpsubd, 1, 2),
      (4, 0x660FFBCB, .psubq, 1, 0), (6, 0x62F1ED48FBCB, .vpsubq, 1, 2), (4, 0x660FE8CB, .psubsb, 1, 0),
      (6, 0x62F16D48E8CB, .vpsubsb, 1, 2), (4, 0x660FE9CB, .psubsw, 1, 0), (6, 0x62F16D48E9CB, .vpsubsw, 1, 2),
      (4, 0x660FD8CB, .psubusb, 1, 0), (6, 0x62F16D48D8CB, .vpsubusb, 1, 2), (4, 0x660FD9CB, .psubusw, 1, 0),
      (6, 0x62F16D48D9CB, .vpsubusw, 1, 2), (6, 0x62F26E4826CB, .vptestnmb, 1, 2), (6, 0x62F2EE4826CB, .vptestnmw, 1, 2),
      (6, 0x62F26E4827CB, .vptestnmd, 1, 2), (6, 0x62F2EE4827CB, .vptestnmq, 1, 2), (4, 0x660F68CB, .punpckhbw, 1, 0),
      (6, 0x62F16D4868CB, .vpunpckhbw, 1, 2), (4, 0x660F69CB, .punpckhwd, 1, 0), (6, 0x62F16D4869CB, .vpunpckhwd, 1, 2),
      (4, 0x660F6ACB, .punpckhdq, 1, 0), (6, 0x62F16D486ACB, .vpunpckhdq, 1, 2), (4, 0x660F6DCB, .punpckhqdq, 1, 0),
      (6, 0x62F1ED486DCB, .vpunpckhqdq, 1, 2), (4, 0x660F60CB, .punpcklbw, 1, 0), (6, 0x62F16D4860CB, .vpunpcklbw, 1, 2)] ++
    [(4, 0x660F61CB, .punpcklwd, 1, 0), (6, 0x62F16D4861CB, .vpunpcklwd, 1, 2), (4, 0x660F62CB, .punpckldq, 1, 0),
      (6, 0x62F16D4862CB, .vpunpckldq, 1, 2), (4, 0x660F6CCB, .punpcklqdq, 1, 0),
      (6, 0x62F1ED486CCB, .vpunpcklqdq, 1, 2)]) = true := by
  decide +kernel

theorem test_words_55 :
    allDecode (
    [(7, 0x62F36D4823CB01, .vshuff32x4, 1, 2), (7, 0x62F3ED4823CB01, .vshuff64x2, 1, 2),
      (7, 0x62F36D4843CB01, .vshufi32x4, 1, 2), (7, 0x62F3ED4843CB01, .vshufi64x2, 1, 2),
      (5, 0x660FC6CB01, .shufpd, 1, 0), (7, 0x62F1ED48C6CB01, .vshufpd, 1, 2), (4, 0x0FC6CB01, .shufps, 1, 0),
      (7, 0x62F16C48C6CB01, .vshufps, 1, 2), (4, 0x660F51CB, .sqrtpd, 1, 0), (6, 0x62F1FD4851CB, .vsqrtpd, 1, 0),
      (3, 0x0F51CB, .sqrtps, 1, 0), (6, 0x62F17C4851CB, .vsqrtps, 1, 0), (4, 0xF20F51CB, .sqrtsd, 1, 0),
      (6, 0x62F1EF0851CB, .vsqrtsd, 1, 2), (4, 0xF30F51CB, .sqrtss, 1, 0), (6, 0x62F16E0851CB, .vsqrtss, 1, 2),
      (7, 0x62F36D4825CB01, .vpternlogd, 1, 2), (7, 0x62F3ED4825CB01, .vpternlogq, 1, 2),
      (6, 0x62F26D4826CB, .vptestmb, 1, 2), (6, 0x62F2ED4826CB, .vptestmw, 1, 2), (6, 0x62F26D4827CB, .vptestmd, 1, 2),
      (6, 0x62F2ED4827CB, .vptestmq, 1, 2), (6, 0x62F2ED4811CB, .vpsravw, 1, 2), (6, 0x62F26D4846CB, .vpsravd, 1, 2),
      (6, 0x62F2ED4846CB, .vpsravq, 1, 2), (4, 0x660FEFCB, .pxor, 1, 0), (5, 0xC4E16DEFCB, .vpxor, 1, 2),
      (6, 0x62F16D48EFCB, .vpxord, 1, 2), (6, 0x62F1ED48EFCB, .vpxorq, 1, 2)]) = true := by
  decide +kernel

theorem test_words_56 :
    allDecode (
    [(7, 0x62F3ED4850CB01, .vrangepd, 1, 2), (7, 0x62F36D4850CB01, .vrangeps, 1, 2),
      (7, 0x62F3ED0851CB01, .vrangesd, 1, 2), (7, 0x62F36D0851CB01, .vrangess, 1, 2),
      (6, 0x62F2FD484CCB, .vrcp14pd, 1, 0), (6, 0x62F2ED084DCB, .vrcp14sd, 1, 2), (6, 0x62F27D484CCB, .vrcp14ps, 1, 0),
      (6, 0x62F26D084DCB, .vrcp14ss, 1, 2), (7, 0x62F3FD4856CB01, .vreducepd, 1, 0),
      (7, 0x62F3ED0857CB01, .vreducesd, 1, 2), (7, 0x62F37D4856CB01, .vreduceps, 1, 0),
      (7, 0x62F36D0857CB01, .vreducess, 1, 2), (7, 0x62F3FD4809CB01, .vrndscalepd, 1, 0),
      (7, 0x62F3ED080BCB01, .vrndscalesd, 1, 2), (7, 0x62F37D4808CB01, .vrndscaleps, 1, 0),
      (7, 0x62F36D080ACB01, .vrndscaless, 1, 2), (6, 0x62F2FD484ECB, .vrsqrt14pd, 1, 0),
      (6, 0x62F2ED084FCB, .vrsqrt14sd, 1, 2), (6, 0x62F27D484ECB, .vrsqrt14ps, 1, 0),
      (6, 0x62F26D084FCB, .vrsqrt14ss, 1, 2), (6, 0x62F2ED482CCB, .vscalefpd, 1, 2),
      (6, 0x62F2ED082DCB, .vscalefsd, 1, 2), (6, 0x62F26D482CCB, .vscalefps, 1, 2),
      (6, 0x62F26D082DCB, .vscalefss, 1, 2), (7, 0x62F27D49A20C2B, .vscatterdps, 1, 0),
      (7, 0x62F2FD49A20C2B, .vscatterdpd, 1, 0), (7, 0x62F27D49A30C2B, .vscatterqps, 1, 0),
      (7, 0x62F2FD49A30C2B, .vscatterqpd, 1, 0)]) = true := by
  decide +kernel

theorem test_words_57 :
    allDecode (
    [(4, 0x660F5CCB, .subpd, 1, 0), (6, 0x62F1ED485CCB, .vsubpd, 1, 2), (3, 0x0F5CCB, .subps, 1, 0),
      (6, 0x62F16C485CCB, .vsubps, 1, 2), (4, 0xF20F5CCB, .subsd, 1, 0), (6, 0x62F1EF085CCB, .vsubsd, 1, 2),
      (4, 0xF30F5CCB, .subss, 1, 0), (6, 0x62F16E085CCB, .vsubss, 1, 2), (4, 0x660F2ECB, .ucomisd, 1, 0),
      (6, 0x62F1FD082ECB, .vucomisd, 1, 0), (3, 0x0F2ECB, .ucomiss, 1, 0), (6, 0x62F17C082ECB, .vucomiss, 1, 0),
      (4, 0x660F15CB, .unpckhpd, 1, 0), (6, 0x62F1ED4815CB, .vunpckhpd, 1, 2), (3, 0x0F15CB, .unpckhps, 1, 0),
      (6, 0x62F16C4815CB, .vunpckhps, 1, 2), (4, 0x660F14CB, .unpcklpd, 1, 0), (6, 0x62F1ED4814CB, .vunpcklpd, 1, 2),
      (3, 0x0F14CB, .unpcklps, 1, 0), (6, 0x62F16C4814CB, .vunpcklps, 1, 2), (4, 0x660F57CB, .xorpd, 1, 0),
      (6, 0x62F1ED4857CB, .vxorpd, 1, 2), (3, 0x0F57CB, .xorps, 1, 0), (6, 0x62F16C4857CB, .vxorps, 1, 2)]) = true := by
  decide +kernel

theorem test_words_58 :
    allDecode (
    [(5, 0xC4E16C4ACB, .kaddw, 1, 2), (5, 0xC4E16D4ACB, .kaddb, 1, 2), (5, 0xC4E1EC4ACB, .kaddq, 1, 2),
      (5, 0xC4E1ED4ACB, .kaddd, 1, 2), (5, 0xC4E16C41CB, .kandw, 1, 2), (5, 0xC4E16D41CB, .kandb, 1, 2),
      (5, 0xC4E1EC41CB, .kandq, 1, 2), (5, 0xC4E1ED41CB, .kandd, 1, 2), (5, 0xC4E16C42CB, .kandnw, 1, 2),
      (5, 0xC4E16D42CB, .kandnb, 1, 2), (5, 0xC4E1EC42CB, .kandnq, 1, 2), (5, 0xC4E1ED42CB, .kandnd, 1, 2),
      (5, 0xC4E16C45CB, .korw, 1, 2), (5, 0xC4E16D45CB, .korb, 1, 2), (5, 0xC4E1EC45CB, .korq, 1, 2),
      (5, 0xC4E1ED45CB, .kord, 1, 2), (5, 0xC4E16C46CB, .kxnorw, 1, 2), (5, 0xC4E16D46CB, .kxnorb, 1, 2),
      (5, 0xC4E1EC46CB, .kxnorq, 1, 2), (5, 0xC4E1ED46CB, .kxnord, 1, 2), (5, 0xC4E16C47CB, .kxorw, 1, 2),
      (5, 0xC4E16D47CB, .kxorb, 1, 2), (5, 0xC4E1EC47CB, .kxorq, 1, 2), (5, 0xC4E1ED47CB, .kxord, 1, 2),
      (5, 0xC4E17844CB, .knotw, 1, 0), (5, 0xC4E17944CB, .knotb, 1, 0), (5, 0xC4E1F844CB, .knotq, 1, 0),
      (5, 0xC4E1F944CB, .knotd, 1, 0), (5, 0xC4E17893CB, .kmovw, 1, 0), (5, 0xC4E17993CB, .kmovb, 1, 0)] ++
    [(5, 0xC4E1FB93CB, .kmovq, 1, 0), (5, 0xC4E17B93CB, .kmovd, 1, 0), (5, 0xC4E16D4BCB, .kunpckbw, 1, 2),
      (5, 0xC4E16C4BCB, .kunpckwd, 1, 2), (5, 0xC4E1EC4BCB, .kunpckdq, 1, 2), (5, 0xC4E17898CB, .kortestw, 1, 0),
      (5, 0xC4E17998CB, .kortestb, 1, 0), (5, 0xC4E1F898CB, .kortestq, 1, 0), (5, 0xC4E1F998CB, .kortestd, 1, 0),
      (5, 0xC4E17899CB, .ktestw, 1, 0), (5, 0xC4E17999CB, .ktestb, 1, 0), (5, 0xC4E1F899CB, .ktestq, 1, 0),
      (5, 0xC4E1F999CB, .ktestd, 1, 0), (6, 0xC4E3F932CB01, .kshiftlw, 1, 0), (6, 0xC4E37932CB01, .kshiftlb, 1, 0),
      (6, 0xC4E3F933CB01, .kshiftlq, 1, 0), (6, 0xC4E37933CB01, .kshiftld, 1, 0), (6, 0xC4E3F930CB01, .kshiftrw, 1, 0),
      (6, 0xC4E37930CB01, .kshiftrb, 1, 0), (6, 0xC4E3F931CB01, .kshiftrq, 1, 0), (6, 0xC4E37931CB01, .kshiftrd, 1, 0)]) = true := by
  decide +kernel

theorem test_words_59 :
    allDecode (
    [(6, 0x62F2FD48C8CB, .vexp2pd, 1, 0), (6, 0x62F27D48C8CB, .vexp2ps, 1, 0), (6, 0x62F2FD48CACB, .vrcp28pd, 1, 0),
      (6, 0x62F2ED08CBCB, .vrcp28sd, 1, 2), (6, 0x62F27D48CACB, .vrcp28ps, 1, 0), (6, 0x62F26D08CBCB, .vrcp28ss, 1, 2),
      (6, 0x62F2FD48CCCB, .vrsqrt28pd, 1, 0), (6, 0x62F2ED08CDCB, .vrsqrt28sd, 1, 2),
      (6, 0x62F27D48CCCB, .vrsqrt28ps, 1, 0), (6, 0x62F26D08CDCB, .vrsqrt28ss, 1, 2),
      (7, 0x62F27D49C60C2B, .vgatherpf0dps, 0, 0), (7, 0x62F27D49C70C2B, .vgatherpf0qps, 0, 0),
      (7, 0x62F2FD49C60C2B, .vgatherpf0dpd, 0, 0), (7, 0x62F2FD49C70C2B, .vgatherpf0qpd, 0, 0),
      (7, 0x62F27D49C6142B, .vgatherpf1dps, 0, 0), (7, 0x62F27D49C7142B, .vgatherpf1qps, 0, 0),
      (7, 0x62F2FD49C6142B, .vgatherpf1dpd, 0, 0), (7, 0x62F2FD49C7142B, .vgatherpf1qpd, 0, 0),
      (7, 0x62F27D49C62C2B, .vscatterpf0dps, 0, 0), (7, 0x62F27D49C72C2B, .vscatterpf0qps, 0, 0),
      (7, 0x62F2FD49C62C2B, .vscatterpf0dpd, 0, 0), (7, 0x62F2FD49C72C2B, .vscatterpf0qpd, 0, 0),
      (7, 0x62F27D49C6342B, .vscatterpf1dps, 0, 0), (7, 0x62F27D49C7342B, .vscatterpf1qps, 0, 0),
      (7, 0x62F2FD49C6342B, .vscatterpf1dpd, 0, 0), (7, 0x62F2FD49C7342B, .vscatterpf1qpd, 0, 0),
      (5, 0x0F3ACCCB01, .sha1rnds4, 1, 0), (4, 0x0F38C8CB, .sha1nexte, 1, 0), (4, 0x0F38C9CB, .sha1msg1, 1, 0),
      (4, 0x0F38CACB, .sha1msg2, 1, 0)] ++
    [(4, 0x0F38CBCB, .sha256rnds2, 1, 0), (4, 0x0F38CCCB, .sha256msg1, 1, 0), (4, 0x0F38CDCB, .sha256msg2, 1, 0),
      (3, 0x0F0D13, .prefetchwt1, 0, 0), (4, 0x660FAE33, .clwb, 0, 0)]) = true := by
  decide +kernel

end Sys2Proof.Tests
end

section
/-! PROOFS. The state as a whole (statements O40, O42, O44, O55, O58, O59): what `exec` and `step` can end in, said once for
every instruction, and from it the invariant, the frame of what system software owns, and that no instruction stops the
machine; and when the checks before execution pass. -/

namespace Sys2Proof.Machine

/-! ### What `exec` can end in -/

/-- Ending an instruction, with an exception or without, answers a next state. -/
theorem State.finish_next (s : State) (x : Except Abort State) : ∃ t, s.finish x = .next t := by
  cases x with
  | error a => exact ⟨_, rfl⟩
  | ok u => exact ⟨_, rfl⟩

theorem exec_cpuid (s : State) : exec .cpuid s = s.finish (.ok s.cpuid) := rfl

theorem exec_pcommit (s : State) : exec .pcommit s = execPcommit s := rfl

/-- An instruction with fields runs as its name on these fields. -/
theorem exec_eq_mnemonic_run {i : Instr} {o : Operands} (h : operandsOf i = some o) (s : State) :
    exec i s = (mnemonicOf i).run o s := by
  rw [Mnemonic.run_eq_exec, ← eq_make i o h]

/-- A name that makes an instruction without fields is not the name of an instruction with fields. -/
theorem mnemonicOf_ne {i : Instr} {o : Operands} {m : Mnemonic} (h : operandsOf i = some o)
    (hm : operandsOf (m.make o) = none) : mnemonicOf i ≠ m := by
  rintro rfl
  rw [← eq_make i o h, h] at hm
  cases hm

/-- The instruction has no memory operand: its r/m operand is a register, or it has no fields. -/
def registerOnly (i : Instr) : Bool := (operandsOf i).all Operands.isReg

theorem registerOnly_iff (i : Instr) : registerOnly i = true ↔ ∀ o, operandsOf i = some o → o.isReg = true := by
  unfold registerOnly
  cases operandsOf i <;> simp

/-- What an instruction leaves behind: the effect of a calm body and the pc at the next instruction, an exception taken with
nothing else changed but by a calm body (the completed elements of a gather or scatter), the exception of floating-point
conditions, what CPUID writes, or the VM exit of PCOMMIT. -/
inductive Ended (i : Instr) (s : State) : State → Prop
  | done (u : State) (h : Calm (registerOnly i) s u) : Ended i s { u with pc := u.npc }
  | raised (u : State) (a : Abort) (h : Calm (registerOnly i) s u) : Ended i s (u.raise a)
  | alarmed (f : FpFlags) : Ended i s (s.alarm f)
  | cpuid (h : i = .cpuid) : Ended i s { s.cpuid with pc := s.npc }
  | vmExit (h : i = .pcommit) : Ended i s { s with event := some (.vmExit 0x41) }

theorem cpuid_retire {s : State} (he : s.event = none) : s.cpuid.retire = { s.cpuid with pc := s.npc } :=
  State.retire_running s.cpuid he

/-- PCOMMIT commits the accepted stores, raises #UD, or ends in a VM exit (R1482, R1585, R1586). -/
theorem execPcommit_ended {s t : State} (he : s.event = none) (h : execPcommit s = .next t) : Ended .pcommit s t := by
  unfold execPcommit at h
  split at h
  · cases h
    exact .raised s _ (.refl s)
  · split at h
    · cases h
      exact .vmExit rfl
    · cases h
      rw [State.retire_running _ (by simpa using he)]
      exact .done _ (calm_commitStores s)

/-- What any instruction can end in. -/
theorem exec_ended {i : Instr} {s t : State} (he : s.event = none) (h : exec i s = .next t) : Ended i s t := by
  cases ho : operandsOf i with
  | none =>
    rcases operandsOf_none i ho with rfl | rfl
    · cases h
      rw [cpuid_retire he]
      exact .cpuid rfl
    · exact execPcommit_ended he h
  | some o =>
    have hq : o.isReg = registerOnly i := by simp only [registerOnly, ho, Option.all_some]
    rw [exec_eq_mnemonic_run ho] at h
    have hends := run_ends (mnemonicOf_ne ho rfl) (mnemonicOf_ne ho rfl) he h
    rw [hq] at hends
    rcases hends with ⟨u, hu, rfl⟩ | ⟨a, rfl⟩ | ⟨f, rfl⟩ | ⟨-, u, a, ⟨hu, -, -⟩, rfl⟩
    · exact .done u hu
    · exact .raised s a (.refl s)
    · exact .alarmed f
    · exact .raised u a hu

/-! ### O58 and O59: the invariant -/

theorem Calm.inv {q : Bool} {s u : State} (h : Calm q s u) (hs : s.Inv) : u.Inv := by
  obtain ⟨-, -, keeps⟩ := h
  exact keeps hs

theorem State.Inv.raise {s : State} (h : s.Inv) (a : Abort) : (s.raise a).Inv := h

theorem State.Inv.alarm {s : State} (h : s.Inv) (f : FpFlags) : (s.alarm f).Inv := h.setMxcsrFlags f

/-- CPUID serializes, which keeps the ledger canonical, and writes nothing else the invariant speaks of. -/
theorem State.Inv.cpuid {s : State} (h : s.Inv) : s.cpuid.Inv := h.serialize

theorem Ended.inv {i : Instr} {s t : State} (h : Ended i s t) (hs : s.Inv) : t.Inv := by
  cases h with
  | done u hu => exact hu.inv hs
  | raised u a hu => exact (hu.inv hs).raise a
  | alarmed f => exact hs.alarm f
  | cpuid _ => exact hs.cpuid
  | vmExit _ => exact hs

/-- A step that answers a next state found no event pending, and took an exception of fetching or decoding or ran an
instruction with `npc` moved (R112, R150). -/
theorem step_cases {s t : State} (h : step s = .next t) :
    s.event = none ∧ ((∃ a, t = s.raise a) ∨ ∃ i n, exec i { s with npc := n } = .next t) := by
  unfold step at h
  split at h
  · cases h
  · next he =>
    refine ⟨he, ?_⟩
    split at h
    · cases h
    · dsimp only at h
      split at h
      · next stop _ =>
        cases stop <;> cases h <;> exact .inl ⟨_, rfl⟩
      · next d _ => exact .inr ⟨d.name.make d.ops, _, (Mnemonic.run_eq_exec ..).symm.trans h⟩

/-- Settles O58: a step raises an exception or ends an instruction, and each of these keeps the invariant. -/
theorem stepKeepsInvariant : Obligations.StepKeepsInvariant := by
  intro s t hs h
  obtain ⟨he, ⟨a, rfl⟩ | ⟨i, n, hi⟩⟩ := step_cases h
  · exact hs.raise a
  · have hn : State.Inv { s with npc := n } := hs
    exact (exec_ended (s := { s with npc := n }) he hi).inv hn

/-- The reset values of the mode, CR4, XCR0 and IA32_XSS are ones the part CFG-ALL allows. -/
theorem reset_legal : State.reset.legal = true :=
  (legal_iff _).mpr ⟨by decide, by decide, by decide, by decide⟩

/-- Settles O59: memory and the ledger are empty, MXCSR is 1F80H, and what system software owns is legal. -/
theorem resetMeetsInvariant : Obligations.ResetMeetsInvariant :=
  ⟨Memory.wf_reset, rfl, rfl, reset_legal⟩

/-! ### O40: no instruction stops the machine -/

/-- Settles O40: every instruction ends in `finish`, with fields through `run` (`exec_eq_run`), CPUID and PCOMMIT directly. -/
theorem execAnswersNext : Obligations.ExecAnswersNext := by
  intro i s
  cases ho : operandsOf i with
  | some o =>
    obtain ⟨body, hb⟩ := exec_eq_run i o s ho
    rw [hb]
    exact s.run_next _ _ _
  | none =>
    rcases operandsOf_none i ho with rfl | rfl
    · rw [exec_cpuid]
      exact s.finish_next _
    · rw [exec_pcommit]
      exact s.finish_next _

/-! ### O42: the checks before execution -/

/-- A word has every bit of a mask. -/
theorem and_eq_mask_iff (x c : Word) :
    (x &&& c) = c ↔ ∀ i ∈ (List.range 64).filter fun i => c.getLsbD i, x.getLsbD i = true := by
  constructor
  · intro h i hi
    obtain ⟨-, hc⟩ := List.mem_filter.1 hi
    rw [← h, BitVec.getLsbD_and, Bool.and_eq_true] at hc
    obtain ⟨hx, -⟩ := hc
    exact hx
  · intro h
    apply BitVec.eq_of_getLsbD_eq
    intro i hi
    cases hc : c.getLsbD i with
    | false => simp [hc]
    | true => simp [hc, h i (List.mem_filter.2 ⟨List.mem_range.2 hi, hc⟩)]

/-- XCR0 has 111xx111b (R31). -/
theorem xcr0_evex_iff (x : Word) : (x &&& 0xE7) = 0xE7 ↔ ∀ i ∈ [0, 1, 2, 5, 6, 7], x.getLsbD i = true := by
  rw [and_eq_mask_iff, show (List.range 64).filter (fun i => (0xE7 : Word).getLsbD i) = [0, 1, 2, 5, 6, 7] by decide]

/-- XCR0 has bits 2:0 (R31). -/
theorem xcr0_vex_iff (x : Word) : (x &&& 0x7) = 0x7 ↔ ∀ i ∈ [0, 1, 2], x.getLsbD i = true := by
  rw [and_eq_mask_iff, show (List.range 64).filter (fun i => (0x7 : Word).getLsbD i) = [0, 1, 2] by decide]

/-- XCR0 has bits 5, 1 and 0 (R31). -/
theorem xcr0_opmask_iff (x : Word) : (x &&& 0x23) = 0x23 ↔ ∀ i ∈ [0, 1, 5], x.getLsbD i = true := by
  rw [and_eq_mask_iff, show (List.range 64).filter (fun i => (0x23 : Word).getLsbD i) = [0, 1, 5] by decide]

theorem Mode.isReal_eq_false_iff (m : Mode) : m.isReal = false ↔ m ≠ .real ∧ m ≠ .virtual8086 := by
  cases m <;> decide

theorem Row.isOpmask_iff {r : Row} (h : r.space = .vex) : r.isOpmask = true ↔ r.reg = .kreg ∨ r.rm = .kreg := by
  simp [Row.isOpmask, h]

section
variable {s : State} {r : Row}

theorem State.enabled_evex_iff (h : r.space = .evex) :
    s.enabled r = true ↔ s.mode ≠ .real ∧ s.mode ≠ .virtual8086 ∧ s.cr4.getLsbD 18 = true ∧
      ∀ i ∈ [0, 1, 2, 5, 6, 7], s.xcr0.getLsbD i = true := by
  simp only [State.enabled, h, Bool.and_eq_true, Bool.not_eq_true', beq_iff_eq, Mode.isReal_eq_false_iff, xcr0_evex_iff,
    and_assoc]

theorem State.enabled_vex_iff (h : r.space = .vex) :
    s.enabled r = true ↔ s.mode ≠ .real ∧ s.mode ≠ .virtual8086 ∧ s.cr4.getLsbD 18 = true ∧
      ∀ i ∈ (if r.reg = .kreg ∨ r.rm = .kreg then [0, 1, 5] else [0, 1, 2]), s.xcr0.getLsbD i = true := by
  simp only [State.enabled, h, Bool.and_eq_true, Bool.not_eq_true', Mode.isReal_eq_false_iff, Row.isOpmask_iff h, and_assoc]
  split
  · rw [beq_iff_eq, xcr0_opmask_iff]
  · rw [beq_iff_eq, xcr0_vex_iff]

theorem State.enabled_legacy_iff (h : r.space = .legacy) :
    s.enabled r = true ↔ (r.cls ≠ .page → s.cr0.getLsbD 2 = false ∧ s.cr4.getLsbD 9 = true) := by
  simp only [State.enabled, h, Bool.or_eq_true, Bool.and_eq_true, Bool.not_eq_true', beq_iff_eq, or_iff_not_imp_left, ne_eq]

/-- #NM is not raised: CR0.TS is clear, or the instruction's page lists its own exceptions (R33, R1535). -/
theorem State.deviceNotAvailable_eq_false_iff :
    s.deviceNotAvailable r = false ↔ (r.cls ≠ .page → s.cr0.getLsbD 3 = false) := by
  by_cases hc : r.cls = .page <;> simp [State.deviceNotAvailable, hc]

end

/-- Settles O42: `gate_ok_iff`, with the condition on the enabled state spelt out for each encoding space. -/
theorem enablingConditions : Obligations.EnablingConditions := by
  refine ⟨?_, ?_, ?_⟩
  · intro s rows o r hf hsp hc
    rw [State.gate_ok_iff hf, State.enabled_evex_iff hsp, State.deviceNotAvailable_eq_false_iff, forall_prop_of_true hc]
    simp only [and_assoc]
  · intro s rows o r hf hsp hc
    rw [State.gate_ok_iff hf, State.enabled_vex_iff hsp, State.deviceNotAvailable_eq_false_iff, forall_prop_of_true hc]
    simp only [and_assoc]
  · intro s rows o r hf hsp
    rw [State.gate_ok_iff hf, State.enabled_legacy_iff hsp, State.deviceNotAvailable_eq_false_iff, ← imp_and]
    simp only [and_assoc]

/-! ### O44: what system software owns -/

/-- Only what instructions may write differs: registers, flags, memory, its ledger, the accessed flags of translations (none
for an instruction without a memory operand), the pending event, CR2 with a page fault, and IA32_BIOS_SIGN_ID by CPUID. -/
structure SystemKept (i : Instr) (s t : State) : Prop where
  frame : t = { s with
    gpr := t.gpr, pc := t.pc, eflags := t.eflags, zmm := t.zmm, k := t.k, mxcsr := t.mxcsr, mem := t.mem,
    durability := t.durability, event := t.event, regions := t.regions, cr2 := t.cr2, biosSignId := t.biosSignId }
  marks : Marks (registerOnly i) s t
  sign : i ≠ .cpuid → t.biosSignId = s.biosSignId
  fault : t.cr2 ≠ s.cr2 → ∃ x c, t.event = some (.trap x) ∧ x.exc = .pf c

/-- Taking an exception writes CR2 for a page fault only (R1501). -/
theorem State.raise_cr2_ne {s : State} {a : Abort} (h : (s.raise a).cr2 ≠ s.cr2) :
    ∃ x c, (s.raise a).event = some (.trap x) ∧ x.exc = .pf c := by
  obtain ⟨e, addr, rf⟩ := a
  cases e with
  | pf c => exact ⟨_, c, rfl, rfl⟩
  | _ => exact absurd rfl h

theorem Ended.systemKept {i : Instr} {s t : State} (h : Ended i s t) : SystemKept i s t := by
  cases h with
  | done u hu =>
    obtain ⟨hf, hm, -⟩ := hu
    exact ⟨by rw [hf], hm, fun _ => by rw [hf], fun h => absurd (by rw [hf]) h⟩
  | raised u a hu =>
    obtain ⟨hf, hm, -⟩ := hu
    have hc : u.cr2 = s.cr2 := by rw [hf]
    exact ⟨by rw [hf]; rfl, hm, fun _ => by rw [hf]; rfl, fun h => State.raise_cr2_ne (hc ▸ h)⟩
  | alarmed f => exact ⟨rfl, .of_eq rfl, fun _ => rfl, fun h => absurd rfl h⟩
  | cpuid hi => exact ⟨rfl, .of_eq rfl, fun hn => absurd hi hn, fun h => absurd rfl h⟩
  | vmExit _ => exact ⟨rfl, .of_eq rfl, fun _ => rfl, fun h => absurd rfl h⟩

/-- Settles O44: every ending of an instruction keeps what system software owns. -/
theorem systemStateKept : Obligations.SystemStateKept := by
  intro i s t he h
  obtain ⟨hf, ⟨l, hl, hr⟩, hb, hc⟩ := (exec_ended he h).systemKept
  have hreg : (∀ o, operandsOf i = some o → o.isReg = true) → t.regions = s.regions := by
    intro ho
    rw [hr, hl ((registerOnly_iff i).2 ho)]
    rfl
  have herased : t.regions.map (fun g : Region => { g with accessed := false }) =
      s.regions.map fun g : Region => { g with accessed := false } := by rw [hr, markAll_erased]
  refine ⟨?_, ?_, ?_, ?_, ?_, ?_, ?_, ?_, ?_, ?_, ?_, ?_, ?_, ⟨l, hr⟩, hreg, herased, ?_, ?_, ?_, hb, hc⟩
  all_goals rw [hf]

/-! ### O55: a step runs the decoded instruction -/

/-- What the decoder answers is the instruction of the name and fields found, and its length. -/
theorem decode_ok {m : DecodeMode} {bs : List Byte} {i : Instr} {n : Nat} (h : decode m bs = .ok (i, n)) :
    ∃ d, decodeFields m bs = .ok d ∧ i = d.name.make d.ops ∧ n = d.len := by
  unfold decode at h
  split at h
  · cases h
  · next d hd =>
    cases h
    exact ⟨d, hd, rfl, rfl⟩

/-- Settles O55: `step` runs the name and fields found, which is `exec` of the instruction they make. -/
theorem stepRunsDecoded : Obligations.StepRunsDecoded := by
  intro s i n he hm h
  obtain ⟨d, hd, rfl, rfl⟩ := decode_ok h
  rw [← Mnemonic.run_eq_exec]
  simp only [step, he, hm, hd, Bool.not_true, Bool.false_eq_true, if_false]

end Sys2Proof.Machine
end

section
/-! PROOFS. Memory (statements O35, O39, O46, O47): what a prefetch does, what a load after a store and a load of an operand
answer, what marking translations does, and how the ledger of persistent stores moves on. -/

namespace Sys2Proof.Machine

open Sys2Proof.Claims

/-! ### O35: prefetches -/

/-- Settles O35: the body of every prefetch answers the state it got, so `run_at` moves the pc and nothing else. -/
theorem hintResult : Obligations.HintResult := by
  intro e he o s r h
  rw [hint_exec e he]
  exact run_at h rfl h.1 rfl

/-! ### O46: a load after a store -/

/-- Where two kinds of access are both allowed, they go to one physical address: only the fault of a region depends on the
access. -/
theorem State.translate_agree {s : State} {acc acc' : Access} {lin : Word} {p p' : Nat}
    (h : s.translate acc lin = .ok p) (h' : s.translate acc' lin = .ok p') : p = p' := by
  unfold State.translate at h h'
  cases hf : s.regions.find? (fun r => r.holds lin) with
  | none =>
    rw [hf] at h h'
    cases h
    cases h'
    rfl
  | some r =>
    simp only [hf] at h h'
    split at h
    · cases h
    · split at h'
      · cases h'
      · cases h
        cases h'
        rfl

theorem State.translateAll_cons_ok {s : State} {acc : Access} {g : SegReg} {ea : Word} {i : Nat} {is : List Nat}
    {ps : List (Nat × Nat)} (h : s.translateAll acc g ea (i :: is) = .ok ps) :
    ∃ p qs, s.translate acc (s.linear g ea i) = .ok p ∧ s.translateAll acc g ea is = .ok qs ∧ ps = (i, p) :: qs := by
  unfold State.translateAll at h
  split at h
  · cases h
  · next p hp =>
    split at h
    · cases h
    · next qs hqs =>
      cases h
      exact ⟨p, qs, hp, hqs, rfl⟩

theorem State.translateAll_agree {s : State} {acc acc' : Access} {g : SegReg} {ea : Word} {offs : List Nat}
    {ps qs : List (Nat × Nat)} (h : s.translateAll acc g ea offs = .ok ps) (h' : s.translateAll acc' g ea offs = .ok qs) :
    ps = qs := by
  induction offs generalizing ps qs with
  | nil =>
    cases h
    cases h'
    rfl
  | cons i is ih =>
    obtain ⟨p, ps', hp, hps, rfl⟩ := State.translateAll_cons_ok h
    obtain ⟨q, qs', hq, hqs, rfl⟩ := State.translateAll_cons_ok h'
    rw [State.translate_agree hp hq, ih hps hqs]

/-- Checks that pass answer the translations of the bytes. -/
theorem State.checkMem_translateAll {s : State} {acc : Access} {g : SegReg} {ea : Word} {offs : List Nat} {al ac : Nat}
    {ps : List (Nat × Nat)} (h : s.checkMem acc g ea offs al ac = .ok ps) : s.translateAll acc g ea offs = .ok ps := by
  unfold State.checkMem at h
  split at h
  · cases h
  · split at h
    · cases h
    · split at h
      · cases h
      · next hps =>
        split at h
        · cases h
        · cases h
          exact hps

/-- Checks of one operand that pass for two kinds of access answer the same physical addresses. -/
theorem State.checkMem_agree {s : State} {acc acc' : Access} {g : SegReg} {ea : Word} {offs : List Nat} {al ac : Nat}
    {ps qs : List (Nat × Nat)} (h : s.checkMem acc g ea offs al ac = .ok ps) (h' : s.checkMem acc' g ea offs al ac = .ok qs) :
    ps = qs :=
  State.translateAll_agree (State.checkMem_translateAll h) (State.checkMem_translateAll h')

/-- A store of bytes leaves the checks of every operand as they were. -/
theorem State.checkMem_storeBytes (s : State) (nt : Bool) (v : ZWord) (ws : List (Nat × Nat)) (acc : Access) (g : SegReg)
    (ea : Word) (offs : List Nat) (al ac : Nat) :
    (s.storeBytes nt v ws).checkMem acc g ea offs al ac = s.checkMem acc g ea offs al ac :=
  State.checkMem_congr acc g ea offs al ac (by simp) (by simp) ⟨[], by simp [markAll]⟩ (by simp) (by simp) (by simp) (by simp)

/-- Byte `i` of a value assembled from the bytes at listed physical addresses is the one at the address listed for `i`. -/
theorem elem_fromBytes_map {offs : List Nat} {ps : List (Nat × Nat)} (ho : ps.map (·.1) = offs) {f : Nat × Nat → Byte}
    {b : Byte} {i : Nat} (hi : i ∈ offs) (h64 : i < 64) (hf : ∀ p ∈ ps, p.1 = i → f p = b) :
    elem 8 i (fromBytes (ps.map fun p => (p.1, f p))) = b := by
  rw [← ho] at hi
  obtain ⟨p, hp, rfl⟩ := List.mem_map.1 hi
  refine elem_fromBytes _ _ _ h64 (List.mem_map.2 ⟨p, hp, by rw [hf p hp rfl]⟩) fun x hx hxi => ?_
  obtain ⟨q, hq, rfl⟩ := List.mem_map.1 hx
  exact hf q hq hxi

/-- Settles O46: the load goes to the physical addresses of the store (`checkMem_agree`), where the stored bytes lie. -/
theorem loadAfterStore : Obligations.LoadAfterStore := by
  intro s t nt g ea offs al ac v w ps l hwf hps hnd hst hld i hi h64
  simp only [State.writeMem, hps] at hst
  cases hst
  obtain ⟨qs, hqs, rfl, -⟩ := State.readMem_ok hld
  rw [State.checkMem_storeBytes] at hqs
  obtain rfl := State.checkMem_agree hps hqs
  refine elem_fromBytes_map (State.checkMem_offsets hps) hi h64 fun p hp hpi => ?_
  rw [State.storeBytes_get s nt v ps hwf hnd p hp, hpi]
  rfl

/-! ### O47: reading an operand -/

/-- Without regions every linear address goes to itself (D15). -/
theorem State.translateAll_identity {s : State} (h : s.regions = []) (acc : Access) (g : SegReg) (ea : Word)
    (offs : List Nat) : s.translateAll acc g ea offs = .ok (offs.map fun i => (i, (s.linear g ea i).toNat)) := by
  induction offs with
  | nil => rfl
  | cons i is ih =>
    have ht : s.translate acc (s.linear g ea i) = .ok (s.linear g ea i).toNat := by
      simp only [State.translate, h, List.find?_nil]
    simp only [State.translateAll, ht, ih, List.map_cons]

theorem State.linear_long64 {s : State} (h : s.mode = .long64) (g : SegReg) (ea : Word) (i : Nat) :
    s.linear g ea i = s.segBase g + ea + BitVec.ofNat 64 i := by
  simp only [State.linear, h, if_true]

/-- In 64-bit mode the segment check is that of canonical form. -/
theorem State.segFault_long64 {s : State} (h : s.mode = .long64) {g : SegReg} {ea : Word} {i : Nat}
    (hc : canonical (linAddrBits s.cpu) (s.linear g ea i) = true) : s.segFault g ea i = none := by
  simp only [State.segFault, h, hc, if_true]

/-- An operand of which no byte fails its segment check and no region translates passes, where no alignment is asked. -/
theorem State.checkMem_identity {s : State} (hr : s.regions = []) (acc : Access) {g : SegReg} {ea : Word} {offs : List Nat}
    (hf : ∀ i ∈ offs, s.segFault g ea i = none) :
    s.checkMem acc g ea offs 1 0 = .ok (offs.map fun i => (i, (s.linear g ea i).toNat)) := by
  have hs : offs.findSome? (s.segFault g ea) = none := List.findSome?_eq_none_iff.2 hf
  simp [State.checkMem, Nat.mod_one, hs, State.translateAll_identity hr]

/-- A load whose checks pass answers the bytes at the addresses they answer. -/
theorem State.readMem_of_checkMem {s : State} {g : SegReg} {ea : Word} {offs : List Nat} {al ac : Nat} {ps : List (Nat × Nat)}
    (h : s.checkMem .read g ea offs al ac = .ok ps) :
    s.readMem g ea offs al ac = .ok (fromBytes (ps.map fun p => (p.1, s.mem.get p.2)), offs.map (s.linear g ea)) := by
  simp only [State.readMem, h]

/-- Marking an address sets the accessed flag of the first region that holds it, which is one at most. -/
theorem markAccessed_getElem? (a : Word) (rs : List Region) (i : Nat) :
    (markAccessed a rs)[i]? = rs[i]?.map fun g =>
      { g with accessed := g.accessed || (g.holds a && (rs.take i).all fun q => !q.holds a) } := by
  induction rs generalizing i with
  | nil => rfl
  | cons r rs ih =>
    unfold markAccessed
    cases i with
    | zero => by_cases hr : r.holds a = true <;> simp [hr]
    | succ i => by_cases hr : r.holds a = true <;> simp [hr, ih]

theorem markAccessed_length (a : Word) (rs : List Region) : (markAccessed a rs).length = rs.length := by
  induction rs with
  | nil => rfl
  | cons r rs ih =>
    unfold markAccessed
    split
    · rfl
    · simp [ih]

/-- Which addresses the regions before a position hold does not change by marking. -/
theorem markAccessed_take_all (a b : Word) (rs : List Region) (i : Nat) :
    ((markAccessed a rs).take i).all (fun q => !q.holds b) = (rs.take i).all fun q => !q.holds b := by
  induction rs generalizing i with
  | nil => rfl
  | cons r rs ih =>
    cases i with
    | zero => rfl
    | succ i =>
      unfold markAccessed
      split
      · rfl
      · simp only [List.take_succ_cons, List.all_cons, ih]

theorem markAll_length (l : List Word) (rs : List Region) : (markAll l rs).length = rs.length := by
  induction l generalizing rs with
  | nil => rfl
  | cons a l ih => exact (ih _).trans (markAccessed_length a rs)

/-- Marking several addresses sets the accessed flag of each region that is the first to hold one of them. -/
theorem markAll_getElem? (l : List Word) (rs : List Region) (i : Nat) :
    (markAll l rs)[i]? = rs[i]?.map fun g =>
      { g with accessed := g.accessed || l.any fun a => g.holds a && (rs.take i).all fun q => !q.holds a } := by
  induction l generalizing rs with
  | nil => simp [markAll]
  | cons a l ih =>
    have step : markAll (a :: l) rs = markAll l (markAccessed a rs) := rfl
    rw [step, ih, markAccessed_getElem?, Option.map_map]
    simp only [markAccessed_take_all, List.any_cons]
    congr 1
    funext g
    simp only [Function.comp_apply, Region.mk.injEq, Bool.or_assoc, true_and, and_true]
    rfl

/-- Settles O47: the identity translation, the linear addresses `readMem_ok` answers, and `markAll_getElem?`. -/
theorem operandRead : Obligations.OperandRead := by
  refine ⟨?_, ?_, ?_⟩
  · intro s g ea n hn hm hr hc
    have hck : s.checkMem .read g ea (List.range n) 1 0 = .ok ((List.range n).map fun i => (i, (s.linear g ea i).toNat)) :=
      State.checkMem_identity hr .read fun i hi =>
        State.segFault_long64 hm (by rw [State.linear_long64 hm]; exact hc i (List.mem_range.1 hi))
    refine ⟨_, _, State.readMem_of_checkMem hck, fun i hi => ?_⟩
    refine elem_fromBytes_map (State.checkMem_offsets hck) (List.mem_range.2 hi) (by omega) fun p hp hpi => ?_
    obtain ⟨j, -, rfl⟩ := List.mem_map.1 hp
    obtain rfl : j = i := hpi
    rw [State.linear_long64 hm]
  · intro s g ea offs al ac v l h
    obtain ⟨ps, -, -, hl⟩ := State.readMem_ok h
    exact hl
  · intro s l
    refine ⟨markAll_length l s.regions, fun i g h hg hh => ?_⟩
    have hi : (s.marked l).regions[i]? = _ := markAll_getElem? l s.regions i
    rw [hh, hg] at hi
    exact Option.some.inj hi

/-! ### O39: the ledger of persistent stores -/

/-- A stored byte of a line that is flushed is being written back (R101, R106). -/
theorem State.draining_of_stored {s : State} {a line size : Nat} (h : (a, Durability.stored) ∈ s.durability)
    (h1 : line ≤ a) (h2 : a < line + size) : (a, Durability.draining) ∈ (s.writeBackLine line size).durability :=
  List.mem_map.2 ⟨_, h, by simp [h1, h2]⟩

/-- A byte that is already being written back stays so. -/
theorem State.draining_writeBackLine {s : State} {a : Nat} (h : (a, Durability.draining) ∈ s.durability) (line size : Nat) :
    (a, Durability.draining) ∈ (s.writeBackLine line size).durability :=
  List.mem_map.2 ⟨_, h, by simp⟩

/-- A byte written back is accepted to memory by a serialization, being committed after PCOMMIT, and persistent after the next
serialization (R101, R102, R105). -/
theorem State.persistent_of_draining {s : State} {a : Nat} (h : (a, Durability.draining) ∈ s.durability) :
    (a, Durability.persistent) ∈ s.serialize.commitStores.serialize.durability := by
  have accepted : (a, Durability.accepted) ∈ s.serialize.durability := List.mem_map.2 ⟨_, h, rfl⟩
  have committing : (a, Durability.committing) ∈ s.serialize.commitStores.durability :=
    List.mem_map.2 ⟨_, accepted, rfl⟩
  exact List.mem_map.2 ⟨_, committing, rfl⟩

/-- The newest store to an address has its entry. -/
theorem mem_setDurability_self (m : List (Nat × Durability)) (a : Nat) (d : Durability) : (a, d) ∈ setDurability m a d := by
  induction m with
  | nil => simp [setDurability]
  | cons c m ih =>
    obtain ⟨c, e⟩ := c
    unfold setDurability
    split
    · simp
    · split
      · simp
      · simp [ih]

/-- A store to a persistent byte has the entry of a store that a fence accepts to memory, or of one that needs a flush. -/
theorem State.storeByte_entry {s : State} {a : Nat} (h : s.isPmem a = true) (nt : Bool) (v : Byte) :
    (a, if s.storesThrough nt a then Durability.draining else .stored) ∈ (s.storeByte nt a v).durability := by
  simp only [State.storeByte, h, if_true]
  exact mem_setDurability_self ..

/-- The stores that need no flush are those a fence accepts to memory (R101). -/
theorem State.storesThrough_iff (s : State) (nt : Bool) (a : Nat) : s.storesThrough nt a = true ↔ NeedsNoFlush s nt a := by
  unfold State.storesThrough NeedsNoFlush
  cases s.memType a <;> simp

/-- An address lies in its own cache line. -/
theorem State.mem_line (s : State) (a : Nat) :
    a / s.lineSize * s.lineSize ≤ a ∧ a < a / s.lineSize * s.lineSize + s.lineSize := by
  have pos : 0 < s.lineSize := Nat.lt_of_lt_of_le Nat.one_pos (Nat.le_max_left ..)
  have split := Nat.div_add_mod' a s.lineSize
  have small := Nat.mod_lt a pos
  omega

/-- CLFLUSH of the line of a byte, stored or already being written back, has it written back. -/
theorem State.draining_clflush {s : State} {a : Nat} {b : Bool}
    (h : (a, if b then Durability.draining else .stored) ∈ s.durability) :
    (a, Durability.draining) ∈ (s.clflush a).durability := by
  cases b with
  | true => exact State.draining_writeBackLine h _ _
  | false =>
    obtain ⟨h1, h2⟩ := s.mem_line a
    exact State.draining_of_stored h h1 h2

/-- Settles O39: each sequence brings the byte's entry to `draining`, from where `persistent_of_draining` takes it on. -/
theorem flushCommitPersists : Obligations.FlushCommitPersists := by
  refine ⟨?_, ?_, ?_, ?_, ?_⟩
  · intro s a line size _ h h1 h2
    exact State.persistent_of_draining (State.draining_of_stored h h1 h2)
  · intro s nt a v hp
    exact State.persistent_of_draining (State.draining_clflush (State.storeByte_entry hp nt v))
  · intro s a
    rfl
  · intro s nt a v hp hn
    have entry := State.storeByte_entry hp nt v
    rw [if_pos ((s.storesThrough_iff nt a).2 hn)] at entry
    exact State.persistent_of_draining entry
  · intro s v
    refine ⟨fun t h => ?_, fun t h => ?_, rfl, rfl, rfl, rfl⟩
    · obtain ⟨-, rfl⟩ := setCr4_spec h
      rfl
    · obtain ⟨-, rfl⟩ := setXss_spec h
      rfl

end Sys2Proof.Machine
end

section
/-! PROOFS. Masked stores (statement O48): which bytes a store under a writemask changes, and that no row accepts zeroing with a
memory destination. -/

namespace Sys2Proof.Machine

open Sys2Proof.Claims

/-! ### O48: stores under a writemask -/

/-- A store of those of the bytes that `on` selects: these hold their bytes, the others and all other memory are as before. -/
theorem Stored.selected {s t : State} {nt : Bool} {v : ZWord} {ps : List (Nat × Nat)} {on : Nat × Nat → Bool}
    (h : Stored s t nt v (ps.filter on)) (hn : (ps.map (·.2)).Nodup) (hw : s.mem.wf = true) :
    (∀ p ∈ ps, t.mem.get p.2 = if on p then byteAt p.1 v else s.mem.get p.2) ∧
      ∀ a, (∀ p ∈ ps, on p = true → p.2 ≠ a) → t.mem.get a = s.mem.get a := by
  obtain ⟨written, kept, -⟩ := h
  have hnf : ((ps.filter on).map (·.2)).Nodup := hn.sublist (List.filter_sublist.map _)
  have others : ∀ a, (∀ p ∈ ps, on p = true → p.2 ≠ a) → t.mem.get a = s.mem.get a := fun a ha =>
    kept a fun p hp => ha p (List.mem_of_mem_filter hp) (List.mem_filter.1 hp).2
  refine ⟨fun p hp => ?_, others⟩
  split
  · next hon => exact written hw hnf p (List.mem_filter.2 ⟨hp, hon⟩)
  · next hoff =>
    refine others _ fun q hq hqon heq => hoff ?_
    rw [← List.inj_on_of_nodup_map hn hq hp heq]
    exact hqon

section
variable {s : State} {rows : List Row} {o : Operands} {r : Row} {w n : Nat} {m : MemOp} {ps : List (Nat × Nat)}

/-- A masked write of `n` elements to a memory operand changes the bytes of the selected elements alone. -/
theorem putRM_masked {nt : Bool} {f : Nat → BitVec w} {body : Row → Except Abort State} (h : s.selects rows o r)
    (hr : o.rm = .mem m) (hp : s.storeTargets r o m w n = .ok ps) (hn : (ps.map (·.2)).Nodup) (hw : s.mem.wf = true)
    (hb : body r = s.putRM r o nt w n f) :
    ∃ t, s.run rows o body = .next t ∧
      (∀ p ∈ ps, t.mem.get p.2 =
        if (s.writemask o).getLsbD (p.1 / (w / 8)) then byteAt p.1 (pack w n f) else s.mem.get p.2) ∧
      ∀ a, (∀ p ∈ ps, (s.writemask o).getLsbD (p.1 / (w / 8)) = true → p.2 ≠ a) → t.mem.get a = s.mem.get a := by
  obtain ⟨t, ht, hst, -⟩ := putRM_mem (f := fun _ => f) h hr hp hb
  exact ⟨t, ht, hst.selected hn hw⟩

end

/-- A vector of one element. -/
theorem pack_one {w : Nat} (f : Nat → BitVec w) : pack w 1 f = (f 0).setWidth 512 := by
  simp [pack]

theorem moveFull_store {s : State} {r : Row} {o : Operands} (h : r.memDst = true) (nt : Bool) (w : Nat) :
    s.moveFull r o nt w = s.putRM r o nt w (r.count o w) fun j => elem w j (s.getZ o.reg) := by
  simp only [State.moveFull, h, if_true]

/-- A scalar store is a masked write of one element. -/
theorem moveScalar_store {s : State} {r : Row} {o : Operands} {m : MemOp} (hr : o.rm = .mem m) (h : r.memDst = true)
    (w : Nat) : s.moveScalar r o w = s.putRM r o false w 1 fun _ => elem w 0 (s.getZ o.reg) := by
  simp only [State.moveScalar, State.putRM, hr, h, if_true, pack_one]

/-- Floating-point conditions change no byte that the result does not. -/
theorem State.fpRespond_get {s : State} {commit : State → State} {a : Nat}
    (h : ∀ t, (commit t).mem.get a = t.mem.get a) (sae : Bool) (f : FpFlags) :
    (s.fpRespond sae f commit).mem.get a = s.mem.get a := by
  unfold State.fpRespond
  split
  · exact h s
  · split
    · rfl
    · exact h _

/-- VCVTPS2PH to memory changes no byte but those of selected elements, whether or not it takes an exception. -/
theorem cvtToHalf_get {s u : State} {r : Row} {o : Operands} {m : MemOp} {ps : List (Nat × Nat)} (hr : o.rm = .mem m)
    (hp : s.checkMem .write m.seg (s.ea m) (elemOffs 16 (r.count o 32) (s.accessMask r o)) 1 (r.acArg (2 * r.count o 32)) =
      .ok ps) (hu : s.cvtToHalf r o = .ok u) {a : Nat}
    (ha : ∀ p ∈ ps, (s.writemask o).getLsbD (p.1 / 2) = true → p.2 ≠ a) : u.mem.get a = s.mem.get a := by
  simp only [State.cvtToHalf, hr, hp, Except.map, Except.ok.injEq] at hu
  rw [← hu]
  refine State.fpRespond_get (fun t => State.storeBytes_get_ne _ _ _ _ _ fun p hpf => ?_) _ _
  obtain ⟨hpm, hon⟩ := List.mem_filter.1 hpf
  exact ha p hpm hon

/-- What a body does to a byte of memory is what the instruction does to it: taking an exception and moving the pc write none. -/
theorem run_get {s t : State} {rows : List Row} {o : Operands} {r : Row} {body : Row → Except Abort State} {a : Nat}
    (h : s.selects rows o r) (ht : s.run rows o body = .next t)
    (hb : ∀ u, body r = .ok u → u.mem.get a = s.mem.get a) : t.mem.get a = s.mem.get a := by
  rcases State.run_cases ht with ⟨x, rfl⟩ | ⟨r', u, hr', hu, rfl⟩
  · rfl
  · obtain rfl : r = r' := Except.ok.inj (h.2.symm.trans hr')
    rw [State.retire_mem]
    exact hb u hu

/-- A gather or scatter whose selected elements all succeed completes without a fault, and what holds at the start and is kept
by each element holds at the end. -/
theorem gatherLoop_completes {s0 : State} {k : KWord} {act : State → Nat → Except Abort State} {n : Nat} {P : State → Prop}
    (h0 : P s0) (hstep : ∀ j < n, k.getLsbD j = true → ∀ t, P t → ∃ u, act t j = .ok u ∧ P u) :
    (gatherLoop s0 k act n).fault = none ∧ P (gatherLoop s0 k act n).state := by
  have key : ∀ (js : List Nat) (p : Progress), (∀ j ∈ js, j < n) → p.fault = none → P p.state →
      (js.foldl (gatherStep s0 k act) p).fault = none ∧ P (js.foldl (gatherStep s0 k act) p).state := by
    intro js
    induction js with
    | nil => exact fun p _ hf hp => ⟨hf, hp⟩
    | cons j js ih =>
      intro p hjs hf hp
      obtain ⟨hj, hjs⟩ := List.forall_mem_cons.1 hjs
      rw [List.foldl_cons]
      cases hk : k.getLsbD j with
      | false =>
        have hs : gatherStep s0 k act p j = p := by simp [gatherStep, hk]
        rw [hs]
        exact ih p hjs hf hp
      | true =>
        obtain ⟨u, hu, hPu⟩ := hstep j hj hk p.state hp
        have hs : gatherStep s0 k act p j = { p with state := u, done := true } := by simp [gatherStep, hk, hf, hu]
        rw [hs]
        exact ih _ hjs hf hPu
  exact key _ _ (fun j hj => List.mem_range.1 hj) rfl h0

/-- What a scatter from `s` has done so far: stores and cleared mask bits, with the bytes of `keep` as they were. -/
def Scattered (s : State) (keep : Nat → Prop) (t : State) : Prop :=
  t = { s with mem := t.mem, durability := t.durability, k := t.k } ∧ ∀ a, keep a → t.mem.get a = s.mem.get a

/-- Storing one more element, all of whose bytes may be written and none of which is to be kept. -/
theorem Scattered.store {s t : State} {keep : Nat → Prop} (h : Scattered s keep t) {g : SegReg} {ea : Word} {offs : List Nat}
    {ps : List (Nat × Nat)} (hp : s.checkMem .write g ea offs 1 0 = .ok ps) (hk : ∀ a, keep a → ∀ p ∈ ps, p.2 ≠ a)
    (v : ZWord) :
    ∃ u, t.writeMem false g ea offs 1 0 v = .ok u ∧ Scattered s keep u := by
  obtain ⟨frame, bytes⟩ := h
  have hc : t.checkMem .write g ea offs 1 0 = .ok ps := by
    rw [← hp, frame]
    exact State.checkMem_congr _ _ _ _ _ _ rfl rfl ⟨[], rfl⟩ rfl rfl rfl rfl
  refine ⟨t.storeBytes false v ps, by simp only [State.writeMem, hc], ?_, fun a ha => ?_⟩
  · rw [State.storeBytes_eq, frame]
  · rw [State.storeBytes_get_ne _ _ _ _ _ (hk a ha)]
    exact bytes a ha

theorem Scattered.clearMaskBit {s t : State} {keep : Nat → Prop} (h : Scattered s keep t) (aaa : Fin 8) (j : Nat) :
    Scattered s keep (t.clearMaskBit aaa j) := by
  obtain ⟨frame, bytes⟩ := h
  exact ⟨by rw [frame]; rfl, bytes⟩

/-- What a scatter does for element `j`: store it at its own address and clear its mask bit (R792). -/
def State.scatterElem (s : State) (o : Operands) (m : MemOp) (d i : Nat) (t : State) (j : Nat) : Except Abort State :=
  (t.writeMem false m.seg (s.vsibAddr m i j) (List.range (d / 8)) 1 0
    ((elem d j (s.getZ o.reg)).setWidth 512)).map fun u => u.clearMaskBit o.aaa j

/-- A scatter none of whose elements faults clears its mask and ends. -/
theorem State.scatter_ok {s : State} {r : Row} {o : Operands} {m : MemOp} {d i : Nat} (hr : o.rm = .mem m)
    (hf : (gatherLoop s (s.k.get o.aaa) (s.scatterElem o m d i) (r.vl o / max d i)).fault = none) :
    s.scatter r o d i =
      .ok ((gatherLoop s (s.k.get o.aaa) (s.scatterElem o m d i) (r.vl o / max d i)).state.setMask o.aaa 0) := by
  unfold State.scatterElem at hf
  simp only [State.scatter, hr, hf]
  rfl

/-- The address is none of those the elements below `n` that the mask selects go to. -/
def Untouched (k : KWord) (n : Nat) (ps : Nat → List (Nat × Nat)) (a : Nat) : Prop :=
  ∀ j < n, k.getLsbD j = true → ∀ p ∈ ps j, p.2 ≠ a

/-- A scatter whose selected elements may all be written completes, and writes no byte but theirs. -/
theorem scatter_get {s : State} {rows : List Row} {o : Operands} {r : Row} {m : MemOp} {d i : Nat}
    {ps : Nat → List (Nat × Nat)} (h : s.selects rows o r) (hr : o.rm = .mem m)
    (hp : ∀ j < r.vl o / max d i, (s.k.get o.aaa).getLsbD j = true →
      s.checkMem .write m.seg (s.vsibAddr m i j) (List.range (d / 8)) 1 0 = .ok (ps j)) :
    ∃ t, (s.run rows o fun r => s.scatter r o d i) = .next t ∧
      ∀ a, Untouched (s.k.get o.aaa) (r.vl o / max d i) ps a → t.mem.get a = s.mem.get a := by
  obtain ⟨hf, frame, bytes⟩ := gatherLoop_completes (s0 := s) (k := s.k.get o.aaa) (n := r.vl o / max d i)
    (act := s.scatterElem o m d i) (P := Scattered s (Untouched (s.k.get o.aaa) (r.vl o / max d i) ps))
    ⟨rfl, fun _ _ => rfl⟩ fun j hj hk t ht => by
      obtain ⟨u, hu, hsc⟩ := ht.store (hp j hj hk) (fun a ha => ha j hj hk) ((elem d j (s.getZ o.reg)).setWidth 512)
      exact ⟨u.clearMaskBit o.aaa j, by rw [State.scatterElem, hu]; rfl, hsc.clearMaskBit o.aaa j⟩
  refine ⟨_, State.run_ok h (State.scatter_ok hr hf) ?_, bytes⟩
  rw [frame]
  exact h.1

/-- EVEX.z with a memory destination is legal on no row (R84, R123). -/
theorem Row.accepts_zeroing {r : Row} {o : Operands} {m : MemOp} (hr : o.rm = .mem m) (hz : o.z = true)
    (hd : r.memDst = true) : r.accepts o = false := by
  have hm : r.maskOk o = false := by
    unfold Row.maskOk
    cases r.mask <;> simp [hz, hd, Operands.isReg, hr]
  simp [Row.accepts, hm]

/-- Fields no row matches are #UD (R150). -/
theorem State.gate_none {s : State} {rows : List Row} {o : Operands} (h : ∀ r ∈ rows, r.accepts o = false) :
    s.gate rows o = .error { exc := .ud } := by
  have hf : rows.find? (fun r => r.accepts o) = none := List.find?_eq_none.2 fun r hr => by simp [h r hr]
  simp only [State.gate, hf]

/-- Settles O48: the moves, down-conversions and block extracts are masked writes (`putRM_masked`); for the others the bytes
stored to; a zeroing memory destination matches no row. -/
theorem maskedStores : Obligations.MaskedStores := by
  refine ⟨?_, ?_, ?_, ?_, ?_, ?_, ?_, ?_⟩
  · intro e he o s r m ps h hd hr hp hn hw
    rw [moveFull_exec e he]
    exact putRM_masked h hr hp hn hw (moveFull_store hd e.nt e.w)
  · intro e he o s r m ps h hr hp hn hw
    rw [narrowing_exec e he]
    exact putRM_masked h hr hp hn hw rfl
  · intro e he o s r m ps h hr hp hn hw
    rw [extractBlock_exec e he]
    exact putRM_masked h hr hp hn hw rfl
  · intro e he o s r m ps h hd hr hp hn hw
    rw [moveScalar_exec e he]
    have := putRM_masked (body := fun r => s.moveScalar r o e.w) h hr hp hn hw (moveScalar_store hr hd e.w)
    rwa [pack_one] at this
  · intro e he o s t r m ps h hr hp ht a ha
    rw [cvtToHalf_exec e he] at ht
    exact run_get h ht fun u hu => cvtToHalf_get hr hp hu ha
  · intro e he o s r m ps h hr hp
    rw [compress_exec e he]
    obtain ⟨t, ht, ⟨-, kept, -⟩, -⟩ := writeMem_result (body := fun r => s.compress r o e.w) h hp (by
      simp only [State.compress, hr]
      rfl)
    exact ⟨t, ht, kept⟩
  · intro e he o s r m ps h hr hp
    rw [scatter_exec e he]
    exact scatter_get h hr hp
  · intro i o s m ho hr hz hd
    obtain ⟨body, hb⟩ := exec_eq_run i o s ho
    rw [hb]
    refine State.run_gate_error (State.gate_none fun r hm => ?_)
    cases ha : r.accepts o with
    | false => rfl
    | true => rw [← ha]; exact Row.accepts_zeroing hr hz (hd r hm ha)

end Sys2Proof.Machine
end

section
/-! PROOFS. Alignment (statement O49): the rows that ask for it, the shapes that load or store the whole operand, and what a
misaligned operand takes. -/

namespace Sys2Proof.Machine

open Sys2Proof.Claims

/-! ### O49: misaligned operands -/

theorem Row.dvd_vl (r : Row) (o : Operands) : 128 ∣ r.vl o := by
  unfold Row.vl
  repeat' split
  all_goals decide

/-- A row without length bits has the length 128. -/
theorem Row.vl_of_any {r : Row} (h : r.len = .any) (o : Operands) : r.vl o = 128 := by
  simp [Row.vl, h]

/-- The elements of an element width fill the vector length. -/
theorem Row.count_bytes (r : Row) (o : Operands) {w : Nat} (hw : w ∣ 128) : r.count o w * w / 8 = r.vl o / 8 := by
  rw [Row.count, Nat.div_mul_cancel (hw.trans (r.dvd_vl o))]

/-- A body that uses a load that fails takes its exception. -/
theorem loading_error {α : Type} {x : Except Abort (α × List Word)} {f : α → State} {a : Abort} (h : x = .error a) :
    loading x f = .error a := by
  rw [h]
  rfl

/-- A row that asks for alignment is one of a conversion from elements no narrower than those it writes, so that it reads the whole
vector length. -/
def alignedReadsAll (v w : Nat) (rows : List Row) : Bool := rows.all fun r => !r.aligned || decide (w ≤ v)

/-- A row that asks for alignment has no length bits, and ModRM.reg names a vector register or the r/m operand is none in memory:
the immediate forms of shifts are not among its memory forms. -/
def alignedCounts (rows : List Row) : Bool :=
  rows.all fun r => !r.aligned || (r.len == .any && (r.reg == .vec || r.mod == .reg))

/-! The widths of the elements in the tables of which a row asks for alignment, and what these rows are. -/

theorem lanewise_dvd : ∀ e ∈ lanewiseTable, e.w ∣ 128 := by decide
theorem twoSource_dvd : ∀ e ∈ twoSourceTable, e.w ∣ 128 := by decide
theorem oneSource_dvd : ∀ e ∈ oneSourceTable, e.w ∣ 128 := by decide
theorem comparing_dvd : ∀ e ∈ comparingTable, e.w ∣ 128 := by decide
theorem moveFull_dvd : ∀ e ∈ moveFullTable, e.w ∣ 128 := by decide
theorem fpPacked_dvd : ∀ e ∈ fpPackedTable, e.w ∣ 128 := by decide
theorem fpConvert_dvd : ∀ e ∈ fpConvertTable, e.v ∣ 128 := by decide
theorem fpCompareVec_dvd : ∀ e ∈ fpCompareVecTable, e.w ∣ 128 := by decide
theorem fpConvert_alignedReadsAll : ∀ e ∈ fpConvertTable, alignedReadsAll e.v e.w e.rows = true := by decide
theorem uniformShift_alignedCounts : ∀ e ∈ uniformShiftTable, alignedCounts e.rows = true := by decide
theorem sha_alignedCounts : ∀ e ∈ shaTable, alignedCounts e.rows = true := by decide

/-! The shapes of these tables fail where their source does. -/

section
variable (s : State) (r : Row) (o : Operands)

/-- The body uses the r/m source as `n` elements of width `w`, and nothing else of it can fail. -/
def Loads (w n : Nat) (x : Except Abort State) : Prop := ∃ f, x = loading (s.src r o w n) f

theorem vec2_loads (w : Nat) (g : ZWord → ZWord → Nat → BitVec w) : Loads s r o w (r.count o w) (s.vec2 r o w g) :=
  ⟨_, rfl⟩

theorem map2_loads (w : Nat) (f : BitVec w → BitVec w → BitVec w) : Loads s r o w (r.count o w) (s.map2 r o w f) :=
  vec2_loads ..

theorem compareVec_loads (w : Nat) (p : BitVec w → BitVec w → Bool) :
    Loads s r o w (r.count o w) (s.compareVec r o w p) := ⟨_, by unfold State.compareVec; rfl⟩

/-- The count of a uniform shift is one element of 128 bits (R805). -/
theorem shiftAll_loads (h : r.reg = .vec) (w : Nat) (f : BitVec w → Nat → BitVec w) :
    Loads s r o 128 1 (s.shiftAll r o w f) := ⟨_, by simp only [State.shiftAll, h, beq_self_eq_true, if_true]; rfl⟩

theorem fp2_loads {w : Nat} (op : FpEnv → BitVec w → BitVec w → FpRes w) :
    Loads s r o w (r.count o w) (s.fp2 r o op) := ⟨_, rfl⟩

theorem fpWiden_loads {v w : Nat} (op : FpEnv → BitVec v → FpRes w) :
    Loads s r o v (r.count o (max v w)) (s.fpWiden r o op) := ⟨_, by unfold State.fpWiden; rfl⟩

theorem fpCompareVec_loads {w : Nat} (F : Fmt w) : Loads s r o w (r.count o w) (s.fpCompareVec r o F) :=
  ⟨_, by unfold State.fpCompareVec; rfl⟩

theorem sha_loads (g : ZWord → ZWord → ZWord) : Loads s r o 128 1 (s.sha r o g) := ⟨_, rfl⟩

end

/-- A body that loads the whole of a misaligned operand fails with #GP(0), whatever it does with the value. -/
theorem Loads.misaligned {s : State} {o : Operands} {r : Row} {m : MemOp} {w n : Nat} {x : Except Abort State}
    (h : Loads s r o w n x) (hm : o.rm = .mem m) (hb : r.broadcasts o = false) (hn : n * w / 8 = r.vl o / 8)
    (ha : ¬ s.alignedFor r o m) : x = .error { exc := .gp } := by
  obtain ⟨f, rfl⟩ := h
  exact loading_error (State.src_misaligned hm hb hn ha)

/-- A row whose operand is misaligned asks for alignment. -/
theorem State.aligned_of_not_alignedFor {s : State} {r : Row} {o : Operands} {m : MemOp} (h : ¬ s.alignedFor r o m) :
    r.aligned = true := by
  simp only [State.alignedFor, Classical.not_imp] at h
  obtain ⟨hr, -⟩ := h
  exact hr

/-- A row that a memory operand selects and that asks for alignment then has the length 128, and ModRM.reg names a vector
register. -/
theorem alignedCounts_spec {s : State} {rows : List Row} {o : Operands} {r : Row} {m : MemOp} (hrows : alignedCounts rows = true)
    (h : s.selects rows o r) (hm : o.rm = .mem m) (ha : r.aligned = true) : r.vl o = 128 ∧ r.reg = .vec := by
  obtain ⟨hmem, hacc⟩ := State.gate_mem h.2
  have hr := List.all_eq_true.1 hrows r hmem
  simp only [ha, Bool.not_true, Bool.false_or, Bool.and_eq_true, Bool.or_eq_true, beq_iff_eq] at hr
  obtain ⟨hlen, hreg | hmod⟩ := hr
  · exact ⟨Row.vl_of_any hlen o, hreg⟩
  · simp [Row.accepts, hmod, ModReq.accepts, Operands.isReg, hm] at hacc

theorem alignedReadsAll_spec {s : State} {v w : Nat} {rows : List Row} {o : Operands} {r : Row}
    (hrows : alignedReadsAll v w rows = true) (h : s.selects rows o r) (ha : r.aligned = true) : w ≤ v := by
  obtain ⟨hmem, -⟩ := State.gate_mem h.2
  simpa [ha] using List.all_eq_true.1 hrows r hmem

/-- A whole-register move, to memory or from it, of a misaligned operand takes #GP(0). -/
theorem moveFull_misaligned {s : State} {r : Row} {o : Operands} {m : MemOp} {w : Nat} (hm : o.rm = .mem m)
    (hb : r.broadcasts o = false) (hw : w ∣ 128) (ha : ¬ s.alignedFor r o m) (nt : Bool) :
    s.moveFull r o nt w = .error { exc := .gp } := by
  unfold State.moveFull
  split
  · simp only [State.putRM, hm, State.storeElems, r.count_bytes o hw, State.checkMem_misaligned ha]
    rfl
  · exact (map2_loads s r o w fun _ b => b).misaligned hm hb (r.count_bytes o hw) ha

/-- Settles O49: every shape loads or stores the whole operand, so that its check is that of the vector length. -/
theorem misalignedOperand : Obligations.MisalignedOperand := by
  refine ⟨?_, ?_, ?_, ?_, ?_, ?_, ?_, ?_, ?_, ?_⟩ <;> intro e he o s r m h hm hb ha
  · rw [lanewise_exec e he]
    exact State.run_error h ((map2_loads ..).misaligned hm hb (r.count_bytes o (lanewise_dvd e he)) ha)
  · rw [twoSource_exec e he]
    exact State.run_error h ((vec2_loads ..).misaligned hm hb (r.count_bytes o (twoSource_dvd e he)) ha)
  · rw [oneSource_exec e he]
    exact State.run_error h ((vec2_loads ..).misaligned hm hb (r.count_bytes o (oneSource_dvd e he)) ha)
  · rw [comparing_exec e he]
    exact State.run_error h ((compareVec_loads ..).misaligned hm hb (r.count_bytes o (comparing_dvd e he)) ha)
  · rw [uniformShift_exec e he]
    obtain ⟨hvl, hreg⟩ := alignedCounts_spec (uniformShift_alignedCounts e he) h hm (State.aligned_of_not_alignedFor ha)
    exact State.run_error h ((shiftAll_loads s r o hreg e.w e.f).misaligned hm hb (by rw [hvl]) ha)
  · rw [moveFull_exec e he]
    exact State.run_error h (moveFull_misaligned hm hb (moveFull_dvd e he) ha e.nt)
  · rw [fpPacked_exec e he]
    exact State.run_error h ((fp2_loads ..).misaligned hm hb (r.count_bytes o (fpPacked_dvd e he)) ha)
  · rw [fpConvert_exec e he]
    have hw := alignedReadsAll_spec (fpConvert_alignedReadsAll e he) h (State.aligned_of_not_alignedFor ha)
    have hn : r.count o (max e.v e.w) * e.v / 8 = r.vl o / 8 := by
      rw [max_eq_left hw, r.count_bytes o (fpConvert_dvd e he)]
    exact State.run_error h ((fpWiden_loads ..).misaligned hm hb hn ha)
  · rw [fpCompareVec_exec e he]
    exact State.run_error h ((fpCompareVec_loads ..).misaligned hm hb (r.count_bytes o (fpCompareVec_dvd e he)) ha)
  · rw [sha_exec e he]
    obtain ⟨hvl, -⟩ := alignedCounts_spec (sha_alignedCounts e he) h hm (State.aligned_of_not_alignedFor ha)
    exact State.run_error h ((sha_loads ..).misaligned hm hb (by rw [hvl]) ha)

end Sys2Proof.Machine
end

section
/-! PROOFS. Fault suppression (statement O50): an instruction whose elements are all masked off accesses no byte, so it completes;
what each shape then writes. -/

namespace Sys2Proof.Machine

open Sys2Proof.Claims

/-! ### O50: fault suppression -/

/-- No row that suppresses the faults of masked-off elements asks for alignment. -/
def suppressUnaligned (rows : List Row) : Bool := rows.all fun r => !(r.cls.suppress && r.aligned)

/-- No row that asks for alignment has an embedded broadcast. -/
def alignedUnbroadcast (rows : List Row) : Bool := rows.all fun r => !(r.aligned && r.bcast != 0)

/-! But for the whole-register moves no row that suppresses faults asks for alignment (R74, R85). -/

theorem lanewise_suppressUnaligned : ∀ e ∈ lanewiseTable, suppressUnaligned e.rows = true := by
  unfold lanewiseTable
  simp only [List.forall_mem_append]
  exact ⟨⟨by decide, by decide⟩, by decide⟩

theorem lanewiseShift_suppressUnaligned : ∀ e ∈ lanewiseShiftTable, suppressUnaligned e.rows = true := by decide
theorem oneSource_suppressUnaligned : ∀ e ∈ oneSourceTable, suppressUnaligned e.rows = true := by decide
theorem threeSource_suppressUnaligned : ∀ e ∈ threeSourceTable, suppressUnaligned e.rows = true := by decide
theorem broadcast_suppressUnaligned : ∀ e ∈ broadcastTable, suppressUnaligned e.rows = true := by decide
theorem conflicts_suppressUnaligned : ∀ e ∈ conflictsTable, suppressUnaligned e.rows = true := by decide
theorem expand_suppressUnaligned : ∀ e ∈ expandTable, suppressUnaligned e.rows = true := by decide
theorem widening_suppressUnaligned : ∀ e ∈ wideningTable, suppressUnaligned e.rows = true := by decide
theorem fpPacked_suppressUnaligned : ∀ e ∈ fpPackedTable, suppressUnaligned e.rows = true := by decide
theorem fpConvert_suppressUnaligned : ∀ e ∈ fpConvertTable, suppressUnaligned e.rows = true := by decide
theorem fmaVec_suppressUnaligned : ∀ e ∈ fmaVecTable, suppressUnaligned e.rows = true := by decide
theorem fixupVec_suppressUnaligned : ∀ e ∈ fixupVecTable, suppressUnaligned e.rows = true := by decide
theorem blend_suppressUnaligned : ∀ e ∈ blendTable, suppressUnaligned e.rows = true := by decide
theorem uniformShift_suppressUnaligned : ∀ e ∈ uniformShiftTable, suppressUnaligned e.rows = true := by decide
theorem uniformShift_le : ∀ e ∈ uniformShiftTable, e.w ≤ 128 := by decide
theorem fpScalar_suppressUnaligned : ∀ e ∈ fpScalarTable, suppressUnaligned e.rows = true := by decide
theorem fpConvertScalar_suppressUnaligned : ∀ e ∈ fpConvertScalarTable, suppressUnaligned e.rows = true := by decide
theorem approxScalar_suppressUnaligned : ∀ e ∈ approxScalarTable, suppressUnaligned e.rows = true := by decide
theorem fmaScalar_suppressUnaligned : ∀ e ∈ fmaScalarTable, suppressUnaligned e.rows = true := by decide
theorem fixupScalar_suppressUnaligned : ∀ e ∈ fixupScalarTable, suppressUnaligned e.rows = true := by decide
theorem comparing_suppressUnaligned : ∀ e ∈ comparingTable, suppressUnaligned e.rows = true := by decide
theorem fpCompareVec_suppressUnaligned : ∀ e ∈ fpCompareVecTable, suppressUnaligned e.rows = true := by decide
theorem fpCompareScalar_suppressUnaligned : ∀ e ∈ fpCompareScalarTable, suppressUnaligned e.rows = true := by decide
theorem fpClass_suppressUnaligned : ∀ e ∈ fpClassTable, suppressUnaligned e.rows = true := by decide
theorem moveScalar_suppressUnaligned : ∀ e ∈ moveScalarTable, suppressUnaligned e.rows = true := by decide
theorem narrowing_suppressUnaligned : ∀ e ∈ narrowingTable, suppressUnaligned e.rows = true := by decide
theorem moveFull_alignedUnbroadcast : ∀ e ∈ moveFullTable, alignedUnbroadcast e.rows = true := by decide

/-! What is left of an operation when no element is selected. -/

theorem State.noteRead_nil (s : State) : s.noteRead [] = s := by
  unfold State.noteRead
  split <;> rfl

/-- A body that uses a load of nothing marks nothing. -/
theorem loading_none {α : Type} {b : α} {x : Except Abort (α × List Word)} {f : α → State} (h : x = .ok (b, [])) :
    loading x f = .ok (f b) := by
  rw [State.loading_ok h, State.noteRead_nil]

/-- Without conditions no flag is set and nothing is raised. -/
theorem State.fpRespond_zero (s : State) (sae : Bool) (commit : State → State) : s.fpRespond sae 0 commit = commit s := by
  simp [State.fpRespond, State.setMxcsrFlags]

theorem State.setMxcsrFlags_zero (s : State) : s.setMxcsrFlags 0 = s := by
  simp [State.setMxcsrFlags]

theorem orFlags_none {n : Nat} {f : Nat → FpFlags} (h : ∀ j < n, f j = 0) : orFlags f n = 0 := by
  induction n with
  | zero => rfl
  | succ n ih => simp [orFlags, ih fun j hj => h j (Nat.lt_succ_of_lt hj), h n (Nat.lt_succ_self n)]

theorem packMask_none {n : Nat} {f : Nat → Bool} (h : ∀ j < n, f j = false) : packMask n f = 0 := by
  induction n with
  | zero => rfl
  | succ n ih => simp [packMask, ih fun j hj => h j (Nat.lt_succ_of_lt hj), h n (Nat.lt_succ_self n)]

/-- A masked write of a scalar that is not selected writes nothing that depends on the result. -/
theorem ScalarWritten.kept {s t : State} {o : Operands} {d : Fin 32} {w : Nat} {upper : ZWord} {x : BitVec w}
    (h : ScalarWritten s t o d w upper x) (hz : (s.writemask o).getLsbD 0 = false) (y : BitVec w) :
    ScalarWritten s t o d w upper y := by
  obtain ⟨low, rest⟩ := h
  exact ⟨by rw [low, hz]; rfl, rest⟩

/-- An access of no byte passes where no alignment is asked. -/
theorem State.checkMem_nil (s : State) (acc : Access) (g : SegReg) (ea : Word) (ac : Nat) :
    s.checkMem acc g ea [] 1 ac = .ok [] := by
  simp [State.checkMem, Nat.mod_one, State.translateAll]

/-- An element below the length of a write is the one written. -/
theorem elem_putVec (s : State) (sp : Space) (d : Fin 32) (v : ZWord) {w j vl : Nat} (hj : w * j + w ≤ vl) (hv : vl ≤ 512) :
    elem w j ((s.putVec sp d vl v).getZ d) = elem w j v := by
  apply BitVec.eq_of_getLsbD_eq
  intro i hi
  rw [getLsbD_elem, getLsbD_elem, getLsbD_putVec _ _ _ _ _ _ (by omega), if_pos (by omega)]

/-- What a fix-up makes of element `j` (R424). -/
def State.fixupElem {w : Nat} (s : State) (r : Row) (o : Operands) (F : Fmt w) (b : ZWord) (j : Nat) : FpRes w :=
  F.fixup (s.fpEnv r o).daz o.imm (elem w j (s.getZ o.reg)) (elem w j (s.getZ o.vvvv)) (elem w j b)

theorem State.fixupVec_eq {w : Nat} (s : State) (r : Row) (o : Operands) (F : Fmt w) :
    s.fixupVec r o F = loading (s.src r o w (r.count o w)) fun b =>
      (if r.rounding o then s else s.setMxcsrFlags
        (orFlags (fun j => if s.active o j then (s.fixupElem r o F b j).flags else 0) (r.count o w))).putElems
        r o w (r.count o w) fun j => (s.fixupElem r o F b j).val := rfl

theorem State.fixupScalar_eq {w : Nat} (s : State) (r : Row) (o : Operands) (F : Fmt w) :
    s.fixupScalar r o F = loading (s.src r o w 1) fun b =>
      (if r.rounding o then s else s.setMxcsrFlags (if s.active o 0 then (s.fixupElem r o F b 0).flags else 0)).putScalar
        o w (s.getZ o.vvvv) (s.fixupElem r o F b 0).val := rfl

/-- What a floating-point compare finds for element `j`: whether the predicate holds, and the conditions (R342, U7). -/
def State.fpComparison {w : Nat} (s : State) (r : Row) (o : Operands) (F : Fmt w) (b : ZWord) (j : Nat) : Bool × FpFlags :=
  F.cmp (s.fpEnv r o).daz (if o.space == .legacy then o.imm.toNat % 8 else o.imm.toNat % 32) (elem w j (s.src1 r o)) (elem w j b)

theorem State.fpCompareVec_eq {w : Nat} (s : State) (r : Row) (o : Operands) (F : Fmt w) :
    s.fpCompareVec r o F = loading (s.src r o w (r.count o w)) fun b =>
      s.fpRespond (r.rounding o) (s.fpFlags o (r.count o w) fun j =>
        (⟨boolMask w (s.fpComparison r o F b j).1, (s.fpComparison r o F b j).2⟩ : FpRes w)) fun t =>
          if r.reg == .kreg then t.putMask o (r.count o w) fun j => (s.fpComparison r o F b j).1
          else t.putElems r o w (r.count o w) fun j => boolMask w (s.fpComparison r o F b j).1 := rfl

theorem State.fpCompareScalar_eq {w : Nat} (s : State) (r : Row) (o : Operands) (F : Fmt w) :
    s.fpCompareScalar r o F = loading (s.src r o w 1) fun b =>
      s.fpRespond (r.rounding o) (s.fpFlags o 1 fun _ =>
        (⟨boolMask w (s.fpComparison r o F b 0).1, (s.fpComparison r o F b 0).2⟩ : FpRes w)) fun t =>
          if r.reg == .kreg then t.putMask o 1 fun _ => (s.fpComparison r o F b 0).1
          else t.putScalar o w (s.src1 r o) (boolMask w (s.fpComparison r o F b 0).1) := rfl

/-- A vector has an element of each width up to 128. -/
theorem Row.count_pos (r : Row) (o : Operands) {w : Nat} (h0 : 0 < w) (hw : w ≤ 128) : 1 ≤ r.count o w :=
  Nat.div_pos (hw.trans (r.le_vl o)) h0

section
variable {s : State} {rows : List Row} {o : Operands} {r : Row} {m : MemOp} {n : Nat}

theorem State.suppressed.unaligned (h : s.suppressed rows o r m n) (hr : suppressUnaligned rows = true) : r.aligned = false := by
  obtain ⟨hsel, -, hcls, -, -⟩ := h
  obtain ⟨hmem, -⟩ := State.gate_mem hsel.2
  simpa [hcls] using List.all_eq_true.1 hr r hmem

theorem State.suppressed.off (h : s.suppressed rows o r m n) : ∀ j < n, (s.writemask o).getLsbD j = false := by
  obtain ⟨-, -, -, -, hz⟩ := h
  exact hz

theorem State.suppressed.rm (h : s.suppressed rows o r m n) : o.rm = .mem m := by
  obtain ⟨-, hm, -, -, -⟩ := h
  exact hm

theorem State.suppressed.alignedFor (h : s.suppressed rows o r m n) : s.alignedFor r o m := by
  obtain ⟨-, -, -, ha, -⟩ := h
  exact ha

theorem State.suppressed.selects (h : s.suppressed rows o r m n) : s.selects rows o r := by
  obtain ⟨hs, -, -, -, -⟩ := h
  exact hs

/-- Of the elements that may be accessed none is among the first `n`. -/
theorem State.suppressed.unaccessed (h : s.suppressed rows o r m n) : ∀ j < n, (s.accessMask r o).getLsbD j = false := by
  obtain ⟨-, -, hcls, -, hz⟩ := h
  simpa only [State.accessMask, hcls, if_true] using hz

/-- A load of no byte from an operand that need not be aligned. -/
theorem State.suppressed.readOperand_nil (h : s.suppressed rows o r m n) (hr : suppressUnaligned rows = true) (k : Nat) :
    s.readOperand r m [] k = .ok (fromBytes [], []) := by
  have ha : r.alignArg k = 1 := by simp [Row.alignArg, h.unaligned hr]
  rw [State.readOperand, ha, State.readMem_of_checkMem (State.checkMem_nil ..)]
  rfl

/-- The source of a row that asks for no alignment loads nothing. -/
theorem State.suppressed.src (h : s.suppressed rows o r m n) (hr : suppressUnaligned rows = true) (w : Nat) {k : Nat}
    (hk : k ≤ n) : ∃ b, s.src r o w k = .ok (b, []) :=
  State.src_suppressed h hk fun ha => absurd ha (by simp [h.unaligned hr])

/-- Nor does that of a whole-register move, which is aligned where its row asks for it. -/
theorem State.suppressed.src_moveFull {w : Nat} (h : s.suppressed rows o r m (r.count o w))
    (hr : alignedUnbroadcast rows = true) (hw : w ∣ 128) : ∃ b, s.src r o w (r.count o w) = .ok (b, []) := by
  refine State.src_suppressed h (Nat.le_refl _) fun ha => ⟨?_, r.count_bytes o hw⟩
  obtain ⟨hmem, -⟩ := State.gate_mem h.selects.2
  have hb : r.bcast = 0 := by simpa [ha] using List.all_eq_true.1 hr r hmem
  simp [Row.broadcasts, hb]

/-- No result reports a condition. -/
theorem State.suppressed.fpFlags (h : s.suppressed rows o r m n) {w : Nat} (f : Nat → FpRes w) : s.fpFlags o n f = 0 :=
  State.fpFlags_none h.off

/-! How a body completes that writes no selected element. -/

variable {body : Row → Except Abort State}

/-- A masked write of a vector register. -/
theorem State.suppressed.vecWritten {w : Nat} {d : Fin 32} {f : Nat → BitVec w} (h : s.suppressed rows o r m n) (hw : 0 < w)
    (hn : w * n ≤ r.vl o) (hb : body r = .ok (s.putElemsAt r o d w n f)) :
    ∃ t, s.run rows o body = .next t ∧ VecWritten s t o d (r.vl o) w n (fun _ => 0) ∧ ZmmOnly s t := by
  obtain ⟨h1, h2⟩ := run_zmm (l := []) h.selects hb (State.putElemsAt_eq ..)
  exact ⟨_, h1, (State.putElemsAt_written s r o d w n f hw hn).kept h.off _, h2⟩

/-- A masked write of a scalar. -/
theorem State.suppressed.scalarKept {w : Nat} {x : BitVec w} {upper : State → Row → Operands → ZWord}
    (h : s.suppressed rows o r m 1) (hw : w ≤ 128) (hb : body r = .ok (s.putScalar o w (upper s r o) x)) :
    ∃ t, s.run rows o body = .next t ∧ ScalarKept w upper s t o r := by
  obtain ⟨h1, h2⟩ := run_zmm (l := []) h.selects hb (State.putVec_eq ..)
  exact ⟨_, h1, (State.putScalar_written s o w (upper s r o) x hw).kept (h.off 0 Nat.one_pos) _, h2⟩

/-- A masked write of an opmask register. -/
theorem State.suppressed.maskCleared {f : Nat → Bool} (h : s.suppressed rows o r m n) (hb : body r = .ok (s.putMask o n f)) :
    ∃ t, s.run rows o body = .next t ∧ MaskCleared s t o r := by
  have hz : s.putMask o n f = s.setK o.reg 0 :=
    congrArg (s.setK o.reg) (packMask_none fun j hj => by simp [h.off j hj])
  rw [hz] at hb
  obtain ⟨h1, h2⟩ := run_k (u := s.setK o.reg 0) (l := []) h.selects hb rfl
  exact ⟨_, h1, ⟨State.getK_setK_same .., fun x hx => State.getK_setK_ne _ _ _ _ hx⟩, h2⟩

/-- A store of no byte. -/
theorem State.suppressed.nothingWritten (h : s.suppressed rows o r m n) (hb : body r = .ok s) :
    ∃ t, s.run rows o body = .next t ∧ NothingWritten s t o r := by
  have hs := h.selects
  exact ⟨_, run_at hs hb hs.1 rfl, rfl⟩

/-- A masked write of a vector result. -/
theorem State.suppressed.vecKept {w : Nat} {N : Row → Operands → Nat} {f : Nat → BitVec w}
    (h : s.suppressed rows o r m (N r o)) (hw : 0 < w) (hn : w * N r o ≤ r.vl o)
    (hb : body r = .ok (s.putElems r o w (N r o) f)) : ∃ t, s.run rows o body = .next t ∧ VecKept w N s t o r :=
  h.vecWritten hw hn hb

/-- What a compare of no element does: it clears an opmask destination, and keeps or zeroes the elements of a vector (R27, R122). -/
theorem State.suppressed.compared {w : Nat} {N : Row → Operands → Nat} {hit : Nat → Bool} {f : Nat → BitVec w}
    (h : s.suppressed rows o r m (N r o)) (hw : 0 < w) (hn : w * N r o ≤ r.vl o)
    (hb : body r = .ok (if r.reg == .kreg then s.putMask o (N r o) hit else s.putElems r o w (N r o) f)) :
    ∃ t, s.run rows o body = .next t ∧ if r.reg = .kreg then MaskCleared s t o r else VecKept w N s t o r := by
  by_cases hk : r.reg = .kreg
  · simp only [hk, beq_self_eq_true, if_true] at hb ⊢
    exact h.maskCleared hb
  · simp only [hk, beq_iff_eq, if_false] at hb ⊢
    exact h.vecKept hw hn hb

/-- Floating-point results of which none is selected are written as others are. -/
theorem State.suppressed.putFp (h : s.suppressed rows o r m n) {w : Nat} (f : Nat → FpRes w) :
    s.putFp r o n f = s.putElems r o w n fun j => (f j).val := by
  rw [State.putFp, h.fpFlags, State.fpRespond_zero]

theorem State.suppressed.putFpScalar (h : s.suppressed rows o r m 1) {w : Nat} (upper : ZWord) (x : FpRes w) :
    s.putFpScalar r o upper x = s.putScalar o w upper x.val := by
  rw [State.putFpScalar, h.fpFlags, State.fpRespond_zero]

/-- A masked store of which no element is selected, aligned where the row asks for it. -/
theorem State.suppressed.putRM (h : s.suppressed rows o r m n) {w : Nat} (ha : r.aligned = true → n * w / 8 = r.vl o / 8)
    (nt : Bool) (f : Nat → BitVec w) : s.putRM r o nt w n f = .ok s := by
  have hc := State.checkMem_none h.alignedFor .write ha (r.acArg (n * w / 8))
  simp only [State.putRM, h.rm, State.storeElems, elemOffs_none h.unaccessed, hc]
  rfl

end

/-! The shapes whose elements are all masked off. -/

section
variable {make : Operands → Instr} {rows : List Row} {w : Nat}

/-- A shape that loads its source and makes a masked vector of it. -/
theorem vec_suppresses {v : Nat} {N : Row → Operands → Nat} {body : Operands → State → Row → Except Abort State}
    (hx : ∀ o s, exec (make o) s = s.run rows o (body o s)) (hw : 0 < w) (hN : ∀ r o, w * N r o ≤ r.vl o)
    (hr : suppressUnaligned rows = true)
    (hbody : ∀ o s r m b, s.suppressed rows o r m (N r o) → s.src r o v (N r o) = .ok (b, []) →
      ∃ f, body o s r = .ok (s.putElems r o w (N r o) f)) : Suppresses make rows N (VecKept w N) := by
  intro o s r m h
  obtain ⟨b, hb⟩ := h.src hr v (Nat.le_refl _)
  obtain ⟨f, hf⟩ := hbody o s r m b h hb
  rw [hx]
  exact h.vecKept hw (hN r o) hf

theorem vec2_suppresses {g : State → Row → Operands → ZWord → ZWord → Nat → BitVec w}
    (hx : ∀ o s, exec (make o) s = s.run rows o fun r => s.vec2 r o w (g s r o)) (hw : 0 < w)
    (hr : suppressUnaligned rows = true) : Suppresses make rows (fun r o => r.count o w) (VecKept w fun r o => r.count o w) :=
  vec_suppresses hx hw (fun r o => r.count_le o w) hr fun _ _ _ _ _ _ hb => ⟨_, loading_none hb⟩

theorem map2_suppresses {f : BitVec w → BitVec w → BitVec w}
    (hx : ∀ o s, exec (make o) s = s.run rows o fun r => s.map2 r o w f) (hw : 0 < w)
    (hr : suppressUnaligned rows = true) : Suppresses make rows (fun r o => r.count o w) (VecKept w fun r o => r.count o w) :=
  vec2_suppresses (g := fun _ _ _ a b j => f (elem w j a) (elem w j b)) hx hw hr

theorem vec3_suppresses {g : State → Row → Operands → ZWord → ZWord → ZWord → Nat → BitVec w}
    (hx : ∀ o s, exec (make o) s = s.run rows o fun r => s.vec3 r o w (g s r o)) (hw : 0 < w)
    (hr : suppressUnaligned rows = true) : Suppresses make rows (fun r o => r.count o w) (VecKept w fun r o => r.count o w) :=
  vec_suppresses hx hw (fun r o => r.count_le o w) hr fun _ _ _ _ _ _ hb => ⟨_, loading_none hb⟩

theorem conflicts_suppresses (hx : ∀ o s, exec (make o) s = s.run rows o fun r => s.conflicts r o w) (hw : 0 < w)
    (hr : suppressUnaligned rows = true) : Suppresses make rows (fun r o => r.count o w) (VecKept w fun r o => r.count o w) :=
  vec_suppresses hx hw (fun r o => r.count_le o w) hr fun _ _ _ _ _ _ hb =>
    ⟨_, by unfold State.conflicts; exact loading_none hb⟩

theorem widen_suppresses {v : Nat} {f : BitVec v → BitVec w}
    (hx : ∀ o s, exec (make o) s = s.run rows o fun r => s.widen r o v w f) (hw : 0 < w) (hr : suppressUnaligned rows = true) :
    Suppresses make rows (fun r o => r.count o (max v w)) (VecKept w fun r o => r.count o (max v w)) :=
  vec_suppresses hx hw (fun r o => r.count_max_le o v w) hr fun _ _ _ _ _ _ hb =>
    ⟨_, by unfold State.widen; exact loading_none hb⟩

theorem fp2_suppresses {op : Operands → FpEnv → BitVec w → BitVec w → FpRes w}
    (hx : ∀ o s, exec (make o) s = s.run rows o fun r => s.fp2 r o (op o)) (hw : 0 < w)
    (hr : suppressUnaligned rows = true) : Suppresses make rows (fun r o => r.count o w) (VecKept w fun r o => r.count o w) :=
  vec_suppresses hx hw (fun r o => r.count_le o w) hr fun _ _ _ _ _ h hb =>
    ⟨_, (loading_none hb).trans (congrArg _ (h.putFp _))⟩

theorem fpWiden_suppresses {v : Nat} {op : FpEnv → BitVec v → FpRes w}
    (hx : ∀ o s, exec (make o) s = s.run rows o fun r => s.fpWiden r o op) (hw : 0 < w) (hr : suppressUnaligned rows = true) :
    Suppresses make rows (fun r o => r.count o (max v w)) (VecKept w fun r o => r.count o (max v w)) :=
  vec_suppresses hx hw (fun r o => r.count_max_le o v w) hr fun _ _ _ _ _ h hb =>
    ⟨_, by unfold State.fpWiden; exact (loading_none hb).trans (congrArg _ (h.putFp _))⟩

theorem fmaVec_suppresses {F : Fmt w} {form : FmaForm} {p : Bool} {a : Nat → Bool}
    (hx : ∀ o s, exec (make o) s = s.run rows o fun r => s.fmaVec r o F form p a) (hw : 0 < w)
    (hr : suppressUnaligned rows = true) : Suppresses make rows (fun r o => r.count o w) (VecKept w fun r o => r.count o w) :=
  vec_suppresses hx hw (fun r o => r.count_le o w) hr fun _ _ _ _ _ h hb =>
    ⟨_, (loading_none hb).trans (congrArg _ (h.putFp _))⟩

/-- A fix-up of no element sets no flag. -/
theorem fixupVec_suppresses {F : Fmt w} (hx : ∀ o s, exec (make o) s = s.run rows o fun r => s.fixupVec r o F) (hw : 0 < w)
    (hr : suppressUnaligned rows = true) : Suppresses make rows (fun r o => r.count o w) (VecKept w fun r o => r.count o w) :=
  vec_suppresses hx hw (fun r o => r.count_le o w) hr fun o s r _ b h hb => by
    have noFlags : orFlags (fun j => if s.active o j then (s.fixupElem r o F b j).flags else 0) (r.count o w) = 0 :=
      orFlags_none fun j hj => by simp [State.active, h.off j hj]
    refine ⟨fun j => (s.fixupElem r o F b j).val, ?_⟩
    rw [State.fixupVec_eq, loading_none hb, noFlags, State.setMxcsrFlags_zero, ite_self]

/-- A tuple of which no element is broadcast to a selected element is not read. -/
theorem broadcastTuple_suppresses {n : Nat} (hx : ∀ o s, exec (make o) s = s.run rows o fun r => s.broadcastTuple r o w n)
    (hw : 0 < w) (hr : suppressUnaligned rows = true) :
    Suppresses make rows (fun r o => r.count o w) (VecKept w fun r o => r.count o w) := by
  intro o s r m h
  have unread : packMask n (fun i => (List.range (r.count o w)).any fun j => j % n == i && (s.accessMask r o).getLsbD j) = 0 :=
    packMask_none fun i _ => List.any_eq_false.2 fun j hj => by simp [h.unaccessed j (List.mem_range.1 hj)]
  obtain ⟨b, hb⟩ : ∃ b, s.tupleSource r o w n = .ok (b, []) := by
    have unaccessed : elemOffs w n (0 : KWord) = [] := elemOffs_none fun _ _ => BitVec.getLsbD_zero
    simp only [State.tupleSource, h.rm, unread, unaccessed, h.readOperand_nil hr]
    exact ⟨_, rfl⟩
  rw [hx]
  exact h.vecKept hw (r.count_le o w) (loading_none hb)

/-- An expand that selects no element reads none. -/
theorem expand_suppresses (hx : ∀ o s, exec (make o) s = s.run rows o fun r => s.expand r o w) (hw : 0 < w)
    (hr : suppressUnaligned rows = true) : Suppresses make rows (fun r o => r.count o w) (VecKept w fun r o => r.count o w) := by
  intro o s r m h
  obtain ⟨b, hb⟩ : ∃ b, s.expandSource r o w = .ok (b, []) := by
    simp only [State.expandSource, h.rm, State.selected, popCount_none h.off, Nat.zero_mul, Nat.zero_div, List.range_zero,
      h.readOperand_nil hr]
    exact ⟨_, rfl⟩
  rw [hx]
  exact h.vecKept hw (r.count_le o w) (loading_none hb)

/-- A blend that selects no element of the second source takes those of the first, or zeros (R325). -/
theorem blend_suppresses (hx : ∀ o s, exec (make o) s = s.run rows o fun r => s.blend r o w)
    (hr : suppressUnaligned rows = true) : Suppresses make rows (fun r o => r.count o w) fun s t o r =>
      (∀ j < r.count o w, elem w j (t.getZ o.reg) = if o.z then 0 else elem w j (s.src1 r o)) ∧
      (∀ i < 512, r.vl o ≤ i → (t.getZ o.reg).getLsbD i = (decide (o.space = .legacy) && (s.getZ o.reg).getLsbD i)) ∧
      (∀ x, x ≠ o.reg → t.getZ x = s.getZ x) ∧ ZmmOnly s t := by
  intro o s r m h
  obtain ⟨b, hb⟩ := h.src hr w (Nat.le_refl _)
  have hbody : s.blend r o w = .ok (s.putVec o.space o.reg (r.vl o) (pack w (r.count o w) fun j =>
      mergeElem (s.writemask o) o.z j (elem w j b) (elem w j (s.src1 r o)))) := by
    unfold State.blend
    exact loading_none hb
  obtain ⟨h1, h2⟩ := run_zmm (body := fun r => s.blend r o w) (l := []) h.selects hbody (State.putVec_eq ..)
  rw [hx]
  refine ⟨_, h1, fun j hj => ?_, fun i hi hvl => ?_, fun x hne => getZ_putVec_ne _ _ _ _ _ _ hne, h2⟩
  · have hn := r.count_le o w
    have hjn : w * j + w ≤ r.vl o := (Nat.mul_le_mul_left w hj).trans hn
    refine (elem_putVec s o.space o.reg _ hjn (r.vl_le o)).trans ?_
    rw [elem_pack w _ _ j hj (hn.trans (r.vl_le o)), mergeElem, h.off j hj]
    rfl
  · have high := getLsbD_putVec s o.space o.reg (r.vl o) (pack w (r.count o w) fun j =>
      mergeElem (s.writemask o) o.z j (elem w j b) (elem w j (s.src1 r o))) i hi
    rw [if_neg (Nat.not_lt.2 hvl)] at high
    exact high

/-- The count of a uniform shift is one element; its data are all of the operand's (R805). -/
theorem shiftAll_suppresses {f : BitVec w → Nat → BitVec w}
    (hx : ∀ o s, exec (make o) s = s.run rows o fun r => s.shiftAll r o w f) (hw : 0 < w) (hle : w ≤ 128)
    (hr : suppressUnaligned rows = true) : Suppresses make rows (fun r o => r.count o w) fun s t o r =>
      VecWritten s t o (if r.reg = .vec then o.reg else o.vvvv) (r.vl o) w (r.count o w) (fun _ => 0) ∧ ZmmOnly s t := by
  intro o s r m h
  rw [hx]
  by_cases hv : r.reg = .vec
  · obtain ⟨c, hc⟩ := h.src hr 128 (r.count_pos o hw hle)
    have hbody : s.shiftAll r o w f = .ok (s.putElems r o w (r.count o w) fun j =>
        f (elem w j (s.src1 r o)) (elem 64 0 c).toNat) := by
      simp only [State.shiftAll, hv, beq_self_eq_true, if_true]
      exact loading_none hc
    simp only [hv, if_true]
    exact h.vecWritten hw (r.count_le o w) hbody
  · obtain ⟨b, hb⟩ := h.src hr w (Nat.le_refl _)
    have hbody : s.shiftAll r o w f = .ok (s.putElemsAt r o o.vvvv w (r.count o w) fun j => f (elem w j b) o.imm.toNat) := by
      simp only [State.shiftAll, beq_iff_eq, hv, if_false, h.rm]
      split
      · next hreg => cases hreg
      · exact loading_none hb
    simp only [hv, if_false]
    exact h.vecWritten hw (r.count_le o w) hbody

/-- A shape that loads one element and makes a masked scalar of it. -/
theorem scalar_suppresses {v : Nat} {upper : State → Row → Operands → ZWord}
    {body : Operands → State → Row → Except Abort State} (hx : ∀ o s, exec (make o) s = s.run rows o (body o s)) (hw : w ≤ 128) (hr : suppressUnaligned rows = true)
    (hbody : ∀ o s r m b, s.suppressed rows o r m 1 → s.src r o v 1 = .ok (b, []) →
      ∃ x, body o s r = .ok (s.putScalar o w (upper s r o) x)) : Suppresses make rows (fun _ _ => 1) (ScalarKept w upper) := by
  intro o s r m h
  obtain ⟨b, hb⟩ := h.src hr v (Nat.le_refl 1)
  obtain ⟨x, hx'⟩ := hbody o s r m b h hb
  rw [hx]
  exact h.scalarKept hw hx'

theorem fp2s_suppresses {op : Operands → FpEnv → BitVec w → BitVec w → FpRes w}
    (hx : ∀ o s, exec (make o) s = s.run rows o fun r => s.fp2s r o (op o)) (hw : w ≤ 128)
    (hr : suppressUnaligned rows = true) : Suppresses make rows (fun _ _ => 1) (ScalarKept w State.src1) :=
  scalar_suppresses hx hw hr fun _ _ _ _ _ h hb => ⟨_, (loading_none hb).trans (congrArg _ (h.putFpScalar _ _))⟩

theorem fpScalarFrom_suppresses {v : Nat} {op : FpEnv → BitVec v → FpRes w}
    (hx : ∀ o s, exec (make o) s = s.run rows o fun r => s.fpScalarFrom r o op) (hw : w ≤ 128)
    (hr : suppressUnaligned rows = true) : Suppresses make rows (fun _ _ => 1) (ScalarKept w State.src1) :=
  scalar_suppresses hx hw hr fun _ _ _ _ _ h hb => ⟨_, (loading_none hb).trans (congrArg _ (h.putFpScalar _ _))⟩

theorem approxScalar_suppresses {f : FpEnv → BitVec w → BitVec w}
    (hx : ∀ o s, exec (make o) s = s.run rows o fun r => s.approxScalar r o f) (hw : w ≤ 128)
    (hr : suppressUnaligned rows = true) : Suppresses make rows (fun _ _ => 1) (ScalarKept w State.src1) :=
  scalar_suppresses hx hw hr fun _ _ _ _ _ _ hb => ⟨_, loading_none hb⟩

theorem fmaScalar_suppresses {F : Fmt w} {form : FmaForm} {p a : Bool}
    (hx : ∀ o s, exec (make o) s = s.run rows o fun r => s.fmaScalar r o F form p a) (hw : w ≤ 128)
    (hr : suppressUnaligned rows = true) :
    Suppresses make rows (fun _ _ => 1) (ScalarKept w fun s _ o => s.getZ o.reg) :=
  scalar_suppresses hx hw hr fun _ _ _ _ _ h hb => ⟨_, (loading_none hb).trans (congrArg _ (h.putFpScalar _ _))⟩

theorem fixupScalar_suppresses {F : Fmt w} (hx : ∀ o s, exec (make o) s = s.run rows o fun r => s.fixupScalar r o F)
    (hw : w ≤ 128) (hr : suppressUnaligned rows = true) :
    Suppresses make rows (fun _ _ => 1) (ScalarKept w fun s _ o => s.getZ o.vvvv) :=
  scalar_suppresses hx hw hr fun o s r _ b h hb => by
    have inactive : s.active o 0 = false := h.off 0 Nat.one_pos
    refine ⟨(s.fixupElem r o F b 0).val, ?_⟩
    rw [State.fixupScalar_eq, loading_none hb, inactive, if_neg Bool.false_ne_true, State.setMxcsrFlags_zero, ite_self]

theorem compareVec_suppresses {p : Operands → BitVec w → BitVec w → Bool}
    (hx : ∀ o s, exec (make o) s = s.run rows o fun r => s.compareVec r o w (p o)) (hw : 0 < w)
    (hr : suppressUnaligned rows = true) : Suppresses make rows (fun r o => r.count o w) fun s t o r =>
      if r.reg = .kreg then MaskCleared s t o r else VecKept w (fun r o => r.count o w) s t o r := by
  intro o s r m h
  obtain ⟨b, hb⟩ := h.src hr w (Nat.le_refl _)
  have hbody : s.compareVec r o w (p o) = .ok (if r.reg == .kreg
      then s.putMask o (r.count o w) fun j => p o (elem w j (s.src1 r o)) (elem w j b)
      else s.putElems r o w (r.count o w) fun j => boolMask w (p o (elem w j (s.src1 r o)) (elem w j b))) := by
    unfold State.compareVec
    exact loading_none hb
  rw [hx]
  exact h.compared hw (r.count_le o w) hbody

theorem fpCompareVec_suppresses {F : Fmt w} (hx : ∀ o s, exec (make o) s = s.run rows o fun r => s.fpCompareVec r o F)
    (hw : 0 < w) (hr : suppressUnaligned rows = true) : Suppresses make rows (fun r o => r.count o w) fun s t o r =>
      if r.reg = .kreg then MaskCleared s t o r else VecKept w (fun r o => r.count o w) s t o r := by
  intro o s r m h
  obtain ⟨b, hb⟩ := h.src hr w (Nat.le_refl _)
  have hbody : s.fpCompareVec r o F = .ok (if r.reg == .kreg
      then s.putMask o (r.count o w) fun j => (s.fpComparison r o F b j).1
      else s.putElems r o w (r.count o w) fun j => boolMask w (s.fpComparison r o F b j).1) := by
    rw [State.fpCompareVec_eq, loading_none hb, State.fpFlags_none h.off, State.fpRespond_zero]
  rw [hx]
  exact h.compared hw (r.count_le o w) hbody

theorem fpCompareScalar_suppresses {F : Fmt w} (hx : ∀ o s, exec (make o) s = s.run rows o fun r => s.fpCompareScalar r o F)
    (hw : w ≤ 128) (hr : suppressUnaligned rows = true) : Suppresses make rows (fun _ _ => 1) fun s t o r =>
      if r.reg = .kreg then MaskCleared s t o r else ScalarKept w State.src1 s t o r := by
  intro o s r m h
  obtain ⟨b, hb⟩ := h.src hr w (Nat.le_refl 1)
  have hbody : s.fpCompareScalar r o F = .ok (if r.reg == .kreg
      then s.putMask o 1 fun _ => (s.fpComparison r o F b 0).1
      else s.putScalar o w (s.src1 r o) (boolMask w (s.fpComparison r o F b 0).1)) := by
    rw [State.fpCompareScalar_eq, loading_none hb, State.fpFlags_none h.off, State.fpRespond_zero]
  rw [hx]
  by_cases hk : r.reg = .kreg
  · simp only [hk, beq_self_eq_true, if_true] at hbody ⊢
    exact h.maskCleared hbody
  · simp only [hk, beq_iff_eq, if_false] at hbody ⊢
    exact h.scalarKept hw hbody

theorem fpClass_suppresses {F : Fmt w} {N : Row → Operands → Nat}
    (hx : ∀ o s, exec (make o) s = s.run rows o fun r => s.fpClass r o F (N r o)) (hr : suppressUnaligned rows = true) :
    Suppresses make rows N MaskCleared := by
  intro o s r m h
  obtain ⟨b, hb⟩ := h.src hr w (Nat.le_refl _)
  rw [hx]
  exact h.maskCleared (loading_none hb)

/-- A whole-register move stores nothing, or keeps or zeroes the elements of its destination. -/
theorem moveFull_suppresses {nt : Bool} (hx : ∀ o s, exec (make o) s = s.run rows o fun r => s.moveFull r o nt w)
    (hw : 0 < w) (hd : w ∣ 128) (hr : alignedUnbroadcast rows = true) :
    Suppresses make rows (fun r o => r.count o w) fun s t o r =>
      if r.memDst then NothingWritten s t o r else VecKept w (fun r o => r.count o w) s t o r := by
  intro o s r m h
  rw [hx]
  by_cases hm : r.memDst = true
  · have hbody : s.moveFull r o nt w = .ok s :=
      (moveFull_store hm nt w).trans (h.putRM (fun _ => r.count_bytes o hd) nt _)
    simp only [hm, if_true]
    exact h.nothingWritten hbody
  · obtain ⟨b, hb⟩ := h.src_moveFull hr hd
    have hbody : s.moveFull r o nt w = .ok (s.putElems r o w (r.count o w) fun j => elem w j b) := by
      simp only [State.moveFull, hm, Bool.false_eq_true, if_false, State.map1, State.vec1, State.vec2]
      exact loading_none hb
    simp only [hm, Bool.false_eq_true, if_false]
    exact h.vecKept hw (r.count_le o w) hbody

/-- A scalar move stores nothing, or keeps or zeroes the element of its destination, with zeros above. -/
theorem moveScalar_suppresses (hx : ∀ o s, exec (make o) s = s.run rows o fun r => s.moveScalar r o w) (hw : w ≤ 128)
    (hr : suppressUnaligned rows = true) : Suppresses make rows (fun _ _ => 1) fun s t o r =>
      if r.memDst then NothingWritten s t o r else ScalarKept w (fun _ _ _ => 0) s t o r := by
  intro o s r m h
  rw [hx]
  by_cases hm : r.memDst = true
  · have ha : r.aligned = true → 1 * w / 8 = r.vl o / 8 := fun ha => absurd ha (by simp [h.unaligned hr])
    have hbody : s.moveScalar r o w = .ok s := (moveScalar_store h.rm hm w).trans (h.putRM ha false _)
    simp only [hm, if_true]
    exact h.nothingWritten hbody
  · obtain ⟨b, hb⟩ := h.src hr w (Nat.le_refl 1)
    have hbody : s.moveScalar r o w = .ok (s.putScalar o w 0 (elem w 0 b)) := by
      simp only [State.moveScalar, h.rm, hm, Bool.false_eq_true, if_false]
      exact loading_none hb
    simp only [hm, Bool.false_eq_true, if_false]
    exact h.scalarKept (upper := fun _ _ _ => 0) hw hbody

theorem narrowing_suppresses {v : Nat} {f : BitVec v → BitVec w} (hx : ∀ o s, exec (make o) s =
      s.run rows o fun r => s.putRM r o false w (r.count o v) fun j => f (elem v j (s.getZ o.reg)))
    (hr : suppressUnaligned rows = true) : Suppresses make rows (fun r o => r.count o v) NothingWritten := by
  intro o s r m h
  rw [hx]
  exact h.nothingWritten (h.putRM (fun ha => absurd ha (by simp [h.unaligned hr])) false _)

/-- A compress that selects no element stores none. -/
theorem compress_suppresses (hx : ∀ o s, exec (make o) s = s.run rows o fun r => s.compress r o w) :
    Suppresses make rows (fun r o => r.count o w) NothingWritten := by
  intro o s r m h
  have hbody : s.compress r o w = .ok s := by
    simp only [State.compress, h.rm, State.selected, popCount_none h.off, Nat.zero_mul, Nat.zero_div, List.range_zero,
      State.writeMem, State.checkMem_nil]
    rfl
  rw [hx]
  exact h.nothingWritten hbody

/-- A conversion to half precision of no element reports nothing and stores nothing. -/
theorem cvtToHalf_suppresses (hx : ∀ o s, exec (make o) s = s.run rows o fun r => s.cvtToHalf r o) :
    Suppresses make rows (fun r o => r.count o 32) NothingWritten := by
  intro o s r m h
  have hbody : s.cvtToHalf r o = .ok s := by
    simp only [State.cvtToHalf, h.rm, elemOffs_none h.unaccessed, State.checkMem_nil, Except.map, h.fpFlags,
      State.fpRespond_zero]
    rfl
  rw [hx]
  exact h.nothingWritten hbody

end

/-- Settles O50: each shape with all its elements masked off, on the entries of its table. -/
theorem faultSuppression : Obligations.FaultSuppression := by
  refine ⟨?_, ?_, ?_, ?_, ?_, ?_, ?_, ?_, ?_, ?_, ?_, ?_, ?_, ?_, ?_, ?_, ?_, ?_, ?_, ?_, ?_, ?_, ?_, ?_, ?_, ?_⟩ <;> intro e he
  · rcases List.mem_append.1 he with hl | hs
    · exact map2_suppresses (lanewise_exec e hl) (lanewise_widths e hl) (lanewise_suppressUnaligned e hl)
    · exact map2_suppresses (lanewiseShift_exec e hs) (lanewiseShift_widths e hs) (lanewiseShift_suppressUnaligned e hs)
  · exact vec2_suppresses (oneSource_exec e he) (oneSource_widths e he) (oneSource_suppressUnaligned e he)
  · exact vec3_suppresses (threeSource_exec e he) (threeSource_widths e he) (threeSource_suppressUnaligned e he)
  · exact broadcastTuple_suppresses (broadcast_exec e he) (broadcast_widths e he) (broadcast_suppressUnaligned e he)
  · rcases List.mem_append.1 he with hc | hx
    · have hw : 0 < e.w := by rcases conflicts_widths e hc with hw | hw <;> omega
      exact conflicts_suppresses (conflicts_exec e hc) hw (conflicts_suppressUnaligned e hc)
    · exact expand_suppresses (expand_exec e hx) (expand_widths e hx) (expand_suppressUnaligned e hx)
  · exact widen_suppresses (widening_exec e he) (widening_widths e he) (widening_suppressUnaligned e he)
  · exact fp2_suppresses (fpPacked_exec e he) (fpPacked_widths e he) (fpPacked_suppressUnaligned e he)
  · exact fpWiden_suppresses (fpConvert_exec e he) (fpConvert_widths e he) (fpConvert_suppressUnaligned e he)
  · exact fmaVec_suppresses (fmaVec_exec e he) (fmaVec_widths e he) (fmaVec_suppressUnaligned e he)
  · exact fixupVec_suppresses (fixupVec_exec e he) (fixupVec_widths e he) (fixupVec_suppressUnaligned e he)
  · exact blend_suppresses (blend_exec e he) (blend_suppressUnaligned e he)
  · exact shiftAll_suppresses (uniformShift_exec e he) (uniformShift_widths e he) (uniformShift_le e he)
      (uniformShift_suppressUnaligned e he)
  · exact fp2s_suppresses (fpScalar_exec e he) (fpScalar_widths e he) (fpScalar_suppressUnaligned e he)
  · exact fpScalarFrom_suppresses (fpConvertScalar_exec e he) (fpConvertScalar_widths e he)
      (fpConvertScalar_suppressUnaligned e he)
  · exact approxScalar_suppresses (approxScalar_exec e he) (approxScalar_widths e he) (approxScalar_suppressUnaligned e he)
  · exact fmaScalar_suppresses (fmaScalar_exec e he) (fmaScalar_widths e he) (fmaScalar_suppressUnaligned e he)
  · exact fixupScalar_suppresses (fixupScalar_exec e he) (fixupScalar_widths e he) (fixupScalar_suppressUnaligned e he)
  · exact compareVec_suppresses (comparing_exec e he) (comparing_widths e he) (comparing_suppressUnaligned e he)
  · exact fpCompareVec_suppresses (fpCompareVec_exec e he) (fpCompareVec_widths e he) (fpCompareVec_suppressUnaligned e he)
  · exact fpCompareScalar_suppresses (fpCompareScalar_exec e he) (fpCompareScalar_widths e he)
      (fpCompareScalar_suppressUnaligned e he)
  · exact fpClass_suppresses (fpClass_exec e he) (fpClass_suppressUnaligned e he)
  · exact moveFull_suppresses (moveFull_exec e he) (moveFull_widths e he) (moveFull_dvd e he) (moveFull_alignedUnbroadcast e he)
  · obtain ⟨-, hw⟩ := moveScalar_widths e he
    exact moveScalar_suppresses (moveScalar_exec e he) hw (moveScalar_suppressUnaligned e he)
  · exact narrowing_suppresses (narrowing_exec e he) (narrowing_suppressUnaligned e he)
  · exact compress_suppresses (compress_exec e he)
  · exact cvtToHalf_suppresses (cvtToHalf_exec e he)

end Sys2Proof.Machine
end

section
/-! PROOFS. The decoder seen from the machine (statements O41, O54, O56): the checks before execution come first, words decode to
their instructions, and bytes that are no instruction have one stated outcome. -/

namespace Sys2Proof.Machine

/-! ### O41: the checks before execution come first -/

/-- Settles O41: every instruction with fields is `State.run` on the rows of its name, which asks `gate` before its body. -/
theorem checksComeFirst : Obligations.ChecksComeFirst := by
  intro i o s a ho hg
  obtain ⟨body, hbody⟩ := exec_eq_run i o s ho
  rw [hbody]
  exact State.run_gate_error hg

/-! ### O54 and O56: words and bytes that are no instruction -/

theorem decode_of_fields {m : DecodeMode} {bs : List Byte} {d : Decoded} (h : decodeFields m bs = .ok d) :
    decode m bs = .ok (d.name.make d.ops, d.len) := by
  simp only [decode, h]

/-- Settles O54: the fields of each word evaluate, and its name makes the instruction of them. -/
theorem wordsDecode : Obligations.WordsDecode := by
  refine ⟨?cpuid, ?vex, ?legacy, ?evex, ?opmask, ?disp8⟩
  case cpuid => exact decode_of_fields (d := ⟨.cpuid, _, 2⟩) (by rfl)
  case vex => exact decode_of_fields (d := ⟨.vaddps, _, 4⟩) (by decide +kernel)
  case legacy => exact decode_of_fields (d := ⟨.paddd, _, 4⟩) (by decide +kernel)
  case evex => exact decode_of_fields (d := ⟨.vaddps, _, 6⟩) (by decide +kernel)
  case opmask => exact decode_of_fields (d := ⟨.kandw, _, 4⟩) (by decide +kernel)
  case disp8 => exact decode_of_fields (d := ⟨.vmovups, _, 7⟩) (by decide +kernel)

/-- Bytes without an instruction are bytes without fields. -/
theorem decode_error {m : DecodeMode} {bs : List Byte} {p : Stop} (h : decode m bs = .error p) :
    decodeFields m bs = .error p := by
  unfold decode at h
  split at h
  · next hd =>
    cases h
    exact hd
  · cases h

/-- A step whose bytes are no instruction answers what `stopped` says of the decoder's stop. -/
theorem step_stopped {s : State} {p : Stop} (he : s.event = none) (hm : s.modeExists = true)
    (h : decode s.decodeMode s.fetch.1 = .error p) : step s = s.stopped p s.fetch.2 := by
  simp only [step, he, hm, decode_error h, Bool.not_true, Bool.false_eq_true, if_false]

/-- A step in a mode the part lacks is refused (R235). -/
theorem step_noSuchMode {s : State} (he : s.event = none) (hm : s.modeExists = false) : step s = .refused .noSuchMode := by
  simp only [step, he, hm, Bool.not_false, if_true]

/-- Settles O56: `stopped` has one answer for each stop of the decoder, and a state in 64-bit mode has a mode only on a part
with Intel 64. -/
theorem rejectedBytes : Obligations.RejectedBytes := by
  constructor
  · intro s p he hm h
    rw [step_stopped he hm h]
    refine ⟨?ud, ?fault, ?tooLong, ?unknown, ?unpredictable⟩
    case ud => rintro rfl; rfl
    case fault => rintro a rfl ha; simp only [State.stopped, ha, Option.getD_some]
    case tooLong => rintro rfl ha; simp only [State.stopped, ha, Option.getD_none]
    case unknown => rintro rfl; rfl
    case unpredictable => rintro rfl; rfl
  · intro s he hlong h64
    exact step_noSuchMode he (by simp [State.modeExists, hlong, h64])

end Sys2Proof.Machine
end

section
/-! PROOFS. The rows of the opcode table are told apart by what the decoder sees of an instruction before its operands
(statement O53): one check over all rows, evaluated once, and what follows from it for fields that a row accepts. -/

namespace Sys2Proof.Machine

/-! ### Rows that exclude each other -/

/-- Digits of ModRM.reg that exclude each other (R145). -/
def RegUse.digitApart : RegUse → RegUse → Bool
  | .ext n, .ext k => n != k
  | _, _ => false

/-- W bits that exclude each other (R142). -/
def WReq.apart : WReq → WReq → Bool
  | .w0, .w1 | .w1, .w0 => true
  | _, _ => false

/-- Values of ModRM.mod that exclude each other (D28). -/
def ModReq.apart : ModReq → ModReq → Bool
  | .reg, .mem | .mem, .reg => true
  | _, _ => false

/-- Lengths that exclude each other (R124, R125): different ones, on rows for which EVEX.b means the same or never is
ignored. -/
def Row.lenApart (r q : Row) : Bool :=
  r.len != .any && q.len != .any && r.len != q.len && (r.rnd == q.rnd || (r.rnd != .ignored && q.rnd != .ignored))

/-- No fields are accepted by both rows. -/
def Row.apart (r q : Row) : Bool :=
  r.space != q.space || r.pp != q.pp || r.opcode != q.opcode || r.w.apart q.w || r.mod.apart q.mod || r.lenApart q

theorem RegUse.digitOk_of_digitApart {r q : Row} {g : Nat} (h : r.reg.digitApart q.reg = true) (hr : digitOk r g = true) :
    digitOk q g = false := by
  unfold RegUse.digitApart at h
  split at h
  · next n k hn hk =>
    simp only [digitOk, hn, hk, beq_iff_eq, bne_iff_ne, beq_eq_false_iff_ne] at h hr ⊢
    omega
  · cases h

theorem WReq.not_accepts_of_apart {a c : WReq} {w : Bool} (h : a.apart c = true) (ha : a.accepts w = true) :
    c.accepts w = false := by
  unfold WReq.apart at h
  split at h <;> simp_all [WReq.accepts]

theorem ModReq.not_accepts_of_apart {a c : ModReq} {b : Bool} (h : a.apart c = true) (ha : a.accepts b = true) :
    c.accepts b = false := by
  unfold ModReq.apart at h
  split at h <;> simp_all [ModReq.accepts]

theorem Rnd.rounds_of_ne {x : Rnd} (hn : x ≠ .none) (hi : x ≠ .ignored) : (x == .er || x == .sae) = true := by
  cases x <;> first | rfl | contradiction

/-- Where EVEX.b is legal on both rows, it means rounding on both or on neither, if it means the same or is never ignored. -/
theorem Row.rounding_eq {r q : Row} {o : Operands} (h : r.rnd = q.rnd ∨ (r.rnd ≠ .ignored ∧ q.rnd ≠ .ignored))
    (hr : r.bOk o = true) (hq : q.bOk o = true) : r.rounding o = q.rounding o := by
  rcases h with h | ⟨hri, hqi⟩
  · simp only [Row.rounding, h]
  · cases hbg : o.b && o.isReg with
    | false => simp only [Row.rounding, hbg, Bool.false_and]
    | true =>
      obtain ⟨hb, hg⟩ := Bool.and_eq_true_iff.1 hbg
      simp only [Row.bOk, hb, hg, if_true, Bool.not_true, Bool.false_or, bne_iff_ne] at hr hq
      simp only [Row.rounding, hb, hg, Rnd.rounds_of_ne hr hri, Rnd.rounds_of_ne hq hqi]

/-- The length that L'L selects, 512 bits under rounding; none for the reserved value (R124, R125). -/
def selectedLen (rounding : Bool) (ll : BitVec 2) : Option LReq :=
  if rounding then some .l512
  else if ll = 0 then some .l128
  else if ll = 1 then some .l256
  else if ll = 2 then some .l512
  else none

theorem Row.lenOk_iff {r : Row} {o : Operands} (h : r.len ≠ .any) :
    r.lenOk o = true ↔ selectedLen (r.rounding o) o.ll = some r.len := by
  unfold Row.lenOk
  generalize r.rounding o = x
  generalize o.ll = ll
  cases hl : r.len with
  | any => exact absurd hl h
  | l128 | l256 | l512 =>
    revert x ll
    decide

theorem Row.not_accepts_of_apart {r q : Row} {o : Operands} (h : r.apart q = true) (hr : r.accepts o = true) :
    q.accepts o = false := by
  rw [← Bool.not_eq_true]
  intro hq
  simp only [Row.accepts, Bool.and_eq_true, beq_iff_eq] at hr hq
  obtain ⟨⟨⟨⟨⟨⟨⟨⟨hrs, hrp⟩, hro⟩, hrw⟩, hrm⟩, hrl⟩, hrb⟩, -⟩, -⟩ := hr
  obtain ⟨⟨⟨⟨⟨⟨⟨⟨hqs, hqp⟩, hqo⟩, hqw⟩, hqm⟩, hql⟩, hqb⟩, -⟩, -⟩ := hq
  simp only [Row.apart, hrs, hrp, hro, hqs, hqp, hqo, bne_self_eq_false, Bool.false_or, Bool.or_eq_true] at h
  rcases h with (hw | hm) | hl
  · rw [WReq.not_accepts_of_apart hw hrw] at hqw
    cases hqw
  · rw [ModReq.not_accepts_of_apart hm hrm] at hqm
    cases hqm
  · simp only [Row.lenApart, Bool.and_eq_true, Bool.or_eq_true, bne_iff_ne, beq_iff_eq] at hl
    obtain ⟨⟨⟨hra, hqa⟩, hn⟩, hrnd⟩ := hl
    rw [Row.lenOk_iff hra, Row.rounding_eq hrnd hrb hqb] at hrl
    rw [Row.lenOk_iff hqa, hrl] at hql
    exact hn (Option.some.inj hql)

/-! ### The check of the opcode table -/

/-- Every element of a list and every later one satisfy `p`. -/
def allPairs {α : Type} (p : α → α → Bool) : List α → Bool
  | [] => true
  | a :: l => l.all (p a) && allPairs p l

theorem allPairs_iff {α : Type} {p : α → α → Bool} {l : List α} :
    allPairs p l = true ↔ l.Pairwise fun a b => p a b = true := by
  induction l with
  | nil => exact ⟨fun _ => .nil, fun _ => rfl⟩
  | cons a l ih => rw [allPairs, Bool.and_eq_true, List.all_eq_true, List.pairwise_cons, ih]

/-- Entries of different opcodes, or of names whose rows are apart or have digits apart. -/
def Entry.apart (t u : Entry) : Bool :=
  !t.opcode.beq u.opcode || t.name.rows.all fun r => u.name.rows.all fun q => r.apart q || r.reg.digitApart q.reg

/-- The list has an entry of this opcode and name. (Written with the recursor, which the kernel evaluates fastest.) -/
noncomputable def hasEntry (opcode : Nat) (m : Mnemonic) (ts : List Entry) : Bool :=
  ts.rec false fun t _ found => (t.opcode.beq opcode && t.name == m) || found

theorem exists_of_hasEntry {opcode : Nat} {m : Mnemonic} {ts : List Entry} (h : hasEntry opcode m ts = true) :
    ∃ t ∈ ts, t.opcode = opcode ∧ t.name = m := by
  induction ts with
  | nil => cases h
  | cons t ts ih =>
    rcases Bool.or_eq_true_iff.1 h with ht | ht
    · rw [Bool.and_eq_true, Nat.beq_eq, beq_iff_eq] at ht
      exact ⟨t, List.mem_cons_self, ht⟩
    · obtain ⟨u, hu, hum⟩ := ih ht
      exact ⟨u, List.mem_cons_of_mem t hu, hum⟩

/-- The roles of a row's fields leave room for each other: a digit has three bits, vvvv is no general register, legacy rows
have no vvvv, and a VSIB row, which takes V' for its index, is an EVEX row without vvvv (R118, R134, R145). -/
def Row.rolesOk (r : Row) : Bool :=
  (match r.reg with
    | .ext n => n < 8
    | _ => true) &&
  (r.vv == .none || r.vv == .vec || r.vv == .kreg) &&
  (r.space != .legacy || r.vv == .none) &&
  (!r.vsib || (r.space == .evex && r.vv == .none))

/-- A legacy row of map 0F is not at the bytes that lead to the other maps, to CPUID or to PCOMMIT. -/
def Row.opcodeFree (r : Row) : Bool :=
  r.space != .legacy || r.map != .m0F ||
    (r.opcode != 0x38 && r.opcode != 0x3A && r.opcode != 0xA2 && (r.opcode != 0xAE || r.mod == .mem))

/-- The check of the rows of a name: they are apart from each other, and each is listed at its place in the opcode table,
with roles and an opcode as the encoding needs them. -/
noncomputable def Mnemonic.rowsOk (m : Mnemonic) : Bool :=
  allPairs Row.apart m.rows &&
    m.rows.all fun r => hasEntry r.opcode m (table r.space r.map r.pp) && (r.rolesOk && r.opcodeFree)

/-- There are 788 names. -/
theorem Mnemonic.ctorIdx_lt (m : Mnemonic) : m.ctorIdx < 788 := by cases m <;> decide

/-- The check of 197 names, a quarter of them, from the `n`-th on. -/
noncomputable def rowsOkFrom (n : Nat) : Bool := (List.range' n 197).all fun k => (Mnemonic.ofNat k).rowsOk

/-- The rows of every name pass the check, evaluated in four parts. -/
theorem rowsOkFrom_quarters :
    rowsOkFrom 0 = true ∧ rowsOkFrom 197 = true ∧ rowsOkFrom 394 = true ∧ rowsOkFrom 591 = true :=
  ⟨by decide +kernel, by decide +kernel, by decide +kernel, by decide +kernel⟩

theorem rowsOk_of_from {n k : Nat} (h : rowsOkFrom n = true) (hn : n ≤ k) (hk : k < n + 197) :
    (Mnemonic.ofNat k).rowsOk = true :=
  List.all_eq_true.1 h k (List.mem_range'_1.2 ⟨hn, hk⟩)

theorem Mnemonic.rowsOk_all (m : Mnemonic) : m.rowsOk = true := by
  obtain ⟨h0, h1, h2, h3⟩ := rowsOkFrom_quarters
  have hlt := m.ctorIdx_lt
  rw [← Mnemonic.ofNat_ctorIdx m]
  rcases lt_or_ge m.ctorIdx 394 with hlow | hhigh
  · rcases lt_or_ge m.ctorIdx 197 with h | h
    · exact rowsOk_of_from h0 (Nat.zero_le _) (by omega)
    · exact rowsOk_of_from h1 h (by omega)
  · rcases lt_or_ge m.ctorIdx 591 with h | h
    · exact rowsOk_of_from h2 hhigh (by omega)
    · exact rowsOk_of_from h3 h (by omega)

/-- The entries of every list of the opcode table are apart from each other. -/
theorem table_apart (space : Space) (map : OpMap) (pp : Pfx) : allPairs Entry.apart (table space map pp) = true := by
  cases space <;> cases map <;> cases pp <;> decide +kernel

section
variable {m : Mnemonic} {r : Row}

theorem Mnemonic.rows_apart (m : Mnemonic) : allPairs Row.apart m.rows = true := by
  obtain ⟨hpairs, -⟩ := Bool.and_eq_true_iff.1 m.rowsOk_all
  exact hpairs

theorem Row.checks (h : r ∈ m.rows) :
    hasEntry r.opcode m (table r.space r.map r.pp) = true ∧ r.rolesOk = true ∧ r.opcodeFree = true := by
  obtain ⟨-, hall⟩ := Bool.and_eq_true_iff.1 m.rowsOk_all
  simpa only [Bool.and_eq_true] using List.all_eq_true.1 hall r h

/-- Two rows of one name that accept the same fields are one row. -/
theorem Row.eq_of_accepts {q : Row} {o : Operands} (h : r ∈ m.rows) (hq : q ∈ m.rows) (hr : r.accepts o = true)
    (hqo : q.accepts o = true) : q = r := by
  have hdisj : m.rows.Pairwise fun a b => ¬(a.accepts o = true ∧ b.accepts o = true) :=
    (allPairs_iff.1 m.rows_apart).imp fun hab ⟨ha, hb⟩ => by
      rw [Row.not_accepts_of_apart hab ha] at hb
      cases hb
  have : Std.Symm fun a b : Row => ¬(a.accepts o = true ∧ b.accepts o = true) := ⟨fun _ _ hab hba => hab hba.symm⟩
  by_contra hne
  exact hdisj.forall hq h hne ⟨hqo, hr⟩

/-- The row that accepts the fields of an instruction is the first one that does. -/
theorem Row.find_accepts {o : Operands} (h : r ∈ m.rows) (hr : r.accepts o = true) :
    (m.rows.find? fun q => q.accepts o) = some r := by
  cases hf : m.rows.find? fun q => q.accepts o with
  | none => exact absurd hr (List.find?_eq_none.1 hf r h)
  | some q => rw [Row.eq_of_accepts h (List.mem_of_find?_eq_some hf) hr (by simpa using List.find?_some hf)]

/-- What two names at one place of the opcode table cannot do: accept the same fields with the same digit. -/
def Entry.Clash (o : Operands) (g : Nat) (t u : Entry) : Prop :=
  t.opcode = u.opcode ∧ (∃ r ∈ t.name.rows, r.accepts o = true ∧ digitOk r g = true) ∧
    ∃ q ∈ u.name.rows, q.accepts o = true ∧ digitOk q g = true

theorem Entry.not_clash_of_apart {t u : Entry} {o : Operands} {g : Nat} (h : t.apart u = true) : ¬Entry.Clash o g t u := by
  rintro ⟨hop, ⟨r, hr, hro, hrg⟩, q, hq, hqo, hqg⟩
  simp only [Entry.apart, hop, Nat.beq_refl, Bool.not_true, Bool.false_or, List.all_eq_true, Bool.or_eq_true] at h
  rcases h r hr q hq with ha | hx
  · rw [Row.not_accepts_of_apart ha hro] at hqo
    cases hqo
  · rw [RegUse.digitOk_of_digitApart hx hrg] at hqg
    cases hqg

theorem Row.exists_entry (h : r ∈ m.rows) : ∃ t ∈ table r.space r.map r.pp, t.opcode = r.opcode ∧ t.name = m := by
  obtain ⟨hentry, -⟩ := Row.checks h
  exact exists_of_hasEntry hentry

/-- At the place of a row in the table, an accepting row with the same digit is the row itself. -/
theorem Row.eq_of_entry {q : Row} {t : Entry} {o : Operands} {g : Nat} (h : r ∈ m.rows)
    (ht : t ∈ table r.space r.map r.pp) (hop : t.opcode = r.opcode) (hq : q ∈ t.name.rows) (hr : r.accepts o = true)
    (hqo : q.accepts o = true) (hg : digitOk r g = true) (hqg : digitOk q g = true) : t.name = m ∧ q = r := by
  obtain ⟨u, hu, hur, rfl⟩ := Row.exists_entry h
  have hdisj := (allPairs_iff.1 (table_apart r.space r.map r.pp)).imp (Entry.not_clash_of_apart (o := o) (g := g))
  have : Std.Symm fun a b => ¬Entry.Clash o g a b := ⟨fun _ _ hab ⟨hba, hb, ha⟩ => hab ⟨hba.symm, ha, hb⟩⟩
  obtain rfl : t = u := by
    by_contra hne
    exact hdisj.forall ht hu hne ⟨hop.trans hur.symm, ⟨q, hq, hqo, hqg⟩, r, h, hr, hg⟩
  exact ⟨rfl, Row.eq_of_accepts h hq hr hqo⟩

theorem Row.digit_lt {n : Nat} (h : r ∈ m.rows) (hn : r.reg = .ext n) : n < 8 := by
  obtain ⟨-, hk, -⟩ := Row.checks h
  simp only [Row.rolesOk, hn, Bool.and_eq_true, decide_eq_true_eq] at hk
  obtain ⟨⟨⟨hd, -⟩, -⟩, -⟩ := hk
  exact hd

theorem Row.vv_cases (h : r ∈ m.rows) : r.vv = .none ∨ r.vv = .vec ∨ r.vv = .kreg := by
  obtain ⟨-, hk, -⟩ := Row.checks h
  simp only [Row.rolesOk, Bool.and_eq_true, Bool.or_eq_true, beq_iff_eq] at hk
  obtain ⟨⟨⟨-, hv⟩, -⟩, -⟩ := hk
  exact or_assoc.1 hv

theorem Row.vv_of_legacy (h : r ∈ m.rows) (hs : r.space = .legacy) : r.vv = .none := by
  obtain ⟨-, hk, -⟩ := Row.checks h
  simp only [Row.rolesOk, hs, Bool.and_eq_true, bne_self_eq_false, Bool.false_or, beq_iff_eq] at hk
  obtain ⟨⟨-, hv⟩, -⟩ := hk
  exact hv

theorem Row.of_vsib (h : r ∈ m.rows) (hv : r.vsib = true) : r.space = .evex ∧ r.vv = .none := by
  obtain ⟨-, hk, -⟩ := Row.checks h
  simp only [Row.rolesOk, hv, Bool.and_eq_true, Bool.not_true, Bool.false_or, beq_iff_eq] at hk
  obtain ⟨-, hx⟩ := hk
  exact hx

theorem Row.opcode_ne (h : r ∈ m.rows) (hs : r.space = .legacy) (hm : r.map = .m0F) :
    r.opcode ≠ 0x38 ∧ r.opcode ≠ 0x3A ∧ r.opcode ≠ 0xA2 ∧ (r.opcode = 0xAE → r.mod = .mem) := by
  obtain ⟨-, -, hk⟩ := Row.checks h
  simpa only [Row.opcodeFree, hs, hm, bne_self_eq_false, Bool.false_or, Bool.and_eq_true, Bool.or_eq_true, bne_iff_ne,
    beq_iff_eq, and_assoc, ne_eq, ← imp_iff_not_or] using hk

end

end Sys2Proof.Machine
end

section
/-! PROOFS. The bytes of the encoder and what the decoder reads from them (statement O53): numbers, prefixes, the fields of
REX, VEX and EVEX, ModR/M, SIB and displacement. -/

namespace Sys2Proof

open Machine

/-! ### Bytes and displacements -/

theorem byte_toNat {n : Nat} (h : n < 256) : (byte n).toNat = n := by
  rw [byte, BitVec.toNat_ofNat, Nat.mod_eq_of_lt h]

@[simp] theorem length_bytesLittle (w n : Nat) : (bytesLittle w n).length = n := by
  induction n generalizing w with
  | zero => rfl
  | succ n ih => rw [bytesLittle, List.length_cons, ih]

theorem leNat_bytesLittle (w n : Nat) : leNat (bytesLittle w n) = w % 256 ^ n := by
  induction n generalizing w with
  | zero => rw [bytesLittle, leNat, pow_zero, Nat.mod_one]
  | succ n ih => rw [bytesLittle, leNat, ih, BitVec.toNat_ofNat, pow_succ' 256 n, Nat.mod_mul]

@[simp] theorem length_dispBytes (d : Word) : (dispBytes d).length = 4 := length_bytesLittle ..

/-- A disp32 that sign-extends to the displacement is read back (R130). -/
theorem takeDisp_dispBytes {m : MemOp} (h : dispOk m = true) (bs : List Byte) :
    takeDisp 4 (dispBytes m.disp ++ bs) = .ok (m.disp, bs) := by
  have hlen : ¬(dispBytes m.disp ++ bs).length < 4 := by
    rw [List.length_append, length_dispBytes]
    omega
  have hnat : leNat (dispBytes m.disp) = m.disp.toNat % 2 ^ 32 := by
    rw [dispBytes, leNat_bytesLittle]
    omega
  have hdisp : (BitVec.ofNat (8 * 4) (m.disp.toNat % 2 ^ 32)).signExtend 64 = m.disp := by
    rw [dispOk, beq_iff_eq] at h
    rw [← h]
    congr 1
    apply BitVec.eq_of_toNat_eq
    rw [h]
    simp
  rw [takeDisp, if_neg hlen, List.take_left' (length_dispBytes _), List.drop_left' (length_dispBytes _), hnat, hdisp]

/-! ### ModR/M and SIB as bytes of three fields -/

/-- A byte of two bits and twice three bits: ModR/M or SIB. -/
def byte233 (a b c : Nat) : Byte := byte (a * 64 + b * 8 + c)

section
variable {a b c : Nat}

theorem byte233_toNat (ha : a < 4) (hb : b < 8) (hc : c < 8) : (byte233 a b c).toNat = a * 64 + b * 8 + c :=
  byte_toNat (by omega)

theorem byte233_high (ha : a < 4) (hb : b < 8) (hc : c < 8) : (byte233 a b c).toNat / 64 = a := by
  rw [byte233_toNat ha hb hc]
  omega

theorem byte233_middle (ha : a < 4) (hb : b < 8) (hc : c < 8) : (byte233 a b c).toNat / 8 % 8 = b := by
  rw [byte233_toNat ha hb hc]
  omega

theorem byte233_low (ha : a < 4) (hb : b < 8) (hc : c < 8) : (byte233 a b c).toNat % 8 = c := by
  rw [byte233_toNat ha hb hc]
  omega

end

/-! ### Legacy prefixes -/

theorem takePrefixes_add {long : Bool} {p q : Prefixes} {b : Byte} (h : p.add b = some q) (bs : List Byte) :
    takePrefixes long p (b :: bs) = takePrefixes long q bs := by
  rw [takePrefixes, h]

theorem takePrefixes_stop {p : Prefixes} {b : Byte} (h : p.add b = none) (hb : b.toNat / 16 ≠ 4) (bs : List Byte) :
    takePrefixes true p (b :: bs) = (p, b :: bs) := by
  simp [takePrefixes, h, hb]

theorem takePrefixes_rex {p : Prefixes} {b : Byte} (h : p.add b = none) (hb : b.toNat / 16 = 4) (bs : List Byte) :
    takePrefixes true p (b :: bs) = takePrefixes true { p with rex := some b, anyRex := true } bs := by
  simp [takePrefixes, h, hb]

/-- The override a memory operand needs, where its segment is not the default one (R133). -/
def segOverride (m : MemOp) : Option SegReg := if m.seg = segOf {} m.base then none else some m.seg

theorem segOf_segOverride {p : Prefixes} {m : MemOp} (h : p.seg = segOverride m) : segOf p m.base = m.seg := by
  rw [segOf, h, segOverride]
  split
  · next hs => exact hs.symm
  · rfl

/-- The prefixes an instruction needs for its memory operand. -/
def memPrefix (o : Operands) : Prefixes :=
  match o.rm with
  | .reg _ => {}
  | .mem m => { seg := segOverride m, addr := m.asize == .a32 }

theorem takePrefixes_segBytes (m : MemOp) (bs : List Byte) :
    takePrefixes true {} (segBytes m ++ bs) = takePrefixes true { seg := segOverride m } bs := by
  unfold segBytes segOverride
  split
  · rfl
  · cases m.seg <;> exact takePrefixes_add rfl bs

theorem takePrefixes_memPrefixes (o : Operands) (bs : List Byte) :
    takePrefixes true {} (memPrefixes o ++ bs) = takePrefixes true (memPrefix o) bs := by
  unfold memPrefixes memPrefix
  cases o.rm with
  | reg n => rfl
  | mem m =>
    simp only [List.append_assoc, takePrefixes_segBytes, addrBytes]
    split
    · next ha => exact takePrefixes_add (by simp [Prefixes.add, ha]) bs
    · next ha => rw [beq_eq_false_iff_ne.2 ha, List.nil_append]

theorem length_memPrefixes_le (o : Operands) : (memPrefixes o).length ≤ 2 := by
  unfold memPrefixes
  cases o.rm with
  | reg n => exact Nat.zero_le 2
  | mem m =>
    have hseg : (segBytes m).length ≤ 1 := by
      unfold segBytes
      split
      · exact Nat.zero_le 1
      · cases m.seg <;> exact le_rfl
    have haddr : (addrBytes m).length ≤ 1 := by
      unfold addrBytes
      split <;> simp
    rw [List.length_append]
    omega

/-- The prefixes of a memory operand: no LOCK, no 66, F2 or F3, and no REX, and the operand's address size and segment. -/
theorem memPrefix_fields (o : Operands) :
    (memPrefix o).lock = false ∧ (memPrefix o).p66 = false ∧ (memPrefix o).rep = none ∧ (memPrefix o).rex = none ∧
      (memPrefix o).anyRex = false := by
  unfold memPrefix
  cases o.rm <;> exact ⟨rfl, rfl, rfl, rfl, rfl⟩

/-- The prefixes a decoder found carry a memory operand's address size and segment. -/
def Prefixes.Carries (p : Prefixes) (o : Operands) : Prop := p.addr = (memPrefix o).addr ∧ p.seg = (memPrefix o).seg

/-! ### The fields of the three encoding systems -/

/-- The bit V' that EVEX carries: of the vector index under VSIB, else of vvvv (R118, R134). -/
def codedV4 (r : Row) (o : Operands) : Bool := if r.vsib then (rmBits o).v4 else o.vvvv.val ≥ 16

/-- The fields that REX, VEX or EVEX carries for an instruction on a row. -/
def codedExt (r : Row) (o : Operands) : Ext where
  space := o.space
  map := r.map
  pp := o.pp
  w := o.w
  ll := o.ll
  b := o.b
  z := o.z
  aaa := o.aaa
  r4 := regCode r o ≥ 16
  r3 := regCode r o % 16 ≥ 8
  x := (rmBits o).x
  b3 := (rmBits o).b3
  v := Fin.ofNat 32 ((if codedV4 r o then 16 else 0) + o.vvvv.val % 16)

/-- The first payload byte of VEX and EVEX: R, X, B and R', inverted, over the map (R113, R140). -/
theorem payload0_fields (r x b r4 : Bool) (map : OpMap) :
    let p := byte (bitAt r 7 + bitAt x 6 + bitAt b 5 + bitAt r4 4 + mapCode map)
    p.getLsbD 7 = r ∧ p.getLsbD 6 = x ∧ p.getLsbD 5 = b ∧ p.getLsbD 4 = r4 ∧ p.getLsbD 3 = false ∧ p.getLsbD 2 = false ∧
      p.toNat % 4 = mapCode map ∧ (r4 = false → p.toNat % 32 = mapCode map) := by
  cases map <;> revert r x b r4 <;> decide

/-- The second: W, vvvv inverted, one bit, and pp. -/
theorem payload1_fields (w : Bool) (v : Fin 16) (l : Bool) (pp : Pfx) :
    let p := byte (bitAt w 7 + (15 - v.val) * 8 + bitAt l 2 + ppCode pp)
    p.getLsbD 7 = w ∧ p.getLsbD 2 = l ∧ ppOf p.toNat = pp ∧ 15 - p.toNat / 8 % 16 = v.val := by
  cases pp <;> revert w v l <;> decide

/-- The third, of EVEX: z, L'L, b, V' inverted, and aaa. -/
theorem payload2_fields (z : Bool) (ll : BitVec 2) (b v4 : Bool) (aaa : Fin 8) :
    let p := byte (bitAt z 7 + ll.toNat * 32 + bitAt b 4 + bitAt v4 3 + aaa.val)
    p.getLsbD 7 = z ∧ p.extractLsb' 5 2 = ll ∧ p.getLsbD 4 = b ∧ p.getLsbD 3 = v4 ∧ Fin.ofNat 8 p.toNat = aaa := by
  revert z ll b v4 aaa
  decide

theorem mapOf_mapCode (map : OpMap) : mapOf (mapCode map) = some map := by cases map <;> rfl

/-! ### The prefixes and REX of a legacy instruction -/

/-- The byte that stands for pp in legacy space (R145). -/
def simdBytes : Pfx → List Byte
  | .np => []
  | .p66 => [0x66]
  | .pF3 => [0xF3]
  | .pF2 => [0xF2]

/-- The REX byte of four bits, where one of them is set. -/
def rexBytes (n : Nat) : List Byte := if n = 0 then [] else [byte (0x40 + n)]

/-- The bytes that lead to an opcode map. -/
def mapBytes : OpMap → List Byte
  | .m0F => [0x0F]
  | .m0F38 => [0x0F, 0x38]
  | .m0F3A => [0x0F, 0x3A]

/-- The bits W, R, X and B of REX (R145). -/
def rexBits (r : Row) (o : Operands) : Nat :=
  bitAt o.w 3 + bitAt (regCode r o ≥ 8) 2 + bitAt (rmBits o).x 1 + bitAt (rmBits o).b3 0

theorem legacyHead_eq (r : Row) (o : Operands) :
    legacyHead r o = simdBytes o.pp ++ rexBytes (rexBits r o) ++ mapBytes r.map ++ [o.opcode] := by
  cases hp : o.pp <;> cases hm : r.map <;> simp only [legacyHead, hp, hm] <;> rfl

/-- The prefixes found after the byte of `simdBytes`. -/
def Prefixes.withSimd (p : Prefixes) : Pfx → Prefixes
  | .np => p
  | .p66 => { p with p66 := true }
  | pp => { p with rep := some pp }

/-- The prefixes found after REX. -/
def Prefixes.withRex (p : Prefixes) (n : Nat) : Prefixes :=
  if n = 0 then p else { p with rex := some (byte (0x40 + n)), anyRex := true }

theorem takePrefixes_simdBytes {p : Prefixes} (h : p.rex = none) (pp : Pfx) (bs : List Byte) :
    takePrefixes true p (simdBytes pp ++ bs) = takePrefixes true (p.withSimd pp) bs := by
  obtain ⟨p66, rep, addr, lock, seg, rex, anyRex⟩ := p
  cases h
  cases pp with
  | np => rfl
  | _ => exact takePrefixes_add rfl bs

theorem add_rexByte (p : Prefixes) (n : Fin 16) : p.add (byte (0x40 + n.val)) = none := by
  fin_cases n <;> rfl

theorem takePrefixes_rexBytes (p : Prefixes) {n : Nat} (hn : n < 16) (bs : List Byte) :
    takePrefixes true p (rexBytes n ++ bs) = takePrefixes true (p.withRex n) bs := by
  unfold rexBytes Prefixes.withRex
  split
  · rfl
  · refine takePrefixes_rex (add_rexByte p ⟨n, hn⟩) ?_ bs
    rw [byte_toNat (by omega)]
    omega

theorem takePrefixes_mapBytes (p : Prefixes) (map : OpMap) (bs : List Byte) :
    takePrefixes true p (mapBytes map ++ bs) = (p, mapBytes map ++ bs) := by
  cases map <;> exact takePrefixes_stop rfl (by decide) _

/-- The prefixes found before the opcode of a legacy instruction. -/
def legacyPrefixes (r : Row) (o : Operands) : Prefixes := ((memPrefix o).withSimd o.pp).withRex (rexBits r o)

theorem rexBits_lt (r : Row) (o : Operands) : rexBits r o < 16 := by
  unfold rexBits
  generalize decide (regCode r o ≥ 8) = c
  cases o.w <;> cases c <;> cases (rmBits o).x <;> cases (rmBits o).b3 <;> decide

theorem takePrefixes_legacyHead (r : Row) (o : Operands) (bs : List Byte) :
    takePrefixes true {} (memPrefixes o ++ (legacyHead r o ++ bs)) =
      (legacyPrefixes r o, mapBytes r.map ++ o.opcode :: bs) := by
  obtain ⟨-, -, -, hrex, -⟩ := memPrefix_fields o
  rw [legacyHead_eq, takePrefixes_memPrefixes]
  simp only [List.append_assoc, List.singleton_append]
  rw [takePrefixes_simdBytes hrex, takePrefixes_rexBytes _ (rexBits_lt r o), takePrefixes_mapBytes]
  rfl

theorem Prefixes.withRex_fields (p : Prefixes) (n : Nat) :
    (p.withRex n).lock = p.lock ∧ (p.withRex n).addr = p.addr ∧ (p.withRex n).seg = p.seg ∧ (p.withRex n).simd = p.simd := by
  unfold Prefixes.withRex
  split <;> exact ⟨rfl, rfl, rfl, rfl⟩

theorem Prefixes.withSimd_fields (p : Prefixes) (pp : Pfx) :
    (p.withSimd pp).lock = p.lock ∧ (p.withSimd pp).addr = p.addr ∧ (p.withSimd pp).seg = p.seg ∧
      (p.withSimd pp).rex = p.rex := by
  cases pp <;> exact ⟨rfl, rfl, rfl, rfl⟩

theorem Prefixes.withSimd_simd {p : Prefixes} (h66 : p.p66 = false) (hrep : p.rep = none) (pp : Pfx) :
    (p.withSimd pp).simd = pp := by
  cases pp <;> simp [Prefixes.withSimd, Prefixes.simd, h66, hrep]

/-- The REX byte as the decoder uses it: zero where there is none. -/
def rexByte (n : Nat) : Byte := if n = 0 then 0 else byte (0x40 + n)

theorem Prefixes.withRex_rex {p : Prefixes} (h : p.rex = none) (n : Nat) : (p.withRex n).rex.getD 0 = rexByte n := by
  unfold Prefixes.withRex rexByte
  split
  · rw [h, Option.getD_none]
  · rfl

theorem rexByte_fields (w r x b : Bool) :
    let q := rexByte (bitAt w 3 + bitAt r 2 + bitAt x 1 + bitAt b 0)
    q.getLsbD 3 = w ∧ q.getLsbD 2 = r ∧ q.getLsbD 1 = x ∧ q.getLsbD 0 = b := by
  revert w r x b
  decide

theorem legacyPrefixes_lock (r : Row) (o : Operands) : (legacyPrefixes r o).lock = false := by
  obtain ⟨hlock, -⟩ := memPrefix_fields o
  obtain ⟨h1, -⟩ := ((memPrefix o).withSimd o.pp).withRex_fields (rexBits r o)
  obtain ⟨h2, -⟩ := (memPrefix o).withSimd_fields o.pp
  rw [legacyPrefixes, h1, h2, hlock]

theorem legacyPrefixes_carries (r : Row) (o : Operands) : (legacyPrefixes r o).Carries o := by
  obtain ⟨-, ha1, hs1, -⟩ := ((memPrefix o).withSimd o.pp).withRex_fields (rexBits r o)
  obtain ⟨-, ha2, hs2, -⟩ := (memPrefix o).withSimd_fields o.pp
  exact ⟨ha1.trans ha2, hs1.trans hs2⟩

end Sys2Proof
end

section
/-! PROOFS. A well-formed instruction on its row (statement O53): what the row and the checks of `fieldsOk` say of the numbers
the encoder writes, and the decoder reading them back in each encoding system. -/

namespace Sys2Proof

open Machine

@[simp] theorem mode64_long : DecodeMode.mode64.long = true := rfl

@[simp] theorem mode64_real : DecodeMode.mode64.real = false := rfl

/-! ### A well-formed instruction on its row -/

/-- The row `r` of `m` accepts the fields `o`, and they fit it. -/
structure OnRow (m : Mnemonic) (r : Row) (o : Operands) : Prop where
  mem : r ∈ m.rows
  accepts : r.accepts o = true
  fields : fieldsOk r o = true

section
variable {m : Mnemonic} {r : Row} {o : Operands}

theorem OnRow.selected (h : OnRow m r o) : r.space = o.space ∧ r.pp = o.pp ∧ r.opcode = o.opcode.toNat := by
  have ha := h.accepts
  simp only [Row.accepts, Bool.and_eq_true, beq_iff_eq, and_assoc] at ha
  obtain ⟨hs, hp, ho, -⟩ := ha
  exact ⟨hs, hp, ho⟩

theorem OnRow.space_eq (h : OnRow m r o) : r.space = o.space := by
  obtain ⟨hs, -, -⟩ := h.selected
  exact hs

theorem OnRow.fits (h : OnRow m r o) :
    regOk o.space r.reg o.reg = true ∧ regOk o.space r.vv o.vvvv = true ∧ rmOk r o = true ∧ immOk r o = true ∧
      spaceOk o = true := by
  simpa only [fieldsOk, Bool.and_eq_true, and_assoc] using h.fields

theorem OnRow.vsib_of_ne_evex (h : OnRow m r o) (hs : o.space ≠ .evex) : r.vsib = false := by
  rw [← Bool.not_eq_true]
  intro hv
  obtain ⟨he, -⟩ := Row.of_vsib h.mem hv
  exact hs (h.space_eq ▸ he)

/-- A register number outside EVEX has four bits. -/
theorem lt_of_regOk {sp : Space} {use : RegUse} {n : Fin 32} (hs : sp ≠ .evex) (h : regOk sp use n = true) : n.val < 16 := by
  unfold regOk at h
  cases use with
  | none | ext _ => simp_all
  | vec => simpa [hs] using h
  | gpr => exact of_decide_eq_true h
  | kreg => exact (of_decide_eq_true h).trans (by decide)

theorem OnRow.vvvv_lt (h : OnRow m r o) (hs : o.space ≠ .evex) : o.vvvv.val < 16 := by
  obtain ⟨-, hv, -⟩ := h.fits
  exact lt_of_regOk hs hv

theorem OnRow.vvvv_of_vv_none (h : OnRow m r o) (hv : r.vv = .none) : o.vvvv = 0 := by
  obtain ⟨-, hvv, -⟩ := h.fits
  simpa [regOk, hv] using hvv

/-- The number in ModRM.reg with its extensions has five bits, and four outside EVEX. -/
theorem OnRow.regCode_lt (h : OnRow m r o) : regCode r o < 32 ∧ (o.space ≠ .evex → regCode r o < 16) := by
  obtain ⟨hr, -⟩ := h.fits
  unfold regCode
  split
  · next n hn =>
    have := Row.digit_lt h.mem hn
    omega
  · exact ⟨o.reg.isLt, fun hs => lt_of_regOk hs hr⟩

theorem codedV4_of_not_vsib (hv : r.vsib = false) : codedV4 r o = decide (o.vvvv.val ≥ 16) := by
  simp [codedV4, hv]

theorem OnRow.codedV4_of_ne_evex (h : OnRow m r o) (hs : o.space ≠ .evex) : codedV4 r o = false := by
  rw [codedV4_of_not_vsib (h.vsib_of_ne_evex hs)]
  exact decide_eq_false (h.vvvv_lt hs).not_ge

/-! ### The fields of REX, VEX and EVEX read back -/

theorem not_decide_lt (a b : Nat) : (!decide (a < b)) = decide (a ≥ b) := by
  rw [← decide_not, decide_eq_decide, not_lt]

/-- The first payload byte of VEX and EVEX; R' is an EVEX bit. -/
def payload0 (r : Row) (o : Operands) (r4 : Bool) : Byte :=
  byte (bitAt (regCode r o % 16 < 8) 7 + bitAt (!(rmBits o).x) 6 + bitAt (!(rmBits o).b3) 5 + bitAt r4 4 + mapCode r.map)

/-- The second payload byte; bit 2 is set in EVEX, and is L in VEX. -/
def payload1 (o : Operands) (l : Bool) : Byte := byte (bitAt o.w 7 + (15 - o.vvvv.val % 16) * 8 + bitAt l 2 + ppCode o.pp)

/-- The third payload byte of EVEX. -/
def payload2 (r : Row) (o : Operands) : Byte :=
  byte (bitAt o.z 7 + o.ll.toNat * 32 + bitAt o.b 4 + bitAt (!codedV4 r o) 3 + o.aaa.val)

theorem evexHead_eq (r : Row) (o : Operands) :
    evexHead r o = [0x62, payload0 r o (regCode r o < 16), payload1 o true, payload2 r o, o.opcode] := rfl

theorem vexHead_eq (r : Row) {o : Operands} (h : o.ll.toNat < 2) :
    vexHead r o = [0xC4, payload0 r o false, payload1 o (o.ll == 1#2), o.opcode] := by
  have hl : bitAt (o.ll == 1#2) 2 = o.ll.toNat % 2 * 4 := by
    revert h
    generalize o.ll = ll
    revert ll
    decide
  rw [payload1, hl]
  rfl

/-- The EVEX payload reads back as the fields it was made of (R113). -/
theorem evexExt_payload (hs : o.space = .evex) :
    evexExt (payload0 r o (regCode r o < 16)) (payload1 o true) (payload2 r o) = some (codedExt r o) := by
  obtain ⟨h07, h06, h05, h04, h03, h02, hmap, -⟩ :=
    payload0_fields (regCode r o % 16 < 8) (!(rmBits o).x) (!(rmBits o).b3) (regCode r o < 16) r.map
  obtain ⟨h17, h12, hpp, hv⟩ := payload1_fields o.w ⟨o.vvvv.val % 16, Nat.mod_lt _ (by decide)⟩ true o.pp
  obtain ⟨h27, hll, h24, h23, haaa⟩ := payload2_fields o.z o.ll o.b (!codedV4 r o) o.aaa
  rw [← payload0] at h07 h06 h05 h04 h03 h02 hmap
  rw [← payload1] at h17 h12 hpp hv
  rw [← payload2] at h27 hll h24 h23 haaa
  simp only [evexExt, codedExt, h07, h06, h05, h04, h03, h02, hmap, h17, h12, hpp, hv, h27, hll, h24, h23, haaa,
    mapOf_mapCode, hs, not_decide_lt, Bool.not_not]
  cases codedV4 r o <;> rfl

/-- The payload of three-byte VEX reads back as the fields it was made of (R140). -/
theorem OnRow.vexExt_payload (h : OnRow m r o) (hs : o.space = .vex) :
    vexExt (payload0 r o false) (payload1 o (o.ll == 1#2)) = some (codedExt r o) := by
  have hne : o.space ≠ .evex := by rw [hs]; decide
  obtain ⟨-, -, -, -, hsp⟩ := h.fits
  simp only [spaceOk, hs, Bool.and_eq_true, Bool.not_eq_true', beq_iff_eq, decide_eq_true_eq, and_assoc] at hsp
  obtain ⟨hll, hb, hz, haaa⟩ := hsp
  have hl : (if (o.ll == 1#2) = true then 1 else 0) = o.ll := by
    revert hll
    generalize o.ll = ll
    revert ll
    decide
  obtain ⟨-, hrc⟩ := h.regCode_lt
  have hr4 : decide (regCode r o ≥ 16) = false := decide_eq_false (hrc hne).not_ge
  obtain ⟨h07, h06, h05, -, -, -, -, hmap⟩ :=
    payload0_fields (regCode r o % 16 < 8) (!(rmBits o).x) (!(rmBits o).b3) false r.map
  obtain ⟨h17, h12, hpp, hv⟩ := payload1_fields o.w ⟨o.vvvv.val % 16, Nat.mod_lt _ (by decide)⟩ (o.ll == 1#2) o.pp
  rw [← payload0] at h07 h06 h05 hmap
  rw [← payload1] at h17 h12 hpp hv
  simp only [vexExt, codedExt, h07, h06, h05, hmap rfl, h17, h12, hpp, hv, hl, hb, hz, haaa, hr4,
    h.codedV4_of_ne_evex hne, hs, mapOf_mapCode, not_decide_lt, Bool.not_not]
  simp

/-- The prefixes and REX of a legacy instruction read back as the fields they were made of (R145). -/
theorem OnRow.legacyExt_legacyPrefixes (h : OnRow m r o) (hs : o.space = .legacy) :
    legacyExt (legacyPrefixes r o) r.map = codedExt r o := by
  have hne : o.space ≠ .evex := by rw [hs]; decide
  obtain ⟨-, -, -, -, hsp⟩ := h.fits
  simp only [spaceOk, hs, Bool.and_eq_true, Bool.not_eq_true', beq_iff_eq, and_assoc] at hsp
  obtain ⟨hll, hb, hz, haaa⟩ := hsp
  obtain ⟨-, hrc⟩ := h.regCode_lt
  have hr4 : decide (regCode r o ≥ 16) = false := decide_eq_false (hrc hne).not_ge
  have hr3 : decide (regCode r o ≥ 8) = decide (regCode r o % 16 ≥ 8) := by rw [Nat.mod_eq_of_lt (hrc hne)]
  have hv : o.vvvv = 0 := h.vvvv_of_vv_none (Row.vv_of_legacy h.mem (h.space_eq.trans hs))
  obtain ⟨-, hp66, hrep, hrex, -⟩ := memPrefix_fields o
  obtain ⟨-, -, -, hsimd⟩ := ((memPrefix o).withSimd o.pp).withRex_fields (rexBits r o)
  obtain ⟨-, -, -, hsrex⟩ := (memPrefix o).withSimd_fields o.pp
  have hpp : (legacyPrefixes r o).simd = o.pp := hsimd.trans (Prefixes.withSimd_simd hp66 hrep o.pp)
  have hbyte : (legacyPrefixes r o).rex.getD 0 = rexByte (rexBits r o) := Prefixes.withRex_rex (hsrex.trans hrex) _
  obtain ⟨hw, hr, hx, hb3⟩ := rexByte_fields o.w (regCode r o ≥ 8) (rmBits o).x (rmBits o).b3
  rw [← rexBits] at hw hr hx hb3
  simp only [legacyExt, codedExt, hpp, hbyte, hw, hr, hx, hb3, hll, hb, hz, haaa, hr4, hr3, hv,
    h.codedV4_of_ne_evex hne, hs]
  rfl

/-! ### From the first byte to the opcode -/

/-- After the prefixes of a memory operand, the decoder reads the bytes `head` as the fields of `o` on `r` and its
opcode. -/
def ReadsHead (r : Row) (o : Operands) (head : List Byte) : Prop :=
  ∀ bs, ∃ p rest, takePrefixes true {} (memPrefixes o ++ (head ++ bs)) = (p, rest) ∧ p.lock = false ∧ p.Carries o ∧
    decodeSystem .mode64 p rest = decodeOpcode .mode64 p (codedExt r o) (o.opcode :: bs)

theorem memPrefix_lock (o : Operands) : (memPrefix o).lock = false := by
  obtain ⟨hlock, -⟩ := memPrefix_fields o
  exact hlock

theorem memPrefix_forbidVex (o : Operands) : (memPrefix o).forbidVex = false := by
  obtain ⟨hlock, hp66, hrep, -, hrex⟩ := memPrefix_fields o
  simp [Prefixes.forbidVex, hlock, hp66, hrep, hrex]

theorem readsHead_evex (hs : o.space = .evex) : ReadsHead r o (evexHead r o) := by
  intro bs
  refine ⟨memPrefix o, evexHead r o ++ bs, ?_, memPrefix_lock o, ⟨rfl, rfl⟩, ?_⟩
  · rw [takePrefixes_memPrefixes]
    exact takePrefixes_stop rfl (by decide) _
  · rw [evexHead_eq]
    simp [decodeSystem, mode64_long, mode64_real, memPrefix_forbidVex, evexExt_payload hs]

theorem OnRow.readsHead_vex (h : OnRow m r o) (hs : o.space = .vex) : ReadsHead r o (vexHead r o) := by
  intro bs
  refine ⟨memPrefix o, vexHead r o ++ bs, ?_, memPrefix_lock o, ⟨rfl, rfl⟩, ?_⟩
  · rw [takePrefixes_memPrefixes]
    exact takePrefixes_stop rfl (by decide) _
  · obtain ⟨-, -, -, -, hsp⟩ := h.fits
    simp only [spaceOk, hs, Bool.and_eq_true, decide_eq_true_eq, and_assoc] at hsp
    obtain ⟨hll, -⟩ := hsp
    rw [vexHead_eq r hll]
    simp [decodeSystem, mode64_long, mode64_real, memPrefix_forbidVex, vexExt_payload h hs]

/-- The bytes of a legacy opcode map lead to it: an opcode of map 0F is not the first byte of another map. -/
theorem decodeSystem_mapBytes {p : Prefixes} {map : OpMap} {op : Byte} (h : map = .m0F → op ≠ 0x38#8 ∧ op ≠ 0x3A#8)
    (bs : List Byte) :
    decodeSystem .mode64 p (mapBytes map ++ op :: bs) = decodeOpcode .mode64 p (legacyExt p map) (op :: bs) := by
  cases map with
  | m0F =>
    obtain ⟨h38, h3A⟩ := h rfl
    simp [decodeSystem, mapBytes, h38, h3A]
  | m0F38 => simp [decodeSystem, mapBytes]
  | m0F3A => simp [decodeSystem, mapBytes]

theorem OnRow.readsHead_legacy (h : OnRow m r o) (hs : o.space = .legacy) : ReadsHead r o (legacyHead r o) := by
  intro bs
  refine ⟨_, _, takePrefixes_legacyHead r o bs, legacyPrefixes_lock r o, legacyPrefixes_carries r o, ?_⟩
  rw [decodeSystem_mapBytes, legacyExt_legacyPrefixes h hs]
  intro hm
  obtain ⟨-, -, hop⟩ := h.selected
  obtain ⟨h38, h3A, -⟩ := Row.opcode_ne h.mem (h.space_eq.trans hs) hm
  rw [hop] at h38 h3A
  exact ⟨fun he => h38 (he ▸ rfl), fun he => h3A (he ▸ rfl)⟩

end

end Sys2Proof
end

section
/-! PROOFS. The operands of a well-formed instruction read back (statement O53): registers, SIB and memory operands, and the
immediate byte. -/

namespace Sys2Proof

open Machine

/-! ### Register operands -/

/-- A register number is its two extension bits and its three low bits (R118). -/
theorem number_eq (n : Fin 32) : number (decide (n.val ≥ 16)) (decide (n.val % 16 ≥ 8)) (n.val % 8) = n := by
  revert n
  decide

/-- One of fewer than 16 registers needs one extension bit. -/
theorem number_false_eq {n : Fin 32} (h : n.val < 16) : number false (decide (n.val % 16 ≥ 8)) (n.val % 8) = n := by
  have hn := number_eq n
  rwa [decide_eq_false h.not_ge] at hn

/-- One of eight registers needs none. -/
theorem number_false_false_eq {n : Fin 32} (h : n.val < 8) : number false false (n.val % 8) = n := by
  have hn := number_false_eq (n := n) (by omega)
  rwa [decide_eq_false (by omega)] at hn

section
variable {m : Mnemonic} {r : Row} {o : Operands}

theorem OnRow.regField_coded (h : OnRow m r o) : regField .mode64 (codedExt r o) r.reg (regCode r o % 8) = some o.reg := by
  obtain ⟨hr, -⟩ := h.fits
  cases hu : r.reg with
  | none | ext _ =>
    simp only [hu, regOk, beq_iff_eq] at hr
    rw [regField, hr]
  | vec => simp [regField, mode64_long, codedExt, regCode, hu, number_eq]
  | gpr =>
    have hlt : o.reg.val < 16 := by simpa [regOk, hu] using hr
    simp [regField, mode64_long, codedExt, regCode, hu, hlt, number_false_eq hlt]
  | kreg =>
    have hlt : o.reg.val < 8 := by simpa [regOk, hu] using hr
    have h8 : o.reg.val % 16 < 8 := by omega
    have h16 : o.reg.val < 16 := by omega
    simp [regField, mode64_long, codedExt, regCode, hu, h8, h16, number_false_false_eq hlt]

theorem codedExt_v (r : Row) (o : Operands) :
    (codedExt r o).v.val = (if codedV4 r o = true then 16 else 0) + o.vvvv.val % 16 := by
  refine Nat.mod_eq_of_lt ?_
  split <;> omega

theorem codedExt_v_of_not_vsib (hv : r.vsib = false) : (codedExt r o).v = o.vvvv := by
  apply Fin.ext
  rw [codedExt_v, codedV4_of_not_vsib hv]
  simp only [decide_eq_true_eq]
  split <;> omega

theorem OnRow.not_vsib_of_vv (h : OnRow m r o) (hv : r.vv ≠ .none) : r.vsib = false := by
  rw [← Bool.not_eq_true]
  intro hs
  obtain ⟨-, hn⟩ := Row.of_vsib h.mem hs
  exact hv hn

theorem OnRow.vField_coded (h : OnRow m r o) : vField .mode64 (codedExt r o) r.vv r.vsib = some o.vvvv := by
  obtain ⟨-, hvv, -⟩ := h.fits
  rcases Row.vv_cases h.mem with hu | hu | hu
  · have hz : o.vvvv = 0 := h.vvvv_of_vv_none hu
    have hv : (codedExt r o).v.val = if codedV4 r o = true then 16 else 0 := by
      rw [codedExt_v, hz]
      rfl
    have hmod : (codedExt r o).v.val % 16 = 0 := by
      rw [hv]
      split <;> rfl
    have hlow (hs : r.vsib = false) : (codedExt r o).v.val < 16 := by
      rw [codedExt_v_of_not_vsib hs, hz]
      decide
    simpa [hu, vField, hz, hmod] using hlow
  · rw [hu, vField, codedExt_v_of_not_vsib (h.not_vsib_of_vv (by rw [hu]; decide))]
    rfl
  · have hlt : o.vvvv.val < 8 := by simpa [regOk, hu] using hvv
    have hmod : o.vvvv.val % 16 < 8 := by omega
    rw [hu, vField, codedExt_v_of_not_vsib (h.not_vsib_of_vv (by rw [hu]; decide))]
    simp [mode64_long, hmod]

theorem OnRow.rmField_coded (h : OnRow m r o) {n : Fin 32} (hn : o.rm = .reg n) :
    rmField .mode64 (codedExt r o) r.rm (n.val % 8) = n := by
  obtain ⟨-, -, hr, -⟩ := h.fits
  simp only [rmOk, hn] at hr
  cases hu : r.rm with
  | none | ext _ =>
    simp only [hu, regOk, beq_iff_eq] at hr
    subst hr
    rfl
  | vec =>
    simp only [rmField, mode64_long, codedExt, rmBits, hn, if_true]
    cases hs : o.space == .evex with
    | true => rw [Bool.true_and, number_eq]
    | false => rw [Bool.false_and, number_false_eq (lt_of_regOk (beq_eq_false_iff_ne.1 hs) hr)]
  | gpr =>
    have hlt : n.val < 16 := by simpa [regOk, hu] using hr
    simp only [rmField, mode64_long, codedExt, rmBits, hn, if_true, number_false_eq hlt]
  | kreg =>
    have hlt : n.val < 8 := by simpa [regOk, hu] using hr
    exact number_false_false_eq hlt

end

/-! ### Memory operands -/

/-- The index bits of SIB: 4 for no index (R131). -/
def sibIndex (m : MemOp) : Nat := (m.index.map fun x => x.val % 8).getD 4

/-- The SIB byte. -/
def sibByte (m : MemOp) (base : Nat) : Byte := byte233 m.scale.val (sibIndex m) base

theorem sibIndex_lt (m : MemOp) : sibIndex m < 8 := by
  unfold sibIndex
  cases m.index with
  | none => decide
  | some x => exact Nat.mod_lt _ (by decide)

/-- The bit X of an index register. -/
def indexX (m : MemOp) : Bool := (m.index.getD 0).val % 16 ≥ 8

/-- The bit V' of a vector index. -/
def indexV4 (m : MemOp) : Bool := (m.index.getD 0).val ≥ 16

/-- The index the decoder takes from the index bits of SIB and the extension bits (R131, R134). -/
def readIndex (vsib v4 x : Bool) (i : Nat) : Option (Fin 32) :=
  if vsib then some (number v4 x i) else if i = 4 && !x then none else some (number false x i)

theorem readIndex_sibIndex {vsib v4 : Bool} {m : MemOp} (h : indexOk vsib m = true) (hv : vsib = true → v4 = indexV4 m) :
    readIndex vsib v4 (indexX m) (sibIndex m) = m.index := by
  unfold indexOk at h
  cases hi : m.index with
  | none =>
    obtain ⟨hvsib, -⟩ : vsib = false ∧ m.scale = 0 := by simpa [hi] using h
    simp [readIndex, hvsib, indexX, sibIndex, hi]
  | some x =>
    simp only [hi, Bool.and_eq_true, Bool.or_eq_true, decide_eq_true_eq, bne_iff_ne] at h
    obtain ⟨-, hx⟩ := h
    simp only [readIndex, indexX, sibIndex, hi, Option.getD_some, Option.map_some]
    cases hvsib : vsib with
    | true =>
      rw [if_pos rfl, hv hvsib, indexV4, hi]
      exact congrArg some (number_eq x)
    | false =>
      obtain ⟨hlt, hne⟩ : x.val < 16 ∧ x ≠ 4 := by simpa [hvsib] using hx
      have h4 : ¬(x.val % 8 = 4 ∧ x.val % 16 < 8) := fun ⟨h1, h2⟩ => hne (Fin.ext (show x.val = 4 by omega))
      rw [if_neg (by decide), if_neg (by simpa using h4), number_false_eq hlt]

theorem scale_of_sib {vsib : Bool} {m : MemOp} (h : indexOk vsib m = true) :
    (if m.index.isSome = true then Fin.ofNat 4 m.scale.val else 0) = m.scale := by
  unfold indexOk at h
  cases hi : m.index with
  | none =>
    simp only [hi, Bool.and_eq_true, beq_iff_eq] at h
    obtain ⟨-, hs⟩ := h
    rw [hs]
    rfl
  | some x => exact Fin.ofNat_val_eq_self _

/-- The base of SIB and its displacement: none with mod 0 and base 5, else a register with mod 2 (R131). -/
theorem decodeSib_sibByte {p : Prefixes} {e : Ext} {vsib : Bool} {m : MemOp} {md n : Nat} (hi : indexOk vsib m = true)
    (hd : dispOk m = true) (hseg : segOf p m.base = m.seg) (hx : e.x = indexX m)
    (hv : vsib = true → decide (e.v.val ≥ 16) = indexV4 m)
    (hb : (md = 0 ∧ n = 5 ∧ m.base = .none) ∨
      (md = 2 ∧ n < 8 ∧ m.base = .gpr (Fin.ofNat 16 ((if e.b3 = true then 8 else 0) + n)))) (n8 : Nat) (bs : List Byte) :
    decodeSib p m.asize e vsib n8 md (sibByte m n :: (dispBytes m.disp ++ bs)) = .ok (m, bs) := by
  have hn : n < 8 := by omega
  have hindex := readIndex_sibIndex hi hv
  have hscale := scale_of_sib hi
  unfold readIndex at hindex
  simp only [decodeSib, sibByte, byte233_middle m.scale.isLt (sibIndex_lt m) hn, hx, hindex, hscale,
    byte233_low m.scale.isLt (sibIndex_lt m) hn, byte233_high m.scale.isLt (sibIndex_lt m) hn]
  rcases hb with ⟨rfl, rfl, hbase⟩ | ⟨rfl, -, hbase⟩
  · simp only [decide_true, Bool.and_self, if_true, takeModDisp, takeDisp_dispBytes hd, Except.map, hseg, ← hbase]
  · simp only [OfNat.ofNat_ne_zero, decide_false, Bool.and_false, Bool.false_eq_true, if_false, takeModDisp,
      takeDisp_dispBytes hd, Except.map, hseg, ← hbase]

theorem asize_of_carries {p : Prefixes} {o : Operands} {m : MemOp} (hm : o.rm = .mem m) (hp : p.Carries o)
    (h : asizeOk m = true) : p.asize .mode64 = m.asize := by
  obtain ⟨ha, -⟩ := hp
  rw [asizeOk, bne_iff_ne] at h
  simp only [memPrefix, hm] at ha
  simp only [Prefixes.asize, mode64_long, if_true, ha, beq_iff_eq]
  split
  · next h32 => exact h32.symm
  · next h32 => cases hx : m.asize <;> first | rfl | contradiction

theorem segOf_of_carries {p : Prefixes} {o : Operands} {m : MemOp} (hm : o.rm = .mem m) (hp : p.Carries o) :
    segOf p m.base = m.seg := by
  obtain ⟨-, hs⟩ := hp
  exact segOf_segOverride (by simpa only [memPrefix, hm] using hs)

section
variable {p : Prefixes} {e : Ext} {x : MemOp}

/-- With r/m 4 a SIB byte follows. -/
theorem decodeMem_four {vsib : Bool} (ha : p.asize .mode64 = x.asize) (h16 : x.asize ≠ .a16) (n8 md : Nat)
    (bs : List Byte) : decodeMem .mode64 p e vsib n8 md 4 bs = decodeSib p x.asize e vsib n8 md bs := by
  simp only [decodeMem, ha, h16, mode64_long, if_true, if_false]

/-- With mod 0 and r/m 5 the base is RIP (R130). -/
theorem decodeMem_rip (ha : p.asize .mode64 = x.asize) (h16 : x.asize ≠ .a16) (hd : dispOk x = true)
    (hseg : segOf p x.base = x.seg) (hb : x.base = .rip) (hi : x.index = none) (hs : x.scale = 0) (n8 : Nat)
    (bs : List Byte) : decodeMem .mode64 p e false n8 0 5 (dispBytes x.disp ++ bs) = .ok (x, bs) := by
  simp [decodeMem, ha, h16, takeDisp_dispBytes hd, Except.map, ← hb, hseg, ← hi, ← hs]

/-- With mod 2 any other r/m is a base register with a disp32 (R130). -/
theorem decodeMem_base {n : Nat} (ha : p.asize .mode64 = x.asize) (h16 : x.asize ≠ .a16) (hd : dispOk x = true)
    (hseg : segOf p x.base = x.seg) (hn : n ≠ 4)
    (hb : x.base = .gpr (Fin.ofNat 16 ((if e.b3 = true then 8 else 0) + n))) (hi : x.index = none) (hs : x.scale = 0)
    (n8 : Nat) (bs : List Byte) : decodeMem .mode64 p e false n8 2 n (dispBytes x.disp ++ bs) = .ok (x, bs) := by
  simp only [decodeMem, ha, h16, hn, takeModDisp, takeDisp_dispBytes hd, Except.map, if_true, if_false, mode64_long,
    OfNat.ofNat_ne_zero, decide_false, Bool.false_and, Bool.false_eq_true, ← hb, hseg, ← hi, ← hs]

end

/-- A base register is its extension bit and its three low bits (R118). -/
theorem base_eq (n : Fin 16) : Fin.ofNat 16 ((if decide (n.val ≥ 8) = true then 8 else 0) + n.val % 8) = n := by
  revert n
  decide

section
variable {m : Mnemonic} {r : Row} {o : Operands} {x : MemOp}

theorem codedExt_x (hx : o.rm = .mem x) : (codedExt r o).x = indexX x := by
  simp only [codedExt, rmBits, hx, indexX]

theorem codedExt_b3 {n : Fin 16} (hx : o.rm = .mem x) (hb : x.base = .gpr n) : (codedExt r o).b3 = decide (n.val ≥ 8) := by
  simp only [codedExt, rmBits, hx, hb]

theorem OnRow.codedExt_v4 (h : OnRow m r o) (hx : o.rm = .mem x) (hv : r.vsib = true) :
    decide ((codedExt r o).v.val ≥ 16) = indexV4 x := by
  obtain ⟨-, hn⟩ := Row.of_vsib h.mem hv
  have h4 : codedV4 r o = indexV4 x := by simp only [codedV4, hv, if_true, rmBits, hx, indexV4]
  rw [codedExt_v, h.vvvv_of_vv_none hn, h4]
  cases indexV4 x <;> rfl

/-- An operand without index is no VSIB operand and has no scale. -/
theorem of_index_none {vsib : Bool} (h : indexOk vsib x = true) (hi : x.index = none) : vsib = false ∧ x.scale = 0 := by
  simpa [indexOk, hi] using h

theorem index_of_rip {vsib : Bool} (h : indexOk vsib x = true) (hb : x.base = .rip) : x.index = none := by
  cases hi : x.index with
  | none => rfl
  | some n => simp [indexOk, hi, hb] at h

/-- A memory operand is ModR/M with some mod other than 3, a SIB byte or none, and a disp32, and reads back. -/
theorem OnRow.modrmBytes_mem (h : OnRow m r o) (hx : o.rm = .mem x) :
    ∃ md n sib, md < 3 ∧ n < 8 ∧ sib.length ≤ 1 ∧
      modrmBytes r o = byte233 md (regCode r o % 8) n :: (sib ++ dispBytes x.disp) ∧
      ∀ p, p.Carries o → ∀ n8 bs,
        decodeMem .mode64 p (codedExt r o) r.vsib n8 md n (sib ++ (dispBytes x.disp ++ bs)) = .ok (x, bs) := by
  obtain ⟨-, -, hrm, -⟩ := h.fits
  simp only [rmOk, hx, Bool.and_eq_true, and_assoc] at hrm
  obtain ⟨hasize, hdisp, hindex⟩ := hrm
  have h16 : x.asize ≠ .a16 := by rwa [asizeOk, bne_iff_ne] at hasize
  cases hb : x.base with
  | rip =>
    have hi := index_of_rip hindex hb
    obtain ⟨hv, hs⟩ := of_index_none hindex hi
    refine ⟨0, 5, [], by decide, by decide, Nat.zero_le 1, ?_, fun p hp n8 bs => ?_⟩
    · simp [modrmBytes, hx, hb, byte233]
    · rw [hv]
      exact decodeMem_rip (asize_of_carries hx hp hasize) h16 hdisp (segOf_of_carries hx hp) hb hi hs n8 bs
  | none =>
    refine ⟨0, 4, [sibByte x 5], by decide, by decide, le_rfl, ?_, fun p hp n8 bs => ?_⟩
    · simp only [modrmBytes, hx, hb, sibByte, sibIndex, byte233, Nat.zero_mul, Nat.zero_add]
      cases x.index <;> rfl
    · rw [decodeMem_four (asize_of_carries hx hp hasize) h16]
      exact decodeSib_sibByte hindex hdisp (segOf_of_carries hx hp) (codedExt_x hx) (h.codedExt_v4 hx)
        (.inl ⟨rfl, rfl, hb⟩) n8 bs
  | gpr n =>
    have hn : n.val % 8 < 8 := Nat.mod_lt _ (by decide)
    have hbase : x.base = .gpr (Fin.ofNat 16 ((if (codedExt r o).b3 = true then 8 else 0) + n.val % 8)) := by
      rw [codedExt_b3 hx hb, base_eq, hb]
    by_cases hsib : (x.index.isNone && decide (n.val % 8 ≠ 4)) = true
    · obtain ⟨hi, h4⟩ : x.index = .none ∧ n.val % 8 ≠ 4 := by simpa using hsib
      obtain ⟨hv, hs⟩ := of_index_none hindex hi
      refine ⟨2, n.val % 8, [], by decide, hn, Nat.zero_le 1, ?_, fun p hp n8 bs => ?_⟩
      · simp only [modrmBytes, hx, hb, hsib, if_true, byte233]
        rfl
      · rw [hv]
        exact decodeMem_base (asize_of_carries hx hp hasize) h16 hdisp (segOf_of_carries hx hp) h4 hbase hi hs n8 bs
    · refine ⟨2, 4, [sibByte x (n.val % 8)], by decide, by decide, le_rfl, ?_, fun p hp n8 bs => ?_⟩
      · simp only [modrmBytes, hx, hb, if_neg hsib, sibByte, sibIndex, byte233]
        cases x.index <;> rfl
      · rw [decodeMem_four (asize_of_carries hx hp hasize) h16]
        exact decodeSib_sibByte hindex hdisp (segOf_of_carries hx hp) (codedExt_x hx) (h.codedExt_v4 hx)
          (.inr ⟨rfl, hn, hbase⟩) n8 bs

/-- What the decoder takes for the r/m operand after a ModR/M byte. -/
def readRm (p : Prefixes) (e : Ext) (r : Row) (n8 : Nat) (mrm : Byte) (bs : List Byte) : Except Stop (RM × List Byte) :=
  if mrm.toNat / 64 = 3 then .ok (.reg (rmField .mode64 e r.rm (mrm.toNat % 8)), bs)
  else (decodeMem .mode64 p e r.vsib n8 (mrm.toNat / 64) (mrm.toNat % 8) bs).map fun x => (.mem x.1, x.2)

/-- ModR/M, SIB and displacement are at most six bytes, hold the number in ModRM.reg and the kind of the r/m operand, and
read back as that operand (R130, R131). -/
theorem OnRow.modrmBytes_reads (h : OnRow m r o) :
    ∃ mrm tail, modrmBytes r o = mrm :: tail ∧ tail.length ≤ 5 ∧ mrm.toNat / 8 % 8 = regCode r o % 8 ∧
      (mrm.toNat / 64 == 3) = o.isReg ∧
      ∀ p, p.Carries o → ∀ n8 bs, readRm p (codedExt r o) r n8 mrm (tail ++ bs) = .ok (o.rm, bs) := by
  have hg : regCode r o % 8 < 8 := Nat.mod_lt _ (by decide)
  cases hx : o.rm with
  | reg n =>
    have hn : n.val % 8 < 8 := Nat.mod_lt _ (by decide)
    have hmod := byte233_high (by decide : 3 < 4) hg hn
    refine ⟨byte233 3 (regCode r o % 8) (n.val % 8), [], ?_, Nat.zero_le 5, byte233_middle (by decide) hg hn, ?_, ?_⟩
    · simp only [modrmBytes, hx]
      rfl
    · rw [hmod, Operands.isReg, hx]
      rfl
    · intro p _ n8 bs
      rw [readRm, if_pos hmod, byte233_low (by decide) hg hn, h.rmField_coded hx, List.nil_append]
  | mem x =>
    obtain ⟨md, n, sib, hmd, hn, hsib, hbytes, hread⟩ := h.modrmBytes_mem hx
    have hmod := byte233_high (Nat.lt_succ_of_lt hmd) hg hn
    refine ⟨_, _, hbytes, ?_, byte233_middle (Nat.lt_succ_of_lt hmd) hg hn, ?_, ?_⟩
    · rw [List.length_append, length_dispBytes]
      omega
    · rw [hmod, Operands.isReg, hx]
      exact beq_eq_false_iff_ne.2 hmd.ne
    · intro p hp n8 bs
      rw [readRm, hmod, if_neg hmd.ne, byte233_low (Nat.lt_succ_of_lt hmd) hg hn, List.append_assoc, hread p hp]
      rfl

/-! ### The operands of a row -/

/-- The immediate byte of an instruction, where its row has one. -/
def immBytes (r : Row) (o : Operands) : List Byte := if r.imm then [o.imm] else []

/-- The fields that select the row, and the operands read back, are the instruction's fields. -/
theorem OnRow.decodeOperands_coded (h : OnRow m r o) {p : Prefixes} {mrm : Byte} {rest bs : List Byte}
    (hg : mrm.toNat / 8 % 8 = regCode r o % 8)
    (hrm : ∀ n8, readRm p (codedExt r o) r n8 mrm rest = .ok (o.rm, immBytes r o ++ bs)) :
    decodeOperands .mode64 p (codedExt r o) (shape (codedExt r o) o.w o.opcode o.isReg) r mrm rest = .ok (o, bs) := by
  obtain ⟨-, -, -, himm, -⟩ := h.fits
  unfold readRm at hrm
  simp only [decodeOperands, hg, h.regField_coded, h.vField_coded, hrm]
  cases hi : r.imm with
  | true =>
    simp only [immBytes, hi]
    rfl
  | false =>
    have h0 : o.imm = 0 := by simpa [immOk, hi] using himm
    simp only [immBytes, hi, Bool.false_eq_true, if_false, List.nil_append, shape, ← h0]
    rfl

end

end Sys2Proof
end

section
/-! PROOFS. The decoder selects the row of a well-formed instruction, and reads the whole encoding back (statement O53). -/

namespace Sys2Proof

open Machine

/-! ### Selecting the row -/

/-- The first entry with an accepting row is the one whose row alone accepts. -/
theorem pick_eq_some {o : Operands} {e : Ext} {g : Nat} {m : Mnemonic} {r : Row} {ts : List Entry}
    (hex : ∃ t ∈ ts, t.name = m ∧ r ∈ entryRows t e g) (hr : r.accepts o = true)
    (huniq : ∀ t ∈ ts, ∀ q ∈ entryRows t e g, q.accepts o = true → t.name = m ∧ q = r) : pick o e g ts = some (m, r) := by
  induction ts with
  | nil =>
    obtain ⟨t, ht, -⟩ := hex
    cases ht
  | cons t ts ih =>
    rw [pick]
    split
    · next q hq =>
      have hqa : q.accepts o = true := by simpa using List.find?_some hq
      obtain ⟨hname, rfl⟩ := huniq t List.mem_cons_self q (List.mem_of_find?_eq_some hq) hqa
      rw [hname]
    · next hnone =>
      refine ih ?_ fun u hu => huniq u (List.mem_cons_of_mem t hu)
      obtain ⟨u, hu, hname, hrow⟩ := hex
      rcases List.mem_cons.1 hu with rfl | hu
      · exact absurd hr (List.find?_eq_none.1 hnone r hrow)
      · exact ⟨u, hu, hname, hrow⟩

section
variable {m : Mnemonic} {r : Row} {o : Operands}

theorem OnRow.mem_candidates (h : OnRow m r o) {t : Entry} :
    t ∈ candidates (codedExt r o) o.opcode ↔ t ∈ table r.space r.map r.pp ∧ t.opcode = r.opcode := by
  obtain ⟨hs, hp, hop⟩ := h.selected
  simp only [candidates, List.mem_filter, beq_iff_eq, codedExt, hs, hp, hop]

theorem shape_isReg (e : Ext) (w : Bool) (op : Byte) (b : Bool) : (shape e w op b).isReg = b := by
  cases b <;> rfl

theorem vsibOk_shape (r : Row) (e : Ext) (w : Bool) (op : Byte) (b : Bool) : r.vsibOk (shape e w op b) = true := by
  cases b <;> simp [Row.vsibOk, shape]

/-- The row accepts what the decoder knows of the fields before the operands: of what it asks, only the index of a gather
is not known yet. -/
theorem OnRow.accepts_shape (h : OnRow m r o) : r.accepts (shape (codedExt r o) o.w o.opcode o.isReg) = true := by
  have ha := h.accepts
  simp only [Row.accepts, Bool.and_eq_true] at ha ⊢
  obtain ⟨⟨⟨⟨⟨hsel, hmod⟩, hlen⟩, hb⟩, hmask⟩, -⟩ := ha
  refine ⟨⟨⟨⟨⟨hsel, ?_⟩, ?_⟩, ?_⟩, ?_⟩, vsibOk_shape ..⟩
  · rwa [shape_isReg]
  · simp only [Row.lenOk, Row.rounding, shape_isReg] at hlen ⊢
    exact hlen
  · simp only [Row.bOk, shape_isReg] at hb ⊢
    exact hb
  · simp only [Row.maskOk, shape_isReg] at hmask ⊢
    exact hmask

theorem OnRow.digitOk_coded (h : OnRow m r o) : digitOk r (regCode r o % 8) = true := by
  unfold digitOk regCode
  cases hu : r.reg with
  | ext n => simpa using (Nat.mod_eq_of_lt (Row.digit_lt h.mem hu)).symm
  | _ => rfl

theorem mem_entryRows {t : Entry} {e : Ext} {g : Nat} {q : Row} :
    q ∈ entryRows t e g ↔ q ∈ t.name.rows ∧ q.space = e.space ∧ q.pp = e.pp ∧ q.opcode = t.opcode ∧ digitOk q g = true := by
  simp only [entryRows, List.mem_filter, Bool.and_eq_true, beq_iff_eq, and_assoc]

theorem OnRow.pick_coded (h : OnRow m r o) :
    pick (shape (codedExt r o) o.w o.opcode o.isReg) (codedExt r o) (regCode r o % 8)
      (candidates (codedExt r o) o.opcode) = some (m, r) := by
  obtain ⟨hs, hp, -⟩ := h.selected
  refine pick_eq_some ?_ h.accepts_shape ?_
  · obtain ⟨t, ht, hop, rfl⟩ := Row.exists_entry h.mem
    exact ⟨t, h.mem_candidates.2 ⟨ht, hop⟩, rfl, mem_entryRows.2 ⟨h.mem, hs, hp, hop.symm, h.digitOk_coded⟩⟩
  · intro t ht q hq hqa
    obtain ⟨htable, hop⟩ := h.mem_candidates.1 ht
    obtain ⟨hqr, -, -, -, hqg⟩ := mem_entryRows.1 hq
    exact Row.eq_of_entry h.mem htable hop hqr h.accepts_shape hqa h.digitOk_coded hqg

theorem effectiveW_mode64 (e : Ext) (cs : List Entry) (g : Nat) : effectiveW .mode64 e cs g = e.w := by
  simp [effectiveW]

/-- No row is where CPUID is. -/
theorem OnRow.not_cpuid (h : OnRow m r o) :
    ((codedExt r o).space == .legacy && (codedExt r o).map == .m0F && o.opcode == 0xA2) = false := by
  rw [← Bool.not_eq_true]
  simp only [Bool.and_eq_true, beq_iff_eq, and_assoc]
  rintro ⟨hs, hm, ho⟩
  obtain ⟨-, -, hop⟩ := h.selected
  obtain ⟨-, -, hA2, -⟩ := Row.opcode_ne h.mem (h.space_eq.trans hs) hm
  exact hA2 (by rw [hop, ho]; rfl)

/-- No row is where PCOMMIT is: the one of its opcode has a memory operand (R1481, R1482). -/
theorem OnRow.not_pcommit (h : OnRow m r o) {mrm : Byte} (hmod : (mrm.toNat / 64 == 3) = o.isReg) :
    ((codedExt r o).space == .legacy && (codedExt r o).map == .m0F && (codedExt r o).pp == .p66 && o.opcode == 0xAE &&
      mrm == 0xF8) = false := by
  rw [← Bool.not_eq_true]
  simp only [Bool.and_eq_true, beq_iff_eq, and_assoc]
  rintro ⟨hs, hm, -, ho, rfl⟩
  obtain ⟨-, -, hop⟩ := h.selected
  obtain ⟨-, -, -, hmem⟩ := Row.opcode_ne h.mem (h.space_eq.trans hs) hm
  have ha := h.accepts
  simp only [Row.accepts, hmem (by rw [hop, ho]; rfl), ← hmod, Bool.and_eq_true] at ha
  obtain ⟨⟨⟨⟨⟨-, hmod⟩, -⟩, -⟩, -⟩, -⟩ := ha
  cases hmod

/-- From the opcode on, the instruction on its row is read back. -/
theorem OnRow.decodeOpcode_coded (h : OnRow m r o) {p : Prefixes} (hl : p.lock = false) (hp : p.Carries o) (bs : List Byte) :
    decodeOpcode .mode64 p (codedExt r o) (o.opcode :: (modrmBytes r o ++ (immBytes r o ++ bs))) = .ok (m, o, bs) := by
  obtain ⟨mrm, tail, hbytes, -, hg, hmod, hread⟩ := h.modrmBytes_reads
  have hops := h.decodeOperands_coded hg (hread p hp · (immBytes r o ++ bs))
  have hw : (codedExt r o).w = o.w := rfl
  have hempty : (candidates (codedExt r o) o.opcode).isEmpty = false := by
    obtain ⟨t, ht, hop, -⟩ := Row.exists_entry h.mem
    exact List.isEmpty_eq_false_iff.2 (List.ne_nil_of_mem (h.mem_candidates.2 ⟨ht, hop⟩))
  simp only [hbytes, List.cons_append, decodeOpcode, h.not_cpuid, hempty, h.not_pcommit hmod,
    effectiveW_mode64, hw, hg, hmod, h.pick_coded, hl, hops, Bool.false_eq_true, if_false]

/-! ### The whole encoding -/

/-- Where the decoder reads bytes from the prefixes on and leaves what follows them, it answers the instruction and how many
they are. -/
theorem decode_of_reads {bs after bytes : List Byte} {p : Prefixes} {name : Mnemonic} {o : Operands}
    (hp : takePrefixes true {} (bs ++ after) = (p, bytes)) (hs : decodeSystem .mode64 p bytes = .ok (name, o, after)) :
    decode .mode64 (bs ++ after) = .ok (name.make o, bs.length) := by
  simp only [decode, decodeFields, mode64_long, hp, hs, List.length_append, Nat.add_sub_cancel]

theorem decode_cpuid (rest : List Byte) : decode .mode64 ([0x0F, 0xA2] ++ rest) = .ok (.cpuid, 2) :=
  decode_of_reads (name := .cpuid) (takePrefixes_stop rfl (by decide) _) rfl

theorem decode_pcommit (rest : List Byte) : decode .mode64 ([0x66, 0x0F, 0xAE, 0xF8] ++ rest) = .ok (.pcommit, 4) :=
  decode_of_reads (name := .pcommit) ((takePrefixes_add rfl _).trans (takePrefixes_stop rfl (by decide) _)) rfl

/-- The bytes before ModR/M in each encoding system. -/
def headBytes (r : Row) (o : Operands) : List Byte :=
  match o.space with
  | .legacy => legacyHead r o
  | .vex => vexHead r o
  | .evex => evexHead r o

theorem encodeRow_eq (r : Row) (o : Operands) :
    encodeRow r o = memPrefixes o ++ (headBytes r o ++ (modrmBytes r o ++ immBytes r o)) := by
  unfold encodeRow headBytes immBytes
  cases o.space <;> simp only [List.append_assoc]

theorem OnRow.readsHead (h : OnRow m r o) : ReadsHead r o (headBytes r o) := by
  unfold headBytes
  cases hs : o.space with
  | legacy => exact h.readsHead_legacy hs
  | vex => exact h.readsHead_vex hs
  | evex => exact readsHead_evex hs

theorem length_headBytes_le (r : Row) (o : Operands) : (headBytes r o).length ≤ 5 := by
  unfold headBytes
  cases o.space with
  | legacy =>
    have hrex : (rexBytes (rexBits r o)).length ≤ 1 := by
      unfold rexBytes
      split <;> simp
    have hpp : (simdBytes o.pp).length ≤ 1 := by cases o.pp <;> decide
    have hmap : (mapBytes r.map).length ≤ 2 := by cases r.map <;> decide
    simp only [legacyHead_eq, List.length_append, List.length_singleton]
    omega
  | vex => exact (by decide : 4 ≤ 5)
  | evex => exact le_rfl

theorem OnRow.length_encodeRow_le (h : OnRow m r o) : (encodeRow r o).length ≤ maxLen := by
  have hmem := length_memPrefixes_le o
  have hhead := length_headBytes_le r o
  have himm : (immBytes r o).length ≤ 1 := by
    unfold immBytes
    split <;> simp
  obtain ⟨mrm, tail, hbytes, htail, -⟩ := h.modrmBytes_reads
  rw [encodeRow_eq, hbytes]
  simp only [List.length_append, List.length_cons, maxLen]
  omega

theorem OnRow.decode_encodeRow (h : OnRow m r o) (rest : List Byte) :
    decode .mode64 (encodeRow r o ++ rest) = .ok (m.make o, (encodeRow r o).length) := by
  obtain ⟨p, bytes, hp, hlock, hcarry, hsys⟩ := h.readsHead (modrmBytes r o ++ (immBytes r o ++ rest))
  refine decode_of_reads (p := p) (bytes := bytes) ?_ ?_
  · simpa only [encodeRow_eq, List.append_assoc] using hp
  · rw [hsys, h.decodeOpcode_coded hlock hcarry]

end

/-- A well-formed instruction with fields is on a row of its name, and its encoding is that of the row. -/
theorem onRow_of_wellFormed {i : Instr} {o : Operands} (ho : operandsOf i = some o) (h : wellFormed i = true) :
    ∃ r, OnRow (mnemonicOf i) r o ∧ encode i = encodeRow r o := by
  simp only [wellFormed, ho, List.any_eq_true, Bool.and_eq_true] at h
  obtain ⟨r, hr, ha, hf⟩ := h
  refine ⟨r, ⟨hr, ha, hf⟩, ?_⟩
  simp only [encode, ho, Row.find_accepts hr ha]

/-- Settles O53: an instruction with fields is read back on its row; CPUID and PCOMMIT, which have none, byte by byte. -/
theorem decodeEncode : Obligations.DecodeEncode := by
  intro i rest hwf
  cases ho : operandsOf i with
  | some o =>
    obtain ⟨r, hrow, henc⟩ := onRow_of_wellFormed ho hwf
    rw [henc]
    refine ⟨hrow.length_encodeRow_le, ?_⟩
    rw [hrow.decode_encodeRow rest, ← eq_make i o ho]
  | none =>
    rcases operandsOf_none i ho with rfl | rfl
    · exact ⟨by decide, decode_cpuid rest⟩
    · exact ⟨by decide, decode_pcommit rest⟩

end Sys2Proof
end

section
/-! PROOFS. CPUID (statement O36): the state it leaves behind, what leaf 0 returns, and the rules that leaves 04H and 0DH and
the brand string keep whatever the table of the part holds. -/

namespace Sys2Proof.Machine

open Sys2Proof.Claims

/-! ### Fields of a masked word -/

/-- A mask keeps a field of which it has all bits. -/
theorem field_and_ones {n i w : Nat} {m : BitVec n} (x : BitVec n) (h : m.extractLsb' i w = BitVec.allOnes w) :
    (x &&& m).extractLsb' i w = x.extractLsb' i w := by
  rw [BitVec.extractLsb'_and, h, BitVec.and_allOnes]

/-- A mask clears a field of which it has no bit. -/
theorem field_and_zeros {n i w : Nat} {m : BitVec n} (x : BitVec n) (h : m.extractLsb' i w = 0#w) :
    (x &&& m).extractLsb' i w = 0#w := by
  rw [BitVec.extractLsb'_and, h, BitVec.and_zero]

/-- What is shifted into the upper half is read from there. -/
theorem field_shifted_high (x : BitVec 32) : (x.setWidth 64 <<< 32).extractLsb' 32 32 = x := by
  apply BitVec.eq_of_getLsbD_eq
  intro i hi
  have high : 32 + i < 64 := by omega
  simp [hi, high]

/-- A shift by half the width leaves the lower half empty. -/
theorem field_shifted_low (x : BitVec 32) : (x.setWidth 64 <<< 32).extractLsb' 0 32 = 0#32 := by
  ext i hi
  simp [hi]

/-! ### General registers written at any width -/

@[simp] theorem State.getGpr_putGpr_same (s : State) {w : Nat} (n : Fin 32) (x : BitVec w) :
    (s.putGpr n x).getGpr n = x.setWidth 64 := s.getGpr_setGpr_same n _

theorem State.getGpr_putGpr_ne (s : State) {w : Nat} (n m : Fin 32) (x : BitVec w) (h : m.val % 16 ≠ n.val % 16) :
    (s.putGpr n x).getGpr m = s.getGpr m := s.getGpr_setGpr_ne n m _ h

/-! ### The state CPUID leaves behind -/

/-- The data CPUID returns for the leaf in EAX and the sub-leaf in ECX (R201, R204). -/
def State.cpuidData (s : State) : CpuidEntry :=
  s.leafData (s.cpuidLeaf ((s.getGpr 0).setWidth 32)) ((s.getGpr 1).setWidth 32)

theorem exec_cpuid_running {s : State} (he : s.event = none) : exec .cpuid s = .next { s.cpuid with pc := s.npc } :=
  congrArg Host.Outcome.next (cpuid_retire he)

/-- Each write of CPUID to a register leaves the registers written before it as they are. -/
theorem State.getGpr_cpuid (s : State) :
    s.cpuid.getGpr 0 = s.cpuidData.eax.setWidth 64 ∧ s.cpuid.getGpr 3 = s.cpuidData.ebx.setWidth 64 ∧
      s.cpuid.getGpr 1 = s.cpuidData.ecx.setWidth 64 ∧ s.cpuid.getGpr 2 = s.cpuidData.edx.setWidth 64 := by
  unfold State.cpuid
  refine ⟨?eax, ?ebx, ?ecx, ?edx⟩
  case eax =>
    rw [getGpr_putGpr_ne _ 2 0 _ (by decide), getGpr_putGpr_ne _ 1 0 _ (by decide), getGpr_putGpr_ne _ 3 0 _ (by decide)]
    exact getGpr_putGpr_same ..
  case ebx =>
    rw [getGpr_putGpr_ne _ 2 3 _ (by decide), getGpr_putGpr_ne _ 1 3 _ (by decide)]
    exact getGpr_putGpr_same ..
  case ecx =>
    rw [getGpr_putGpr_ne _ 2 1 _ (by decide)]
    exact getGpr_putGpr_same ..
  case edx => exact getGpr_putGpr_same ..

/-- CPUID writes the general registers 0 to 3 alone. -/
theorem State.getGpr_cpuid_other (s : State) (x : Fin 32) (hx : x.val < 16) (h : 4 ≤ x.val) :
    s.cpuid.getGpr x = s.getGpr x := by
  have apart : ∀ n : Fin 32, n.val < 4 → x.val % 16 ≠ n.val % 16 := by omega
  unfold State.cpuid
  rw [getGpr_putGpr_ne _ 2 x _ (apart 2 (by decide)), getGpr_putGpr_ne _ 1 x _ (apart 1 (by decide)),
    getGpr_putGpr_ne _ 3 x _ (apart 3 (by decide)), getGpr_putGpr_ne _ 0 x _ (apart 0 (by decide))]
  rfl

theorem State.cpuid_biosSignId (s : State) :
    s.cpuid.biosSignId = (s.biosSignId &&& 0xFFFFFFFF) ||| (s.cpu.microcode.setWidth 64 <<< 32) := rfl

/-- The upper half of IA32_BIOS_SIGN_ID is the revision (R239). -/
theorem State.cpuid_signHigh (s : State) : s.cpuid.biosSignId.extractLsb' 32 32 = s.cpu.microcode := by
  rw [cpuid_biosSignId, BitVec.extractLsb'_or, field_and_zeros _ (by decide), field_shifted_high, BitVec.zero_or]

/-- The lower half of IA32_BIOS_SIGN_ID is as before (R239). -/
theorem State.cpuid_signLow (s : State) : s.cpuid.biosSignId.extractLsb' 0 32 = s.biosSignId.extractLsb' 0 32 := by
  rw [cpuid_biosSignId, BitVec.extractLsb'_or, field_and_ones _ (by decide), field_shifted_low, BitVec.or_zero]

/-- CPUID writes registers, IA32_BIOS_SIGN_ID and, as it serializes, the ledger (R99); it keeps the rest. -/
theorem State.cpuid_frame (s : State) :
    s.cpuid = { s with
      gpr := s.cpuid.gpr, biosSignId := s.cpuid.biosSignId, durability := s.serialize.durability } := rfl

/-! ### Leaf 0 -/

/-- Leaf 0 is supported on every part and hidden by no setting (R203, R204). -/
theorem State.cpuidLeaf_zero (s : State) : s.cpuidLeaf 0#32 = 0#32 := by
  simp [State.cpuidLeaf, BitVec.ule]

/-- Leaf 0 holds the highest basic leaf and "GenuineIntel" (R203, R205). -/
theorem State.leafData_zero (s : State) (sub : BitVec 32) :
    s.leafData 0 sub = ⟨0, sub, s.maxBasic, 0x756E6547, 0x6C65746E, 0x49656E69⟩ := rfl

theorem State.cpuidData_zero {s : State} (h : (s.getGpr 0).setWidth 32 = 0#32) :
    s.cpuidData = ⟨0, (s.getGpr 1).setWidth 32, s.maxBasic, 0x756E6547, 0x6C65746E, 0x49656E69⟩ := by
  rw [State.cpuidData, h, cpuidLeaf_zero]
  exact s.leafData_zero _

/-! ### The caches of leaf 04H -/

theorem State.leafData_cache (s : State) (sub : BitVec 32) :
    s.leafData 4 sub = if (s.cpuidStored 4 sub).eax &&& 0x1F == 0 then s.cpuidStored 4 sub
      else { s.cpuidStored 4 sub with
        eax := ((s.cpuidStored 4 sub).eax &&& 0x03FFFFFF) ||| ((s.cpuidStored 4 0).eax &&& 0xFC000000) } := rfl

/-- A sub-leaf of leaf 04H that reports a cache has EAX[31:26] of sub-leaf 0 in the table (R215). -/
theorem State.leafData_cache_ids {s : State} {sub : BitVec 32} (h : (s.leafData 4 sub).eax.extractLsb' 0 5 ≠ 0) :
    (s.leafData 4 sub).eax.extractLsb' 26 6 = (s.cpuidStored 4 0).eax.extractLsb' 26 6 := by
  rw [leafData_cache] at h ⊢
  split at h
  · next noCache =>
    rw [← field_and_ones (m := 0x1F) _ (by decide), eq_of_beq noCache] at h
    exact absurd rfl h
  · next cache =>
    rw [if_neg cache, BitVec.extractLsb'_or, field_and_zeros _ (by decide), field_and_ones _ (by decide),
      BitVec.zero_or]

/-! ### The XSAVE area of leaf 0DH -/

/-- ECX of leaf 0DH is the size for all that EDX:EAX reports, whatever the table holds (R224). -/
theorem State.leafData_xsave_ecx (s : State) : (s.leafData 0xD 0).ecx = Machine.xsaveSize s.cpu s.xcr0Bits := rfl

/-- EBX of leaf 0DH is the size for the components XCR0 enables (R224). -/
theorem State.leafData_xsave_ebx (s : State) : (s.leafData 0xD 0).ebx = Machine.xsaveSize s.cpu s.xcr0 := rfl

/-! ### The brand string -/

/-- The leaves of the brand string (R236). -/
def brandLeaves : List (BitVec 32) := [0x80000002, 0x80000003, 0x80000004]

/-- The data of an entry in the order in which the brand string lies in it (R236). -/
def cpuidWords (e : CpuidEntry) : List (BitVec 32) := [e.eax, e.ebx, e.ecx, e.edx]

theorem hasZeroByte_iff (x : BitVec 32) : hasZeroByte x = true ↔ ∃ i < 4, elem 8 i x = 0#8 := by
  simp [hasZeroByte]

theorem brandUnterminated_iff (c : CpuInfo) :
    brandUnterminated c = true ↔
      ∀ leaf ∈ brandLeaves, ∀ x ∈ cpuidWords (cpuidEntry c leaf 0), ¬ hasZeroByte x = true := by
  simp [brandUnterminated, brandLeaves, cpuidWords]

theorem mem_brandLeaves {leaf : BitVec 32} :
    leaf ∈ brandLeaves ↔ leaf = 0x80000002 ∨ leaf = 0x80000003 ∨ leaf = 0x80000004 := by
  simp [brandLeaves]

/-- No bit of the brand string's leaves is reserved. -/
theorem cpuidDefined_brand {leaf : BitVec 32} (h : leaf ∈ brandLeaves) :
    cpuidDefined leaf 0 = (BitVec.allOnes 32, BitVec.allOnes 32, BitVec.allOnes 32, BitVec.allOnes 32) := by
  obtain rfl | rfl | rfl := mem_brandLeaves.1 h
  · rfl
  · rfl
  · rfl

theorem State.cpuidWords_stored_brand (s : State) {leaf : BitVec 32} (h : leaf ∈ brandLeaves) :
    cpuidWords (s.cpuidStored leaf 0) = cpuidWords (cpuidEntry s.cpu leaf 0) := by
  simp only [cpuidWords, State.cpuidStored, cpuidDefined_brand h, BitVec.and_allOnes]

theorem State.leafData_brand_end (s : State) :
    s.leafData 0x80000004 0 = if brandUnterminated s.cpu then
      { s.cpuidStored 0x80000004 0 with edx := (s.cpuidStored 0x80000004 0).edx &&& 0x00FFFFFF }
    else s.cpuidStored 0x80000004 0 := rfl

/-- A brand string with a NUL is returned as the table has it (R236). -/
theorem State.leafData_brand {s : State} (hs : brandUnterminated s.cpu = false) {leaf : BitVec 32}
    (h : leaf ∈ brandLeaves) : s.leafData leaf 0 = s.cpuidStored leaf 0 := by
  obtain rfl | rfl | rfl := mem_brandLeaves.1 h
  · rfl
  · rfl
  · rw [leafData_brand_end, if_neg (by simp [hs])]

/-- The last byte of a brand string without NUL is returned as one (R236). -/
theorem State.leafData_brand_last {s : State} (hs : brandUnterminated s.cpu = true) :
    elem 8 3 (s.leafData 0x80000004 0).edx = 0#8 := by
  rw [leafData_brand_end, if_pos hs]
  exact field_and_zeros _ (by decide)

/-- A byte of the brand string that CPUID returns is NUL (R236). -/
theorem State.brand_has_nul (s : State) :
    ∃ leaf ∈ brandLeaves, ∃ x ∈ cpuidWords (s.leafData leaf 0), ∃ i < 4, elem 8 i x = 0#8 := by
  cases hs : brandUnterminated s.cpu with
  | true => exact ⟨0x80000004, by decide, _, by simp [cpuidWords], 3, by decide, leafData_brand_last hs⟩
  | false =>
    have hn := mt (brandUnterminated_iff s.cpu).2 (by simp [hs])
    push Not at hn
    obtain ⟨leaf, hleaf, x, hx, hz⟩ := hn
    rw [← cpuidWords_stored_brand s hleaf, ← leafData_brand hs hleaf] at hx
    exact ⟨leaf, hleaf, x, hx, (hasZeroByte_iff x).1 hz⟩

/-! ### O36: the result of CPUID -/

/-- Settles O36: what CPUID writes is read off its four register writes; leaf 0 and the rules of the leaves are facts about
`State.leafData`. -/
theorem cpuidResult : Obligations.CpuidResult := by
  refine ⟨fun s he => ?result, fun s he h0 => ?leafZero, fun s => ⟨fun i j hi hj => ?caches, ?all, fun hx => ?enabled, ?brand⟩⟩
  case result =>
    obtain ⟨eax, ebx, ecx, edx⟩ := s.getGpr_cpuid
    exact ⟨_, exec_cpuid_running he, eax, ebx, ecx, edx, s.getGpr_cpuid_other, s.cpuid_signHigh, s.cpuid_signLow, rfl,
      fun _ => rfl, congrArg (fun u : State => { u with pc := s.npc }) s.cpuid_frame⟩
  case leafZero =>
    obtain ⟨eax, ebx, ecx, edx⟩ := s.getGpr_cpuid
    rw [State.cpuidData_zero h0] at eax ebx ecx edx
    exact ⟨_, exec_cpuid_running he, eax, ebx, ecx, edx⟩
  case caches => rw [State.leafData_cache_ids hi, State.leafData_cache_ids hj]
  case all => exact s.leafData_xsave_ecx
  case enabled => rw [s.leafData_xsave_ebx, s.leafData_xsave_ecx, hx]
  case brand => exact s.brand_has_nul

end Sys2Proof.Machine
end

section
/-! PROOFS. Instructions on vector registers (statements O1, O2, O7, O8, O18, O19): each group of instructions runs one operand
shape (Laws/Tables.lean), and what the shape writes on the row the checks select. -/

namespace Sys2Proof.Machine

open Sys2Proof.Claims

/-! ### The body on the selected row -/

section
variable {s : State} {rows : List Row} {o : Operands} {r : Row} {w : Nat} {b : ZWord} {l : List Word}

/-- Of a body only what it does on the selected row counts. -/
theorem State.run_congr {body body' : Row → Except Abort State} (h : s.selects rows o r) (hb : body r = body' r) :
    s.run rows o body = s.run rows o body' := by
  obtain ⟨-, gate⟩ := h
  simp only [State.run, gate, hb]

/-- `vec2_result` where the operation on elements depends on the row. -/
theorem vec2_row_result {g : Row → ZWord → ZWord → Nat → BitVec w} (hw : 0 < w) (h : s.selects rows o r)
    (hb : s.src r o w (r.count o w) = .ok (b, l)) :
    ∃ t, (s.run rows o fun r => s.vec2 r o w (g r)) = .next t ∧
      VecWritten s t o o.reg (r.vl o) w (r.count o w) (g r (s.src1 r o) b) ∧ ZmmOnly (s.marked l) t := by
  rw [State.run_congr (body' := fun q => s.vec2 q o w (g r)) h rfl]
  exact vec2_result hw h hb

/-- `vec3_result` where the operation on elements depends on the row. -/
theorem vec3_row_result {g : Row → ZWord → ZWord → ZWord → Nat → BitVec w} (hw : 0 < w) (h : s.selects rows o r)
    (hb : s.src r o w (r.count o w) = .ok (b, l)) :
    ∃ t, (s.run rows o fun r => s.vec3 r o w (g r)) = .next t ∧
      VecWritten s t o o.reg (r.vl o) w (r.count o w) (g r (s.getZ o.reg) (s.src1 r o) b) ∧ ZmmOnly (s.marked l) t := by
  rw [State.run_congr (body' := fun q => s.vec3 q o w (g r)) h rfl]
  exact vec3_result hw h hb

/-- A body that writes vector registers alone, with what it loads. -/
theorem loaded_zmm {x : Except Abort (ZWord × List Word)} {f : ZWord → State} {body : Row → Except Abort State}
    (h : s.selects rows o r) (hx : x = .ok (b, l)) (hbody : body r = loading x f)
    (hf : f b = { s with zmm := (f b).zmm }) :
    s.run rows o body = .next { (f b).marked l with pc := s.npc } ∧
      ZmmOnly (s.marked l) { (f b).marked l with pc := s.npc } := by
  have running : (f b).event = none := by
    rw [hf]
    exact h.1
  exact run_zmm h (hbody.trans (loading_marked hx running)) hf

/-- A body that makes a masked vector of what it loads. -/
theorem loadedVec_result {x : Except Abort (ZWord × List Word)} {n : Nat} {f : ZWord → Nat → BitVec w}
    {body : Row → Except Abort State} (hw : 0 < w) (hn : w * n ≤ r.vl o) (h : s.selects rows o r) (hx : x = .ok (b, l))
    (hbody : body r = loading x fun b => s.putElems r o w n (f b)) :
    ∃ t, s.run rows o body = .next t ∧ VecWritten s t o o.reg (r.vl o) w n (f b) ∧ ZmmOnly (s.marked l) t := by
  obtain ⟨ends, frame⟩ := loaded_zmm h hx hbody (State.putElemsAt_eq ..)
  exact ⟨_, ends, State.putElemsAt_written s r o o.reg w n (f b) hw hn, frame⟩

/-! ### Integer instructions -/

theorem broadcastTuple_result {n : Nat} (hw : 0 < w) (h : s.selects rows o r) (hb : s.tupleSource r o w n = .ok (b, l)) :
    ∃ t, (s.run rows o fun r => s.broadcastTuple r o w n) = .next t ∧
      VecWritten s t o o.reg (r.vl o) w (r.count o w) (fun j => elem w (j % n) b) ∧ ZmmOnly (s.marked l) t :=
  loadedVec_result (f := fun b j => elem w (j % n) b) hw (r.count_le o w) h hb rfl

theorem moveDup_result (h : s.selects rows o r)
    (hb : s.src r o 64 (if r.count o 64 = 2 then 1 else r.count o 64) = .ok (b, l)) :
    ∃ t, (s.run rows o fun r => s.moveDup r o) = .next t ∧
      VecWritten s t o o.reg (r.vl o) 64 (r.count o 64) (fun j => elem 64 (j / 2 * 2) b) ∧ ZmmOnly (s.marked l) t :=
  loadedVec_result (f := fun b j => elem 64 (j / 2 * 2) b) (by decide) (r.count_le o 64) h hb rfl

/-- The elements of a vector register after a write of the whole vector length. -/
theorem elem_putVec_pack (s : State) (r : Row) (o : Operands) (d : Fin 32) (f : Nat → BitVec w) {j : Nat}
    (hj : j < r.count o w) : elem w j ((s.putVec o.space d (r.vl o) (pack w (r.count o w) f)).getZ d) = f j := by
  have fits := r.count_le o w
  have inside : w * j + w ≤ r.vl o := (Nat.mul_le_mul_left w hj).trans fits
  rw [elem_putVec s o.space d _ inside (r.vl_le o), elem_pack w f _ j hj (fits.trans (r.vl_le o))]

/-- From the length of a write on, a legacy form keeps the register's bits and the others clear them (R25). -/
theorem getLsbD_putVec_above (s : State) (sp : Space) (d : Fin 32) (v : ZWord) {vl i : Nat} (hi : i < 512) (hvl : vl ≤ i) :
    ((s.putVec sp d vl v).getZ d).getLsbD i = (decide (sp = .legacy) && (s.getZ d).getLsbD i) := by
  rw [getLsbD_putVec s sp d vl v i hi, if_neg (Nat.not_lt.2 hvl)]

theorem State.blend_eq (s : State) (r : Row) (o : Operands) (w : Nat) :
    s.blend r o w = loading (s.src r o w (r.count o w)) fun b =>
      s.putVec o.space o.reg (r.vl o) (pack w (r.count o w) fun j =>
        mergeElem (s.writemask o) o.z j (elem w j b) (elem w j (s.src1 r o))) := rfl

/-- A blend: where the writemask does not select the second source, the first source stands, or zero (R325). -/
theorem blend_result (h : s.selects rows o r) (hb : s.src r o w (r.count o w) = .ok (b, l)) :
    ∃ t, (s.run rows o fun r => s.blend r o w) = .next t ∧
      (∀ j < r.count o w, elem w j (t.getZ o.reg) =
        if (s.writemask o).getLsbD j then elem w j b else if o.z then 0 else elem w j (s.src1 r o)) ∧
      (∀ i < 512, r.vl o ≤ i → (t.getZ o.reg).getLsbD i = (decide (o.space = .legacy) && (s.getZ o.reg).getLsbD i)) ∧
      (∀ x, x ≠ o.reg → t.getZ x = s.getZ x) ∧ ZmmOnly (s.marked l) t := by
  obtain ⟨ends, frame⟩ := loaded_zmm (body := fun r => s.blend r o w) h hb (s.blend_eq r o w) (State.putVec_eq ..)
  exact ⟨_, ends, fun j hj => elem_putVec_pack s r o o.reg _ hj, fun i hi hvl => getLsbD_putVec_above s _ _ _ hi hvl,
    fun x hx => getZ_putVec_ne _ _ _ _ _ _ hx, frame⟩

end

/-- Settles O1: the two tables run `State.map2`, which applies the operation to the elements of the two sources. -/
theorem lanewiseResult : Obligations.LanewiseResult := by
  intro e he o s r b l h hb
  rcases List.mem_append.1 he with he | he
  · rw [lanewise_exec e he]
    exact vec2_result (lanewise_widths e he) h hb
  · rw [lanewiseShift_exec e he]
    exact vec2_result (lanewiseShift_widths e he) h hb

/-- Settles O2: the tables of two, one and three sources run `State.vec2` and `State.vec3`, the ones of one source without
the first. -/
theorem wholeSourceResult : Obligations.WholeSourceResult := by
  refine ⟨?two, ?one, ?three⟩ <;> intro e he o s r b l h hb
  case two =>
    rcases List.mem_append.1 he with he | he
    · rw [twoSource_exec e he]
      exact vec2_row_result (twoSource_widths e he) h hb
    · rw [mixed_exec e he]
      exact vec2_row_result (mixed_widths e he) h hb
  case one =>
    rw [oneSource_exec e he]
    exact vec2_row_result (g := fun r _ => e.g o (s.fpEnv r o)) (oneSource_widths e he) h hb
  case three =>
    rw [threeSource_exec e he]
    exact vec3_row_result (threeSource_widths e he) h hb

/-- Settles O7: the broadcasts run `State.broadcastTuple`, MOVDDUP runs `State.moveDup`. -/
theorem broadcastResult : Obligations.BroadcastResult := by
  refine ⟨?tuple, ?dup⟩ <;> intro e he o s r b l h hb
  case tuple =>
    rw [broadcast_exec e he]
    exact broadcastTuple_result (broadcast_widths e he) h hb
  case dup =>
    rw [moveDup_exec e he]
    exact moveDup_result h hb

/-- Settles O8: the blends run `State.blend`, whose old elements are those of the first source. -/
theorem blendResult : Obligations.BlendResult := by
  intro e he o s r b l h hb
  rw [blend_exec e he]
  exact blend_result h hb

/-! ### Floating-point instructions -/

/-- Settles O18: the table runs `State.fp2`, which loads the second source and writes the results (`putFp_quiet`) or takes the
exception of their conditions (`putFp_alarmed`). -/
theorem fpPackedResult : Obligations.FpPackedResult := by
  intro e he o s r b l h hb res f
  rw [fpPacked_exec e he]
  have body : s.fp2 r o (e.op o) = .ok ((s.putFp r o (r.count o e.w) res).noteRead l) := State.loading_ok hb
  exact ⟨putFp_quiet (fpPacked_widths e he) (r.count_le o e.w) h body, putFp_alarmed h body⟩

/-- Settles O19: the table runs `State.fp2s`, which writes the result beside the upper bits of the first source
(`putFpScalar_quiet`) or takes the exception of its conditions (`putFpScalar_alarmed`). -/
theorem fpScalarResult : Obligations.FpScalarResult := by
  intro e he o s r b l h hb res f
  rw [fpScalar_exec e he]
  have body : s.fp2s r o (e.op o) = .ok ((s.putFpScalar r o (s.src1 r o) res).noteRead l) := State.loading_ok hb
  exact ⟨putFpScalar_quiet (fpScalar_widths e he) h body, putFpScalar_alarmed h body⟩

end Sys2Proof.Machine
end

section
/-! PROOFS. Rounding (statements O51, O52): what `shiftRound` answers in each direction, and that the exact value of a normal
number is rounded by no bit. -/

namespace Sys2Proof.Machine

/-! ### O51: the rounded quotient -/

section
variable (rc : Rc) (neg : Bool) (m k : Nat)

/-- The rounding mode moves a number of this sign away from zero. -/
def Rc.away (rc : Rc) (neg : Bool) : Prop := rc = .down ∧ neg = true ∨ rc = .up ∧ neg = false

/-- The rounding mode moves a number of this sign toward zero. -/
def Rc.toward (rc : Rc) (neg : Bool) : Prop := rc = .zero ∨ rc = .down ∧ neg = false ∨ rc = .up ∧ neg = true

/-- Bits are lost exactly where the division leaves a remainder. -/
theorem shiftRound_inexact_iff : (shiftRound rc neg m (Int.ofNat k)).2 = true ↔ ¬ 2 ^ k ∣ m := by
  simp [shiftRound, Nat.dvd_iff_mod_eq_zero]

/-- To nearest, the quotient is raised by a remainder of more than half a unit, and by one of half a unit if it is odd. -/
theorem shiftRound_nearest : (shiftRound .nearest neg m (Int.ofNat k)).1 =
    if 2 * (m % 2 ^ k) > 2 ^ k ∨ 2 * (m % 2 ^ k) = 2 ^ k ∧ m / 2 ^ k % 2 = 1 then m / 2 ^ k + 1 else m / 2 ^ k := by
  simp [shiftRound, Nat.shiftRight_eq_div_pow]

variable {rc neg}

/-- Toward zero, the quotient is cut. -/
theorem shiftRound_toward (h : rc.toward neg) : (shiftRound rc neg m (Int.ofNat k)).1 = m / 2 ^ k := by
  rcases h with rfl | ⟨rfl, rfl⟩ | ⟨rfl, rfl⟩ <;> simp [shiftRound, Nat.shiftRight_eq_div_pow]

/-- Away from zero, the quotient is raised by any remainder. -/
theorem shiftRound_away (h : rc.away neg) : (shiftRound rc neg m (Int.ofNat k)).1 =
    if m % 2 ^ k = 0 then m / 2 ^ k else m / 2 ^ k + 1 := by
  rcases h with ⟨rfl, rfl⟩ | ⟨rfl, rfl⟩ <;> simp [shiftRound, Nat.shiftRight_eq_div_pow]

end

/-- Settles O51: with the quotient and the remainder of the division, each clause is linear. -/
theorem roundingIsCorrect : Obligations.RoundingIsCorrect := by
  intro rc neg m k q
  have split : m / 2 ^ k * 2 ^ k + m % 2 ^ k = m := Nat.div_add_mod' m (2 ^ k)
  have small : m % 2 ^ k < 2 ^ k := Nat.mod_lt m (Nat.two_pow_pos k)
  have next : (m / 2 ^ k + 1) * 2 ^ k = m / 2 ^ k * 2 ^ k + 2 ^ k := Nat.succ_mul ..
  refine ⟨shiftRound_inexact_iff rc neg m k, ?nearest, fun h => ?toward, fun h => ?away⟩
  case nearest =>
    rintro rfl
    have hq : q = _ := shiftRound_nearest neg m k
    split at hq <;> rw [hq] <;> omega
  case toward =>
    have hq : q = _ := shiftRound_toward m k h
    rw [hq]
    omega
  case away =>
    have hq : q = _ := shiftRound_away m k h
    split at hq <;> rw [hq] <;> omega

/-! ### O52: normal numbers -/

/-- An integer is rounded to itself. -/
theorem shiftRound_zero (rc : Rc) (neg : Bool) (m : Nat) : shiftRound rc neg m 0 = (m, false) := by
  cases rc <;> simp [shiftRound, Nat.mod_one]

namespace Fmt
variable {w : Nat} {F : Fmt w} {x : BitVec w}

theorem frac_lt (F : Fmt w) (x : BitVec w) : F.frac x < 2 ^ F.mbits := Nat.mod_lt _ (Nat.two_pow_pos _)

theorem expField_lt (F : Fmt w) (x : BitVec w) : F.expField x < 2 ^ F.ebits := Nat.mod_lt _ (Nat.two_pow_pos _)

/-- The sign, the exponent and the fraction of a number make it again. -/
theorem make_fields (hw : w = F.mbits + F.ebits + 1) (x : BitVec w) :
    F.make (F.sign x) (F.expField x * 2 ^ F.mbits + F.frac x) = x := by
  have magnitude : F.expField x * 2 ^ F.mbits + F.frac x = x.toNat % 2 ^ (w - 1) := by
    have bits : w - 1 = F.mbits + F.ebits := by omega
    rw [bits, Nat.pow_add, Nat.mod_mul, expField, frac, Nat.shiftRight_eq_div_pow, Nat.add_comm, Nat.mul_comm]
  have halves : 2 ^ (w - 1) * 2 = 2 ^ w := Nat.two_pow_pred_mul_two (by omega)
  have below := x.isLt
  apply BitVec.eq_of_toNat_eq
  rw [make, BitVec.toNat_ofNat, magnitude, sign, BitVec.msb_eq_decide]
  by_cases negative : 2 ^ (w - 1) ≤ x.toNat
  · have low : x.toNat % 2 ^ (w - 1) = x.toNat - 2 ^ (w - 1) := by
      rw [Nat.mod_eq_sub_mod negative, Nat.mod_eq_of_lt (by omega)]
    rw [decide_eq_true negative, if_pos rfl, low, Nat.add_sub_cancel' negative, Nat.mod_eq_of_lt below]
  · rw [decide_eq_false negative, if_neg Bool.false_ne_true, Nat.zero_add, Nat.mod_eq_of_lt (by omega),
      Nat.mod_eq_of_lt (by omega)]

/-- The exact value of a normal number. -/
theorem num_of_normal (h : F.expField x ≠ 0) :
    F.num x = ⟨F.sign x, 2 ^ F.mbits + F.frac x, (F.expField x : Int) - F.bias - F.mbits⟩ := if_neg h

/-- The leading bit of a normal number's mantissa is the implicit one. -/
theorem log2_mant_of_normal : (2 ^ F.mbits + F.frac x).log2 = F.mbits := by
  have := F.frac_lt x
  rw [Nat.log2_eq_iff (by positivity)]
  omega

/-- A number with all the bits of a mantissa and an exponent of a normal number is rounded by no bit, is not tiny and does not
overflow. -/
theorem round_of_full_mantissa (env : FpEnv) {n : Num} {e : Nat} (hlog : n.mant.log2 = F.mbits) (hpos : n.mant ≠ 0)
    (hexp : n.exp = (e : Int) - F.bias - F.mbits) (h0 : e ≠ 0) (h1 : e < F.maxExp) :
    F.round env n = ⟨F.make n.neg ((e - 1) * 2 ^ F.mbits + n.mant), 0⟩ := by
  have top : (n.mant.log2 : Int) + n.exp = (e : Int) - F.bias := by omega
  have normal : max ((e : Int) - F.bias) (1 - (F.bias : Int)) = (e : Int) - F.bias := max_eq_left (by omega)
  have unshifted : (e : Int) - F.bias - F.mbits - n.exp = 0 := by omega
  have field : ((e : Int) - F.bias - F.mbits + F.mbits + F.bias - 1).toNat = e - 1 := by omega
  have notTiny : ¬ (e : Int) - F.bias < 1 - (F.bias : Int) := by omega
  have mantissa : n.mant < 2 * 2 ^ F.mbits := by
    have := Nat.lt_log2_self (n := n.mant)
    rwa [hlog, Nat.pow_succ'] at this
  have finite : ¬ (e - 1) * 2 ^ F.mbits + n.mant ≥ F.maxExp * 2 ^ F.mbits := by
    have room : (e - 1 + 2) * 2 ^ F.mbits ≤ F.maxExp * 2 ^ F.mbits := Nat.mul_le_mul_right _ (by omega)
    rw [Nat.add_mul] at room
    omega
  simp only [round, hpos, if_false, top, normal, unshifted, field, shiftRound_zero, Nat.shiftLeft_eq, finite, notTiny,
    decide_false, Bool.false_and, Bool.false_eq_true]
  rfl

/-- A normal number of a format whose fields fill its width is its own rounding. -/
theorem round_normal (hw : w = F.mbits + F.ebits + 1) (env : FpEnv) (h0 : F.expField x ≠ 0)
    (h1 : F.expField x ≠ F.maxExp) : F.round env (F.num x) = ⟨x, 0⟩ := by
  have implicit : (F.expField x - 1) * 2 ^ F.mbits + (2 ^ F.mbits + F.frac x) = F.expField x * 2 ^ F.mbits + F.frac x := by
    rw [← Nat.add_assoc, ← Nat.add_one_mul, Nat.sub_one_add_one h0]
  have below : F.expField x < F.maxExp := by
    have := F.expField_lt x
    unfold maxExp at h1 ⊢
    omega
  have positive : 2 ^ F.mbits + F.frac x ≠ 0 := (Nat.add_pos_left (Nat.two_pow_pos _) _).ne'
  rw [num_of_normal h0, round_of_full_mantissa env log2_mant_of_normal positive rfl h0 below, implicit, make_fields hw]

end Fmt

/-- Settles O52: `Fmt.round_normal` for the two formats. -/
theorem normalRoundsToItself : Obligations.NormalRoundsToItself :=
  ⟨fun env x => Fmt.round_normal (by decide) env, fun env x => Fmt.round_normal (by decide) env⟩

end Sys2Proof.Machine
end

section
/-! PROOFS. Compress and expand (statement O11), the floating-point compares (statements O24, O25): the order of the selected
elements, and what a body that responds to floating-point conditions writes where they raise nothing. -/

namespace Sys2Proof.Machine

open Sys2Proof.Claims

/-! ### The selected elements in their order -/

theorem popCount_eq_length (n : Nat) (k : KWord) :
    popCount n k = ((List.range n).filter fun j => k.getLsbD j).length := by
  induction n with
  | zero => rfl
  | succ n ih =>
    rw [popCount, ih, List.range_succ, List.filter_append, List.length_append]
    cases set : k.getLsbD n <;> simp [set]

theorem popCount_le (n : Nat) (k : KWord) : popCount n k ≤ n := by
  rw [popCount_eq_length]
  exact (List.length_filter_le ..).trans_eq List.length_range

/-- The number of a selected element among the selected ones is how many of them lie below it. -/
theorem nthSet_popCount {n j : Nat} {k : KWord} (hj : j < n) (hk : k.getLsbD j = true) :
    nthSet n k (popCount j k) = some j := by
  induction n with
  | zero => exact absurd hj (Nat.not_lt_zero j)
  | succ n ih =>
    rw [nthSet, List.range_succ, List.filter_append]
    rcases Nat.lt_succ_iff_lt_or_eq.1 hj with below | rfl
    · have found := ih below
      obtain ⟨inside, -⟩ := List.getElem?_eq_some_iff.1 found
      rw [List.getElem?_append_left inside]
      exact found
    · simp [popCount_eq_length, hk]

theorem popCount_lt_popCount {n j : Nat} {k : KWord} (hj : j < n) (hk : k.getLsbD j = true) :
    popCount j k < popCount n k := by
  rw [popCount_eq_length n]
  obtain ⟨inside, -⟩ := List.getElem?_eq_some_iff.1 (nthSet_popCount hj hk)
  exact inside

/-- Element `i` of the selected ones of the first `n` elements packed together, zero where there are fewer (R352). -/
def packedElem (w n : Nat) (k : KWord) (v : ZWord) (i : Nat) : BitVec w :=
  match nthSet n k i with
  | some j => elem w j v
  | none => 0

theorem packedElem_popCount {w n j : Nat} {k : KWord} (v : ZWord) (hj : j < n) (hk : k.getLsbD j = true) :
    packedElem w n k v (popCount j k) = elem w j v := by
  rw [packedElem, nthSet_popCount hj hk]

section
variable {s : State} {rows : List Row} {o : Operands} {r : Row} {w : Nat} {b : ZWord} {l : List Word}

/-! ### Compress and expand -/

theorem State.compress_reg {d : Fin 32} (hr : o.rm = .reg d) :
    s.compress r o w = .ok (s.putVec o.space d (r.vl o) (pack w (r.count o w) fun j =>
      if j < s.selected o (r.count o w) then packedElem w (r.count o w) (s.writemask o) (s.getZ o.reg) j
      else if o.z then 0 else elem w j (s.getZ d))) := by
  unfold State.compress
  rw [hr]
  rfl

theorem State.compress_mem {m : MemOp} (hr : o.rm = .mem m) :
    s.compress r o w = s.writeMem false m.seg (s.ea m) (List.range (s.selected o (r.count o w) * w / 8)) 1
      (r.acArg (s.selected o (r.count o w) * w / 8))
      (pack w (s.selected o (r.count o w)) (packedElem w (r.count o w) (s.writemask o) (s.getZ o.reg))) := by
  unfold State.compress
  rw [hr]
  rfl

/-- A compress into a register: the selected elements at the low end, the rest zero or unchanged (R352). -/
theorem compress_reg_result {d : Fin 32} (h : s.selects rows o r) (hr : o.rm = .reg d) :
    ∃ t, (s.run rows o fun r => s.compress r o w) = .next t ∧
      (∀ j < r.count o w, (s.writemask o).getLsbD j = true →
        elem w (popCount j (s.writemask o)) (t.getZ d) = elem w j (s.getZ o.reg)) ∧
      (∀ j < r.count o w, s.selected o (r.count o w) ≤ j →
        elem w j (t.getZ d) = if o.z then 0 else elem w j (s.getZ d)) ∧
      (∀ i < 512, r.vl o ≤ i → (t.getZ d).getLsbD i = (decide (o.space = .legacy) && (s.getZ d).getLsbD i)) ∧
      (∀ x, x ≠ d → t.getZ x = s.getZ x) ∧ ZmmOnly s t := by
  obtain ⟨ends, frame⟩ := run_zmm (body := fun r => s.compress r o w) (l := []) h (State.compress_reg hr) (State.putVec_eq ..)
  refine ⟨_, ends, fun j hj hk => ?packed, fun j hj hs => ?rest, fun i hi hvl => getLsbD_putVec_above s _ _ _ hi hvl,
    fun x hx => getZ_putVec_ne _ _ _ _ _ _ hx, frame⟩
  case packed =>
    have inside : popCount j (s.writemask o) < s.selected o (r.count o w) := popCount_lt_popCount hj hk
    refine (elem_putVec_pack s r o d _ (inside.trans_le (popCount_le ..))).trans ?_
    rw [if_pos inside, packedElem_popCount _ hj hk]
  case rest =>
    refine (elem_putVec_pack s r o d _ hj).trans ?_
    rw [if_neg (Nat.not_lt.2 hs)]

/-- A compress into memory: the selected elements one after the other (R352). -/
theorem compress_mem_result {m : MemOp} {ps : List (Nat × Nat)} (h : s.selects rows o r) (hr : o.rm = .mem m)
    (hp : s.plainTargets r m (s.selected o (r.count o w) * w / 8) = .ok ps) :
    ∃ t, (s.run rows o fun r => s.compress r o w) = .next t ∧
      ∃ v : ZWord, (∀ j < r.count o w, (s.writemask o).getLsbD j = true →
          elem w (popCount j (s.writemask o)) v = elem w j (s.getZ o.reg)) ∧
        Stored s t false v ps ∧ MemOnly s t := by
  obtain ⟨t, ends, stored, frame⟩ := writeMem_result (body := fun r => s.compress r o w) h hp (State.compress_mem hr)
  refine ⟨t, ends, _, fun j hj hk => ?_, stored, frame⟩
  have inside : popCount j (s.writemask o) < s.selected o (r.count o w) := popCount_lt_popCount hj hk
  have fits : w * s.selected o (r.count o w) ≤ 512 :=
    (Nat.mul_le_mul_left w (popCount_le ..)).trans ((r.count_le o w).trans (r.vl_le o))
  rw [elem_pack w _ _ _ inside fits, packedElem_popCount _ hj hk]

theorem expand_result (hw : 0 < w) (h : s.selects rows o r) (hb : s.expandSource r o w = .ok (b, l)) :
    ∃ t, (s.run rows o fun r => s.expand r o w) = .next t ∧
      VecWritten s t o o.reg (r.vl o) w (r.count o w) (fun j => elem w (popCount j (s.writemask o)) b) ∧
      ZmmOnly (s.marked l) t :=
  loadedVec_result (f := fun b j => elem w (popCount j (s.writemask o)) b) hw (r.count_le o w) h hb rfl

/-! ### Bodies that respond to floating-point conditions -/

variable {x : Except Abort (ZWord × List Word)} {f : ZWord → FpFlags} {commit : ZWord → State → State}
  {body : Row → Except Abort State}

/-- A body that responds to the conditions of what it loads, where they raise nothing. -/
theorem loading_quiet (hx : x = .ok (b, l)) (hq : s.quiet r o (f b))
    (he : (commit b { s with mxcsr := s.mxcsrAfter r o (f b) }).event = none) :
    (loading x fun b => s.fpRespond (r.rounding o) (f b) (commit b)) =
      .ok ((commit b { s with mxcsr := s.mxcsrAfter r o (f b) }).marked l) := by
  rw [← State.fpRespond_quiet (commit := commit b) hq] at he ⊢
  exact loading_marked hx he

/-- The same where one of them is unmasked: the flags are set and the exception is taken, nothing else (R1551). -/
theorem loading_alarmed (h : s.selects rows o r) (hx : x = .ok (b, l))
    (hbody : body r = loading x fun b => s.fpRespond (r.rounding o) (f b) (commit b)) (hq : s.alarmed r o (f b)) :
    s.run rows o body = .next (s.alarm (f b)) := by
  have responds := State.fpRespond_alarmed (commit := commit b) hq
  rw [loading_trapped hx (congrArg State.event responds), responds] at hbody
  exact State.run_trapped h hbody rfl

variable {c : BitVec 32}

/-- A masked write of an opmask register beside one of MXCSR. -/
theorem putMask_mxcsr_result {n : Nat} {g : Nat → Bool} (h : s.selects rows o r)
    (hb : body r = .ok ((({ s with mxcsr := c } : State).putMask o n g).marked l)) :
    ∃ t, s.run rows o body = .next t ∧ t.mxcsr = c ∧ MaskWritten s t o o.reg n g ∧ KMxcsrOnly (s.marked l) t := by
  obtain ⟨ends, frame⟩ := run_k_mxcsr h hb rfl
  exact ⟨_, ends, rfl, State.putMask_written { s with mxcsr := c } o n g, frame⟩

/-- A masked write of a vector register beside one of MXCSR. -/
theorem putElems_mxcsr_result {n : Nat} {g : Nat → BitVec w} (hw : 0 < w) (hn : w * n ≤ r.vl o) (h : s.selects rows o r)
    (hb : body r = .ok ((({ s with mxcsr := c } : State).putElems r o w n g).marked l)) :
    ∃ t, s.run rows o body = .next t ∧ t.mxcsr = c ∧ VecWritten s t o o.reg (r.vl o) w n g ∧
      ZmmMxcsrOnly (s.marked l) t := by
  obtain ⟨ends, frame⟩ := run_zmm_mxcsr h hb (State.putVec_eq_mxcsr ..)
  exact ⟨_, ends, State.putVec_mxcsr .., State.putElemsAt_written { s with mxcsr := c } r o o.reg w n g hw hn, frame⟩

/-- A masked write of a scalar beside one of MXCSR. -/
theorem putScalar_mxcsr_result {upper : ZWord} {v : BitVec w} (hw : w ≤ 128) (h : s.selects rows o r)
    (hb : body r = .ok ((({ s with mxcsr := c } : State).putScalar o w upper v).marked l)) :
    ∃ t, s.run rows o body = .next t ∧ t.mxcsr = c ∧ ScalarWritten s t o o.reg w upper v ∧
      ZmmMxcsrOnly (s.marked l) t := by
  obtain ⟨ends, frame⟩ := run_zmm_mxcsr h hb (State.putVec_eq_mxcsr ..)
  exact ⟨_, ends, State.putVec_mxcsr .., State.putScalar_written { s with mxcsr := c } o w upper v hw, frame⟩

/-! ### Compares into vector and opmask registers -/

/-- A legacy form has a predicate of three bits, the others one of five (U7). -/
theorem State.fpComparison_eq (s : State) (r : Row) (o : Operands) (F : Fmt w) (b : ZWord) (j : Nat) :
    s.fpComparison r o F b j =
      F.cmp (s.fpEnv r o).daz (if o.space = .legacy then o.imm.toNat % 8 else o.imm.toNat % 32)
        (elem w j (s.src1 r o)) (elem w j b) := by
  simp only [State.fpComparison, beq_iff_eq]

/-- What a compare reports of element `j`, beside all ones or zeros (R342). -/
def State.fpCompared {w : Nat} (s : State) (r : Row) (o : Operands) (F : Fmt w) (b : ZWord) (j : Nat) : FpRes w :=
  ⟨boolMask w (s.fpComparison r o F b j).1, (s.fpComparison r o F b j).2⟩

theorem fpCompareVec_quiet {F : Fmt w} (hw : 0 < w) (h : s.selects rows o r) (hb : s.src r o w (r.count o w) = .ok (b, l))
    (hq : s.quiet r o (s.fpFlags o (r.count o w) (s.fpCompared r o F b))) :
    ∃ t, (s.run rows o fun r => s.fpCompareVec r o F) = .next t ∧
      t.mxcsr = s.mxcsrAfter r o (s.fpFlags o (r.count o w) (s.fpCompared r o F b)) ∧
      if r.reg = .kreg then
        MaskWritten s t o o.reg (r.count o w) (fun j => (s.fpComparison r o F b j).1) ∧ KMxcsrOnly (s.marked l) t
      else
        VecWritten s t o o.reg (r.vl o) w (r.count o w) (fun j => boolMask w (s.fpComparison r o F b j).1) ∧
          ZmmMxcsrOnly (s.marked l) t := by
  have hbody := s.fpCompareVec_eq r o F
  by_cases hk : r.reg = .kreg
  · simp only [hk, beq_self_eq_true, if_true] at hbody ⊢
    exact putMask_mxcsr_result h (hbody.trans (loading_quiet hb hq h.1))
  · simp only [hk, beq_iff_eq, if_false] at hbody ⊢
    exact putElems_mxcsr_result hw (r.count_le o w) h
      (hbody.trans (loading_quiet hb hq ((State.putVec_event ..).trans h.1)))

theorem fpCompareVec_alarmed {F : Fmt w} (h : s.selects rows o r) (hb : s.src r o w (r.count o w) = .ok (b, l))
    (hq : s.alarmed r o (s.fpFlags o (r.count o w) (s.fpCompared r o F b))) :
    (s.run rows o fun r => s.fpCompareVec r o F) =
      .next (s.alarm (s.fpFlags o (r.count o w) (s.fpCompared r o F b))) :=
  loading_alarmed (f := fun b => s.fpFlags o (r.count o w) (s.fpCompared r o F b)) h hb (s.fpCompareVec_eq r o F) hq

theorem fpCompareScalar_quiet {F : Fmt w} (hw : w ≤ 128) (h : s.selects rows o r) (hb : s.src r o w 1 = .ok (b, l))
    (hq : s.quiet r o (s.fpFlags o 1 fun _ => s.fpCompared r o F b 0)) :
    ∃ t, (s.run rows o fun r => s.fpCompareScalar r o F) = .next t ∧
      t.mxcsr = s.mxcsrAfter r o (s.fpFlags o 1 fun _ => s.fpCompared r o F b 0) ∧
      if r.reg = .kreg then
        MaskWritten s t o o.reg 1 (fun _ => (s.fpComparison r o F b 0).1) ∧ KMxcsrOnly (s.marked l) t
      else
        ScalarWritten s t o o.reg w (s.src1 r o) (boolMask w (s.fpComparison r o F b 0).1) ∧
          ZmmMxcsrOnly (s.marked l) t := by
  have hbody := s.fpCompareScalar_eq r o F
  by_cases hk : r.reg = .kreg
  · simp only [hk, beq_self_eq_true, if_true] at hbody ⊢
    exact putMask_mxcsr_result h (hbody.trans (loading_quiet hb hq h.1))
  · simp only [hk, beq_iff_eq, if_false] at hbody ⊢
    exact putScalar_mxcsr_result hw h (hbody.trans (loading_quiet hb hq ((State.putVec_event ..).trans h.1)))

theorem fpCompareScalar_alarmed {F : Fmt w} (h : s.selects rows o r) (hb : s.src r o w 1 = .ok (b, l))
    (hq : s.alarmed r o (s.fpFlags o 1 fun _ => s.fpCompared r o F b 0)) :
    (s.run rows o fun r => s.fpCompareScalar r o F) =
      .next (s.alarm (s.fpFlags o 1 fun _ => s.fpCompared r o F b 0)) :=
  loading_alarmed (f := fun b => s.fpFlags o 1 fun _ => s.fpCompared r o F b 0) h hb (s.fpCompareScalar_eq r o F) hq

/-! ### Compares into EFLAGS -/

/-- The conditions a compare into EFLAGS reports: invalid for a signaling NaN, and for a quiet one unless `quiet` (R346). -/
def State.fpCompareConditions {w : Nat} (s : State) (r : Row) (o : Operands) (F : Fmt w) (quiet : Bool) (v : ZWord) :
    FpFlags :=
  let daz := (s.fpEnv r o).daz
  let a := elem w 0 (s.getZ o.reg)
  let b := elem w 0 v
  s.reported ((if F.isSNaN a || F.isSNaN b || (!quiet && (F.isNaN a || F.isNaN b)) then FpFlags.i else 0) |||
    F.den daz a ||| F.den daz b)

theorem State.fpCompareFlags_eq (s : State) (r : Row) (o : Operands) (F : Fmt w) (quiet : Bool) :
    s.fpCompareFlags r o F quiet = loading (s.src r o w 1) fun v =>
      s.fpRespond (r.rounding o) (s.fpCompareConditions r o F quiet v) fun t =>
        t.setFpCompare (F.compare (s.fpEnv r o).daz (elem w 0 (s.getZ o.reg)) (elem w 0 v)) := rfl

/-- One flag as a word. -/
theorem getLsbD_flag (p : Bool) (n : Nat) {i : Nat} (hi : i < 32) :
    (if p then 1#32 <<< n else 0).getLsbD i = (p && decide (i = n)) := by
  cases p
  · simp
  · have single := BitVec.getLsbD_twoPow (w := 32) n i
    rcases eq_or_ne i n with rfl | apart
    · exact single.trans (by simp [hi])
    · exact single.trans (by simp [apart, apart.symm])

/-- CF, PF, AF, ZF, SF and OF are the bits a compare writes (R23). -/
theorem compareFlags_mask : ∀ i < 32, (0x8D5#32).getLsbD i = decide (i ∈ [0, 2, 4, 6, 7, 11]) := by decide

theorem State.setCompareFlags_written (s : State) (zf pf cf : Bool) : EflagsSet s (s.setCompareFlags zf pf cf) zf pf cf := by
  intro i hi
  simp only [State.setCompareFlags, BitVec.getLsbD_or, BitVec.getLsbD_and, BitVec.getLsbD_not, compareFlags_mask i hi,
    getLsbD_flag _ _ hi, hi, decide_true, Bool.true_and]
  split_ifs <;> simp_all

theorem State.setFpCompare_eq (s : State) (c : Fmt.Cmp) :
    s.setFpCompare c = s.setCompareFlags (decide (c = .unordered ∨ c = .eq)) (decide (c = .unordered))
      (decide (c = .unordered ∨ c = .lt)) := by
  cases c <;> rfl

theorem fpCompareFlags_quiet {F : Fmt w} {quiet : Bool} (h : s.selects rows o r) (hb : s.src r o w 1 = .ok (b, l))
    (hq : s.quiet r o (s.fpCompareConditions r o F quiet b)) {c : Fmt.Cmp}
    (hc : F.compare (s.fpEnv r o).daz (elem w 0 (s.getZ o.reg)) (elem w 0 b) = c) :
    ∃ t, (s.run rows o fun r => s.fpCompareFlags r o F quiet) = .next t ∧
      EflagsSet s t (decide (c = .unordered ∨ c = .eq)) (decide (c = .unordered)) (decide (c = .unordered ∨ c = .lt)) ∧
      t.mxcsr = s.mxcsrAfter r o (s.fpCompareConditions r o F quiet b) ∧ EflagsMxcsrOnly (s.marked l) t := by
  have hbody := (s.fpCompareFlags_eq r o F quiet).trans
    (loading_quiet hb hq ((State.setFpCompare_event ..).trans h.1))
  rw [hc, State.setFpCompare_eq] at hbody
  obtain ⟨ends, frame⟩ := run_eflags_mxcsr (body := fun r => s.fpCompareFlags r o F quiet) h hbody rfl
  exact ⟨_, ends, State.setCompareFlags_written { s with mxcsr := _ } _ _ _, rfl, frame⟩

theorem fpCompareFlags_alarmed {F : Fmt w} {quiet : Bool} (h : s.selects rows o r) (hb : s.src r o w 1 = .ok (b, l))
    (hq : s.alarmed r o (s.fpCompareConditions r o F quiet b)) :
    (s.run rows o fun r => s.fpCompareFlags r o F quiet) = .next (s.alarm (s.fpCompareConditions r o F quiet b)) :=
  loading_alarmed (f := s.fpCompareConditions r o F quiet) h hb (s.fpCompareFlags_eq r o F quiet) hq

end

/-! ### O11, O24, O25 -/

/-- Settles O11: the element selected as number `k` is the one with `k` selected elements below it (`nthSet_popCount`). -/
theorem compressExpandResult : Obligations.CompressExpandResult := by
  refine ⟨fun e he o s r h => ⟨fun d hr => ?toRegister, fun m ps hr hp => ?toMemory⟩, fun e he o s r b l h hb => ?expand⟩
  case toRegister =>
    rw [compress_exec e he]
    exact compress_reg_result h hr
  case toMemory =>
    rw [compress_exec e he]
    exact compress_mem_result h hr hp
  case expand =>
    rw [expand_exec e he]
    exact expand_result (expand_widths e he) h hb

/-- Settles O24: the compares respond to the conditions of all elements, and write the vector or opmask register the row
names. -/
theorem fpCompareResult : Obligations.FpCompareResult := by
  refine ⟨?packed, ?scalar⟩ <;> intro e he o s r b l h hb p c f
  case packed =>
    rw [fpCompareVec_exec e he]
    have found : c = s.fpComparison r o e.F b := funext fun j => (s.fpComparison_eq r o e.F b j).symm
    have conditions : f = s.fpFlags o (r.count o e.w) (s.fpCompared r o e.F b) := by
      simp only [f, found]
      rfl
    rw [conditions, found]
    exact ⟨fpCompareVec_quiet (fpCompareVec_widths e he) h hb, fpCompareVec_alarmed h hb⟩
  case scalar =>
    rw [fpCompareScalar_exec e he]
    have found : c = s.fpComparison r o e.F b 0 := (s.fpComparison_eq r o e.F b 0).symm
    have conditions : f = s.fpFlags o 1 fun _ => s.fpCompared r o e.F b 0 := by
      simp only [f, found]
      rfl
    rw [conditions, found]
    exact ⟨fpCompareScalar_quiet (fpCompareScalar_widths e he) h hb, fpCompareScalar_alarmed h hb⟩

/-- Settles O25: the compares respond to the conditions of the low elements, and write EFLAGS by the relation. -/
theorem fpFlagsResult : Obligations.FpFlagsResult := by
  intro e he o s r v l h hb daz a b i f c
  rw [fpCompareFlags_exec e he]
  exact ⟨fun hq => fpCompareFlags_quiet h hb hq rfl, fpCompareFlags_alarmed h hb⟩

end Sys2Proof.Machine
end

section
/-! PROOFS. Conversions (statements O20, O21, O22, O28): each group runs one shape of conversion; what the shape loads, and what
it writes beside the conditions it reports. -/

namespace Sys2Proof.Machine

open Sys2Proof.Claims

section
variable {s : State} {rows : List Row} {o : Operands} {r : Row} {w : Nat} {b : ZWord} {l : List Word}
  {body : Row → Except Abort State} {c : BitVec 32}

/-! ### Conversions into vector registers -/

theorem State.fpWiden_ok {v : Nat} {op : FpEnv → BitVec v → FpRes w}
    (hb : s.src r o v (r.count o (max v w)) = .ok (b, l)) :
    s.fpWiden r o op =
      .ok ((s.putFp r o (r.count o (max v w)) fun j => op (s.fpEnv r o) (elem v j b)).noteRead l) := by
  unfold State.fpWiden
  exact State.loading_ok hb

theorem State.fpScalarFrom_ok {v : Nat} {op : FpEnv → BitVec v → FpRes w} (hb : s.src r o v 1 = .ok (b, l)) :
    s.fpScalarFrom r o op = .ok ((s.putFpScalar r o (s.src1 r o) (op (s.fpEnv r o) (elem v 0 b))).noteRead l) :=
  State.loading_ok hb

/-- The integer a conversion from a general register or memory reads: unsigned, or signed of 64 or 32 bits by W (R381). -/
def gprInteger (o : Operands) (signed : Bool) (v : Word) : Int :=
  if signed = false then v.toNat else if o.w then v.toInt else (v.setWidth 32).toInt

theorem State.cvtFromGpr_ok {F : Fmt w} {signed : Bool} {v : Word}
    (hv : s.srcGpr r o (if o.w then 8 else 4) = .ok (v, l)) :
    s.cvtFromGpr r o F signed =
      .ok ((s.putFpScalar r o (s.src1 r o) (F.ofInteger (s.fpEnv r o) (gprInteger o signed v))).noteRead l) := by
  refine (State.loading_ok hv).trans ?_
  cases signed <;> rfl

/-! ### Conversions into general registers -/

/-- A write of a general register beside one of MXCSR. -/
theorem putGpr_mxcsr_result {n : Nat} {d : Fin 32} {x : BitVec n} (h : s.selects rows o r)
    (hb : body r = .ok ((({ s with mxcsr := c } : State).putGpr d x).marked l)) :
    ∃ t, s.run rows o body = .next t ∧ GprWritten s t d (x.setWidth 64) ∧ t.mxcsr = c ∧ GprMxcsrOnly (s.marked l) t := by
  obtain ⟨ends, frame⟩ := run_gpr_mxcsr h hb rfl
  exact ⟨_, ends, ⟨State.getGpr_putGpr_same .., fun y hy => State.getGpr_putGpr_ne { s with mxcsr := c } _ _ _ hy⟩, rfl,
    frame⟩

/-- The integer for a general register and its conditions: 64 bits with W = 1, else 32 bits zero-extended (R378). -/
def State.toGpr {w : Nat} (s : State) (r : Row) (o : Operands) (F : Fmt w) (trunc signed : Bool) (b : ZWord) : FpRes 64 :=
  if o.w then F.toInteger (s.fpEnv r o) trunc signed 64 (elem w 0 b)
  else
    let narrow := F.toInteger (s.fpEnv r o) trunc signed 32 (elem w 0 b)
    ⟨narrow.val.setWidth 64, narrow.flags⟩

theorem State.toGpr_val (s : State) (r : Row) (o : Operands) (F : Fmt w) (trunc signed : Bool) (b : ZWord) :
    (s.toGpr r o F trunc signed b).val =
      if o.w then (F.toInteger (s.fpEnv r o) trunc signed 64 (elem w 0 b)).val
      else (F.toInteger (s.fpEnv r o) trunc signed 32 (elem w 0 b)).val.setWidth 64 := by
  unfold State.toGpr
  split <;> rfl

theorem State.toGpr_flags (s : State) (r : Row) (o : Operands) (F : Fmt w) (trunc signed : Bool) (b : ZWord) :
    (s.toGpr r o F trunc signed b).flags =
      if o.w then (F.toInteger (s.fpEnv r o) trunc signed 64 (elem w 0 b)).flags
      else (F.toInteger (s.fpEnv r o) trunc signed 32 (elem w 0 b)).flags := by
  unfold State.toGpr
  split <;> rfl

theorem State.cvtToGpr_eq (s : State) (r : Row) (o : Operands) (F : Fmt w) (trunc signed : Bool) :
    s.cvtToGpr r o F trunc signed = loading (s.src r o w 1) fun b =>
      s.fpRespond (r.rounding o) (s.reported (s.toGpr r o F trunc signed b).flags) fun t =>
        t.putGpr o.reg (s.toGpr r o F trunc signed b).val := rfl

theorem cvtToGpr_quiet {F : Fmt w} {trunc signed : Bool} (h : s.selects rows o r) (hb : s.src r o w 1 = .ok (b, l))
    (hq : s.quiet r o (s.reported (s.toGpr r o F trunc signed b).flags)) :
    ∃ t, (s.run rows o fun r => s.cvtToGpr r o F trunc signed) = .next t ∧
      GprWritten s t o.reg (s.toGpr r o F trunc signed b).val ∧
      t.mxcsr = s.mxcsrAfter r o (s.reported (s.toGpr r o F trunc signed b).flags) ∧ GprMxcsrOnly (s.marked l) t := by
  have result := putGpr_mxcsr_result (body := fun r => s.cvtToGpr r o F trunc signed) h
    ((s.cvtToGpr_eq r o F trunc signed).trans (loading_quiet hb hq h.1))
  rwa [BitVec.setWidth_eq] at result

theorem cvtToGpr_alarmed {F : Fmt w} {trunc signed : Bool} (h : s.selects rows o r) (hb : s.src r o w 1 = .ok (b, l))
    (hq : s.alarmed r o (s.reported (s.toGpr r o F trunc signed b).flags)) :
    (s.run rows o fun r => s.cvtToGpr r o F trunc signed) =
      .next (s.alarm (s.reported (s.toGpr r o F trunc signed b).flags)) :=
  loading_alarmed (f := fun b => s.reported (s.toGpr r o F trunc signed b).flags) h hb (s.cvtToGpr_eq r o F trunc signed) hq

/-! ### Conversions to half precision -/

/-- A memory operand leaves no room for embedded rounding (R125). -/
theorem Row.rounding_of_mem {m : MemOp} (hr : o.rm = .mem m) : r.rounding o = false := by
  simp [Row.rounding, Operands.isReg, hr]

/-- The half-precision element `j`, rounded by imm8 or MXCSR with FZ ignored (R370). -/
def State.halfElem (s : State) (r : Row) (o : Operands) (j : Nat) : FpRes 16 :=
  f32.convert f16 { s.fpEnv r o with rc := Fmt.immRc (s.fpEnv r o) o.imm, fz := false } true (elem 32 j (s.getZ o.reg))

/-- The conditions a conversion to half precision reports. -/
def State.halfFlags (s : State) (r : Row) (o : Operands) : FpFlags := s.fpFlags o (r.count o 32) (s.halfElem r o)

theorem State.cvtToHalf_reg {d : Fin 32} (hr : o.rm = .reg d) :
    s.cvtToHalf r o = .ok (s.fpRespond (r.rounding o) (s.halfFlags r o) fun t =>
      t.putElemsAt r o d 16 (r.count o 32) fun j => (s.halfElem r o j).val) := by
  unfold State.cvtToHalf
  rw [hr]
  rfl

theorem State.cvtToHalf_mem {m : MemOp} {ps : List (Nat × Nat)} (hr : o.rm = .mem m)
    (hp : s.checkMem .write m.seg (s.ea m) (elemOffs 16 (r.count o 32) (s.accessMask r o)) 1 (r.acArg (2 * r.count o 32)) =
      .ok ps) :
    s.cvtToHalf r o = .ok (s.fpRespond (r.rounding o) (s.halfFlags r o) fun t =>
      t.storeBytes false (pack 16 (r.count o 32) fun j => (s.halfElem r o j).val)
        (ps.filter fun p => (s.writemask o).getLsbD (p.1 / 2))) := by
  rw [Row.rounding_of_mem hr]
  unfold State.cvtToHalf
  simp only [hr, hp]
  rfl

/-- A body that responds to conditions of which one is unmasked takes the exception, whatever it would have written (R1551). -/
theorem run_alarmed {f : FpFlags} {commit : State → State} (h : s.selects rows o r)
    (hb : body r = .ok (s.fpRespond (r.rounding o) f commit)) (hq : s.alarmed r o f) :
    s.run rows o body = .next (s.alarm f) := by
  rw [State.fpRespond_alarmed hq] at hb
  exact State.run_trapped h hb rfl

/-- Half-precision elements are written to the lower half of the vector length. -/
theorem Row.half_count_le (r : Row) (o : Operands) : 16 * r.count o 32 ≤ r.vl o :=
  (Nat.mul_le_mul_right _ (by decide)).trans (r.count_le o 32)

theorem cvtToHalf_reg_quiet {d : Fin 32} (h : s.selects rows o r) (hr : o.rm = .reg d)
    (hq : s.quiet r o (s.halfFlags r o)) :
    ∃ t, (s.run rows o fun r => s.cvtToHalf r o) = .next t ∧
      VecWritten s t o d (r.vl o) 16 (r.count o 32) (fun j => (s.halfElem r o j).val) ∧
      t.mxcsr = s.mxcsrAfter r o (s.halfFlags r o) ∧ ZmmMxcsrOnly s t := by
  have written := State.cvtToHalf_reg (s := s) (r := r) hr
  rw [State.fpRespond_quiet hq] at written
  obtain ⟨ends, frame⟩ := run_zmm_mxcsr (body := fun r => s.cvtToHalf r o) (l := []) h written (State.putVec_eq_mxcsr ..)
  exact ⟨_, ends, State.putElemsAt_written { s with mxcsr := s.mxcsrAfter r o (s.halfFlags r o) } r o d 16 _ _ (by decide)
    (r.half_count_le o), State.putVec_mxcsr .., frame⟩

/-- A body that stores bytes beside a write of MXCSR completes; nothing else has changed. -/
theorem run_store_mxcsr {nt : Bool} {v : ZWord} {ps : List (Nat × Nat)} (h : s.selects rows o r)
    (hb : body r = .ok (({ s with mxcsr := c } : State).storeBytes nt v ps)) :
    ∃ t, s.run rows o body = .next t ∧ Stored s t nt v ps ∧ t.mxcsr = c ∧ MemMxcsrOnly s t := by
  have running : (({ s with mxcsr := c } : State).storeBytes nt v ps).event = none := by simp [h.1]
  refine ⟨_, State.run_ok h hb running, ⟨?_, ?_, ?_⟩, State.storeBytes_mxcsr .., ?_⟩
  · exact State.storeBytes_get { s with mxcsr := c } nt v ps
  · exact State.storeBytes_get_ne { s with mxcsr := c } nt v ps
  · exact State.storeBytes_ledger { s with mxcsr := c } nt v ps
  · unfold MemMxcsrOnly
    rw [State.storeBytes_npc, State.storeBytes_eq]

theorem cvtToHalf_mem_quiet {m : MemOp} {ps : List (Nat × Nat)} (h : s.selects rows o r) (hr : o.rm = .mem m)
    (hp : s.checkMem .write m.seg (s.ea m) (elemOffs 16 (r.count o 32) (s.accessMask r o)) 1 (r.acArg (2 * r.count o 32)) =
      .ok ps) (hq : s.halfFlags r o &&& s.unmasked = 0) :
    ∃ t, (s.run rows o fun r => s.cvtToHalf r o) = .next t ∧
      Stored s t false (pack 16 (r.count o 32) fun j => (s.halfElem r o j).val)
        (ps.filter fun p => (s.writemask o).getLsbD (p.1 / 2)) ∧
      t.mxcsr = s.mxcsr ||| (s.halfFlags r o).setWidth 32 ∧ MemMxcsrOnly s t := by
  have stored := State.cvtToHalf_mem hr hp
  rw [State.fpRespond_quiet (.inr hq), State.mxcsrAfter, Row.rounding_of_mem hr, if_neg Bool.false_ne_true] at stored
  exact run_store_mxcsr (body := fun r => s.cvtToHalf r o) h stored

end

/-! ### O20, O21, O22, O28 -/

/-- Settles O20: the table runs `State.fpWiden`, whose results are written (`putFp_quiet`) or raise the exception of their
conditions (`putFp_alarmed`). -/
theorem fpConvertResult : Obligations.FpConvertResult := by
  intro e he o s r b l h hb res f
  rw [fpConvert_exec e he]
  have body : s.fpWiden r o e.op = .ok ((s.putFp r o (r.count o (max e.v e.w)) res).noteRead l) := State.fpWiden_ok hb
  exact ⟨putFp_quiet (fpConvert_widths e he) (r.count_max_le o e.v e.w) h body, putFp_alarmed h body⟩

/-- Settles O21: both tables write one scalar beside the upper bits of the first source (`putFpScalar_quiet`), from another
format or from an integer. -/
theorem scalarConvertResult : Obligations.ScalarConvertResult := by
  refine ⟨?formats, ?integers⟩
  case formats =>
    intro e he o s r b l h hb res f
    rw [fpConvertScalar_exec e he]
    have body : s.fpScalarFrom r o e.op = .ok ((s.putFpScalar r o (s.src1 r o) res).noteRead l) := State.fpScalarFrom_ok hb
    exact ⟨putFpScalar_quiet (fpConvertScalar_widths e he) h body, putFpScalar_alarmed h body⟩
  case integers =>
    intro e he o s r v l h hv n res f
    rw [cvtFromGpr_exec e he]
    have body : s.cvtFromGpr r o e.F e.flag = .ok ((s.putFpScalar r o (s.src1 r o) res).noteRead l) :=
      State.cvtFromGpr_ok hv
    exact ⟨putFpScalar_quiet (cvtFromGpr_widths e he) h body, putFpScalar_alarmed h body⟩

/-- Settles O22: the table runs `State.cvtToGpr`, whose result and conditions are those of the wide or the narrow conversion
by W. -/
theorem toIntegerResult : Obligations.ToIntegerResult := by
  intro e he o s r b l h hb wide narrow f
  rw [cvtToGpr_exec e he]
  have value := s.toGpr_val r o e.F e.trunc e.signed b
  have conditions : f = s.reported (s.toGpr r o e.F e.trunc e.signed b).flags := by rw [State.toGpr_flags]
  rw [conditions, ← value]
  exact ⟨cvtToGpr_quiet h hb, cvtToGpr_alarmed h hb⟩

/-- Settles O28: the results go to a register under the writemask, or to memory, where no embedded rounding is possible. -/
theorem toHalfResult : Obligations.ToHalfResult := by
  intro e he o s r h env res f
  rw [cvtToHalf_exec e he]
  refine ⟨fun d hr => ?toRegister, fun m ps hr hp => ?toMemory⟩
  case toRegister =>
    exact ⟨cvtToHalf_reg_quiet h hr, run_alarmed (body := fun r => s.cvtToHalf r o) h (State.cvtToHalf_reg hr)⟩
  case toMemory =>
    exact ⟨cvtToHalf_mem_quiet h hr hp, fun raised =>
      run_alarmed (body := fun r => s.cvtToHalf r o) h (State.cvtToHalf_mem hr hp) ⟨Row.rounding_of_mem hr, raised⟩⟩

end Sys2Proof.Machine
end

section
/-! PROOFS. Single elements (statement O17) and fix-ups (statement O27): an element of one register extracted or replaced, and
results whose conditions set flags without raising anything. -/

namespace Sys2Proof.Machine

open Sys2Proof.Claims

/-! ### Elements of a vector -/

/-- A vector with element `i` replaced has the others as before. -/
theorem elem_setElem {w i j : Nat} (x : BitVec w) (v : ZWord) (hj : w * j + w ≤ 512) :
    elem w j (setElem w i x v) = if j = i then x else elem w j v := by
  apply BitVec.eq_of_getLsbD_eq
  intro k hk
  rw [getLsbD_elem, getLsbD_setElem _ _ _ _ _ (by omega), decide_eq_true hk, Bool.true_and]
  rcases lt_trichotomy j i with below | rfl | above
  · have apart : w * j + w ≤ w * i := Nat.mul_le_mul_left w below
    rw [if_neg (by omega), if_neg below.ne, getLsbD_elem, decide_eq_true hk, Bool.true_and]
  · rw [if_pos (by omega), if_pos rfl, Nat.add_sub_cancel_left]
  · have apart : w * i + w ≤ w * j := Nat.mul_le_mul_left w above
    rw [if_neg (by omega), if_neg above.ne', getLsbD_elem, decide_eq_true hk, Bool.true_and]

section
variable {s : State} {rows : List Row} {o : Operands} {r : Row} {w : Nat} {b : ZWord} {l : List Word}

/-- An element that lies in bits 127:0 is the one written there. -/
theorem XmmWritten.elem_eq {t : State} {d : Fin 32} {v : ZWord} {j : Nat} (h : XmmWritten s t o d v)
    (hj : w * j + w ≤ 128) : elem w j (t.getZ d) = elem w j v := by
  obtain ⟨low, -, -⟩ := h
  apply BitVec.eq_of_getLsbD_eq
  intro i hi
  rw [getLsbD_elem, getLsbD_elem, low _ (by omega)]

/-- A body that writes bits 127:0 of the destination from what it loads. -/
theorem loadedXmm_result {α : Type} {x : Except Abort (α × List Word)} {c : α} {f : α → ZWord}
    {body : Row → Except Abort State} (h : s.selects rows o r) (hx : x = .ok (c, l))
    (hbody : body r = loading x fun c => s.putXmm o (f c)) :
    ∃ t, s.run rows o body = .next t ∧ XmmWritten s t o o.reg (f c) ∧ ZmmOnly (s.marked l) t := by
  have running : (s.putXmm o (f c)).event = none := (State.putVec_event ..).trans h.1
  obtain ⟨ends, frame⟩ := run_zmm h (hbody.trans (loading_marked hx running)) (State.putVec_eq ..)
  exact ⟨_, ends, putVec_xmm_written s o o.reg (f c), frame⟩

/-! ### Elements extracted -/

/-- The element imm8 names, by the width of the elements (R693). -/
def immElem (w : Nat) (imm : BitVec 8) (v : ZWord) : BitVec w := elem w (imm.toNat % (128 / w)) v

/-- The write of a general register. -/
theorem putGpr_result {n : Nat} {d : Fin 32} {x : BitVec n} {body : Row → Except Abort State} (h : s.selects rows o r)
    (hb : body r = .ok (s.putGpr d x)) :
    ∃ t, s.run rows o body = .next t ∧ GprWritten s t d (x.setWidth 64) ∧ GprOnly s t := by
  obtain ⟨ends, frame⟩ := run_gpr (u := s.putGpr d x) (l := []) h hb rfl
  exact ⟨_, ends, ⟨State.getGpr_setGpr_same .., fun y hy => State.getGpr_setGpr_ne _ _ _ _ hy⟩, frame⟩

theorem State.extractElem_reg {d : Fin 32} (hr : o.rm = .reg d) :
    s.extractElem r o w = .ok (if r.memDst then s.putGpr d (immElem w o.imm (s.getZ o.reg))
      else s.putGpr o.reg (immElem w o.imm (s.getZ d))) := by
  unfold State.extractElem
  rw [hr]
  rfl

theorem State.extractElem_mem {m : MemOp} (hr : o.rm = .mem m) :
    s.extractElem r o w = s.writeMem false m.seg (s.ea m) (List.range (w / 8)) 1 (r.acArg (w / 8))
      ((immElem w o.imm (s.getZ o.reg)).setWidth 512) := by
  unfold State.extractElem
  rw [hr]
  rfl

/-- A row that writes its r/m operand extracts from ModRM.reg into it. -/
theorem extractElem_rm_result {d : Fin 32} (h : s.selects rows o r) (hd : r.memDst = true) (hr : o.rm = .reg d) :
    ∃ t, (s.run rows o fun r => s.extractElem r o w) = .next t ∧
      GprWritten s t d ((immElem w o.imm (s.getZ o.reg)).setWidth 64) ∧ GprOnly s t :=
  putGpr_result (body := fun r => s.extractElem r o w) h ((State.extractElem_reg hr).trans (by rw [if_pos hd]))

/-- The other rows extract from the r/m operand into ModRM.reg. -/
theorem extractElem_reg_result {x : Fin 32} (h : s.selects rows o r) (hd : r.memDst = false) (hr : o.rm = .reg x) :
    ∃ t, (s.run rows o fun r => s.extractElem r o w) = .next t ∧
      GprWritten s t o.reg ((immElem w o.imm (s.getZ x)).setWidth 64) ∧ GprOnly s t :=
  putGpr_result (body := fun r => s.extractElem r o w) h
    ((State.extractElem_reg hr).trans (by rw [hd, if_neg Bool.false_ne_true]))

/-! ### Elements inserted -/

theorem insertElem_result {v : Word} (h : s.selects rows o r) (hv : s.srcGpr r o (w / 8) = .ok (v, l)) :
    ∃ t, (s.run rows o fun r => s.insertElem r o w) = .next t ∧
      XmmWritten s t o o.reg (setElem w (o.imm.toNat % (128 / w)) (v.setWidth w) (s.src1 r o)) ∧ ZmmOnly (s.marked l) t :=
  loadedXmm_result (body := fun r => s.insertElem r o w)
    (f := fun v : Word => setElem w (o.imm.toNat % (128 / w)) (v.setWidth w) (s.src1 r o)) h hv rfl

/-- INSERTPS (R526): the selected element moved to its position, then the elements of imm8[3:0] zeroed. -/
theorem insertPs_result (h : s.selects rows o r) (hb : s.src r o 32 1 = .ok (b, l)) :
    ∃ t, (s.run rows o fun r => s.insertPs r o) = .next t ∧
      (∀ j < 4, elem 32 j (t.getZ o.reg) =
        if o.imm.getLsbD j then 0
        else if j = o.imm.toNat / 16 % 4 then elem 32 (if o.isReg then o.imm.toNat / 64 else 0) b
        else elem 32 j (s.src1 r o)) ∧
      (∀ i < 512, 128 ≤ i → (t.getZ o.reg).getLsbD i = (decide (o.space = .legacy) && (s.getZ o.reg).getLsbD i)) ∧
      (∀ x, x ≠ o.reg → t.getZ x = s.getZ x) ∧ ZmmOnly (s.marked l) t := by
  obtain ⟨t, ends, written, frame⟩ := loadedXmm_result (body := fun r => s.insertPs r o)
    (f := fun b => pack 32 4 fun j => if o.imm.getLsbD j then 0 else elem 32 j
      (setElem 32 (sel2 o.imm 2) (elem 32 (if o.isReg then o.imm.toNat / 64 else 0) b) (s.src1 r o))) h hb rfl
  have elems := fun j (hj : j < 4) => written.elem_eq (w := 32) (j := j) (by omega)
  obtain ⟨-, above, others⟩ := written
  refine ⟨t, ends, fun j hj => ?_, above, others, frame⟩
  rw [elems j hj, elem_pack 32 _ 4 j hj (by decide), elem_setElem _ _ (by omega)]
  rfl

/-! ### Fix-ups -/

/-- Conditions that are reported as if masked set their flags, unless SAE is in force (R426, R1560). -/
theorem State.setMxcsrFlags_unless_rounding (s : State) (r : Row) (o : Operands) (f : FpFlags) :
    (if r.rounding o then s else s.setMxcsrFlags f) = { s with mxcsr := s.mxcsrAfter r o f } := by
  unfold State.mxcsrAfter
  split <;> rfl

theorem fixupVec_result {F : Fmt w} (hw : 0 < w) (h : s.selects rows o r) (hb : s.src r o w (r.count o w) = .ok (b, l)) :
    ∃ t, (s.run rows o fun r => s.fixupVec r o F) = .next t ∧
      VecWritten s t o o.reg (r.vl o) w (r.count o w) (fun j => (s.fixupElem r o F b j).val) ∧
      t.mxcsr = s.mxcsrAfter r o
        (orFlags (fun j => if s.active o j then (s.fixupElem r o F b j).flags else 0) (r.count o w)) ∧
      ZmmMxcsrOnly (s.marked l) t := by
  have body := s.fixupVec_eq r o F
  simp only [State.setMxcsrFlags_unless_rounding] at body
  obtain ⟨t, ends, flags, written, frame⟩ := putElems_mxcsr_result (body := fun r => s.fixupVec r o F) hw (r.count_le o w) h
    (body.trans (loading_marked hb ((State.putVec_event ..).trans h.1)))
  exact ⟨t, ends, written, flags, frame⟩

theorem fixupScalar_result {F : Fmt w} (hw : w ≤ 128) (h : s.selects rows o r) (hb : s.src r o w 1 = .ok (b, l)) :
    ∃ t, (s.run rows o fun r => s.fixupScalar r o F) = .next t ∧
      ScalarWritten s t o o.reg w (s.getZ o.vvvv) (s.fixupElem r o F b 0).val ∧
      t.mxcsr = s.mxcsrAfter r o (if s.active o 0 then (s.fixupElem r o F b 0).flags else 0) ∧
      ZmmMxcsrOnly (s.marked l) t := by
  have body := s.fixupScalar_eq r o F
  simp only [State.setMxcsrFlags_unless_rounding] at body
  obtain ⟨t, ends, flags, written, frame⟩ := putScalar_mxcsr_result (body := fun r => s.fixupScalar r o F) hw h
    (body.trans (loading_marked hb ((State.putVec_event ..).trans h.1)))
  exact ⟨t, ends, written, flags, frame⟩

end

/-! ### O17, O27 -/

/-- Settles O17: the extracts write a general register or memory by the row's direction, the inserts bits 127:0 of the
destination, of which `insertPs_result` says the elements. -/
theorem elementResult : Obligations.ElementResult := by
  refine ⟨fun e he o s r h => ?extract, fun e he o s r v l h hv => ?insert, fun e he o s r b l h hb => ?insertPs⟩
  case extract =>
    rw [extractElem_exec e he]
    exact ⟨fun d hd hr => extractElem_rm_result h hd hr, fun x hd hr => extractElem_reg_result h hd hr,
      fun m ps hr hp => writeMem_result (body := fun r => s.extractElem r o e.w) h hp (State.extractElem_mem hr)⟩
  case insert =>
    rw [insertElem_exec e he]
    exact insertElem_result h hv
  case insertPs =>
    rw [insertPs_exec e he]
    exact insertPs_result h hb

/-- Settles O27: a fix-up writes its results whatever its conditions are, and their flags beside them. -/
theorem fixupResult : Obligations.FixupResult := by
  refine ⟨?packed, ?scalar⟩ <;> intro e he o s r b l h hb x
  case packed =>
    rw [fixupVec_exec e he]
    exact fixupVec_result (fixupVec_widths e he) h hb
  case scalar =>
    rw [fixupScalar_exec e he]
    exact fixupScalar_result (fixupScalar_widths e he) h hb

end Sys2Proof.Machine
end

section
/-! PROOFS. Fused multiply-add (statement O23): the two tables run the shapes `State.fmaVec` and `State.fmaScalar`, which load
the third operand and respond to the conditions of the results like the packed and scalar operations of two sources. -/

namespace Sys2Proof.Machine

open Sys2Proof.Claims

section
variable {s : State} {r : Row} {o : Operands} {w : Nat} {b : ZWord} {l : List Word}

/-- Element `j` of a fused multiply-add with `b` as third operand: the form orders the element operands (R430). -/
def State.fmaElem (s : State) (r : Row) (o : Operands) (F : Fmt w) (form : FmaForm) (negProd negAdd : Bool) (b : ZWord)
    (j : Nat) : FpRes w :=
  let x := form.pick (elem w j (s.getZ o.reg)) (elem w j (s.getZ o.vvvv)) (elem w j b)
  F.fma (s.fpEnv r o) negProd negAdd x.1 x.2.1 x.2.2

theorem State.fmaVec_ok {F : Fmt w} {form : FmaForm} {negProd : Bool} {negAdd : Nat → Bool}
    (hb : s.src r o w (r.count o w) = .ok (b, l)) :
    s.fmaVec r o F form negProd negAdd =
      .ok ((s.putFp r o (r.count o w) fun j => s.fmaElem r o F form negProd (negAdd j) b j).noteRead l) :=
  State.loading_ok hb

theorem State.fmaScalar_ok {F : Fmt w} {form : FmaForm} {negProd negAdd : Bool} (hb : s.src r o w 1 = .ok (b, l)) :
    s.fmaScalar r o F form negProd negAdd =
      .ok ((s.putFpScalar r o (s.getZ o.reg) (s.fmaElem r o F form negProd negAdd b 0)).noteRead l) :=
  State.loading_ok hb

end

/-- Settles O23: the packed forms write their results under the writemask (`putFp_quiet`), the scalar forms one result beside
the upper bits of the destination (`putFpScalar_quiet`); an unmasked condition takes its exception instead. -/
theorem fmaResult : Obligations.FmaResult := by
  refine ⟨?packed, ?scalar⟩
  case packed =>
    intro e he o s r b l h hb res f
    rw [fmaVec_exec e he]
    have body : s.fmaVec r o e.F e.form e.negProd e.negAdd = .ok ((s.putFp r o (r.count o e.w) res).noteRead l) :=
      State.fmaVec_ok hb
    exact ⟨putFp_quiet (fmaVec_widths e he) (r.count_le o e.w) h body, putFp_alarmed h body⟩
  case scalar =>
    intro e he o s r b l h hb x res f
    rw [fmaScalar_exec e he]
    have body : s.fmaScalar r o e.F e.form e.negProd (e.negAdd 0) =
        .ok ((s.putFpScalar r o (s.getZ o.reg) res).noteRead l) := State.fmaScalar_ok hb
    exact ⟨putFpScalar_quiet (fmaScalar_widths e he) h body, putFpScalar_alarmed h body⟩

end Sys2Proof.Machine
end

section
/-! PROOFS. Blocks of a vector (statement O10), classifications and scalar approximations (statement O26): the block extracted
fits the row that the checks select, and a result that reports no condition is written as it is loaded. -/

namespace Sys2Proof.Machine

open Sys2Proof.Claims

/-! ### Blocks -/

theorem Row.lenOk_of_accepts {r : Row} {o : Operands} (h : r.accepts o = true) : r.lenOk o = true := by
  simp only [Row.accepts, Bool.and_eq_true] at h
  obtain ⟨⟨⟨⟨-, len⟩, -⟩, -⟩, -⟩ := h
  exact len

/-- Fields that match a row of 512 bits have that length, by L'L or under static rounding (R124, R125). -/
theorem Row.vl_of_l512 {r : Row} {o : Operands} (h : r.len = .l512) (ho : r.lenOk o = true) : r.vl o = 512 := by
  simp only [Row.lenOk, h, Bool.or_eq_true, beq_iff_eq] at ho
  rcases ho with ll | rounding
  · simp [Row.vl, h, ll]
  · simp [Row.vl, h, rounding]

/-- A block of 128 bits fits every vector; the rows that extract one of 256 bits are of 512 bits. -/
theorem extractBlock_fits {e : Blockwise} (he : e ∈ extractBlockTable) {s : State} {o : Operands} {r : Row}
    (h : s.selects e.rows o r) : 0 < e.w ∧ e.w * (e.n / e.w) ≤ r.vl o := by
  obtain ⟨-, gate⟩ := h
  obtain ⟨mem, accepts⟩ := State.gate_mem gate
  rcases extractBlock_widths e he with ⟨pos, small⟩ | ⟨n256, block, pos⟩
  · exact ⟨pos, small.trans (r.le_vl o)⟩
  · have len : r.len = .l512 := (extractBlock_lens e he r mem).resolve_left (by omega)
    have vl := Row.vl_of_l512 len (Row.lenOk_of_accepts accepts)
    exact ⟨pos, by omega⟩

/-- Element `j` of the block of `bits` bits that imm8 names in the ModRM.reg vector (R421). -/
def State.blockElem (s : State) (r : Row) (o : Operands) (w bits j : Nat) : BitVec w :=
  elem w (o.imm.toNat % (r.vl o / bits) * (bits / w) + j) (s.getZ o.reg)

theorem State.extractBlock_eq (s : State) (r : Row) (o : Operands) (w bits : Nat) :
    s.extractBlock r o w bits = s.putRM r o false w (bits / w) (s.blockElem r o w bits) := rfl

section
variable {s : State} {rows : List Row} {o : Operands} {r : Row} {w bits : Nat} {b : ZWord} {l : List Word}

/-- An insert: the first source with the block that imm8 names replaced (R524). -/
theorem insertBlock_result (hw : 0 < w) (h : s.selects rows o r) (hb : s.src r o bits 1 = .ok (b, l)) :
    ∃ t, (s.run rows o fun r => s.insertBlock r o w bits) = .next t ∧
      VecWritten s t o o.reg (r.vl o) w (r.count o w)
        (replaceBlock w bits (o.imm.toNat % (r.vl o / bits)) (s.src1 r o) b) ∧ ZmmOnly (s.marked l) t :=
  loadedVec_result (f := replaceBlock w bits (o.imm.toNat % (r.vl o / bits)) (s.src1 r o)) hw (r.count_le o w) h hb rfl

/-- An extract into a register. -/
theorem extractBlock_reg_result {d : Fin 32} (hw : 0 < w) (hn : w * (bits / w) ≤ r.vl o) (h : s.selects rows o r)
    (hr : o.rm = .reg d) :
    ∃ t, (s.run rows o fun r => s.extractBlock r o w bits) = .next t ∧
      VecWritten s t o d (r.vl o) w (bits / w) (s.blockElem r o w bits) ∧ ZmmOnly s t :=
  putRM_reg (f := fun r => s.blockElem r o w bits) hw hn h hr (s.extractBlock_eq r o w bits)

/-- An extract into memory. -/
theorem extractBlock_mem_result {m : MemOp} {ps : List (Nat × Nat)} (h : s.selects rows o r) (hr : o.rm = .mem m)
    (hp : s.storeTargets r o m w (bits / w) = .ok ps) :
    ∃ t, (s.run rows o fun r => s.extractBlock r o w bits) = .next t ∧
      Stored s t false (pack w (bits / w) (s.blockElem r o w bits))
        (ps.filter fun p => (s.writemask o).getLsbD (p.1 / (w / 8))) ∧ MemOnly s t :=
  putRM_mem (f := fun r => s.blockElem r o w bits) h hr hp (s.extractBlock_eq r o w bits)

end

/-- Settles O10: an insert writes a vector made of what it loads, an extract writes a register, of which the block is never
longer than the vector, or memory. -/
theorem blockResult : Obligations.BlockResult := by
  refine ⟨fun e he o s r b l h hb => ?insert, fun e he o s r h => ?extract⟩
  case insert =>
    rw [insertBlock_exec e he]
    exact insertBlock_result (insertBlock_widths e he) h hb
  case extract =>
    obtain ⟨pos, fits⟩ := extractBlock_fits he h
    rw [extractBlock_exec e he]
    exact ⟨fun d hr => extractBlock_reg_result pos fits h hr, fun m ps hr hp => extractBlock_mem_result h hr hp⟩

/-! ### Results without conditions -/

section
variable {s : State} {rows : List Row} {o : Operands} {r : Row} {w : Nat} {b : ZWord} {l : List Word}
  {x : Except Abort (ZWord × List Word)} {body : Row → Except Abort State}

/-- A body that makes an opmask of what it loads. -/
theorem loadedMask_result {n : Nat} {f : ZWord → Nat → Bool} (h : s.selects rows o r) (hx : x = .ok (b, l))
    (hbody : body r = loading x fun b => s.putMask o n (f b)) :
    ∃ t, s.run rows o body = .next t ∧ MaskWritten s t o o.reg n (f b) ∧ KOnly (s.marked l) t := by
  have running : s.event = none := h.1
  obtain ⟨ends, frame⟩ := run_k h (hbody.trans (loading_marked hx running)) rfl
  exact ⟨_, ends, State.putMask_written s o n (f b), frame⟩

/-- A body that makes a masked scalar of what it loads, beside the bits of `upper`. -/
theorem loadedScalar_result {upper : ZWord} {f : ZWord → BitVec w} (hw : w ≤ 128) (h : s.selects rows o r)
    (hx : x = .ok (b, l)) (hbody : body r = loading x fun b => s.putScalar o w upper (f b)) :
    ∃ t, s.run rows o body = .next t ∧ ScalarWritten s t o o.reg w upper (f b) ∧ ZmmOnly (s.marked l) t := by
  obtain ⟨ends, frame⟩ := loaded_zmm h hx hbody (State.putVec_eq ..)
  exact ⟨_, ends, State.putScalar_written s o w upper (f b) hw, frame⟩

end

/-- Settles O26: the classifications run `State.fpClass`, which writes an opmask register alone; the approximations run
`State.approxScalar`, which writes a vector register alone. The approximation itself is the table's function of the source
(notes/assumptions/13.md, and 26.md where the reciprocal underflows). -/
theorem noReportResult : Obligations.NoReportResult := by
  refine ⟨?classes, ?approximations⟩
  case classes =>
    intro e he o s r b l h n hb
    rw [fpClass_exec e he]
    exact loadedMask_result (body := fun r => s.fpClass r o e.F (if e.flag then 1 else r.count o e.w))
      (f := fun b j => e.F.classify (s.fpEnv r o).daz o.imm (elem e.w j b)) h hb rfl
  case approximations =>
    intro e he o s r b l h hb
    rw [approxScalar_exec e he]
    exact loadedScalar_result (body := fun r => s.approxScalar r o e.f) (f := fun b => e.f (s.fpEnv r o) (elem e.w 0 b))
      (approxScalar_widths e he) h hb rfl

end Sys2Proof.Machine
end

section
/-! PROOFS. Gathers (statement O32): what a gather has done after some of its elements, and that no row accepts a gather whose
index register is its destination. -/

namespace Sys2Proof.Machine

open Sys2Proof.Claims

/-! ### Registers of a gather -/

@[simp] theorem State.get_setMask_same (s : State) (a : Fin 8) (v : KWord) : (s.setMask a v).k.get a = v :=
  Vector.getElem_set_self _

theorem State.get_setMask_ne (s : State) (a : Fin 8) (v : KWord) {y : Fin 8} (h : y ≠ a) :
    (s.setMask a v).k.get y = s.k.get y :=
  Vector.getElem_set_ne a.isLt y.isLt fun e => h (Fin.ext e.symm)

theorem State.get_clearMaskBit_ne (s : State) (a : Fin 8) (j : Nat) {y : Fin 8} (h : y ≠ a) :
    (s.clearMaskBit a j).k.get y = s.k.get y :=
  Vector.getElem_set_ne a.isLt y.isLt fun e => h (Fin.ext e.symm)

theorem elem_lowBits {w j n : Nat} (v : ZWord) (h : w * j + w ≤ n) : elem w j (lowBits n v) = elem w j v := by
  apply BitVec.eq_of_getLsbD_eq
  intro i hi
  have inside : w * j + i < n := by omega
  rw [getLsbD_elem, getLsbD_elem, getLsbD_lowBits, decide_eq_true inside, Bool.true_and]

/-- The addresses of one element more. -/
theorem State.elemsReads_succ (s : State) (m : MemOp) (i w n : Nat) (on : Nat → Bool) :
    s.elemsReads m i w (n + 1) on = s.elemsReads m i w n on ++ if on n then s.elemReads m i w n else [] := by
  simp only [State.elemsReads, List.range_succ, List.filter_append, List.flatMap_append]
  cases set : on n <;> simp [set]

/-! ### The loop over the elements -/

section
variable {s0 : State} {k : KWord} {act : State → Nat → Except Abort State}

theorem gatherStep_off {p : Progress} {j : Nat} (h : k.getLsbD j = false) : gatherStep s0 k act p j = p := by
  simp [gatherStep, h]

theorem gatherStep_done {p : Progress} {j : Nat} {u : State} (h : k.getLsbD j = true) (hf : p.fault = none)
    (hu : act p.state j = .ok u) : gatherStep s0 k act p j = { p with state := u, done := true } := by
  simp [gatherStep, h, hf, hu]

theorem gatherLoop_succ (n : Nat) : gatherLoop s0 k act (n + 1) = gatherStep s0 k act (gatherLoop s0 k act n) n := by
  simp only [gatherLoop, List.range_succ, List.foldl_append, List.foldl_cons, List.foldl_nil]

/-- A loop whose selected elements all succeed ends without a fault. What holds of the start and no element, and is carried on
by each further element, selected or not, holds of its end. -/
theorem gatherLoop_induction {P : Nat → State → Prop} (n : Nat) (h0 : P 0 s0)
    (off : ∀ j < n, k.getLsbD j = false → ∀ t, P j t → P (j + 1) t)
    (on : ∀ j < n, k.getLsbD j = true → ∀ t, P j t → ∃ u, act t j = .ok u ∧ P (j + 1) u) :
    (gatherLoop s0 k act n).fault = none ∧ P n (gatherLoop s0 k act n).state := by
  induction n with
  | zero => exact ⟨rfl, h0⟩
  | succ n ih =>
    obtain ⟨fault, holds⟩ := ih (fun j hj => off j (Nat.lt_succ_of_lt hj)) fun j hj => on j (Nat.lt_succ_of_lt hj)
    rw [gatherLoop_succ]
    cases set : k.getLsbD n with
    | false =>
      rw [gatherStep_off set]
      exact ⟨fault, off n (Nat.lt_succ_self n) set _ holds⟩
    | true =>
      obtain ⟨u, hu, next⟩ := on n (Nat.lt_succ_self n) set _ holds
      rw [gatherStep_done set fault hu]
      exact ⟨fault, next⟩

end

/-! ### What a gather has done -/

/-- A gather from `s` of elements of `d` bits, `x j` being the value at the address of element `j`, has come to `t` with its first
`n` elements done: the selected ones are loaded and their translations marked, only registers differ (R505, R108). -/
structure Gathered (s : State) (o : Operands) (m : MemOp) (d i : Nat) (x : Nat → ZWord) (n : Nat) (t : State) : Prop where
  elems : ∀ j, d * j + d ≤ 512 → elem d j (t.getZ o.reg) =
    if j < n ∧ (s.k.get o.aaa).getLsbD j = true then elem d 0 (x j) else elem d j (s.getZ o.reg)
  others : ∀ y, y ≠ o.reg → t.getZ y = s.getZ y
  masks : ∀ y, y ≠ o.aaa → t.k.get y = s.k.get y
  frame : t = { s.marked (s.elemsReads m i d n fun j => (s.k.get o.aaa).getLsbD j) with zmm := t.zmm, k := t.k }

/-- What a gather does for element `j`: load it from its own address and clear its mask bit (R505). -/
def State.gatherElem (s : State) (o : Operands) (m : MemOp) (d i : Nat) (t : State) (j : Nat) : Except Abort State :=
  loading (t.readMem m.seg (s.vsibAddr m i j) (List.range (d / 8)) 1 0) fun v =>
    (t.setZ o.reg (setElem d j (elem d 0 v) (t.getZ o.reg))).clearMaskBit o.aaa j

/-- The end of a gather without a fault: the destination zero from `bits` on, the mask cleared (R505). -/
def State.gatherEnd (t : State) (o : Operands) (bits : Nat) : State :=
  (t.setZ o.reg (lowBits bits (t.getZ o.reg))).setMask o.aaa 0

section
variable {s t : State} {rows : List Row} {o : Operands} {r : Row} {m : MemOp} {d i n : Nat} {x : Nat → ZWord}

theorem State.gather_ok (hr : o.rm = .mem m)
    (hf : (gatherLoop s (s.k.get o.aaa) (s.gatherElem o m d i) (r.vl o / max d i)).fault = none) :
    s.gather r o d i = .ok ((gatherLoop s (s.k.get o.aaa) (s.gatherElem o m d i) (r.vl o / max d i)).state.gatherEnd o
      (r.vl o / max d i * d)) := by
  unfold State.gatherElem at hf
  simp only [State.gather, hr, hf]
  rfl

theorem Gathered.start : Gathered s o m d i x 0 s where
  elems j _ := by rw [if_neg fun h => Nat.not_lt_zero j h.1]
  others _ _ := rfl
  masks _ _ := rfl
  frame := rfl

/-- An element whose mask bit is clear is passed over. -/
theorem Gathered.skip (h : Gathered s o m d i x n t) (hk : (s.k.get o.aaa).getLsbD n = false) :
    Gathered s o m d i x (n + 1) t where
  elems j hj := by
    have same : (j < n + 1 ∧ (s.k.get o.aaa).getLsbD j = true) ↔ (j < n ∧ (s.k.get o.aaa).getLsbD j = true) := by
      rcases eq_or_ne j n with rfl | apart
      · simp [hk]
      · exact and_congr_left' (by omega)
    rw [h.elems j hj]
    exact if_congr same.symm rfl rfl
  others := h.others
  masks := h.masks
  frame := by
    rw [State.elemsReads_succ, hk, if_neg Bool.false_ne_true, List.append_nil]
    exact h.frame

/-- The elements done change nothing that the load of another depends on: of translation they mark accessed flags alone. -/
theorem Gathered.readMem (h : Gathered s o m d i x n t) (g : SegReg) (ea : Word) (offs : List Nat) (al ac : Nat) :
    t.readMem g ea offs al ac = s.readMem g ea offs al ac := by
  rw [h.frame]
  exact State.readMem_congr g ea offs al ac rfl rfl ⟨_, rfl⟩ rfl rfl rfl rfl rfl

/-- A selected element that can be read is loaded. -/
theorem Gathered.load (h : Gathered s o m d i x n t) (he : s.event = none) (hn : d * n + d ≤ 512)
    (hk : (s.k.get o.aaa).getLsbD n = true)
    (hx : s.readMem m.seg (s.vsibAddr m i n) (List.range (d / 8)) 1 0 = .ok (x n, s.elemReads m i d n)) :
    ∃ u, s.gatherElem o m d i t n = .ok u ∧ Gathered s o m d i x (n + 1) u := by
  have running : t.event = none := (congrArg State.event h.frame).trans he
  refine ⟨_, loading_marked ((h.readMem ..).trans hx) running, ?elems, ?others, ?masks, ?frame⟩
  case elems =>
    intro j hj
    refine (congrArg (elem d j) (State.getZ_setZ_same ..)).trans ?_
    rw [elem_setElem _ _ hj]
    rcases eq_or_ne j n with rfl | apart
    · rw [if_pos rfl, if_pos ⟨Nat.lt_succ_self j, hk⟩]
    · rw [if_neg apart, h.elems j hj]
      exact if_congr (and_congr_left' (by omega)) rfl rfl
  case others => exact fun y hy => (State.getZ_setZ_ne _ _ _ _ hy).trans (h.others y hy)
  case masks => exact fun y hy => (State.get_clearMaskBit_ne _ _ _ hy).trans (h.masks y hy)
  case frame =>
    rw [State.elemsReads_succ, hk, if_pos rfl, ← State.marked_marked, h.frame]
    rfl

/-- The end of a gather changes no more than its elements do. -/
theorem Gathered.ended (h : Gathered s o m d i x n t) {bits : Nat} : t.gatherEnd o bits =
    { s.marked (s.elemsReads m i d n fun j => (s.k.get o.aaa).getLsbD j) with
      zmm := (t.gatherEnd o bits).zmm, k := (t.gatherEnd o bits).k } := by
  rw [h.frame]
  rfl

/-- The elements of a gather lie within the vector. -/
theorem gather_fits (r : Row) (o : Operands) (d i : Nat) : d * (r.vl o / max d i) ≤ 512 := by
  rw [Nat.max_comm]
  exact (r.count_max_le o i d).trans (r.vl_le o)

/-- A gather whose selected elements can all be read does all of them and ends. -/
theorem gather_completes (he : s.event = none) (hr : o.rm = .mem m)
    (hx : ∀ j < r.vl o / max d i, (s.k.get o.aaa).getLsbD j = true →
      s.readMem m.seg (s.vsibAddr m i j) (List.range (d / 8)) 1 0 = .ok (x j, s.elemReads m i d j)) :
    ∃ u, s.gather r o d i = .ok (u.gatherEnd o (r.vl o / max d i * d)) ∧ Gathered s o m d i x (r.vl o / max d i) u := by
  have fits : ∀ j < r.vl o / max d i, d * j + d ≤ 512 := fun j hj =>
    (Nat.mul_le_mul_left d hj).trans (gather_fits r o d i)
  obtain ⟨fault, gathered⟩ := gatherLoop_induction (P := Gathered s o m d i x) (act := s.gatherElem o m d i)
    (r.vl o / max d i) .start (fun j _ hk t ht => ht.skip hk) fun j hj hk t ht => ht.load he (fits j hj) hk (hx j hj hk)
  exact ⟨_, State.gather_ok hr fault, gathered⟩

/-- A body that changes only vector and opmask registers, and marks the addresses it read, completes, and nothing else has
changed. -/
theorem run_zmm_k {u : State} {body : Row → Except Abort State} {l : List Word} (h : s.selects rows o r) (hb : body r = .ok u)
    (hu : u = { s.marked l with zmm := u.zmm, k := u.k }) :
    s.run rows o body = .next { u with pc := s.npc } ∧ ZmmKOnly (s.marked l) { u with pc := s.npc } := by
  have running : s.event = none := h.1
  refine ⟨run_at h hb ((congrArg State.event hu).trans running) (by rw [hu]; rfl), ?bytes, ?frame⟩
  case bytes => exact fun a => congrArg (Memory.get · a) ((congrArg State.mem hu).trans rfl)
  case frame =>
    rw [hu]
    rfl

/-- The next state of such a gather. -/
theorem gather_result (h : s.selects rows o r) (hr : o.rm = .mem m)
    (hx : ∀ j < r.vl o / max d i, (s.k.get o.aaa).getLsbD j = true →
      s.readMem m.seg (s.vsibAddr m i j) (List.range (d / 8)) 1 0 = .ok (x j, s.elemReads m i d j)) :
    ∃ t, (s.run rows o fun r => s.gather r o d i) = .next t ∧
      (∀ j < r.vl o / max d i, elem d j (t.getZ o.reg) =
        if (s.k.get o.aaa).getLsbD j then elem d 0 (x j) else elem d j (s.getZ o.reg)) ∧
      (∀ b < 512, d * (r.vl o / max d i) ≤ b → (t.getZ o.reg).getLsbD b = false) ∧
      (∀ y, y ≠ o.reg → t.getZ y = s.getZ y) ∧
      t.k.get o.aaa = 0 ∧ (∀ y, y ≠ o.aaa → t.k.get y = s.k.get y) ∧
      ZmmKOnly (s.marked (s.elemsReads m i d (r.vl o / max d i) fun j => (s.k.get o.aaa).getLsbD j)) t := by
  have running : s.event = none := h.1
  obtain ⟨u, ends, gathered⟩ := gather_completes running hr hx
  have final : (u.gatherEnd o (r.vl o / max d i * d)).getZ o.reg = lowBits (r.vl o / max d i * d) (u.getZ o.reg) :=
    State.getZ_setZ_same ..
  obtain ⟨ends, only⟩ := run_zmm_k (body := fun r => s.gather r o d i) h ends gathered.ended
  refine ⟨_, ends, fun j hj => ?elems, fun b _ hb => ?above,
    fun y hy => (State.getZ_setZ_ne _ _ _ _ hy).trans (gathered.others y hy), State.get_setMask_same ..,
    fun y hy => (State.get_setMask_ne _ _ _ hy).trans (gathered.masks y hy), only⟩
  case elems =>
    have inside : d * j + d ≤ d * (r.vl o / max d i) := Nat.mul_le_mul_left d hj
    refine (congrArg (elem d j) final).trans ?_
    rw [elem_lowBits _ (inside.trans_eq (Nat.mul_comm ..)), gathered.elems j (inside.trans (gather_fits r o d i))]
    exact if_congr (and_iff_right hj) rfl rfl
  case above =>
    refine (congrArg (BitVec.getLsbD · b) final).trans ?_
    rw [getLsbD_lowBits, Nat.mul_comm, decide_eq_false (Nat.not_lt.2 hb), Bool.false_and]

end

/-! ### O32 -/

/-- The rows of gathers write a vector register from a vector of addresses. -/
theorem gather_rows : ∀ e ∈ gatherTable, ∀ r ∈ e.rows, r.vsib = true ∧ r.reg = .vec ∧ r.memDst = false := by
  unfold gatherTable
  repeat' (refine List.forall_mem_cons.2 ⟨by decide, ?_⟩)
  exact fun _ h => nomatch h

/-- Such a row does not accept its destination as index register (R1530). -/
theorem Row.accepts_index_reg {r : Row} {o : Operands} {m : MemOp} (hv : r.vsib = true ∧ r.reg = .vec ∧ r.memDst = false)
    (hr : o.rm = .mem m) (hi : m.index = some o.reg) : r.accepts o = false := by
  obtain ⟨vsib, reg, load⟩ := hv
  have clash : r.vsibOk o = false := by simp [Row.vsibOk, hr, vsib, reg, load, hi]
  simp [Row.accepts, clash]

/-- Settles O32: a gather none of whose elements faults is `gather_result`; one whose index register is its destination matches
no row, and is #UD. -/
theorem gatherResult : Obligations.GatherResult := by
  refine ⟨?completes, ?overlaps⟩
  case completes =>
    intro e he o s r m x h hr n hx
    rw [gather_exec e he]
    exact gather_result h hr hx
  case overlaps =>
    intro e he o s m hr hi
    rw [gather_exec e he]
    exact State.run_gate_error (State.gate_none fun r hm => Row.accepts_index_reg (gather_rows e he r hm) hr hi)

end Sys2Proof.Machine
end

section
/-! PROOFS. Moves (statements O9, O14, O15, O16): the row's direction and the kind of its r/m operand choose between a load, a
store and a write of a register, and each group of moves does one of them on the selected row. -/

namespace Sys2Proof.Machine

open Sys2Proof.Claims

section
variable {s : State} {rows : List Row} {o : Operands} {r : Row} {w : Nat} {d : Fin 32} {m : MemOp} {ps : List (Nat × Nat)}

/-! ### Registers written without a load -/

/-- A body that writes bits 127:0 of a vector register. -/
theorem putVec_xmm_result {v : ZWord} {body : Row → Except Abort State} (h : s.selects rows o r)
    (hb : body r = .ok (s.putVec o.space d 128 v)) :
    ∃ t, s.run rows o body = .next t ∧ XmmWritten s t o d v ∧ ZmmOnly s t := by
  obtain ⟨ends, frame⟩ := run_zmm (l := []) h hb (State.putVec_eq ..)
  exact ⟨_, ends, putVec_xmm_written s o d v, frame⟩

/-- Register `d` with `x` under the writemask in element 0, beside the bits of `upper` up to bit 127. -/
def State.putScalarAt (s : State) (o : Operands) (d : Fin 32) (w : Nat) (upper : ZWord) (x : BitVec w) : State :=
  s.putVec o.space d 128 (setElem w 0 (mergeElem (s.writemask o) o.z 0 x (elem w 0 (s.getZ d))) upper)

/-- A body that writes element 0 of a vector register under the writemask. -/
theorem putScalarAt_result {upper : ZWord} {x : BitVec w} {body : Row → Except Abort State} (hw : w ≤ 128)
    (h : s.selects rows o r) (hb : body r = .ok (s.putScalarAt o d w upper x)) :
    ∃ t, s.run rows o body = .next t ∧ ScalarWritten s t o d w upper x ∧ ZmmOnly s t := by
  obtain ⟨ends, frame⟩ := run_zmm (l := []) h hb (State.putVec_eq ..)
  exact ⟨_, ends, putVec_scalar_written s o d w upper x hw, frame⟩

/-! ### Whole registers: a load (the store is `moveFull_store`) -/

theorem State.moveFull_load (hd : r.memDst = false) (nt : Bool) :
    s.moveFull r o nt w =
      loading (s.src r o w (r.count o w)) fun b => s.putElems r o w (r.count o w) fun j => elem w j b := by
  unfold State.moveFull
  rw [hd]
  rfl

/-! ### MOVD and MOVQ -/

theorem State.moveLow_toGpr (hd : r.memDst = true) (hg : r.rm = .gpr) (hr : o.rm = .reg d) :
    s.moveLow r o w = .ok (s.putGpr d (elem w 0 (s.getZ o.reg))) := by
  unfold State.moveLow
  rw [hd, hg, hr]
  rfl

theorem State.moveLow_toXmm (hd : r.memDst = true) (hg : r.rm ≠ .gpr) (hr : o.rm = .reg d) :
    s.moveLow r o w = .ok (s.putVec o.space d 128 ((elem w 0 (s.getZ o.reg)).setWidth 512)) := by
  unfold State.moveLow
  rw [hd, beq_false_of_ne hg, hr]
  rfl

theorem State.moveLow_store (hd : r.memDst = true) (hr : o.rm = .mem m) :
    s.moveLow r o w = s.writeMem false m.seg (s.ea m) (List.range (w / 8)) 1 (r.acArg (w / 8))
      ((elem w 0 (s.getZ o.reg)).setWidth 512) := by
  unfold State.moveLow
  rw [hd, hr]
  rfl

theorem State.moveLow_fromGpr (hd : r.memDst = false) (hg : r.rm = .gpr) :
    s.moveLow r o w = loading (s.srcGpr r o (w / 8)) fun v => s.putXmm o ((v.setWidth w).setWidth 512) := by
  unfold State.moveLow
  rw [hd, hg]
  rfl

theorem State.moveLow_load (hd : r.memDst = false) (hg : r.rm ≠ .gpr) :
    s.moveLow r o w = loading (s.src r o w 1) fun v => s.putXmm o ((elem w 0 v).setWidth 512) := by
  unfold State.moveLow
  rw [hd, beq_false_of_ne hg]
  rfl

/-! ### One half of a register -/

theorem State.moveHalf_load (hd : r.memDst = false) (high : Bool) :
    s.moveHalf r o high = loading (s.src r o 64 1) fun b =>
      s.putXmm o (setElem 64 (if high then 1 else 0) (elem 64 0 b) (s.src1 r o)) := by
  unfold State.moveHalf
  rw [hd]
  rfl

theorem State.moveHalf_store (hd : r.memDst = true) (hr : o.rm = .mem m) (high : Bool) :
    s.moveHalf r o high = s.writeMem false m.seg (s.ea m) (List.range 8) 1 (r.acArg 8)
      ((elem 64 (if high then 1 else 0) (s.getZ o.reg)).setWidth 512) := by
  unfold State.moveHalf
  rw [hd, hr]
  rfl

/-! ### MOVSS and MOVSD: a load and the two directions between registers (the store is `moveScalar_store`) -/

theorem State.moveScalar_load (hr : o.rm = .mem m) (hd : r.memDst = false) :
    s.moveScalar r o w = loading (s.src r o w 1) fun b => s.putScalar o w 0 (elem w 0 b) := by
  unfold State.moveScalar
  rw [hr, hd]
  rfl

/-- Opcode 11H writes the r/m operand. -/
theorem State.moveScalar_toRm (hr : o.rm = .reg d) (hop : o.opcode = 0x11) :
    s.moveScalar r o w =
      .ok (s.putScalarAt o d w (if r.vv = .vec then s.getZ o.vvvv else s.getZ d) (elem w 0 (s.getZ o.reg))) := by
  simp only [State.moveScalar, hr, hop, if_true, beq_iff_eq, State.putScalarAt]

theorem State.moveScalar_toReg (hr : o.rm = .reg d) (hop : o.opcode ≠ 0x11) :
    s.moveScalar r o w = .ok (s.putScalarAt o o.reg w (s.src1 r o) (elem w 0 (s.getZ d))) := by
  simp only [State.moveScalar, hr, hop, if_false, State.putScalar, State.putScalarAt]

/-- A scalar store: the bytes of the element, if the writemask selects it (R84). -/
theorem moveScalar_store_result (h : s.selects rows o r) (hr : o.rm = .mem m) (hd : r.memDst = true)
    (hp : s.storeTargets r o m w 1 = .ok ps) :
    ∃ t, (s.run rows o fun r => s.moveScalar r o w) = .next t ∧
      Stored s t false ((elem w 0 (s.getZ o.reg)).setWidth 512)
        (ps.filter fun p => (s.writemask o).getLsbD (p.1 / (w / 8))) ∧ MemOnly s t := by
  rw [← pack_one fun _ => elem w 0 (s.getZ o.reg)]
  exact putRM_mem (body := fun r => s.moveScalar r o w) (f := fun _ _ => elem w 0 (s.getZ o.reg)) h hr hp
    (moveScalar_store hr hd w)

end

/-! ### O9, O14, O15, O16 -/

/-- Settles O9: a row that writes ModRM.reg loads under the writemask, one that writes the r/m operand copies into a register or
stores, in each case the elements of the source. -/
theorem moveFullResult : Obligations.MoveFullResult := by
  intro e he o s r h
  rw [moveFull_exec e he]
  have pos := moveFull_widths e he
  refine ⟨fun b l hd hb => ?load, fun d hd hr => ?copy, fun m ps hd hr hp => ?store⟩
  case load =>
    exact loadedVec_result (body := fun r => s.moveFull r o e.nt e.w) (f := fun b j => elem e.w j b) pos (r.count_le o e.w) h
      hb (State.moveFull_load hd e.nt)
  case copy =>
    exact putRM_reg (body := fun r => s.moveFull r o e.nt e.w) (f := fun _ j => elem e.w j (s.getZ o.reg)) pos
      (r.count_le o e.w) h hr (moveFull_store hd e.nt e.w)
  case store =>
    exact putRM_mem (body := fun r => s.moveFull r o e.nt e.w) (f := fun _ j => elem e.w j (s.getZ o.reg)) h hr hp
      (moveFull_store hd e.nt e.w)

/-- Settles O14: by the direction of the row and the kind of its r/m operand the low element goes to a general register, a vector
register or memory, or comes from one of them. -/
theorem moveLowResult : Obligations.MoveLowResult := by
  intro e he o s r h
  rw [moveLow_exec e he]
  refine ⟨fun d hd hg hr => ?toGpr, fun d hd hg hr => ?toXmm, fun m ps hd hr hp => ?store, fun v l hd hg hv => ?fromGpr,
    fun b l hd hg hb => ?load⟩
  case toGpr => exact putGpr_result (body := fun r => s.moveLow r o e.w) h (State.moveLow_toGpr hd hg hr)
  case toXmm => exact putVec_xmm_result (body := fun r => s.moveLow r o e.w) h (State.moveLow_toXmm hd hg hr)
  case store => exact writeMem_result (body := fun r => s.moveLow r o e.w) h hp (State.moveLow_store hd hr)
  case fromGpr =>
    exact loadedXmm_result (body := fun r => s.moveLow r o e.w) (f := fun v : Word => (v.setWidth e.w).setWidth 512) h hv
      (State.moveLow_fromGpr hd hg)
  case load =>
    exact loadedXmm_result (body := fun r => s.moveLow r o e.w) (f := fun b : ZWord => (elem e.w 0 b).setWidth 512) h hb
      (State.moveLow_load hd hg)

/-- Settles O15: a load replaces one half of the first source, a store writes the eight bytes of one half. -/
theorem moveHalfResult : Obligations.MoveHalfResult := by
  intro e he o s r h
  rw [moveHalf_exec e he]
  refine ⟨fun b l hd hb => ?load, fun m ps hd hr hp => ?store⟩
  case load =>
    exact loadedXmm_result (body := fun r => s.moveHalf r o e.high)
      (f := fun b : ZWord => setElem 64 (if e.high then 1 else 0) (elem 64 0 b) (s.src1 r o)) h hb
      (State.moveHalf_load hd e.high)
  case store => exact writeMem_result (body := fun r => s.moveHalf r o e.high) h hp (State.moveHalf_store hd hr e.high)

/-- Settles O16: from and to memory by the direction of the row, between registers by the opcode. -/
theorem moveScalarResult : Obligations.MoveScalarResult := by
  intro e he o s r h
  rw [moveScalar_exec e he]
  obtain ⟨-, narrow⟩ := moveScalar_widths e he
  refine ⟨fun m b l hr hd hb => ?load, fun m ps hr hd hp => ?store, fun d hr hop => ?toRm, fun d hr hop => ?toReg⟩
  case load =>
    exact loadedScalar_result (body := fun r => s.moveScalar r o e.w) (f := fun b => elem e.w 0 b) narrow h hb
      (State.moveScalar_load hr hd)
  case store => exact moveScalar_store_result h hr hd hp
  case toRm =>
    exact putScalarAt_result (body := fun r => s.moveScalar r o e.w) narrow h (State.moveScalar_toRm hr hop)
  case toReg =>
    exact putScalarAt_result (body := fun r => s.moveScalar r o e.w) narrow h (State.moveScalar_toReg hr hop)

end Sys2Proof.Machine
end

section
/-! PROOFS. Exceptions, reset and persistent memory (statements O37, O38, O45, O57, O60): what taking an exception and returning
from it do to the state, when a step is a fault, what reset allows, and what CLWB and PCOMMIT do to the ledger of stores. -/

namespace Sys2Proof.Machine

/-! ### O45, O57: the trapped state -/

/-- Settles O45: raising #PF writes CR2 and the event, and resuming takes the event away; the pc has not moved. -/
theorem pageFaultAndResume : Obligations.PageFaultAndResume :=
  fun _ _ _ _ => ⟨rfl, ⟨_, rfl, rfl, rfl⟩, rfl⟩

/-- Bytes that are no instruction are an exception or a refusal, never a fault. -/
theorem State.stopped_ne_fault (s : State) (stop : Stop) (a : Option Abort) (f : Fault) : s.stopped stop a ≠ .fault f := by
  cases stop <;> exact fun h => nomatch h

/-- A step without an event pending is not a fault: no instruction stops the machine (O40). -/
theorem step_ne_fault {s : State} (h : s.event = none) (f : Fault) : step s ≠ .fault f := by
  unfold step
  rw [h]
  dsimp only
  split
  · exact fun h => nomatch h
  · split
    · exact s.stopped_ne_fault _ _ f
    · next d _ =>
      rw [Mnemonic.run_eq_exec]
      obtain ⟨t, ht⟩ := execAnswersNext (d.name.make d.ops) { s with npc := s.advance s.pc d.len, event := none }
      rw [ht]
      exact fun h => nomatch h

/-- Settles O57: with an event pending a step is the fault that names it, without one it is none (`step_ne_fault`). -/
theorem faultsOnlyWhenTrapped : Obligations.FaultsOnlyWhenTrapped := by
  intro s f
  cases he : s.event with
  | none => exact ⟨fun h => absurd h (step_ne_fault he f), fun ⟨_, h, _⟩ => nomatch h⟩
  | some e =>
    have trapped : step s = .fault (.trapped e) := by
      unfold step
      rw [he]
    rw [trapped]
    constructor
    · intro h
      cases h
      exact ⟨e, rfl, rfl⟩
    · rintro ⟨e', h, rfl⟩
      cases h
      rfl

/-! ### O60: reset -/

/-- With CR4.OSXSAVE clear no VEX or EVEX row is enabled (R31). -/
theorem State.enabled_without_osxsave {s : State} {r : Row} (h : s.cr4.getLsbD 18 = false) (hr : r.space ≠ .legacy) :
    s.enabled r = false := by
  unfold State.enabled
  rw [h]
  cases hs : r.space with
  | legacy => exact absurd hs hr
  | vex => simp
  | evex => simp

/-- A row that accepts the fields has their encoding space. -/
theorem Row.space_of_accepts {r : Row} {o : Operands} (h : r.accepts o = true) : r.space = o.space := by
  simp only [Row.accepts, Bool.and_eq_true, beq_iff_eq, and_assoc] at h
  obtain ⟨space, -⟩ := h
  exact space

/-- With CR4.OSXSAVE clear the checks on a VEX or EVEX encoding end in #UD (R31, R1510). -/
theorem State.gate_without_osxsave {s : State} {rows : List Row} {o : Operands} (h : s.cr4.getLsbD 18 = false)
    (ho : o.space ≠ .legacy) : s.gate rows o = .error { exc := .ud } := by
  unfold State.gate
  split
  · rfl
  · next r hr =>
    have accepted : r.accepts o = true := by simpa using List.find?_some hr
    have disabled := State.enabled_without_osxsave h (Row.space_of_accepts accepted ▸ ho)
    simp only [disabled, Bool.not_false, if_true, ite_self]

/-- Settles O60: the reset values are computed, and CR4.OSXSAVE being clear stops every VEX and EVEX instruction. -/
theorem resetValues : Obligations.ResetValues := by
  have zmm : ∀ n : Fin 32, State.reset.getZ n = 0 := fun n => by
    simp [State.getZ, State.reset, Vector.get_eq_getElem]
  refine ⟨zmm, by decide, by decide, by decide, by decide, fun i o hi ho => ?_⟩
  obtain ⟨body, run⟩ := exec_eq_run i o State.reset hi
  rw [run]
  exact State.run_gate_error (State.gate_without_osxsave (by decide) ho)

/-! ### O37: CLWB -/

/-- The ledger after a flush of one line: the entries of the line that were stored are being written back (R101). -/
theorem State.mem_writeBackLine (s : State) (line size a : Nat) (d : Durability) :
    (a, d) ∈ (s.writeBackLine line size).durability ↔ ∃ d0, (a, d0) ∈ s.durability ∧
      d = if line ≤ a ∧ a < line + size ∧ d0 = .stored then .draining else d0 := by
  simp only [State.writeBackLine, List.mem_map, Bool.and_eq_true, decide_eq_true_eq, beq_iff_eq, and_assoc]
  constructor
  · rintro ⟨⟨a', d0⟩, h, he⟩
    split at he <;> cases he
    · next inside => exact ⟨d0, h, (if_pos inside).symm⟩
    · next outside => exact ⟨d, h, (if_neg outside).symm⟩
  · rintro ⟨d0, h, rfl⟩
    refine ⟨(a, d0), h, ?_⟩
    split <;> rfl

/-- Settles O37: the body flushes the line of the translated address and marks the translation. -/
theorem clwbResult : Obligations.ClwbResult := by
  intro o s r m p h hr hp line
  have body : (match o.rm with
      | .reg _ => .error { exc := .ud }
      | .mem m => (s.checkMem .read m.seg (s.ea m) [0] 1 0).map fun ps =>
          (ps.foldl (fun t p => t.flushLine p.2) s).marked [s.linear m.seg (s.ea m) 0] : Except Abort State) =
        .ok ((s.flushLine p).marked [s.linear m.seg (s.ea m) 0]) := by
    rw [hr]
    dsimp only
    rw [hp]
    rfl
  refine ⟨_, run_at h body h.1 rfl, s.mem_writeBackLine line s.lineSize, markAll_length ..,
    fun n g q hg hq => ?_, fun a => rfl, rfl⟩
  have marked := markAll_getElem? [s.linear m.seg (s.ea m) 0] s.regions n
  rw [hg] at marked
  have same := Option.some.inj (hq.symm.trans marked)
  simpa only [List.any_cons, List.any_nil, Bool.or_false] using same

/-! ### O38: PCOMMIT -/

/-- The ledger after PCOMMIT: what was accepted is being committed (R102). -/
theorem State.mem_commitStores (s : State) (a : Nat) (d : Durability) :
    (a, d) ∈ s.commitStores.durability ↔ ∃ d0, (a, d0) ∈ s.durability ∧ d = if d0 = .accepted then .committing else d0 := by
  simp only [State.commitStores, List.mem_map, beq_iff_eq]
  constructor
  · rintro ⟨⟨a', d0⟩, h, he⟩
    split at he <;> cases he
    · next accepted => exact ⟨d0, h, (if_pos accepted).symm⟩
    · next other => exact ⟨d, h, (if_neg other).symm⟩
  · rintro ⟨d0, h, rfl⟩
    refine ⟨(a, d0), h, ?_⟩
    split <;> rfl

/-- Settles O38: the three cases of the statement are the three branches of PCOMMIT. -/
theorem pcommitResult : Obligations.PcommitResult := by
  intro s he
  rw [exec_pcommit]
  refine ⟨fun refused => ?_, fun enclave enabled nonRoot exiting => ?_, fun enclave enabled free => ?_⟩
  · have cond : (s.inEnclave || !s.pcommitEnabled) = true := by simpa using refused
    simp only [execPcommit, cond, if_true, State.finish]
  · simp only [execPcommit, enclave, enabled, nonRoot, exiting, Bool.not_true, Bool.or_self, Bool.false_eq_true, if_false,
      Bool.and_self, if_true, State.finish]
    rfl
  · have cond : (s.vmxNonRoot && s.vmxControls2.getLsbD 21) = false := by
      rw [Bool.and_eq_false_iff]
      exact free
    have runs : execPcommit s = .next { s.commitStores with pc := s.npc } := by
      simp only [execPcommit, enclave, enabled, cond, Bool.not_true, Bool.or_self, Bool.false_eq_true, if_false, State.finish]
      rw [State.retire_running s.commitStores he]
      rfl
    exact ⟨_, runs, s.mem_commitStores, fun a => rfl, rfl⟩

end Sys2Proof.Machine
end

section
/-! PROOFS. Integer instructions on vector registers (statements O3, O4, O5, O6, O12, O13, O34): extensions and narrowings, compares
and tests, shifts by one count, conflicts, moves between vector and opmask registers, and the SHA instructions. -/

namespace Sys2Proof.Machine

open Sys2Proof.Claims

section
variable {s : State} {rows : List Row} {o : Operands} {r : Row} {w n : Nat} {b : ZWord} {l : List Word} {d : Fin 32}
  {body : Row → Except Abort State}

/-! ### Vector registers written with and without a load -/

/-- A body that writes elements of vector register `d` under the writemask. -/
theorem putElemsAt_result {f : Nat → BitVec w} (hw : 0 < w) (hn : w * n ≤ r.vl o) (h : s.selects rows o r)
    (hb : body r = .ok (s.putElemsAt r o d w n f)) :
    ∃ t, s.run rows o body = .next t ∧ VecWritten s t o d (r.vl o) w n f ∧ ZmmOnly s t := by
  obtain ⟨ends, frame⟩ := run_zmm (l := []) h hb (State.putElemsAt_eq ..)
  exact ⟨_, ends, State.putElemsAt_written s r o d w n f hw hn, frame⟩

/-- A body that makes elements of vector register `d` of what it loads. -/
theorem loadedVecAt_result {x : Except Abort (ZWord × List Word)} {f : ZWord → Nat → BitVec w} (hw : 0 < w)
    (hn : w * n ≤ r.vl o) (h : s.selects rows o r) (hx : x = .ok (b, l))
    (hbody : body r = loading x fun b => s.putElemsAt r o d w n (f b)) :
    ∃ t, s.run rows o body = .next t ∧ VecWritten s t o d (r.vl o) w n (f b) ∧ ZmmOnly (s.marked l) t := by
  obtain ⟨ends, frame⟩ := loaded_zmm h hx hbody (State.putElemsAt_eq ..)
  exact ⟨_, ends, State.putElemsAt_written s r o d w n (f b) hw hn, frame⟩

/-- Of the results only those of the elements written count. -/
theorem VecWritten.congr {t : State} {vl : Nat} {f g : Nat → BitVec w} (h : VecWritten s t o d vl w n f)
    (hfg : ∀ j < n, f j = g j) : VecWritten s t o d vl w n g := by
  obtain ⟨elems, rest⟩ := h
  exact ⟨fun j hj => by rw [elems j hj, hfg j hj], rest⟩

/-! ### Compares and tests -/

theorem State.compareVec_toMask (hk : r.reg = .kreg) (p : BitVec w → BitVec w → Bool) :
    s.compareVec r o w p = loading (s.src r o w (r.count o w)) fun b =>
      s.putMask o (r.count o w) fun j => p (elem w j (s.src1 r o)) (elem w j b) := by
  unfold State.compareVec
  rw [hk]
  rfl

theorem State.compareVec_toVec (hk : r.reg ≠ .kreg) (p : BitVec w → BitVec w → Bool) :
    s.compareVec r o w p = loading (s.src r o w (r.count o w)) fun b =>
      s.putElems r o w (r.count o w) fun j => boolMask w (p (elem w j (s.src1 r o)) (elem w j b)) := by
  unfold State.compareVec
  rw [beq_false_of_ne hk]
  rfl

theorem compareVec_result {p : BitVec w → BitVec w → Bool} (hw : 0 < w) (h : s.selects rows o r)
    (hb : s.src r o w (r.count o w) = .ok (b, l)) :
    ∃ t, (s.run rows o fun r => s.compareVec r o w p) = .next t ∧
      if r.reg = .kreg then
        MaskWritten s t o o.reg (r.count o w) (fun j => p (elem w j (s.src1 r o)) (elem w j b)) ∧ KOnly (s.marked l) t
      else
        VecWritten s t o o.reg (r.vl o) w (r.count o w)
          (fun j => boolMask w (p (elem w j (s.src1 r o)) (elem w j b))) ∧ ZmmOnly (s.marked l) t := by
  by_cases hk : r.reg = .kreg
  · simp only [if_pos hk]
    exact loadedMask_result (body := fun r => s.compareVec r o w p)
      (f := fun b j => p (elem w j (s.src1 r o)) (elem w j b)) h hb (State.compareVec_toMask hk p)
  · simp only [if_neg hk]
    exact loadedVec_result (body := fun r => s.compareVec r o w p)
      (f := fun b j => boolMask w (p (elem w j (s.src1 r o)) (elem w j b))) hw (r.count_le o w) h hb
      (State.compareVec_toVec hk p)

/-! ### Shifts by one count: the count in a register or memory, or the immediate with a legacy r/m or a vvvv destination -/

theorem State.shiftAll_count (hv : r.reg = .vec) (f : BitVec w → Nat → BitVec w) :
    s.shiftAll r o w f = loading (s.src r o 128 1) fun c =>
      s.putElems r o w (r.count o w) fun j => f (elem w j (s.src1 r o)) (elem 64 0 c).toNat := by
  unfold State.shiftAll
  rw [hv]
  rfl

theorem State.shiftAll_legacy (hv : r.reg ≠ .vec) (hl : o.space = .legacy) (hr : o.rm = .reg d)
    (f : BitVec w → Nat → BitVec w) :
    s.shiftAll r o w f = .ok (s.putElemsAt r o d w (r.count o w) fun j => f (elem w j (s.getZ d)) o.imm.toNat) := by
  unfold State.shiftAll
  rw [beq_false_of_ne hv]
  simp only [hl, hr, Bool.false_eq_true, if_false]

theorem State.shiftAll_vvvv (hv : r.reg ≠ .vec) (hl : o.space ≠ .legacy) (f : BitVec w → Nat → BitVec w) :
    s.shiftAll r o w f = loading (s.src r o w (r.count o w)) fun b =>
      s.putElemsAt r o o.vvvv w (r.count o w) fun j => f (elem w j b) o.imm.toNat := by
  unfold State.shiftAll
  rw [beq_false_of_ne hv]
  simp only [Bool.false_eq_true, if_false]
  split
  · next legacy _ => exact absurd legacy hl
  · rfl

theorem State.shiftLanes_legacy (hl : o.space = .legacy) (hr : o.rm = .reg d) (f : ZWord → Nat → BitVec 8) :
    s.shiftLanes r o f = .ok (s.putElemsAt r o d 8 (r.count o 8) (f (s.getZ d))) := by
  unfold State.shiftLanes
  simp only [hl, hr]

theorem State.shiftLanes_vvvv (hl : o.space ≠ .legacy) (f : ZWord → Nat → BitVec 8) :
    s.shiftLanes r o f = loading (s.src r o 8 (r.count o 8)) fun b => s.putElemsAt r o o.vvvv 8 (r.count o 8) (f b) := by
  unfold State.shiftLanes
  dsimp only
  split
  · next legacy _ => exact absurd legacy hl
  · rfl

/-! ### Conflicts -/

theorem packMask_congr {f g : Nat → Bool} (h : ∀ i < n, f i = g i) : packMask n f = packMask n g := by
  apply BitVec.eq_of_getLsbD_eq
  intro i _
  rw [getLsbD_packMask, getLsbD_packMask]
  by_cases hi : i < n
  · rw [h i hi]
  · simp [hi]

/-- Which lower elements equal element `j` depends on the elements up to `j` alone. -/
theorem conflict_congr {u v : ZWord} {j : Nat} (h : ∀ i ≤ j, elem w i u = elem w i v) : conflict w u j = conflict w v j := by
  unfold conflict
  rw [packMask_congr fun i hi => by rw [h i hi.le, h j le_rfl]]

/-- The elements VPCONFLICT compares: those loaded, and the masked-off ones of memory as they read (R657, R85). -/
def State.conflictSource (s : State) (r : Row) (o : Operands) (w : Nat) (b : ZWord) : ZWord :=
  match o.rm with
  | .reg _ => b
  | .mem m =>
    if r.broadcasts o then b
    else pack w (r.count o w) fun j =>
      if s.active o j then elem w j b
      else (pack 8 (w / 8) fun i => s.peek m.seg (s.ea m) (w / 8 * j + i)).setWidth w

theorem State.conflicts_eq (s : State) (r : Row) (o : Operands) (w : Nat) :
    s.conflicts r o w = loading (s.src r o w (r.count o w)) fun b =>
      s.putElems r o w (r.count o w) (conflict w (s.conflictSource r o w b)) := rfl

theorem State.elem_conflictSource {j : Nat} (hj : j < r.count o w) : elem w j (s.conflictSource r o w b) =
    match o.rm with
    | .reg _ => elem w j b
    | .mem m =>
      if r.broadcasts o = true ∨ s.active o j = true then elem w j b
      else (pack 8 (w / 8) fun i => s.peek m.seg (s.ea m) (w / 8 * j + i)).setWidth w := by
  unfold State.conflictSource
  cases o.rm with
  | reg x => rfl
  | mem m =>
    dsimp only
    cases hb : r.broadcasts o with
    | true => simp
    | false =>
      rw [if_neg Bool.false_ne_true, elem_pack w _ _ j hj ((r.count_le o w).trans (r.vl_le o))]
      simp

/-! ### From opmask registers -/

theorem State.fromMask_reg {x : Fin 32} (hr : o.rm = .reg x) (f : KWord → Nat → BitVec w) :
    s.fromMask r o w f = .ok (s.putElems r o w (r.count o w) (f (s.getK x))) := by
  unfold State.fromMask
  rw [hr]

/-! ### SHA -/

theorem sha_result {g : ZWord → ZWord → ZWord} (h : s.selects rows o r) (hb : s.src r o 128 1 = .ok (b, l)) :
    ∃ t, (s.run rows o fun r => s.sha r o g) = .next t ∧
      (∀ i < 128, (t.getZ o.reg).getLsbD i = (g (s.getZ o.reg) b).getLsbD i) ∧
      (∀ i < 512, 128 ≤ i → (t.getZ o.reg).getLsbD i = (s.getZ o.reg).getLsbD i) ∧
      (∀ x, x ≠ o.reg → t.getZ x = s.getZ x) ∧ ZmmOnly (s.marked l) t := by
  obtain ⟨ends, frame⟩ := loaded_zmm (body := fun r => s.sha r o g)
    (f := fun y => s.putVec .legacy o.reg 128 (g (s.getZ o.reg) y)) h hb rfl (State.putVec_eq ..)
  refine ⟨_, ends, fun i hi => ?low, fun i hi h128 => ?high, fun x hx => getZ_putVec_ne s .legacy o.reg x 128 _ hx, frame⟩
  case low => exact (getLsbD_putVec s .legacy o.reg 128 _ i (by omega)).trans (if_pos hi)
  case high => exact (getLsbD_putVec_above s .legacy o.reg _ hi h128).trans (by simp)

end

/-! ### O3, O4, O5, O6, O12, O13, O34 -/

/-- Settles O3: the extensions run `State.widen`. -/
theorem wideningResult : Obligations.WideningResult := by
  intro e he o s r b l h hb
  rw [widening_exec e he]
  exact widen_result (widening_widths e he) h hb

/-- Settles O4: the narrowings write their r/m operand; the narrowed elements fit, being no wider than those of the source. -/
theorem narrowingResult : Obligations.NarrowingResult := by
  intro e he o s r h
  rw [narrowing_exec e he]
  obtain ⟨pos, narrow⟩ := narrowing_widths e he
  have fits : e.w * r.count o e.v ≤ r.vl o := (Nat.mul_le_mul_right _ narrow).trans (r.count_le o e.v)
  exact ⟨fun d hr => putRM_reg (f := fun r j => e.f (elem e.v j (s.getZ o.reg))) pos fits h hr rfl,
    fun m ps hr hp => putRM_mem (f := fun r j => e.f (elem e.v j (s.getZ o.reg))) h hr hp rfl⟩

/-- Settles O5: the compares run `State.compareVec`, which writes the kind of register the row names. -/
theorem compareResult : Obligations.CompareResult := by
  intro e he o s r b l h hb
  rw [comparing_exec e he]
  exact compareVec_result (comparing_widths e he) h hb

/-- Settles O6: the forms of `State.shiftAll` and `State.shiftLanes`, chosen by the row and the encoding space. -/
theorem uniformShiftResult : Obligations.UniformShiftResult := by
  refine ⟨fun e he o s r h => ?elements, fun e he o s r h => ?lanes⟩
  case elements =>
    rw [uniformShift_exec e he]
    have pos := uniformShift_widths e he
    have fits := r.count_le o e.w
    refine ⟨fun c l hv hc => ?count, fun d hv hl hr => ?legacy, fun b l hv hl hb => ?vvvv⟩
    case count =>
      exact loadedVecAt_result (body := fun r => s.shiftAll r o e.w e.f)
        (f := fun c j => e.f (elem e.w j (s.src1 r o)) (elem 64 0 c).toNat) pos fits h hc (State.shiftAll_count hv e.f)
    case legacy =>
      exact putElemsAt_result (body := fun r => s.shiftAll r o e.w e.f) pos fits h (State.shiftAll_legacy hv hl hr e.f)
    case vvvv =>
      exact loadedVecAt_result (body := fun r => s.shiftAll r o e.w e.f)
        (f := fun b j => e.f (elem e.w j b) o.imm.toNat) pos fits h hb (State.shiftAll_vvvv hv hl e.f)
  case lanes =>
    rw [laneShift_exec e he]
    have fits := r.count_le o 8
    refine ⟨fun d hl hr => ?legacy, fun b l hl hb => ?vvvv⟩
    case legacy =>
      exact putElemsAt_result (body := fun r => s.shiftLanes r o (e.f o)) (by decide) fits h
        (State.shiftLanes_legacy hl hr (e.f o))
    case vvvv =>
      exact loadedVecAt_result (body := fun r => s.shiftLanes r o (e.f o)) (f := e.f o) (by decide) fits h hb
        (State.shiftLanes_vvvv hl (e.f o))

/-- Settles O12: the elements compared are those of `State.conflictSource`, and the results depend on no others. -/
theorem conflictResult : Obligations.ConflictResult := by
  intro e he o s r b v l h hb hv
  rw [conflicts_exec e he]
  have pos : 0 < e.w := by
    rcases conflicts_widths e he with hw | hw <;> simp [hw]
  obtain ⟨t, ends, written, frame⟩ := loadedVec_result (body := fun r => s.conflicts r o e.w)
    (f := fun b => conflict e.w (s.conflictSource r o e.w b)) pos (r.count_le o e.w) h hb (s.conflicts_eq r o e.w)
  have compared : ∀ j < r.count o e.w, elem e.w j (s.conflictSource r o e.w b) = elem e.w j v := fun j hj =>
    (State.elem_conflictSource hj).trans (hv j hj).symm
  exact ⟨t, ends, written.congr fun j hj => conflict_congr fun i hi => compared i (hi.trans_lt hj), frame⟩

/-- Settles O13: the one group runs `State.fromMask` on the opmask register of the r/m operand, the other `State.toMask`. -/
theorem maskVectorResult : Obligations.MaskVectorResult := by
  refine ⟨fun e he o s r x h hr => ?fromMask, fun e he o s r b l h hb => ?toMask⟩
  case fromMask =>
    rw [fromMask_exec e he]
    exact putElemsAt_result (body := fun r => s.fromMask r o e.w e.f) (fromMask_widths e he) (r.count_le o e.w) h
      (State.fromMask_reg hr e.f)
  case toMask =>
    rw [toMask_exec e he]
    exact loadedMask_result (body := fun r => s.toMask r o e.w) (f := fun b j => (elem e.w j b).msb) h hb rfl

/-- Settles O34: the SHA instructions run `State.sha`, which writes bits 127:0 as a legacy form does. -/
theorem shaResult : Obligations.ShaResult := by
  intro e he o s r b l h hb
  rw [sha_exec e he]
  exact sha_result h hb

end Sys2Proof.Machine
end

section
/-! PROOFS. Opmask instructions (statements O29, O30, O31): logic and arithmetic on the low bits of opmask registers, the tests
into EFLAGS, and the moves from and to general registers and memory. -/

namespace Sys2Proof.Machine

open Sys2Proof.Claims

section
variable {s : State} {rows : List Row} {o : Operands} {r : Row} {w : Nat} {l : List Word} {d x : Fin 32} {m : MemOp}
  {body : Row → Except Abort State}

/-! ### Opmask registers written with and without a load -/

/-- A body that writes an opmask register. -/
theorem setK_result {v : KWord} (h : s.selects rows o r) (hb : body r = .ok (s.setK d v)) :
    ∃ t, s.run rows o body = .next t ∧ KWritten s t d v ∧ KOnly s t := by
  obtain ⟨ends, frame⟩ := run_k (u := s.setK d v) (l := []) h hb rfl
  exact ⟨_, ends, ⟨State.getK_setK_same .., fun y hy => State.getK_setK_ne _ _ _ _ hy⟩, frame⟩

/-- A body that makes an opmask register of what it loads. -/
theorem loadedK_result {α : Type} {y : Except Abort (α × List Word)} {c : α} {f : α → BitVec w} (h : s.selects rows o r)
    (hy : y = .ok (c, l)) (hbody : body r = loading y fun c => s.maskDest d (f c)) :
    ∃ t, s.run rows o body = .next t ∧ KWritten s t d ((f c).setWidth 64) ∧ KOnly (s.marked l) t := by
  have running : s.event = none := h.1
  obtain ⟨ends, frame⟩ := run_k h (hbody.trans (loading_marked hy running)) rfl
  exact ⟨_, ends, ⟨State.getK_setK_same .., fun y hy => State.getK_setK_ne _ _ _ _ hy⟩, frame⟩

/-- A body that writes EFLAGS as a compare does. -/
theorem setCompareFlags_result {zf pf cf : Bool} (h : s.selects rows o r) (hb : body r = .ok (s.setCompareFlags zf pf cf)) :
    ∃ t, s.run rows o body = .next t ∧ EflagsSet s t zf pf cf ∧ t.mxcsr = s.mxcsr ∧ EflagsMxcsrOnly s t := by
  obtain ⟨ends, frame⟩ := run_eflags_mxcsr (u := s.setCompareFlags zf pf cf) (l := []) h hb rfl
  exact ⟨_, ends, s.setCompareFlags_written zf pf cf, rfl, frame⟩

/-! ### Logic and arithmetic -/

theorem State.mask2_reg (hr : o.rm = .reg x) (f : BitVec w → BitVec w → BitVec w) :
    s.mask2 o w f = .ok (s.maskDest o.reg (f (s.maskSrc w o.vvvv) (s.maskSrc w x))) := by
  unfold State.mask2
  rw [hr]

theorem State.mask1_reg (hr : o.rm = .reg x) (f : BitVec w → BitVec w) :
    s.mask1 o w f = .ok (s.maskDest o.reg (f (s.maskSrc w x))) := by
  unfold State.mask1
  rw [hr]

/-- The result of KUNPCK: `w` bits of each source, those of the first above (R1343). -/
def State.unpacked (s : State) (o : Operands) (x : Fin 32) (w : Nat) : KWord :=
  ((s.maskSrc w o.vvvv).setWidth 64 <<< w) ||| (s.maskSrc w x).setWidth 64

theorem State.maskUnpack_reg (hr : o.rm = .reg x) : s.maskUnpack o w = .ok (s.setK o.reg (s.unpacked o x w)) := by
  unfold State.maskUnpack
  rw [hr]
  rfl

theorem State.getLsbD_unpacked {i : Nat} (hi : i < 64) : (s.unpacked o x w).getLsbD i =
    if i < w then (s.getK x).getLsbD i else if i < 2 * w then (s.getK o.vvvv).getLsbD (i - w) else false := by
  simp only [State.unpacked, State.maskSrc, BitVec.getLsbD_or, BitVec.getLsbD_shiftLeft, BitVec.getLsbD_setWidth]
  rcases Nat.lt_or_ge i w with low | high
  · simp [hi, low]
  · have inside : i - w < w ↔ i < 2 * w := by omega
    have small : i - w < 64 := by omega
    by_cases second : i < 2 * w <;> simp [hi, Nat.not_lt.2 high, inside, second, small]

/-! ### Tests -/

/-- A word is zero when each of its bits is. -/
theorem beq_zero_eq_decide (a : BitVec w) : (a == 0) = decide (∀ i < w, a.getLsbD i = false) := by
  rw [Bool.eq_iff_iff, beq_iff_eq, decide_eq_true_iff]
  constructor
  · rintro rfl i -
    exact BitVec.getLsbD_zero
  · exact fun h => BitVec.eq_of_getLsbD_eq fun i hi => (h i hi).trans BitVec.getLsbD_zero.symm

/-- A word is all ones when each of its bits is one. -/
theorem beq_allOnes_eq_decide (a : BitVec w) : (a == BitVec.allOnes w) = decide (∀ i < w, a.getLsbD i = true) := by
  rw [Bool.eq_iff_iff, beq_iff_eq, decide_eq_true_iff]
  constructor
  · rintro rfl i hi
    simp [hi]
  · exact fun h => BitVec.eq_of_getLsbD_eq fun i hi => (h i hi).trans (by simp [hi])

theorem State.getLsbD_maskSrc {i : Nat} (hi : i < w) : (s.maskSrc w x).getLsbD i = (s.getK x).getLsbD i := by
  simp [State.maskSrc, hi]

theorem State.maskOrTest_reg (hr : o.rm = .reg x) : s.maskOrTest o w = .ok (s.setCompareFlags
    (decide (∀ i < w, (s.getK o.reg).getLsbD i = false ∧ (s.getK x).getLsbD i = false)) false
    (decide (∀ i < w, (s.getK o.reg).getLsbD i = true ∨ (s.getK x).getLsbD i = true))) := by
  have zf : (∀ i < w, (s.maskSrc w o.reg ||| s.maskSrc w x).getLsbD i = false) ↔
      ∀ i < w, (s.getK o.reg).getLsbD i = false ∧ (s.getK x).getLsbD i = false :=
    forall₂_congr fun i hi => by
      rw [BitVec.getLsbD_or, State.getLsbD_maskSrc hi, State.getLsbD_maskSrc hi, Bool.or_eq_false_iff]
  have cf : (∀ i < w, (s.maskSrc w o.reg ||| s.maskSrc w x).getLsbD i = true) ↔
      ∀ i < w, (s.getK o.reg).getLsbD i = true ∨ (s.getK x).getLsbD i = true :=
    forall₂_congr fun i hi => by
      rw [BitVec.getLsbD_or, State.getLsbD_maskSrc hi, State.getLsbD_maskSrc hi, Bool.or_eq_true]
  unfold State.maskOrTest
  rw [hr]
  dsimp only
  rw [beq_zero_eq_decide, beq_allOnes_eq_decide, decide_eq_decide.2 zf, decide_eq_decide.2 cf]

theorem State.maskTest_reg (hr : o.rm = .reg x) : s.maskTest o w = .ok (s.setCompareFlags
    (decide (∀ i < w, ((s.getK o.reg).getLsbD i && (s.getK x).getLsbD i) = false)) false
    (decide (∀ i < w, ((s.getK x).getLsbD i && !(s.getK o.reg).getLsbD i) = false))) := by
  have zf : (∀ i < w, (s.maskSrc w x &&& s.maskSrc w o.reg).getLsbD i = false) ↔
      ∀ i < w, ((s.getK o.reg).getLsbD i && (s.getK x).getLsbD i) = false :=
    forall₂_congr fun i hi => by
      rw [BitVec.getLsbD_and, State.getLsbD_maskSrc hi, State.getLsbD_maskSrc hi, Bool.and_comm]
  have cf : (∀ i < w, (s.maskSrc w x &&& ~~~s.maskSrc w o.reg).getLsbD i = false) ↔
      ∀ i < w, ((s.getK x).getLsbD i && !(s.getK o.reg).getLsbD i) = false :=
    forall₂_congr fun i hi => by
      rw [BitVec.getLsbD_and, BitVec.getLsbD_not, State.getLsbD_maskSrc hi, State.getLsbD_maskSrc hi, decide_eq_true hi,
        Bool.true_and]
  unfold State.maskTest
  rw [hr]
  dsimp only
  rw [beq_zero_eq_decide, beq_zero_eq_decide, decide_eq_decide.2 zf, decide_eq_decide.2 cf]

/-! ### Moves: by the direction of the row and the kinds of its operands -/

theorem State.maskMove_store (hd : r.memDst = true) (hr : o.rm = .mem m) :
    s.maskMove r o w = s.writeMem false m.seg (s.ea m) (List.range (w / 8)) 1 (r.acArg (w / 8))
      ((s.maskSrc w o.reg).setWidth 512) := by
  unfold State.maskMove
  rw [hd, hr]
  rfl

theorem State.maskMove_toGpr (hd : r.memDst = false) (hg : r.reg = .gpr) (hr : o.rm = .reg x) :
    s.maskMove r o w = .ok (s.putGpr o.reg (s.maskSrc w x)) := by
  unfold State.maskMove
  rw [hd, hg, hr]
  rfl

theorem State.maskMove_fromGpr (hd : r.memDst = false) (hg : r.reg ≠ .gpr) (hm : r.rm = .gpr) :
    s.maskMove r o w = loading (s.srcGpr r o (w / 8)) fun v => s.maskDest o.reg (v.setWidth w) := by
  unfold State.maskMove
  rw [hd, beq_false_of_ne hg, hm]
  rfl

theorem State.maskMove_copy (hd : r.memDst = false) (hg : r.reg ≠ .gpr) (hm : r.rm ≠ .gpr) (hr : o.rm = .reg x) :
    s.maskMove r o w = .ok (s.maskDest o.reg (s.maskSrc w x)) := by
  unfold State.maskMove
  rw [hd, beq_false_of_ne hg, beq_false_of_ne hm, hr]
  rfl

theorem State.maskMove_load (hd : r.memDst = false) (hg : r.reg ≠ .gpr) (hm : r.rm ≠ .gpr) (hr : o.rm = .mem m) :
    s.maskMove r o w = loading (s.readOperand r m (List.range (w / 8)) (w / 8)) fun v =>
      s.maskDest o.reg (v.setWidth w) := by
  unfold State.maskMove
  rw [hd, beq_false_of_ne hg, beq_false_of_ne hm, hr]
  rfl

/-- Of the value stored only the bytes at the offsets stored count. -/
theorem Stored.congr {t : State} {nt : Bool} {u v : ZWord} {ps : List (Nat × Nat)} (h : Stored s t nt u ps)
    (huv : ∀ p ∈ ps, byteAt p.1 u = byteAt p.1 v) : Stored s t nt v ps := by
  obtain ⟨written, rest⟩ := h
  exact ⟨fun wf nodup p hp => (written wf nodup p hp).trans (huv p hp), rest⟩

/-- The low `w / 8` bytes of the low `w` bits of an opmask register are the register's own. -/
theorem State.byteAt_maskSrc {i : Nat} (hi : i < w / 8) :
    byteAt i ((s.maskSrc w x).setWidth 512) = byteAt i ((s.getK x).setWidth 512) := by
  apply BitVec.eq_of_getLsbD_eq
  intro j hj
  have inside : 8 * i + j < w := by omega
  simp only [byteAt, getLsbD_elem, State.maskSrc, BitVec.getLsbD_setWidth, inside, decide_true, Bool.true_and]

theorem maskMove_store_result {ps : List (Nat × Nat)} (h : s.selects rows o r) (hd : r.memDst = true) (hr : o.rm = .mem m)
    (hp : s.plainTargets r m (w / 8) = .ok ps) :
    ∃ t, (s.run rows o fun r => s.maskMove r o w) = .next t ∧
      Stored s t false ((s.getK o.reg).setWidth 512) ps ∧ MemOnly s t := by
  obtain ⟨t, ends, stored, frame⟩ :=
    writeMem_result (body := fun r => s.maskMove r o w) h hp (State.maskMove_store hd hr)
  refine ⟨t, ends, stored.congr fun p hp' => State.byteAt_maskSrc (List.mem_range.1 ?_), frame⟩
  rw [← State.checkMem_offsets hp]
  exact List.mem_map_of_mem hp'

end

/-! ### O29, O30, O31 -/

/-- Settles O29: each operation writes one opmask register, with its function of the low bits of the sources. -/
theorem opmaskResult : Obligations.OpmaskResult := by
  refine ⟨?two, ?one, ?unpack⟩ <;> intro e he o s r x h hr
  case two =>
    rw [mask2_exec e he]
    exact setK_result h (State.mask2_reg hr e.f)
  case one =>
    rw [mask1_exec e he]
    exact setK_result h (State.mask1_reg hr (e.f o))
  case unpack =>
    rw [maskUnpack_exec e he]
    obtain ⟨t, ends, ⟨value, others⟩, frame⟩ :=
      setK_result (body := fun _ => s.maskUnpack o e.w) h (State.maskUnpack_reg hr)
    exact ⟨t, ends, fun i hi => by rw [value, State.getLsbD_unpacked hi], others, frame⟩

/-- Settles O30: the tests write EFLAGS as a compare does, by the bits of the two registers. -/
theorem opmaskTestResult : Obligations.OpmaskTestResult := by
  refine ⟨?or, ?and⟩ <;> intro e he o s r x h hr
  case or =>
    rw [maskOrTest_exec e he]
    exact setCompareFlags_result h (State.maskOrTest_reg hr)
  case and =>
    rw [maskTest_exec e he]
    exact setCompareFlags_result h (State.maskTest_reg hr)

/-- Settles O31: the five forms of `State.maskMove`, by the direction of the row and the kinds of its operands. -/
theorem opmaskMoveResult : Obligations.OpmaskMoveResult := by
  intro e he o s r h
  rw [maskMove_exec e he]
  refine ⟨fun m ps hd hr hp => ?store, fun x hd hg hr => ?toGpr, fun v l hd hg hm hv => ?fromGpr,
    fun x hd hg hm hr => ?copy, fun m v l hd hg hm hr hv => ?load⟩
  case store => exact maskMove_store_result h hd hr hp
  case toGpr => exact putGpr_result (body := fun r => s.maskMove r o e.w) h (State.maskMove_toGpr hd hg hr)
  case fromGpr =>
    exact loadedK_result (body := fun r => s.maskMove r o e.w) (f := fun v : Word => v.setWidth e.w) h hv
      (State.maskMove_fromGpr hd hg hm)
  case copy => exact setK_result (body := fun r => s.maskMove r o e.w) h (State.maskMove_copy hd hg hm hr)
  case load =>
    exact loadedK_result (body := fun r => s.maskMove r o e.w) (f := fun v : ZWord => v.setWidth e.w) h hv
      (State.maskMove_load hd hg hm hr)

end Sys2Proof.Machine
end

section
/-! PROOFS. Scatters (statement O33): what a scatter has stored after some of its elements, the highest element staying where
two go to one address. -/

namespace Sys2Proof.Machine

open Sys2Proof.Claims

/-! ### Stores and mask bits -/

theorem State.storeBytes_wf {s : State} (h : s.mem.wf = true) (nt : Bool) (v : ZWord) (ps : List (Nat × Nat)) :
    (s.storeBytes nt v ps).mem.wf = true := by
  induction ps generalizing s with
  | nil => exact h
  | cons p ps ih => exact ih (Memory.wf_set _ _ _ h)

theorem State.storeBytes_ledgerOk {s : State} (h : ledgerOk s.durability = true) (nt : Bool) (v : ZWord)
    (ps : List (Nat × Nat)) : ledgerOk (s.storeBytes nt v ps).durability = true := by
  induction ps generalizing s with
  | nil => exact h
  | cons p ps ih => exact ih (ledgerOk_storeByte h ..)

theorem LedgerWritten.congr {s t : State} {nt : Bool} {p q : Nat → Prop} (h : LedgerWritten s t nt p) (hpq : ∀ a, p a ↔ q a) :
    LedgerWritten s t nt q := funext (fun a => propext (hpq a)) ▸ h

theorem State.getLsbD_clearMaskBit (s : State) (a : Fin 8) (j i : Nat) :
    ((s.clearMaskBit a j).k.get a).getLsbD i = ((s.k.get a).getLsbD i && !decide (i = j)) := by
  have cleared : (s.clearMaskBit a j).k.get a = s.k.get a &&& ~~~(1#64 <<< j) := Vector.getElem_set_self _
  have single : (1#64 <<< j).getLsbD i = (decide (j < 64) && decide (j = i)) := BitVec.getLsbD_twoPow j i
  rw [cleared, BitVec.getLsbD_and, BitVec.getLsbD_not, single]
  rcases Nat.lt_or_ge i 64 with inside | outside
  · by_cases same : j = i
    · simp [same, inside]
    · simp [same, inside, Ne.symm same]
  · simp [BitVec.getLsbD_of_ge (s.k.get a) i outside]

/-! ### What a scatter has done -/

/-- The address is one of those to which those of the elements below `n` go that `done` selects. -/
def Reached (done : Nat → Bool) (ps : Nat → List (Nat × Nat)) (n a : Nat) : Prop :=
  ∃ j < n, done j = true ∧ ∃ p ∈ ps j, p.2 = a

/-- A scatter from `s` of elements of `d` bits, element `j` going to the addresses `ps j`, has come to `t` with those of its first
`n` elements stored that `done` selects, their mask bits clear; only memory, its ledger and the mask differ (R792, R94). -/
structure StoredUpTo (s : State) (o : Operands) (d : Nat) (ps : Nat → List (Nat × Nat)) (done : Nat → Bool) (n : Nat)
    (t : State) : Prop where
  wf : s.mem.wf = true → t.mem.wf = true
  bytes : s.mem.wf = true → ∀ j < n, done j = true → ((ps j).map (·.2)).Nodup → ∀ p ∈ ps j,
    (∀ i < n, j < i → done i = true → ∀ q ∈ ps i, q.2 ≠ p.2) →
    t.mem.get p.2 = byteAt p.1 ((elem d j (s.getZ o.reg)).setWidth 512)
  kept : ∀ a, ¬ Reached done ps n a → t.mem.get a = s.mem.get a
  ledgerOk : ledgerOk s.durability = true → ledgerOk t.durability = true
  ledger : LedgerWritten s t false (Reached done ps n)
  bits : ∀ i, (t.k.get o.aaa).getLsbD i = ((s.k.get o.aaa).getLsbD i && !(decide (i < n) && done i))
  masks : ∀ y, y ≠ o.aaa → t.k.get y = s.k.get y
  frame : t = { s with mem := t.mem, durability := t.durability, k := t.k }

theorem lt_succ_iff_lt_of_ne {i n : Nat} (h : i ≠ n) : i < n + 1 ↔ i < n := by omega

section
variable {done : Nat → Bool} {ps : Nat → List (Nat × Nat)} {n a : Nat}

theorem not_reached_zero : ¬ Reached done ps 0 a := fun ⟨j, hj, _⟩ => Nat.not_lt_zero j hj

theorem reached_succ_of_not_done (h : done n = false) : Reached done ps (n + 1) a ↔ Reached done ps n a := by
  constructor
  · rintro ⟨j, hj, hd, hp⟩
    rcases Nat.lt_succ_iff_lt_or_eq.1 hj with below | rfl
    · exact ⟨j, below, hd, hp⟩
    · rw [h] at hd
      cases hd
  · rintro ⟨j, hj, rest⟩
    exact ⟨j, Nat.lt_succ_of_lt hj, rest⟩

theorem reached_succ_of_done (h : done n = true) :
    Reached done ps (n + 1) a ↔ Reached done ps n a ∨ ∃ p ∈ ps n, p.2 = a := by
  constructor
  · rintro ⟨j, hj, hd, hp⟩
    rcases Nat.lt_succ_iff_lt_or_eq.1 hj with below | rfl
    · exact .inl ⟨j, below, hd, hp⟩
    · exact .inr hp
  · rintro (⟨j, hj, rest⟩ | hp)
    · exact ⟨j, Nat.lt_succ_of_lt hj, rest⟩
    · exact ⟨n, Nat.lt_succ_self n, h, hp⟩

end

section
variable {s t : State} {rows : List Row} {o : Operands} {r : Row} {m : MemOp} {d i n : Nat} {ps : Nat → List (Nat × Nat)}
  {done : Nat → Bool}

theorem StoredUpTo.start : StoredUpTo s o d ps done 0 s where
  wf h := h
  bytes _ j hj := absurd hj (Nat.not_lt_zero j)
  kept _ _ := rfl
  ledgerOk h := h
  ledger _ a e := by simp [not_reached_zero]
  bits i := by simp
  masks _ _ := rfl
  frame := rfl

/-- An element that is not done is passed over. -/
theorem StoredUpTo.skip (h : StoredUpTo s o d ps done n t) (hd : done n = false) : StoredUpTo s o d ps done (n + 1) t where
  wf := h.wf
  bytes hw j hj hdone hn p hp higher := by
    rcases Nat.lt_succ_iff_lt_or_eq.1 hj with below | rfl
    · exact h.bytes hw j below hdone hn p hp fun i hi => higher i (Nat.lt_succ_of_lt hi)
    · rw [hd] at hdone
      cases hdone
  kept a ha := h.kept a fun hr => ha ((reached_succ_of_not_done hd).2 hr)
  ledgerOk := h.ledgerOk
  ledger := h.ledger.congr fun _ => (reached_succ_of_not_done hd).symm
  bits i := by
    rw [h.bits]
    rcases eq_or_ne i n with rfl | apart
    · simp [hd]
    · rw [decide_eq_decide.2 (lt_succ_iff_lt_of_ne apart)]
  masks := h.masks
  frame := h.frame

/-- The elements done change nothing that the checks of another depend on. -/
theorem StoredUpTo.checkMem (h : StoredUpTo s o d ps done n t) (acc : Access) (g : SegReg) (ea : Word) (offs : List Nat)
    (al ac : Nat) : t.checkMem acc g ea offs al ac = s.checkMem acc g ea offs al ac := by
  rw [h.frame]
  exact State.checkMem_congr acc g ea offs al ac rfl rfl ⟨[], rfl⟩ rfl rfl rfl rfl

/-- The bytes of one more element stored, and its mask bit cleared. -/
theorem StoredUpTo.store (h : StoredUpTo s o d ps done n t) (hd : done n = true) : StoredUpTo s o d ps done (n + 1)
    ((t.storeBytes false ((elem d n (s.getZ o.reg)).setWidth 512) (ps n)).clearMaskBit o.aaa n) where
  wf hw := State.storeBytes_wf (h.wf hw) ..
  bytes hw j hj hdone hn p hp higher := by
    rcases Nat.lt_succ_iff_lt_or_eq.1 hj with below | rfl
    · have before := h.bytes hw j below hdone hn p hp fun i hi => higher i (Nat.lt_succ_of_lt hi)
      exact (State.storeBytes_get_ne _ _ _ _ _ (higher n (Nat.lt_succ_self n) below hd)).trans before
    · exact State.storeBytes_get _ _ _ _ (h.wf hw) hn p hp
  kept a ha := by
    have apart : ∀ p ∈ ps n, p.2 ≠ a := fun p hp e => ha ((reached_succ_of_done hd).2 (.inr ⟨p, hp, e⟩))
    have before := h.kept a fun hr => ha ((reached_succ_of_done hd).2 (.inl hr))
    exact (State.storeBytes_get_ne _ _ _ _ _ apart).trans before
  ledgerOk hl := State.storeBytes_ledgerOk (h.ledgerOk hl) ..
  ledger := by
    have pmem : t.pmem = s.pmem := (congrArg State.pmem h.frame).trans rfl
    have types : t.memTypes = s.memTypes := (congrArg State.memTypes h.frame).trans rfl
    exact (h.ledger.trans (t.storeBytes_ledger false _ (ps n)) h.ledgerOk pmem types).congr
      fun _ => (reached_succ_of_done hd).symm
  bits i := by
    rw [State.getLsbD_clearMaskBit, State.storeBytes_k, h.bits]
    rcases eq_or_ne i n with rfl | apart
    · simp [hd]
    · rw [decide_eq_decide.2 (lt_succ_iff_lt_of_ne apart), decide_eq_false apart, Bool.not_false, Bool.and_true]
  masks y hy := by
    rw [State.get_clearMaskBit_ne _ _ _ hy, State.storeBytes_k]
    exact h.masks y hy
  frame := by
    rw [State.storeBytes_eq, h.frame]
    rfl

/-- An element all of whose bytes may be written is stored. -/
theorem State.scatterElem_ok {j : Nat} {qs : List (Nat × Nat)}
    (hq : t.checkMem .write m.seg (s.vsibAddr m i j) (List.range (d / 8)) 1 0 = .ok qs) :
    s.scatterElem o m d i t j =
      .ok ((t.storeBytes false ((elem d j (s.getZ o.reg)).setWidth 512) qs).clearMaskBit o.aaa j) := by
  simp only [State.scatterElem, State.writeMem, hq]
  rfl

theorem StoredUpTo.scatterElem (h : StoredUpTo s o d ps done n t) (hd : done n = true)
    (hp : s.checkMem .write m.seg (s.vsibAddr m i n) (List.range (d / 8)) 1 0 = .ok (ps n)) :
    ∃ u, s.scatterElem o m d i t n = .ok u ∧ StoredUpTo s o d ps done (n + 1) u :=
  ⟨_, State.scatterElem_ok ((h.checkMem ..).trans hp), h.store hd⟩

/-- The next state of a scatter whose selected elements may all be written. -/
theorem scatter_result (h : s.selects rows o r) (hr : o.rm = .mem m)
    (hp : ∀ j < r.vl o / max d i, (s.k.get o.aaa).getLsbD j = true →
      s.checkMem .write m.seg (s.vsibAddr m i j) (List.range (d / 8)) 1 0 = .ok (ps j)) :
    ∃ u, (s.run rows o fun r => s.scatter r o d i) = .next { u.setMask o.aaa 0 with pc := s.npc } ∧
      StoredUpTo s o d ps (fun j => (s.k.get o.aaa).getLsbD j) (r.vl o / max d i) u := by
  obtain ⟨fault, stored⟩ := gatherLoop_induction (act := s.scatterElem o m d i)
    (P := StoredUpTo s o d ps fun j => (s.k.get o.aaa).getLsbD j) (r.vl o / max d i) .start
    (fun j _ hk t ht => ht.skip hk) fun j hj hk t ht => ht.scatterElem hk (hp j hj hk)
  have running : s.event = none := h.1
  exact ⟨_, run_at (body := fun r => s.scatter r o d i) h (State.scatter_ok hr fault)
    ((congrArg (fun u => u.event) stored.frame).trans running) ((congrArg (fun u => u.npc) stored.frame).trans rfl), stored⟩

end

/-- Settles O33: a scatter none of whose elements faults has stored all selected ones (`scatter_result`), and clears its mask. -/
theorem scatterResult : Obligations.ScatterResult := by
  intro e he o s r m ps h hr n hp
  rw [scatter_exec e he]
  obtain ⟨u, ends, stored⟩ := scatter_result h hr hp
  refine ⟨_, ends, stored.bytes, fun a ha => stored.kept a ?untouched, State.get_setMask_same ..,
    fun y hy => (State.get_setMask_ne _ _ _ hy).trans (stored.masks y hy), stored.ledger, ?frame⟩
  case untouched => exact fun ⟨j, hj, on, p, hpj, hpa⟩ => ha j hj on p hpj hpa
  case frame =>
    rw [stored.frame]
    rfl

end Sys2Proof.Machine
end

section
/-! PROOFS. What an exception leaves (statement O43): nothing but MXCSR's flags, CR2 and the event has changed, but for the
elements that a gather or scatter cut short by a fault has completed. -/

namespace Sys2Proof.Machine

open Sys2Proof.Claims

/-! ### Every instruction -/

/-- The names of the gathers and scatters are those of the two tables. -/
theorem stepwise_makes : (gatherTable ++ scatterTable).map Blockwise.make = stepwiseNames.map Mnemonic.make := rfl

/-- PCOMMIT takes no exception but #UD, with nothing else changed (R1586). -/
theorem execPcommit_trapped {s t : State} {x : Trap} (he : s.event = none) (h : execPcommit s = .next t)
    (hx : t.event = some (.trap x)) : ∃ a, t = s.raise a := by
  unfold execPcommit at h
  split at h
  · cases h
    exact ⟨_, rfl⟩
  · split at h
    · cases h
      cases hx
    · cases h
      rw [State.retire_event, State.commitStores_event, he] at hx
      cases hx

/-- What an instruction that takes an exception has done: nothing else, MXCSR's flags set, or, for a gather or scatter, some of its
elements. -/
theorem exec_trapped {i : Instr} {s t : State} {x : Trap} (he : s.event = none) (h : exec i s = .next t)
    (hx : t.event = some (.trap x)) :
    (∃ a, t = s.raise a) ∨ (∃ f, t = s.alarm f) ∨
      (∃ e ∈ gatherTable ++ scatterTable, ∃ o, i = e.make o) ∧ ∃ q u a, Partly q s u ∧ t = u.raise a := by
  cases ho : operandsOf i with
  | none =>
    rcases operandsOf_none i ho with rfl | rfl
    · rw [exec_cpuid] at h
      cases h
      rw [cpuid_retire he] at hx
      have running : s.cpuid.event = none := he
      exact nomatch running.symm.trans hx
    · exact .inl (execPcommit_trapped he h hx)
  | some o =>
    rw [exec_eq_mnemonic_run ho] at h
    rcases run_ends (mnemonicOf_ne ho rfl) (mnemonicOf_ne ho rfl) he h with ⟨u, hu, rfl⟩ | raised | alarmed | ⟨hm, u, a, hu⟩
    · exact nomatch (hu.event.trans he).symm.trans hx
    · exact .inl raised
    · exact .inr (.inl alarmed)
    · have listed := List.mem_map_of_mem (f := Mnemonic.make) hm
      rw [← stepwise_makes] at listed
      obtain ⟨e, hmem, hmake⟩ := List.mem_map.1 listed
      exact .inr (.inr ⟨⟨e, hmem, o, hmake ▸ eq_make i o ho⟩, _, u, a, hu⟩)

/-! ### Which elements a gather or scatter completes -/

/-- The fault an access takes, if it takes one. -/
def faultOf {α : Type} : Except Abort α → Option Abort
  | .ok _ => none
  | .error a => some a

theorem faultOf_eq_none {α : Type} {x : Except Abort α} (h : x.isOk = true) : faultOf x = none := by
  cases x with
  | ok _ => rfl
  | error _ => cases h

theorem eq_error_of_faultOf {α : Type} {x : Except Abort α} {a : Abort} (h : faultOf x = some a) : x = .error a := by
  cases x with
  | ok _ => cases h
  | error _ =>
    cases h
    rfl

theorem exists_ok_of_faultOf {α : Type} {x : Except Abort α} (h : faultOf x = none) : ∃ v, x = .ok v := by
  cases x with
  | ok v => exact ⟨v, rfl⟩
  | error _ => cases h

/-- The fault of the first of the elements below `n` that the mask selects and that takes one. -/
def firstFault (k : KWord) (fault : Nat → Option Abort) (n : Nat) : Option Abort :=
  (List.range n).findSome? fun j => if k.getLsbD j then fault j else none

/-- The elements that are completed: the selected ones that take no fault, if none below does or the implementation completes them
all the same (R94, U4). -/
def completes (s : State) (k : KWord) (fault : Nat → Option Abort) (j : Nat) : Bool :=
  k.getLsbD j && (fault j).isNone && ((firstFault k fault j).isNone || Config.gatherSubset s j)

section
variable {s : State} {k : KWord} {fault : Nat → Option Abort} {act : State → Nat → Except Abort State} {f n j : Nat} {a : Abort}

theorem firstFault_succ (k : KWord) (fault : Nat → Option Abort) (n : Nat) :
    firstFault k fault (n + 1) = (firstFault k fault n <|> if k.getLsbD n then fault n else none) := by
  simp [firstFault, List.range_succ, List.findSome?_append]

theorem firstFault_eq_none (h : ∀ i < n, k.getLsbD i = true → fault i = none) : firstFault k fault n = none :=
  List.findSome?_eq_none_iff.2 fun i hi => by
    split
    · next on => exact h i (List.mem_range.1 hi) on
    · rfl

/-- The first fault stands, whatever the elements above it do. -/
theorem firstFault_eq_some (hk : k.getLsbD f = true) (hf : fault f = some a)
    (below : ∀ i < f, k.getLsbD i = true → fault i = none) (hn : f < n) : firstFault k fault n = some a := by
  induction n with
  | zero => exact absurd hn (Nat.not_lt_zero f)
  | succ n ih =>
    rw [firstFault_succ]
    rcases Nat.lt_succ_iff_lt_or_eq.1 hn with above | rfl
    · rw [ih above]
      rfl
    · rw [firstFault_eq_none below, if_pos hk, hf]
      rfl

theorem completes_spec (h : completes s k fault j = true) : k.getLsbD j = true ∧ fault j = none := by
  simp only [completes, Bool.and_eq_true, Option.isNone_iff_eq_none] at h
  obtain ⟨spec, -⟩ := h
  exact spec

/-- A selected element that takes no fault, and below which none is taken, is completed. -/
theorem completes_of_le (h : ∀ i ≤ j, k.getLsbD i = true → fault i = none) (hk : k.getLsbD j = true) :
    completes s k fault j = true := by
  simp [completes, hk, h j le_rfl hk, firstFault_eq_none fun i hi => h i hi.le]

theorem not_completes_of_fault (h : fault j = some a) : completes s k fault j = false := by
  simp [completes, h]

/-! What one turn of the loop does for a selected element: passed over after a fault, completed, or at fault itself. -/

theorem gatherStep_passed {p : Progress} (hk : k.getLsbD j = true) (passed : (p.fault.isSome && !Config.gatherSubset s j) = true) :
    gatherStep s k act p j = p := by
  simp only [gatherStep, hk, passed, Bool.not_true, Bool.false_eq_true, if_false, if_true]

theorem gatherStep_ok {p : Progress} {u : State} (hk : k.getLsbD j = true)
    (tried : (p.fault.isSome && !Config.gatherSubset s j) = false) (hu : act p.state j = .ok u) :
    gatherStep s k act p j = { p with state := u, done := true } := by
  simp only [gatherStep, hk, tried, hu, Bool.not_true, Bool.false_eq_true, if_false]

theorem gatherStep_error {p : Progress} (hk : k.getLsbD j = true)
    (tried : (p.fault.isSome && !Config.gatherSubset s j) = false) (ha : act p.state j = .error a) :
    gatherStep s k act p j = { p with fault := p.fault <|> some a } := by
  simp only [gatherStep, hk, tried, ha, Bool.not_true, Bool.false_eq_true, if_false]

/-- A selected element that takes no fault is completed unless it is passed over. -/
theorem completes_eq_not_passed (hk : k.getLsbD j = true) (hf : fault j = none) :
    completes s k fault j = !((firstFault k fault j).isSome && !Config.gatherSubset s j) := by
  simp [completes, hk, hf]

/-- The completed elements as a mask. -/
def completedMask (s : State) (k : KWord) (fault : Nat → Option Abort) : KWord := packMask 64 (completes s k fault)

theorem getLsbD_completedMask : (completedMask s k fault).getLsbD j = completes s k fault j := by
  rw [completedMask, getLsbD_packMask]
  cases hc : completes s k fault j with
  | false => simp
  | true =>
    obtain ⟨selected, -⟩ := completes_spec hc
    have inside : j < 64 := by
      by_contra outside
      rw [BitVec.getLsbD_of_ge _ _ (Nat.not_lt.1 outside)] at selected
      cases selected
    simp [inside]

/-- What holds of the start and no element, and is carried on by each further element, completed or not, holds of the end of the
loop, which has met the first fault. -/
theorem gatherLoop_partial {P : Nat → State → Prop} (n : Nat) (h0 : P 0 s)
    (skip : ∀ j < n, completes s k fault j = false → ∀ t, P j t → P (j + 1) t)
    (complete : ∀ j < n, completes s k fault j = true → ∀ t, P j t → ∃ u, act t j = .ok u ∧ P (j + 1) u)
    (stop : ∀ j < n, ∀ a, k.getLsbD j = true → fault j = some a → ∀ t, P j t → act t j = .error a) :
    (gatherLoop s k act n).fault = firstFault k fault n ∧ P n (gatherLoop s k act n).state := by
  induction n with
  | zero => exact ⟨rfl, h0⟩
  | succ n ih =>
    obtain ⟨met, holds⟩ := ih (fun j hj => skip j (Nat.lt_succ_of_lt hj)) (fun j hj => complete j (Nat.lt_succ_of_lt hj))
      fun j hj => stop j (Nat.lt_succ_of_lt hj)
    have last := Nat.lt_succ_self n
    rw [gatherLoop_succ, firstFault_succ]
    cases hk : k.getLsbD n with
    | false =>
      rw [gatherStep_off hk, met]
      exact ⟨by simp, skip n last (by simp [completes, hk]) _ holds⟩
    | true =>
      rw [if_pos rfl]
      cases passed : (firstFault k fault n).isSome && !Config.gatherSubset s n with
      | true =>
        have left : completes s k fault n = false := by
          cases hf : fault n with
          | none => rw [completes_eq_not_passed hk hf, passed, Bool.not_true]
          | some a => exact not_completes_of_fault hf
        obtain ⟨a, ha⟩ := Option.isSome_iff_exists.1 (Bool.and_eq_true_iff.1 passed).1
        rw [gatherStep_passed hk (met ▸ passed), met, ha]
        exact ⟨rfl, skip n last left _ holds⟩
      | false =>
        cases hf : fault n with
        | none =>
          have done : completes s k fault n = true := by rw [completes_eq_not_passed hk hf, passed, Bool.not_false]
          obtain ⟨u, hu, next⟩ := complete n last done _ holds
          rw [gatherStep_ok hk (met ▸ passed) hu]
          exact ⟨by simpa using met, next⟩
        | some a =>
          rw [gatherStep_error hk (met ▸ passed) (stop n last a hk hf _ holds), met]
          exact ⟨rfl, skip n last (not_completes_of_fault hf) _ holds⟩

end

/-! ### Gathers cut short -/

/-- A gather that has faulted may have cleared the unused upper part of its destination and mask (R92, U4). -/
def State.gatherCut (s : State) (o : Operands) (d i n : Nat) (t : State) : State :=
  if d < i && Config.gatherClearsUpper s then
    (t.setZ o.reg (lowBits (n * d) (t.getZ o.reg))).setMask o.aaa (t.k.get o.aaa &&& BitVec.ofNat 64 (2 ^ n - 1))
  else t

/-- A gather from `s` has come to `t` with those of its first `n` elements loaded that `done` selects, their mask bits clear, the
destination above them and the other mask bits as they were (R94). -/
structure GatheredPart (s : State) (o : Operands) (m : MemOp) (d i : Nat) (x : Nat → ZWord) (done : KWord) (n : Nat)
    (t : State) : Prop where
  gathered : Gathered (s.setMask o.aaa done) o m d i x n t
  above : ∀ b, d * n ≤ b → (t.getZ o.reg).getLsbD b = (s.getZ o.reg).getLsbD b
  bits : ∀ b, (t.k.get o.aaa).getLsbD b = ((s.k.get o.aaa).getLsbD b && !(decide (b < n) && done.getLsbD b))

section
variable {s t : State} {rows : List Row} {o : Operands} {r : Row} {m : MemOp} {d i n : Nat} {x : Nat → ZWord} {done : KWord}
  {a : Abort}

theorem State.gather_fault (hr : o.rm = .mem m)
    (hf : (gatherLoop s (s.k.get o.aaa) (s.gatherElem o m d i) (r.vl o / max d i)).fault = some a) :
    s.gather r o d i = .ok ((s.gatherCut o d i (r.vl o / max d i)
      (gatherLoop s (s.k.get o.aaa) (s.gatherElem o m d i) (r.vl o / max d i)).state).raise
        { a with rf := (gatherLoop s (s.k.get o.aaa) (s.gatherElem o m d i) (r.vl o / max d i)).done }) := by
  unfold State.gatherElem at hf
  simp only [State.gather, hr, hf]
  rfl

theorem GatheredPart.start : GatheredPart s o m d i x done 0 s where
  gathered :=
    { elems := fun j _ => by rw [if_neg fun h => Nat.not_lt_zero j h.1]; rfl
      others := fun _ _ => rfl
      masks := fun y hy => (State.get_setMask_ne _ _ _ hy).symm
      frame := rfl }
  above _ _ := rfl
  bits b := by simp

theorem GatheredPart.skip (h : GatheredPart s o m d i x done n t) (hd : done.getLsbD n = false) :
    GatheredPart s o m d i x done (n + 1) t where
  gathered := h.gathered.skip (by rw [State.get_setMask_same, hd])
  above b hb := h.above b ((Nat.mul_le_mul_left d (Nat.le_succ n)).trans hb)
  bits b := by
    rw [h.bits]
    rcases eq_or_ne b n with rfl | apart
    · simp [hd]
    · rw [decide_eq_decide.2 (lt_succ_iff_lt_of_ne apart)]

theorem State.gatherElem_ok {j : Nat} {v : ZWord} {l : List Word} (he : t.event = none)
    (hv : t.readMem m.seg (s.vsibAddr m i j) (List.range (d / 8)) 1 0 = .ok (v, l)) :
    s.gatherElem o m d i t j =
      .ok (((t.setZ o.reg (setElem d j (elem d 0 v) (t.getZ o.reg))).clearMaskBit o.aaa j).marked l) :=
  loading_marked (f := fun v => (t.setZ o.reg (setElem d j (elem d 0 v) (t.getZ o.reg))).clearMaskBit o.aaa j) hv he

theorem GatheredPart.event (h : GatheredPart s o m d i x done n t) : t.event = s.event :=
  (congrArg (fun u => u.event) h.gathered.frame).trans rfl

theorem GatheredPart.readMem (h : GatheredPart s o m d i x done n t) (g : SegReg) (ea : Word) (offs : List Nat) (al ac : Nat) :
    t.readMem g ea offs al ac = s.readMem g ea offs al ac :=
  (h.gathered.readMem ..).trans (State.readMem_congr g ea offs al ac rfl rfl ⟨[], rfl⟩ rfl rfl rfl rfl rfl)

theorem GatheredPart.load (h : GatheredPart s o m d i x done n t) (he : s.event = none) (hn : d * n + d ≤ 512)
    (hd : done.getLsbD n = true)
    (hx : s.readMem m.seg (s.vsibAddr m i n) (List.range (d / 8)) 1 0 = .ok (x n, s.elemReads m i d n)) :
    ∃ u, s.gatherElem o m d i t n = .ok u ∧ GatheredPart s o m d i x done (n + 1) u := by
  have hx' : (s.setMask o.aaa done).readMem m.seg (s.vsibAddr m i n) (List.range (d / 8)) 1 0 =
      .ok (x n, s.elemReads m i d n) :=
    (State.readMem_congr (s := s) (t := s.setMask o.aaa done) _ _ _ _ _ rfl rfl ⟨[], rfl⟩ rfl rfl rfl rfl rfl).trans hx
  obtain ⟨u, hu, gathered⟩ := h.gathered.load he hn (by rw [State.get_setMask_same, hd]) hx'
  have made := State.gatherElem_ok (o := o) (h.event.trans he) ((h.readMem ..).trans hx)
  obtain rfl := Except.ok.inj (made.symm.trans hu)
  refine ⟨_, made, gathered, fun b hb => ?above, fun b => ?bits⟩
  case above =>
    have beyond : d * n + d ≤ b := hb
    rcases Nat.lt_or_ge b 512 with inside | outside
    · refine (congrArg (BitVec.getLsbD · b) (State.getZ_setZ_same ..)).trans ?_
      rw [getLsbD_setElem _ _ _ _ _ inside, if_neg (by omega)]
      exact h.above b (by omega)
    · rw [BitVec.getLsbD_of_ge _ _ outside, BitVec.getLsbD_of_ge _ _ outside]
  case bits =>
    rw [State.marked_k, State.getLsbD_clearMaskBit, State.setZ_k, h.bits]
    rcases eq_or_ne b n with rfl | apart
    · simp [hd]
    · rw [decide_eq_decide.2 (lt_succ_iff_lt_of_ne apart), decide_eq_false apart, Bool.not_false, Bool.and_true]

/-! What the cut leaves. -/

theorem State.gatherCut_elem {j : Nat} (h : d * j + d ≤ n * d) :
    elem d j ((s.gatherCut o d i n t).getZ o.reg) = elem d j (t.getZ o.reg) := by
  unfold State.gatherCut
  split
  · exact (congrArg (elem d j) (State.getZ_setZ_same ..)).trans (elem_lowBits _ h)
  · rfl

theorem State.gatherCut_getLsbD (b : Nat) : ((s.gatherCut o d i n t).getZ o.reg).getLsbD b = (t.getZ o.reg).getLsbD b ∨
    ((s.gatherCut o d i n t).getZ o.reg).getLsbD b = false := by
  unfold State.gatherCut
  split
  · have low := congrArg (BitVec.getLsbD · b) (State.getZ_setZ_same t o.reg (lowBits (n * d) (t.getZ o.reg)))
    rw [getLsbD_lowBits] at low
    by_cases inside : b < n * d
    · exact .inl (low.trans (by simp [inside]))
    · exact .inr (low.trans (by simp [inside]))
  · exact .inl rfl

theorem State.gatherCut_bit {b : Nat} (hb : b < n) :
    ((s.gatherCut o d i n t).k.get o.aaa).getLsbD b = (t.k.get o.aaa).getLsbD b := by
  unfold State.gatherCut
  split
  · rw [State.get_setMask_same, BitVec.getLsbD_and, BitVec.getLsbD_ofNat, Nat.testBit_two_pow_sub_one, decide_eq_true hb]
    rcases Nat.lt_or_ge b 64 with inside | outside
    · simp [inside]
    · simp [BitVec.getLsbD_of_ge _ _ outside]
  · rfl

theorem State.gatherCut_bit_or (b : Nat) : ((s.gatherCut o d i n t).k.get o.aaa).getLsbD b = (t.k.get o.aaa).getLsbD b ∨
    ((s.gatherCut o d i n t).k.get o.aaa).getLsbD b = false := by
  unfold State.gatherCut
  split
  · rw [State.get_setMask_same, BitVec.getLsbD_and]
    cases (BitVec.ofNat 64 (2 ^ n - 1)).getLsbD b <;> simp
  · exact .inl rfl

theorem State.gatherCut_others {y : Fin 32} (hy : y ≠ o.reg) : (s.gatherCut o d i n t).getZ y = t.getZ y := by
  unfold State.gatherCut
  split
  · exact State.getZ_setZ_ne _ _ _ _ hy
  · rfl

theorem State.gatherCut_masks {y : Fin 8} (hy : y ≠ o.aaa) : (s.gatherCut o d i n t).k.get y = t.k.get y := by
  unfold State.gatherCut
  split
  · exact State.get_setMask_ne _ _ _ hy
  · rfl

theorem State.gatherCut_frame : s.gatherCut o d i n t =
    { t with zmm := (s.gatherCut o d i n t).zmm, k := (s.gatherCut o d i n t).k } := by
  unfold State.gatherCut
  split <;> rfl

end

/-! ### The state a faulting gather leaves -/

/-- The fault of loading element `j` of a gather. -/
def State.gatherFault (s : State) (m : MemOp) (d i j : Nat) : Option Abort :=
  faultOf (s.readMem m.seg (s.vsibAddr m i j) (List.range (d / 8)) 1 0)

/-- The bytes at the address of element `j` of a gather, if they can be read. -/
def State.gatherValue (s : State) (m : MemOp) (d i j : Nat) : ZWord :=
  match s.readMem m.seg (s.vsibAddr m i j) (List.range (d / 8)) 1 0 with
  | .ok v => v.1
  | .error _ => 0

/-- The elements a gather completes. -/
def State.gatherDone (s : State) (o : Operands) (m : MemOp) (d i : Nat) : KWord :=
  completedMask s (s.k.get o.aaa) (s.gatherFault m d i)

section
variable {s u : State} {rows : List Row} {o : Operands} {r : Row} {m : MemOp} {d i n f j : Nat} {a : Abort}

theorem State.elemsReads_congr {on on' : Nat → Bool} (h : ∀ j < n, on j = on' j) :
    s.elemsReads m i d n on = s.elemsReads m i d n on' := by
  unfold State.elemsReads
  rw [List.filter_congr fun j hj => h j (List.mem_range.1 hj)]

theorem State.readMem_of_gatherFault (h : s.gatherFault m d i j = none) :
    s.readMem m.seg (s.vsibAddr m i j) (List.range (d / 8)) 1 0 = .ok (s.gatherValue m d i j, s.elemReads m i d j) := by
  obtain ⟨⟨v, l⟩, hv⟩ := exists_ok_of_faultOf h
  obtain ⟨-, -, -, hl⟩ := State.readMem_ok hv
  have value : s.gatherValue m d i j = v := by rw [State.gatherValue, hv]
  rw [hv, value, hl]
  rfl

theorem State.gatherDone_spec (h : (s.gatherDone o m d i).getLsbD j = true) :
    (s.k.get o.aaa).getLsbD j = true ∧ s.gatherFault m d i j = none :=
  completes_spec (getLsbD_completedMask.symm.trans h)

theorem State.gatherElem_error {t : State} (ha : t.readMem m.seg (s.vsibAddr m i j) (List.range (d / 8)) 1 0 = .error a) :
    s.gatherElem o m d i t j = .error a := by
  unfold State.gatherElem
  rw [ha]
  rfl

/-- A gather of which a selected element cannot be read ends in the fault of the first such element, with the elements of
`State.gatherDone` loaded. -/
theorem gather_faulted (h : s.selects rows o r) (hr : o.rm = .mem m) (hf : f < r.vl o / max d i)
    (hk : (s.k.get o.aaa).getLsbD f = true) (ha : s.gatherFault m d i f = some a)
    (below : ∀ j < f, (s.k.get o.aaa).getLsbD j = true → s.gatherFault m d i j = none) :
    ∃ u rf, (s.run rows o fun r => s.gather r o d i) =
        .next ((s.gatherCut o d i (r.vl o / max d i) u).raise { a with rf := rf }) ∧
      GatheredPart s o m d i (s.gatherValue m d i) (s.gatherDone o m d i) (r.vl o / max d i) u := by
  have running : s.event = none := h.1
  obtain ⟨met, part⟩ := gatherLoop_partial (act := s.gatherElem o m d i) (fault := s.gatherFault m d i)
    (P := GatheredPart s o m d i (s.gatherValue m d i) (s.gatherDone o m d i)) (r.vl o / max d i) .start
    (fun j _ hj t ht => ht.skip (getLsbD_completedMask.trans hj))
    (fun j hj hc t ht => ht.load running ((Nat.mul_le_mul_left d hj).trans (gather_fits r o d i))
      (getLsbD_completedMask.trans hc) (State.readMem_of_gatherFault (completes_spec hc).2))
    fun j _ b _ hb t ht => State.gatherElem_error ((ht.readMem ..).trans (eq_error_of_faultOf hb))
  have ends := State.gather_fault hr (met.trans (firstFault_eq_some hk ha below hf))
  exact ⟨_, _, State.run_trapped (body := fun r => s.gather r o d i) h ends rfl, part⟩

section
variable {x : Nat → ZWord} {done : KWord} (h : GatheredPart s o m d i x done n u)
include h

theorem GatheredPart.cut_elem_done (fits : d * n ≤ 512) (hj : j < n) (hd : done.getLsbD j = true) :
    elem d j ((s.gatherCut o d i n u).getZ o.reg) = elem d 0 (x j) := by
  have inside : d * j + d ≤ d * n := Nat.mul_le_mul_left d hj
  rw [State.gatherCut_elem (inside.trans_eq (Nat.mul_comm ..)), h.gathered.elems j (inside.trans fits),
    State.get_setMask_same, if_pos ⟨hj, hd⟩]

theorem GatheredPart.cut_elem_left (fits : d * n ≤ 512) (hj : j < n) (hd : done.getLsbD j = false) :
    elem d j ((s.gatherCut o d i n u).getZ o.reg) = elem d j (s.getZ o.reg) := by
  have inside : d * j + d ≤ d * n := Nat.mul_le_mul_left d hj
  rw [State.gatherCut_elem (inside.trans_eq (Nat.mul_comm ..)), h.gathered.elems j (inside.trans fits),
    State.get_setMask_same, hd, if_neg fun h => Bool.false_ne_true h.2]
  rfl

theorem GatheredPart.cut_bit (hj : j < n) :
    ((s.gatherCut o d i n u).k.get o.aaa).getLsbD j = ((s.k.get o.aaa).getLsbD j && !done.getLsbD j) := by
  rw [State.gatherCut_bit hj, h.bits, decide_eq_true hj, Bool.true_and]

theorem GatheredPart.cut_above {b : Nat} (hb : d * n ≤ b) :
    ((s.gatherCut o d i n u).getZ o.reg).getLsbD b = (s.getZ o.reg).getLsbD b ∨
      ((s.gatherCut o d i n u).getZ o.reg).getLsbD b = false :=
  h.above b hb ▸ State.gatherCut_getLsbD b

theorem GatheredPart.cut_bit_above {b : Nat} (hb : n ≤ b) :
    ((s.gatherCut o d i n u).k.get o.aaa).getLsbD b = (s.k.get o.aaa).getLsbD b ∨
      ((s.gatherCut o d i n u).k.get o.aaa).getLsbD b = false := by
  have kept : (u.k.get o.aaa).getLsbD b = (s.k.get o.aaa).getLsbD b := by
    rw [h.bits, decide_eq_false (Nat.not_lt.2 hb)]
    simp
  exact kept ▸ State.gatherCut_bit_or b

theorem GatheredPart.cut_masks {y : Fin 8} (hy : y ≠ o.aaa) : (s.gatherCut o d i n u).k.get y = s.k.get y :=
  (State.gatherCut_masks hy).trans ((h.gathered.masks y hy).trans (State.get_setMask_ne _ _ _ hy))

theorem GatheredPart.cut_frame : s.gatherCut o d i n u =
    { s.marked (s.elemsReads m i d n fun j => done.getLsbD j) with
      zmm := (s.gatherCut o d i n u).zmm, k := (s.gatherCut o d i n u).k } := by
  have reads : (s.setMask o.aaa done).elemsReads m i d n (fun j => ((s.setMask o.aaa done).k.get o.aaa).getLsbD j) =
      s.elemsReads m i d n fun j => done.getLsbD j := by
    rw [State.get_setMask_same]
    rfl
  have frame := h.gathered.frame
  rw [reads] at frame
  rw [State.gatherCut_frame, frame]
  rfl

end

section
variable (h : GatheredPart s o m d i (s.gatherValue m d i) (s.gatherDone o m d i) n u) (fits : d * n ≤ 512) (hj : j < n)
include h hj

/-- The mask shows which elements are done: those selected whose bit is now clear. -/
theorem GatheredPart.selected_cleared :
    ((s.k.get o.aaa).getLsbD j && !((s.gatherCut o d i n u).k.get o.aaa).getLsbD j) = (s.gatherDone o m d i).getLsbD j := by
  rw [h.cut_bit hj]
  cases hd : (s.gatherDone o m d i).getLsbD j with
  | false => cases (s.k.get o.aaa).getLsbD j <;> rfl
  | true =>
    obtain ⟨chosen, -⟩ := State.gatherDone_spec hd
    rw [chosen]
    rfl

include fits

/-- What is left of an element that is done: its mask bit clear, its value that at its address. -/
theorem GatheredPart.completed (hd : (s.gatherDone o m d i).getLsbD j = true) :
    ((s.gatherCut o d i n u).k.get o.aaa).getLsbD j = false ∧
      ∃ v, s.readMem m.seg (s.vsibAddr m i j) (List.range (d / 8)) 1 0 = .ok (v, s.elemReads m i d j) ∧
        elem d j ((s.gatherCut o d i n u).getZ o.reg) = elem d 0 v := by
  obtain ⟨-, free⟩ := State.gatherDone_spec hd
  exact ⟨by rw [h.cut_bit hj, hd]; simp, _, State.readMem_of_gatherFault free, h.cut_elem_done fits hj hd⟩

/-- An element that is not done is as it was, and so is its mask bit. -/
theorem GatheredPart.left (hd : (s.gatherDone o m d i).getLsbD j = false) :
    ((s.gatherCut o d i n u).k.get o.aaa).getLsbD j = (s.k.get o.aaa).getLsbD j ∧
      elem d j ((s.gatherCut o d i n u).getZ o.reg) = elem d j (s.getZ o.reg) :=
  ⟨by rw [h.cut_bit hj, hd]; simp, h.cut_elem_left fits hj hd⟩

end

/-- The regions marked are those of the elements done. -/
theorem GatheredPart.cut_regions (h : GatheredPart s o m d i (s.gatherValue m d i) (s.gatherDone o m d i) n u) :
    (s.gatherCut o d i n u).regions = markAll (s.elemsReads m i d n fun j =>
      (s.k.get o.aaa).getLsbD j && !((s.gatherCut o d i n u).k.get o.aaa).getLsbD j) s.regions := by
  rw [State.elemsReads_congr fun j hj => h.selected_cleared hj]
  exact (congrArg (fun t => t.regions) h.cut_frame).trans rfl

end

/-! ### The state a faulting scatter leaves -/

/-- The fault of storing element `j` of a scatter. -/
def State.scatterFault (s : State) (m : MemOp) (d i j : Nat) : Option Abort :=
  faultOf (s.checkMem .write m.seg (s.vsibAddr m i j) (List.range (d / 8)) 1 0)

/-- Where the bytes of element `j` of a scatter go, if they can be written. -/
def State.scatterPlaces (s : State) (m : MemOp) (d i j : Nat) : List (Nat × Nat) :=
  match s.checkMem .write m.seg (s.vsibAddr m i j) (List.range (d / 8)) 1 0 with
  | .ok ps => ps
  | .error _ => []

/-- The elements a scatter completes. -/
def State.scatterDone (s : State) (o : Operands) (m : MemOp) (d i : Nat) : Nat → Bool :=
  completes s (s.k.get o.aaa) (s.scatterFault m d i)

section
variable {s u : State} {rows : List Row} {o : Operands} {r : Row} {m : MemOp} {d i n f j b : Nat} {a : Abort}
  {ps : List (Nat × Nat)}

theorem State.scatterPlaces_eq (h : s.checkMem .write m.seg (s.vsibAddr m i j) (List.range (d / 8)) 1 0 = .ok ps) :
    s.scatterPlaces m d i j = ps := by
  rw [State.scatterPlaces, h]

theorem State.checkMem_of_scatterFault (h : s.scatterFault m d i j = none) :
    s.checkMem .write m.seg (s.vsibAddr m i j) (List.range (d / 8)) 1 0 = .ok (s.scatterPlaces m d i j) := by
  obtain ⟨ps, hps⟩ := exists_ok_of_faultOf h
  rw [State.scatterPlaces_eq hps, hps]

theorem State.scatterElem_error {t : State}
    (ha : t.checkMem .write m.seg (s.vsibAddr m i j) (List.range (d / 8)) 1 0 = .error a) :
    s.scatterElem o m d i t j = .error a := by
  simp only [State.scatterElem, State.writeMem, ha]
  rfl

theorem State.scatter_fault (hr : o.rm = .mem m)
    (hf : (gatherLoop s (s.k.get o.aaa) (s.scatterElem o m d i) (r.vl o / max d i)).fault = some a) :
    s.scatter r o d i = .ok ((gatherLoop s (s.k.get o.aaa) (s.scatterElem o m d i) (r.vl o / max d i)).state.raise
      { a with rf := (gatherLoop s (s.k.get o.aaa) (s.scatterElem o m d i) (r.vl o / max d i)).done }) := by
  unfold State.scatterElem at hf
  simp only [State.scatter, hr, hf]
  rfl

/-- A scatter of which a selected element cannot be written ends in the fault of the first such element, with the elements of
`State.scatterDone` stored. -/
theorem scatter_faulted (h : s.selects rows o r) (hr : o.rm = .mem m) (hf : f < r.vl o / max d i)
    (hk : (s.k.get o.aaa).getLsbD f = true) (ha : s.scatterFault m d i f = some a)
    (below : ∀ j < f, (s.k.get o.aaa).getLsbD j = true → s.scatterFault m d i j = none) :
    ∃ u rf, (s.run rows o fun r => s.scatter r o d i) = .next (u.raise { a with rf := rf }) ∧
      StoredUpTo s o d (s.scatterPlaces m d i) (s.scatterDone o m d i) (r.vl o / max d i) u := by
  obtain ⟨met, stored⟩ := gatherLoop_partial (act := s.scatterElem o m d i) (fault := s.scatterFault m d i)
    (P := StoredUpTo s o d (s.scatterPlaces m d i) (s.scatterDone o m d i)) (r.vl o / max d i) .start
    (fun j _ hj t ht => ht.skip hj)
    (fun j _ hc t ht => ht.scatterElem hc (State.checkMem_of_scatterFault (completes_spec hc).2))
    fun j _ b _ hb t ht => State.scatterElem_error ((ht.checkMem ..).trans (eq_error_of_faultOf hb))
  have ends := State.scatter_fault hr (met.trans (firstFault_eq_some hk ha below hf))
  exact ⟨_, _, State.run_trapped (body := fun r => s.scatter r o d i) h ends rfl, stored⟩

section
variable (h : StoredUpTo s o d (s.scatterPlaces m d i) (s.scatterDone o m d i) n u)
include h

theorem StoredUpTo.bit_of_lt (hj : j < n) :
    (u.k.get o.aaa).getLsbD j = ((s.k.get o.aaa).getLsbD j && !s.scatterDone o m d i j) := by
  rw [h.bits, decide_eq_true hj, Bool.true_and]

theorem StoredUpTo.bit_of_ge (hj : n ≤ j) : (u.k.get o.aaa).getLsbD j = (s.k.get o.aaa).getLsbD j := by
  rw [h.bits, decide_eq_false (Nat.not_lt.2 hj)]
  simp

/-- The mask shows which elements are done: those selected whose bit is now clear. -/
theorem StoredUpTo.done_iff (hj : j < n) :
    s.scatterDone o m d i j = true ↔ (s.k.get o.aaa).getLsbD j = true ∧ (u.k.get o.aaa).getLsbD j = false := by
  rw [h.bit_of_lt hj]
  constructor
  · intro done
    obtain ⟨selected, -⟩ := completes_spec done
    exact ⟨selected, by simp [done]⟩
  · rintro ⟨selected, cleared⟩
    simpa [selected] using cleared

/-- The addresses written to, by the mask. -/
theorem StoredUpTo.reached_iff : Reached (s.scatterDone o m d i) (s.scatterPlaces m d i) n b ↔
    ∃ j < n, (s.k.get o.aaa).getLsbD j = true ∧ (u.k.get o.aaa).getLsbD j = false ∧
      ∃ ps, s.checkMem .write m.seg (s.vsibAddr m i j) (List.range (d / 8)) 1 0 = .ok ps ∧ ∃ p ∈ ps, p.2 = b := by
  constructor
  · rintro ⟨j, hj, done, hit⟩
    obtain ⟨selected, cleared⟩ := (h.done_iff hj).1 done
    exact ⟨j, hj, selected, cleared, _, State.checkMem_of_scatterFault (completes_spec done).2, hit⟩
  · rintro ⟨j, hj, selected, cleared, ps, hps, hit⟩
    exact ⟨j, hj, (h.done_iff hj).2 ⟨selected, cleared⟩, State.scatterPlaces_eq hps ▸ hit⟩

end

end

/-! ### O43 -/

/-- An instruction that takes an exception leaves its own address, the general registers and the flags; one that is no gather or
scatter leaves all but MXCSR, CR2 and the event. -/
theorem exception_leaves {i : Instr} {s t : State} {x : Trap} (he : s.event = none) (h : exec i s = .next t)
    (hx : t.event = some (.trap x)) :
    x.pc = s.pc ∧ t.pc = s.pc ∧ t.gpr = s.gpr ∧ t.eflags = s.eflags ∧
      ((∀ e ∈ gatherTable ++ scatterTable, ∀ o, i ≠ e.make o) →
        SameBytes s t ∧ t = { s with mxcsr := t.mxcsr, cr2 := t.cr2, event := t.event }) := by
  rcases exec_trapped he h hx with ⟨a, rfl⟩ | ⟨f, rfl⟩ | ⟨⟨e, hmem, o, hmake⟩, q, u, a, ⟨calm, gpr, eflags⟩, rfl⟩
  · cases hx
    exact ⟨rfl, rfl, rfl, rfl, fun _ => ⟨fun _ => rfl, rfl⟩⟩
  · cases hx
    exact ⟨rfl, rfl, rfl, rfl, fun _ => ⟨fun _ => rfl, rfl⟩⟩
  · have pc : u.pc = s.pc := by rw [calm.1]
    cases hx
    exact ⟨pc, pc, gpr, eflags, fun other => absurd hmake (other e hmem o)⟩

/-- Settles O43: `exception_leaves` for every instruction; a gather or scatter cut short has completed the elements of
`State.gatherDone` or `State.scatterDone`, and its mask shows which. -/
theorem exceptionLeavesState : Obligations.ExceptionLeavesState := by
  refine ⟨fun i s t x he h hx => exception_leaves he h hx, ?gathers, ?scatters⟩
  case gathers =>
    intro e hmem o s r m f a h hr n read on hf hk ha hbelow
    have none_below : ∀ j < f, on j = true → s.gatherFault m e.w e.n j = none := fun j hj on =>
      faultOf_eq_none (hbelow j hj on)
    have at_fault : s.gatherFault m e.w e.n f = some a := congrArg faultOf ha
    have fits : e.w * n ≤ 512 := gather_fits r o e.w e.n
    obtain ⟨u, rf, ends, part⟩ := gather_faulted h hr hf hk at_fault none_below
    have done_below : ∀ j < f, on j = true → (s.gatherDone o m e.w e.n).getLsbD j = true := fun j hj on =>
      getLsbD_completedMask.trans (completes_of_le (fun i hi => none_below i (hi.trans_lt hj)) on)
    have not_done : (s.gatherDone o m e.w e.n).getLsbD f = false :=
      getLsbD_completedMask.trans (not_completes_of_fault at_fault)
    have frame := part.cut_frame
    have pc : (s.gatherCut o e.w e.n n u).pc = s.pc := (congrArg (fun t => t.pc) frame).trans rfl
    have mem : (s.gatherCut o e.w e.n n u).mem = s.mem := (congrArg (fun t => t.mem) frame).trans rfl
    rw [gather_exec e hmem]
    refine ⟨_, ends, ⟨_, rfl, rfl, rfl⟩, pc, fun j hj off => ?unselected, fun j hj sel => ?below, ?bit, ?element,
      fun j hj _ sel => ?above, fun b hb => part.cut_above hb, fun b hb => part.cut_bit_above hb,
      fun y hy => (State.gatherCut_others hy).trans (part.gathered.others y hy), fun y hy => part.cut_masks hy, part.cut_regions,
      fun b => congrArg (Memory.get · b) mem, ?frame⟩
    case unselected =>
      have hd : (s.gatherDone o m e.w e.n).getLsbD j = false :=
        (part.selected_cleared hj).symm.trans (Bool.and_eq_false_iff.2 (.inl off))
      obtain ⟨bit, kept⟩ := part.left fits hj hd
      exact ⟨kept, bit.trans off⟩
    case below => exact part.completed fits (hj.trans hf) (done_below j hj sel)
    case bit => exact (part.left fits hf not_done).1.trans hk
    case element => exact (part.left fits hf not_done).2
    case above =>
      cases hd : (s.gatherDone o m e.w e.n).getLsbD j with
      | false =>
        obtain ⟨bit, kept⟩ := part.left fits hj hd
        exact .inl ⟨bit.trans sel, kept⟩
      | true => exact .inr (part.completed fits hj hd)
    case frame =>
      rw [frame]
      rfl
  case scatters =>
    intro e hmem o s r m f a h hr n targets on hf hk ha hbelow
    have none_below : ∀ j < f, on j = true → s.scatterFault m e.w e.n j = none := fun j hj sel =>
      faultOf_eq_none (hbelow j hj sel)
    have at_fault : s.scatterFault m e.w e.n f = some a := congrArg faultOf ha
    obtain ⟨u, rf, ends, stored⟩ := scatter_faulted h hr hf hk at_fault none_below
    have done_below : ∀ j < f, on j = true → s.scatterDone o m e.w e.n j = true := fun j hj sel =>
      completes_of_le (fun i hi => none_below i (hi.trans_lt hj)) sel
    have not_done : s.scatterDone o m e.w e.n f = false := not_completes_of_fault at_fault
    have frame := stored.frame
    rw [scatter_exec e hmem]
    refine ⟨_, ends, ⟨_, rfl, rfl, rfl⟩, (congrArg (fun t => t.pc) frame).trans rfl, fun j hj off => ?unselected,
      fun j hj sel => ?below, ?bit, fun j hj => stored.bit_of_ge hj,
      fun wf j hj sel cleared ps hps nodup p hp higher => ?bytes, fun b apart => ?kept, stored.masks,
      stored.ledger.congr fun b => stored.reached_iff, ?frame⟩
    case unselected => exact (stored.bit_of_lt hj).trans (Bool.and_eq_false_iff.2 (.inl off))
    case below => exact (stored.bit_of_lt (hj.trans hf)).trans (by rw [done_below j hj sel]; simp)
    case bit => exact (stored.bit_of_lt hf).trans (Bool.and_eq_true_iff.2 ⟨hk, by rw [not_done]; rfl⟩)
    case bytes =>
      have places := State.scatterPlaces_eq hps
      refine stored.bytes wf j hj ((stored.done_iff hj).2 ⟨sel, cleared⟩) (places ▸ nodup) p (places ▸ hp)
        fun i hi above done => ?_
      obtain ⟨selected, free⟩ := completes_spec done
      exact higher i hi above selected _ (State.checkMem_of_scatterFault free)
    case kept =>
      refine stored.kept b fun reached => ?_
      obtain ⟨j, hj, sel, cleared, ps, hps, p, hp, hit⟩ := stored.reached_iff.1 reached
      exact apart j hj sel cleared ps hps p hp hit
    case frame =>
      rw [frame]
      rfl

end Sys2Proof.Machine
end
